-- ==== Sys2Proof/Word.lean ====
section
/-!
DEFINITION. Word.lean: the word types of the machine. A register is 32 bits (R14), memory is bytes.
-/

namespace Sys2Proof

/-- One byte of memory, of a message or of a buffer. -/
abbrev Byte := BitVec 8

/-- One control-space register: every register is 32 bits wide (R14). -/
abbrev Word := BitVec 32

end Sys2Proof
end

