-- ==== Sys2Proof/Syntax.lean ====
section
/-!
DEFINITION. Syntax.lean: the commands that the block takes, one constructor per row of spec/opcode_table.json, and the
types of their operands. A mailbox command names the mailbox it is sent on and carries its request (R68); an event of
the board, of a peer or of a unit carries what the board, the peer or the unit decides.
-/

namespace Sys2Proof

/-- R68: a mailbox request. The header fields of the 32-byte header, and the payload that follows it. -/
structure Request where
  version : Byte := 1
  flags : Byte := 0
  command : BitVec 16
  tag : BitVec 16
  length : BitVec 16
  credSlot : Byte := 0
  dest : Byte := 0
  reserved : BitVec 48 := 0
  auth : BitVec 128 := 0
  payload : List Byte := []
  deriving DecidableEq, Repr

/-- R69: what a peer's gaffer answers to a forwarded request (its TURN and PIP are the peer's). -/
structure Response where
  command : BitVec 16
  tag : BitVec 16
  status : BitVec 16
  detail : BitVec 16
  turn : BitVec 48
  pip : BitVec 32
  payload : List Byte
  deriving DecidableEq, Repr

/-- R96: the sources whose reset resets their mailboxes: the host port (MB0-MB3), a debug session's end (MB9), the
loss of the link of a seam port for more than 1 s (MB10 + port; with every link lost, MB14 and MB15 too, R659). -/
inductive MailboxSource where
  | host
  | debug
  | peer (port : Fin 4)
  | everyPeer
  deriving DecidableEq, Repr

/-- R145, R146: a timestamp; `fine` counts steps of 1/64 pip (FINE[15:10]). -/
structure Timestamp where
  turn : BitVec 48
  pip : BitVec 32
  fine : BitVec 6
  deriving DecidableEq, Repr

/-- A character received on a lane: K flag, decoded byte, disparity error, code violation (R213, R220). In raw mode a
byte with K 0. -/
structure RxChar where
  k : Bool := false
  byte : Byte
  dispErr : Bool := false
  codeViol : Bool := false
  deriving DecidableEq, Repr

/-- What the memory channel and the classifier decide for a frame at the gather unit: the fill of the 64 KiB buffer
in bytes (R243), a full pipe queue (R271), a table entry found uncorrectable (R272: true for ternary, index). -/
structure GatherCond where
  buffered : Nat := 0
  pipeFull : Bool := false
  badEntry : Option (Bool × Nat) := none
  /-- Channels whose replay and NoC reservations gave bandwidth to this frame's capture (R242). -/
  fromReplay : Option (Fin 32) := none
  fromNoc : Option (Fin 32) := none
  deriving DecidableEq, Repr

/-- A beat accepted on a reinsertion port (R357): RI_SOF, RI_EOF, RI_KEYBEAT, RI_DATA, RI_NB, RI_WNUM, RI_OFF, and the instant at
which it was accepted. -/
structure Beat where
  sof : Bool := false
  eof : Bool := false
  key : Bool := false
  data : BitVec 64 := 0
  nb : BitVec 3 := 7
  wnum : BitVec 16 := 0
  off : BitVec 4 := 0
  at_ : Timestamp
  deriving DecidableEq, Repr

/-- The beats that the driving region offers on a reinsertion port (R217, R218, R357), and how many beats the gather unit's store
of 32 holds after them (R358). -/
structure Reinserted where
  beats : List Beat
  left : Fin 33 := 0
  deriving DecidableEq, Repr

/-- A data line of a capture queue that received INTEGRITY (R245): the frames whose records started in it, each with its lane and the
timestamp of its record; whether it lies in the MiB before the write pointer's. -/
structure LineFail where
  frames : List (Fin 96 × Timestamp) := []
  before : Bool := false
  deriving DecidableEq, Repr

/-- A riser of a vertical pair (R340): one of LU or of LL, its tile and number. -/
structure RiserSite where
  upper : Bool := false
  tile : Fin 1600
  riser : Fin 16
  deriving DecidableEq, Repr

/-- MBP_SEL (R364); whether MBP_REQ was already outstanding when U00 stopped or switched (R366). -/
structure MbpSelect where
  sel : BitVec 2
  begun : Bool := false
  deriving DecidableEq, Repr

/-- A fetch that returns into a pattern buffer (R307): its lines, and the channel on which it took bandwidth that the NoC has reserved,
which then yields (R197), if it did. -/
structure FetchReturn where
  lines : BitVec 12
  fromNoc : Option (Fin 32) := none
  deriving DecidableEq, Repr

/-- What the fabric and the RAMs decide as a Tap Engine issues an instruction: the quads of OUT0 that the fabric has accepted
since the last issue (R468), and whether an element that the instruction reads is uncorrectable (R465). -/
structure IssueCond where
  taken : BitVec 5 := 0
  ramUe : Bool := false
  deriving DecidableEq, Repr

/-- Who accesses the control space: one of the five access paths of R17; a requester over the network carries its
identity (R567): a region, a Tap Engine column's region, the self-test engine, a peer. -/
inductive Requester where
  | host
  | gaffer
  | spi
  | debug
  | noc (ident : Byte)
  deriving DecidableEq, Repr

/-- A power reading (R750, R859): the sum in 0.1 W, the READ_IOUT sums of VCC_LL and VCC_LU in 0.1 A, the six consumers of R44 in
0.1 W. -/
structure PowerReading where
  dw : BitVec 16
  iLL : BitVec 12
  iLU : BitVec 12
  consumers : Vector (BitVec 16) 6
  deriving DecidableEq, Repr

/-- What the gaffer's update of every 64 ms finds (R704, R728, R730): the furnace error against SYSCLK_IN in ppm (signed), the lowest
input reading in mV, the lowest voltage of LL and LU with 15 mV of margin, in mV. -/
structure PeriodicUpdate where
  offset : BitVec 16
  vin : BitVec 16
  needLL : BitVec 12
  needLU : BitVec 12
  deriving DecidableEq, Repr

/-- One arrival of a flit at a router (R588): the symbols that the link changed, each with its error pattern, and the VNET that the
header then shows, where it is not the one sent. -/
structure FlitArrival where
  bad : List (Fin 84 × Byte)
  vnet : Option (BitVec 2) := none
  deriving DecidableEq, Repr

/-- The arrivals of a flit of a packet at a router on the inbound link `port` (N 0, E 1, S 2, W 3), in order: each one that is refused
is followed by a retry (R588, R589); an arrival past the list has no error. -/
structure LinkFault where
  router : Fin 60
  port : Fin 4
  flit : Fin 4 := 0
  arrivals : List FlitArrival := []
  deriving DecidableEq, Repr

/-- A request on the network (R572): its source endpoint, for a seam port the device it comes from, for a region's port the Tap
Engine column whose ring it serves; the PRI that a region or a seam port gives it (R582); address, length in bytes, tag; POISON; what goes
wrong on its way. -/
structure NocRequest where
  src : Fin 240
  dev : Fin 8 := 0
  col : Option (Fin 2) := none
  pri : BitVec 2 := 0
  addr : BitVec 43
  len : BitVec 9
  tag : BitVec 11
  poison : Bool := false
  faults : List LinkFault := []
  deriving DecidableEq, Repr

/-- Where a response goes (R572, R579): the source endpoint (a seam port on behalf of a device) and the tag; what goes wrong on its
way. -/
structure NocResponse where
  src : Fin 240
  dev : Fin 8 := 0
  tag : BitVec 11
  faults : List LinkFault := []
  deriving DecidableEq, Repr

/-- How a PCI Express request to host memory ends (R833, R835): with data, poisoned, Unsupported Request or Completer Abort, with no
completion; `data` are the bytes that arrived before the failing packet. -/
inductive HostOutcome where
  | ok
  | poisoned
  | refused
  | timeout
  deriving DecidableEq, Repr

structure HostCompletion where
  outcome : HostOutcome
  data : List Byte := []
  deriving DecidableEq, Repr

/-- A DMA descriptor as the channel fetched it (R834): bytes 0-7, 8-15, 16-19 and 20. -/
structure DmaDescriptor where
  host : BitVec 64
  loc : BitVec 64
  len : BitVec 32
  flags : Byte
  deriving DecidableEq, Repr
/-- The commands of the block: one constructor per row of spec/opcode_table.json. -/
inductive Instr where
  /-- MB_DOORBELL_RING (R63). A RING written to MB_DOORBELL moves an IDLE mailbox to PENDING and locks its request buffer, or sets RING_LOST outside IDLE. -/
  | mbDoorbellRing (mb : Fin 16)
  /-- MB_DOORBELL_CANCEL (R63). A CANCEL written to MB_DOORBELL withdraws a PENDING request and returns the mailbox to IDLE. -/
  | mbDoorbellCancel (mb : Fin 16)
  /-- MB_ACK (R63). An ACK written to MB_ACK returns a DONE mailbox to IDLE. -/
  | mbAck (mb : Fin 16)
  /-- MB_CPL_POP (R59). A write of POP to MB_CPL_POP discards the oldest completion notice. -/
  | mbCplPop (mb : Fin 16)
  /-- GAFFER_TAKE_REQUEST (R76). The gaffer takes the next pending request in round-robin order after MB_RR_LAST, moves it to RUNNING and serves it. -/
  | gafferTakeRequest
  /-- GAFFER_TL_BURST_DEFERRED (R150). The gaffer writes the held TL burst of a late command between pip 0 and pip 256 of the next turn. -/
  | gafferTlBurstDeferred
  /-- MAILBOX_SOURCE_RESET (R96). A reset of a mailbox source returns its mailboxes to IDLE, discards notices and force-releases their claims. -/
  | mailboxSourceReset (src : MailboxSource)
  /-- PEER_RESPONSE_ARRIVAL (R658). A peer's response to a forwarded request arrives and is written into the forwarding mailbox's response buffer. -/
  | peerResponseArrival (mb : Fin 16) (resp : Response)
  /-- PEER_COMPLETION_NOTICE (R658). A completion notice of a peer's ACCEPTED operation arrives and is pushed to the forwarding mailbox. -/
  | peerCompletionNotice (mb : Fin 16) (tag : BitVec 16) (status : BitVec 16)
  /-- FORWARD_TIMEOUT (R658). 950 ms after the RING without a peer response, the gaffer writes TIMEOUT with DETAIL 0xFFFE. -/
  | forwardTimeout (mb : Fin 16)
  /-- LOCKSTEP_MISMATCH (R49). The lockstep checker finds differing core outputs, stops both cores and starts a warm restart. -/
  | lockstepMismatch
  /-- WATCHDOG_EXPIRY (R50). 100 ms without watchdog service starts a warm restart. -/
  | watchdogExpiry
  /-- GAFFER_SRAM_UE (R51). An uncorrectable gaffer SRAM error starts a warm restart. -/
  | gafferSramUe
  /-- WARM_RESTART_COMPLETE (R55). The warm restart ends with READY set, outstanding operations answered INTERNAL and EV_GAF_RESTART raised, or SAFE HOLD on a second restart within 10 s. -/
  | warmRestartComplete
  /-- GAFFER_HEARTBEAT_TICK (R56). Every 1 ms of running firmware, GAF_HEARTBEAT increments. -/
  | gafferHeartbeatTick
  /-- SYS_NOP (R99). 0x0100: Returns OK with an empty payload. -/
  | sysNop (mb : Fin 16) (req : Request)
  /-- SYS_GET_INFO (R100). 0x0101: Returns the device identity, mode, lifecycle, time and free notice count. -/
  | sysGetInfo (mb : Fin 16) (req : Request)
  /-- SYS_CLAIM (R103). 0x0102: Claims the named resources for the mailbox, all or nothing. -/
  | sysClaim (mb : Fin 16) (req : Request)
  /-- SYS_RELEASE (R105). 0x0103: Releases the named resources, stopping those in use when FORCE is set. -/
  | sysRelease (mb : Fin 16) (req : Request)
  /-- SYS_LIST_CLAIMS (R109). 0x0104: Returns the held claims as merged ranges. -/
  | sysListClaims (mb : Fin 16) (req : Request)
  /-- SYS_OP_STATUS (R111). 0x0105: Returns the state and outcome of an ACCEPTED operation of the mailbox. -/
  | sysOpStatus (mb : Fin 16) (req : Request)
  /-- SYS_RESET_MAILBOX (R113). 0x0106: Resets a mailbox of the same source as a source reset does. -/
  | sysResetMailbox (mb : Fin 16) (req : Request)
  /-- SYS_MAILBOX_ENABLE (R114). 0x0107: Writes MB_CONFIG.ENABLED of another mailbox. -/
  | sysMailboxEnable (mb : Fin 16) (req : Request)
  /-- LOG_READ (R123). 0x0E00: Returns log entries from a start sequence number. -/
  | logRead (mb : Fin 16) (req : Request)
  /-- LOG_CLEAR (R124). 0x0E01: Discards every log entry and logs the clear. -/
  | logClear (mb : Fin 16) (req : Request)
  /-- LOG_SET_LEVEL (R125). 0x0E02: Sets the log level of a group or of all groups. -/
  | logSetLevel (mb : Fin 16) (req : Request)
  /-- LOG_GET_INFO (R126). 0x0E03: Returns log capacity, OLDEST, NEXT and group levels. -/
  | logGetInfo (mb : Fin 16) (req : Request)
  /-- MODE_GET (R208). 0x0200: Returns mode, previous mode, cause and lifecycle. -/
  | modeGet (mb : Fin 16) (req : Request)
  /-- MODE_STOP (R207). 0x0201: Moves OPERATE or THROTTLED into ORDERLY STOP with cause HOST_STOP. -/
  | modeStop (mb : Fin 16) (req : Request)
  /-- MODE_RESUME (R207). 0x0202: Returns a stopped device from ORDERLY STOP to OPERATE. -/
  | modeResume (mb : Fin 16) (req : Request)
  /-- MODE_ENTER_LEHR (R731). 0x0203: Takes the device into the LEHR retention state from the next turn boundary. -/
  | modeEnterLehr (mb : Fin 16) (req : Request)
  /-- MODE_WAKE (R733). 0x0204: Wakes the device from LEHR into START-UP through the staged wake sequence. -/
  | modeWake (mb : Fin 16) (req : Request)
  /-- MODE_SAFE_HOLD_EXIT (R207). 0x0205: Leaves SAFE HOLD for BOOT. -/
  | modeSafeHoldExit (mb : Fin 16) (req : Request)
  /-- MODE_SET_PFAIL_POLICY (R207). 0x0206: Sets and stores the power-fail action, filter and auto-resume. -/
  | modeSetPfailPolicy (mb : Fin 16) (req : Request)
  /-- MODE_GET_YIELDS (R209). 0x0207: Returns the guarantee yield counters and last yield records, clearing them with CLEAR. -/
  | modeGetYields (mb : Fin 16) (req : Request)
  /-- FABRIC_STOP_ACK_END (R184). When every region acknowledges the stop or 10 ms pass, the gaffer seals queues, stops replay, gates clocks and sets STOP_DONE. -/
  | fabricStopAckEnd
  /-- PFAIL_N_FALL (R201). PFAIL_N falls and the filter time begins. -/
  | pfailNFall
  /-- PFAIL_FILTER_EXPIRY (R201). PFAIL_N low for the filter time raises EV_PFAIL and, with ACTION STOP, runs the shortened power-fail stop. -/
  | pfailFilterExpiry
  /-- PFAIL_N_RISE (R203). PFAIL_N returns high and the device stays in ORDERLY STOP. -/
  | pfailNRise
  /-- PFAIL_AUTO_RESUME (R203). With AUTO_RESUME, PFAIL_N high for 100 ms returns the device to OPERATE. -/
  | pfailAutoResume
  /-- POR_N_LOW (R180). POR_N low takes the device to POWER-ON. -/
  | porNLow
  /-- CORE_SUPPLY_BELOW_RESET (R180). A core supply below its reset threshold takes the device to POWER-ON. -/
  | coreSupplyBelowReset (k : Fin 21)
  /-- PROG_N_LOW (R180). PROG_N low for at least 1 µs takes the device to POWER-ON. -/
  | progNLow
  /-- POR_N_RISE (R866). POR_N rises and the straps CFG_MODE, DEV_ID and IOPULL are sampled. -/
  | porNRise (cfgMode devId : BitVec 3) (iopull : Bool)
  /-- FURNACE_QUALIFIED (R702). The furnace oscillator qualifies after 100 µs of clean checks, ending the extended power-on reset. -/
  | furnaceQualified
  /-- RAIL_GOOD (R727). A rail enters its band and the next bring-up step may begin. -/
  | railGood (k : Fin 21) (mv : BitVec 12)
  /-- RAIL_OUT_OF_BAND (R727). A rail outside its band for 10 µs becomes LOW or HIGH, raises EV_PW_RAIL and is re-commanded. -/
  | railOutOfBand (k : Fin 21) (mv : BitVec 12)
  /-- RAIL_OVERVOLTAGE_CUT (R727). A gaffer-run rail 10 % above target for 10 µs is switched off. -/
  | railOvervoltageCut (k : Fin 21)
  /-- BOOT_SELF_TEST_END (R805). Boot self-test ends and BOOT moves to PROVISION, CONFIGURE, ZEROIZED or SAFE HOLD. -/
  | bootSelfTestEnd (fails : List (BitVec 10 × BitVec 16))
  /-- BOOT_TEST_WINDOW_TIMEOUT (R806). A test window not open within 10 s fails every unit waiting on it. -/
  | bootTestWindowTimeout (units : List (BitVec 10))
  /-- CONFIG_STREAM_RECEIVED (R687). The device's own boot stream has been received whole and is checked. -/
  | configStreamReceived (stream : List Byte)
  /-- STREAM_PASS_ON (R679). A device stream for another DEV_ID is passed whole and unchecked to CFG_DOUT. -/
  | streamPassOn (len : BitVec 64)
  /-- END_RECORD_RECEIVED (R687). The end record arrives; with no own stream received the device fails with CFG_E_NOSTREAM. -/
  | endRecordReceived
  /-- CONFIG_CHAIN_TIMEOUT (R689). No CFG_CLK within 60 s, a stalled stream for 1 s, or INIT_N low 10 s fails with CFG_E_TIMEOUT. -/
  | configChainTimeout
  /-- DONE_SAMPLE (R693). 1 µs after a boundary in START-UP the DONE ball is sampled. -/
  | doneSample (level : Bool)
  /-- STARTUP_TIMEOUT (R180). DONE still low 10 s after the device released it sends the device to SAFE HOLD. -/
  | startupTimeout
  /-- CFG_STREAM_LOAD (R698). 0x030D: Starts checking, and in CONFIGURE loading, a host-delivered configuration stream. -/
  | cfgStreamLoad (mb : Fin 16) (req : Request)
  /-- CFG_STREAM_CHECK_COMPLETE (R698). A host stream check or load ends and its notice is pushed. -/
  | cfgStreamCheckComplete
  /-- CFG_GET_STATUS (R698). 0x030E: Returns the configuration status registers. -/
  | cfgGetStatus (mb : Fin 16) (req : Request)
  /-- SYNC_IN_EDGE (R131). A selected SYNC_IN edge gives a turn boundary 8 pips later. -/
  | syncInEdge (rising : Bool) (pip : BitVec 32)
  /-- PPS_IN_EDGE (R136). A PPS_IN rising edge gives a turn boundary and restarts subdivision. -/
  | ppsInEdge (pip : BitVec 32)
  /-- MARKER_MATCH (R137). The marker pattern matches on the designated lane and gives a turn boundary. -/
  | markerMatch (lane : Fin 96) (word : BitVec 32) (kflags : BitVec 4) (pip : BitVec 32)
  /-- INTERNAL_PERIOD_BOUNDARY (R131). The internal generator's period expires and gives a real boundary. -/
  | internalPeriodBoundary
  /-- PPS_SUBDIVISION_BOUNDARY (R136). A derived PPS boundary falls 1,250,000,000 / K pips after the previous one. -/
  | ppsSubdivisionBoundary
  /-- SYNTHETIC_BOUNDARY (R140). A turn reaching 2^32 − 1 pips without a boundary gets a synthetic boundary. -/
  | syntheticBoundary
  /-- FLYWHEEL_HOLDOVER_ENTRY (R144). In TRACKING a turn reaching MEAN + W pips gets a synthetic boundary and the flywheel enters HOLDOVER. -/
  | flywheelHoldoverEntry
  /-- HOLDOVER_SYNTHETIC_BOUNDARY (R144). In HOLDOVER a turn reaching MEAN pips gets a synthetic boundary. -/
  | holdoverSyntheticBoundary
  /-- PIP_PLL_LOCK (R130). The pip PLL locks, and on first lock the turn and pip counters begin counting. -/
  | pipPllLock
  /-- PIP_PLL_UNLOCK (R129). The pip PLL loses lock, enters holdover and raises EV_PIP_UNLOCK. -/
  | pipPllUnlock
  /-- SCHED_CTX_SWITCH (R161). A CTX_SWITCH entry fires and requests a switch of its group. -/
  | schedCtxSwitch (idx : Fin 4096)
  /-- SCHED_GATE_CLOSE (R161). A GATE_CLOSE entry closes a queue gate for frames from its pip. -/
  | schedGateClose (idx : Fin 4096)
  /-- SCHED_GATE_OPEN (R161). A GATE_OPEN entry opens a queue gate for frames from its pip. -/
  | schedGateOpen (idx : Fin 4096)
  /-- SCHED_TRIG_ARM (R161). A TRIG_ARM entry arms the trigger sequencer. -/
  | schedTrigArm (idx : Fin 4096)
  /-- SCHED_REPLAY_LAUNCH (R161). A REPLAY_LAUNCH entry starts its engine's bound pattern. -/
  | schedReplayLaunch (idx : Fin 4096)
  /-- SCHED_TRIG_OUT (R161). A TRIG_OUT entry raises a TRIG_OUT pulse of ARG pips. -/
  | schedTrigOut (idx : Fin 4096)
  /-- SCHED_EVENT (R161). An EVENT entry sets EV_SCHED_EVENT and latches its code and index. -/
  | schedEvent (idx : Fin 4096)
  /-- TRIG_OUT_PULSE_END (R283). A TRIG_OUT pulse reaches the end of its width and falls. -/
  | trigOutPulseEnd (out : Fin 8)
  /-- TB_SET_SOURCE (R170). 0x0700: Writes the turn source settings to TL shadows, optionally with a turn load. -/
  | tbSetSource (mb : Fin 16) (req : Request)
  /-- TB_SET_FLYWHEEL (R172). 0x0701: Sets flywheel enable, relock mode and window. -/
  | tbSetFlywheel (mb : Fin 16) (req : Request)
  /-- TB_GET_TIME (R173). 0x0702: Returns turn, pip and timebase flags in one snapshot. -/
  | tbGetTime (mb : Fin 16) (req : Request)
  /-- TB_SCHED_WRITE (R174). 0x0703: Writes schedule entries, pending until the next turn. -/
  | tbSchedWrite (mb : Fin 16) (req : Request)
  /-- TB_SCHED_READ (R175). 0x0704: Returns active schedule entries. -/
  | tbSchedRead (mb : Fin 16) (req : Request)
  /-- TB_SCHED_CLEAR (R176). 0x0705: Clears listed or all own schedule entries. -/
  | tbSchedClear (mb : Fin 16) (req : Request)
  /-- TB_STATUS (R177). 0x0706: Returns source, flywheel state, counters and turn length history. -/
  | tbStatus (mb : Fin 16) (req : Request)
  /-- FRAME_RECEIVED (R224). A gather unit closes a frame, stamps it, has it classified and acts on its action word. -/
  | frameReceived (lane : Fin 96) (line : List (BitVec 10 × Timestamp)) (gu : GatherCond)
  /-- REINSERTED_FRAME (R217). A frame handed back on a reinsertion port closes and is timestamped, classified and captured. -/
  | reinsertedFrame (lane : Fin 96) (frame : Reinserted) (gu : GatherCond)
  /-- CLASSIFIER_ENTRY_REWRITE (R272). The gaffer rewrites an invalidated classifier entry from its copy. -/
  | classifierEntryRewrite (ternary : Bool) (idx : BitVec 15)
  /-- DROP_MARKER_WRITE (R244). After drops, a drop marker counting them is written once buffer space returns. -/
  | dropMarkerWrite (lane : Fin 96) (q : Fin 1024)
  /-- PAD_RECORD_TIMER (R228). A queue holding half a line for 1 µs completes it with a pad record. -/
  | padRecordTimer (q : Fin 1024)
  /-- CAPTURE_LINE_INTEGRITY (R245). A capture line write answered INTEGRITY is counted in drop markers and flags the index. -/
  | captureLineIntegrity (q : Fin 1024) (line : LineFail)
  /-- CQ_CREATE (R253). 0x0400: Creates a capture queue with memory and reservation. -/
  | cqCreate (mb : Fin 16) (req : Request)
  /-- CQ_DELETE (R253). 0x0401: Deletes an IDLE or SEALED queue. -/
  | cqDelete (mb : Fin 16) (req : Request)
  /-- CQ_ARM (R253). 0x0402: Arms queues from the next turn, open at once with OPEN_NOW. -/
  | cqArm (mb : Fin 16) (req : Request)
  /-- CQ_STOP (R253). 0x0403: Stops queues at the next turn. -/
  | cqStop (mb : Fin 16) (req : Request)
  /-- CQ_SEAL (R253). 0x0404: Stops and seals the listed queues. -/
  | cqSeal (mb : Fin 16) (req : Request)
  /-- CQ_SEAL_COMPLETE (R253). Every listed queue is SEALED and the CQ_SEAL notice is pushed. -/
  | cqSealComplete (mb : Fin 16) (tag : BitVec 16)
  /-- CQ_STATUS (R253). 0x0405: Returns a queue's registers. -/
  | cqStatus (mb : Fin 16) (req : Request)
  /-- CQ_READ_INDEX (R253). 0x0406: Returns index entries of a queue. -/
  | cqReadIndex (mb : Fin 16) (req : Request)
  /-- GU_CONFIGURE (R253). 0x0407: Sets a gather unit's framing and options from the next turn. -/
  | guConfigure (mb : Fin 16) (req : Request)
  /-- GU_SET_FRAMING (R253). 0x0408: Sets a gather unit's start, end and idle codes from the next turn. -/
  | guSetFraming (mb : Fin 16) (req : Request)
  /-- GU_STATUS (R253). 0x0409: Returns a gather unit's registers. -/
  | guStatus (mb : Fin 16) (req : Request)
  /-- CQ_SET_LOSSLESS (R253). 0x040A: Marks lanes lossless or not from the next turn. -/
  | cqSetLossless (mb : Fin 16) (req : Request)
  /-- CL_KEY_SET (R295). 0x0500: Loads a key profile and assigns it to lanes. -/
  | clKeySet (mb : Fin 16) (req : Request)
  /-- CL_EXACT_INSERT (R263). 0x0501: Inserts exact-table keys, with cuckoo displacement. -/
  | clExactInsert (mb : Fin 16) (req : Request)
  /-- CL_EXACT_DELETE (R295). 0x0502: Deletes exact-table keys. -/
  | clExactDelete (mb : Fin 16) (req : Request)
  /-- CL_TERNARY_WRITE (R295). 0x0503: Writes ternary table entries. -/
  | clTernaryWrite (mb : Fin 16) (req : Request)
  /-- CL_COUNTERS_READ (R295). 0x0504: Returns hit counters, clearing them with CLEAR. -/
  | clCountersRead (mb : Fin 16) (req : Request)
  /-- CL_TABLE_STATUS (R295). 0x0505: Returns classifier table occupancy and errors. -/
  | clTableStatus (mb : Fin 16) (req : Request)
  /-- TG_MATRIX_SET (R295). 0x0506: Loads the trigger matrix inputs, outputs and terms. -/
  | tgMatrixSet (mb : Fin 16) (req : Request)
  /-- TG_SEQ_LOAD (R295). 0x0507: Loads sequencer counters, timers and transitions. -/
  | tgSeqLoad (mb : Fin 16) (req : Request)
  /-- TG_ARM (R285). 0x0508: Arms the sequencer at pip 0 of the next turn. -/
  | tgArm (mb : Fin 16) (req : Request)
  /-- TG_DISARM (R286). 0x0509: Disarms the sequencer at pip 0 of the next turn. -/
  | tgDisarm (mb : Fin 16) (req : Request)
  /-- TG_STATUS (R295). 0x050A: Returns sequencer state, counters and timers. -/
  | tgStatus (mb : Fin 16) (req : Request)
  /-- TRIG_IN_EDGE (R277). A TRIG_IN edge or level makes its matrix input true for the pip. -/
  | trigInEdge (pin : Fin 8) (level : Bool)
  /-- TRIGGER_TRANSITION (R281). In a pip the first qualifying transition of the current state is taken and its actions execute. -/
  | triggerTransition (fabLines : Byte)
  /-- TRIGGER_TIMER_EXPIRY (R280). A sequencer timer reaches 0 and sets its input for that pip. -/
  | triggerTimerExpiry (t : Fin 4)
  /-- TRIGGER_COUNTER_LIMIT (R279). A sequencer counter reaches its limit and raises EV_TG_LIMIT. -/
  | triggerCounterLimit (c : Fin 4)
  /-- PEER_TRIGGER_MESSAGE (R662). A trigger message from a peer raises peer trigger input 56 + k for one pip. -/
  | peerTriggerMessage (dev : Fin 8) (k : Fin 8)
  /-- RP_PATTERN_BIND (R328). 0x0600: Binds or unbinds a pattern to a replay engine and starts priming. -/
  | rpPatternBind (mb : Fin 16) (req : Request)
  /-- RP_CONFIGURE (R328). 0x0601: Sets a replay engine's policies, idle and lane mask. -/
  | rpConfigure (mb : Fin 16) (req : Request)
  /-- RP_START (R328). 0x0602: Starts an engine at the next turn or at a given time. -/
  | rpStart (mb : Fin 16) (req : Request)
  /-- RP_STOP (R328). 0x0603: Stops an engine at a record boundary, or at once with ABORT. -/
  | rpStop (mb : Fin 16) (req : Request)
  /-- RP_STATUS (R328). 0x0604: Returns a replay engine's registers. -/
  | rpStatus (mb : Fin 16) (req : Request)
  /-- RP_SET_UPDATERS (R328). 0x0605: Loads an engine's field updaters. -/
  | rpSetUpdaters (mb : Fin 16) (req : Request)
  /-- RP_PASSTHROUGH_SET (R328). 0x0606: Turns pass-through on or off for lanes from the next turn. -/
  | rpPassthroughSet (mb : Fin 16) (req : Request)
  /-- RP_SUBSTITUTE_SET (R328). 0x0607: Enables substitution by an engine on a pass-through lane. -/
  | rpSubstituteSet (mb : Fin 16) (req : Request)
  /-- REPLAY_START_INSTANT (R317). A start cause's instant arrives and a BOUND or STOPPED engine enters RUNNING. -/
  | replayStartInstant (e : Fin 32)
  /-- PATTERN_FETCH_RETURN (R307). Fetched pattern data returns into the engine's buffer. -/
  | patternFetchReturn (e : Fin 32) (lines : FetchReturn)
  /-- RECORD_LAUNCH (R303). At its scheduled instant a pattern record is launched on its lane with updaters applied. -/
  | recordLaunch (e : Fin 32) (fetchDelayed : Bool)
  /-- REPLAY_RECORD_BOUNDARY_STOP (R318). A pending stop takes effect at the end of the record in transmission. -/
  | replayRecordBoundaryStop (e : Fin 32)
  /-- SUBSTITUTION_SLOT (R322). A substituted record is sent in the first qualifying frame slot or idle run of the pass-through stream. -/
  | substitutionSlot (e : Fin 32) (chars : BitVec 21) (rdBefore : Bool) (rdAfter : Bool)
  /-- PASSTHROUGH_RESUME (R321). Forwarding resumes 1 µs after the CDR relocks. -/
  | passthroughResume (lane : Fin 96)
  /-- CONTEXT_SWITCH (R388). At switching edge E0 the region takes the new plane, with a dead cycle to E1. -/
  | contextSwitch (r : Fin 48)
  /-- CTX_LOAD (R422). 0x0308: Queues a load of a piece into a plane of regions. -/
  | ctxLoad (mb : Fin 16) (req : Request)
  /-- CTX_SWITCH_REQUEST (R422). 0x0309: Schedules a group switch at the next turn or a given time. -/
  | ctxSwitchRequest (mb : Fin 16) (req : Request)
  /-- CTX_GROUP_DEFINE (R422). 0x030A: Defines or deletes a switch group. -/
  | ctxGroupDefine (mb : Fin 16) (req : Request)
  /-- CTX_STATUS (R422). 0x030B: Returns region context registers. -/
  | ctxStatus (mb : Fin 16) (req : Request)
  /-- CTX_SCRUB_STATUS (R422). 0x030C: Returns load and scrub registers. -/
  | ctxScrubStatus (mb : Fin 16) (req : Request)
  /-- CONFIG_LOAD_START (R405). The configuration controller takes the next queued load and begins writing frames. -/
  | configLoadStart
  /-- CONFIG_LOAD_COMPLETE (R406). A load's final CRC passes or fails, making its planes VALID or EMPTY. -/
  | configLoadComplete (fail : Bool)
  /-- SCRUB_FRAME (R408). A scrubber reads a frame and corrects a single bad symbol in place. -/
  | scrubFrame (r : Fin 48) (p : Fin 8) (frame : Fin 14400) (bad : Fin 3) (pass : Option (BitVec 32))
  /-- RISER_ILLEGAL_DECODE (R344). A riser first decodes 0b11, raises EV_RISER_ILLEGAL and is scrubbed next. -/
  | riserIllegalDecode (pair : Fin 24) (riser : RiserSite)
  /-- MBP_ACCESS (R364). The U00 mailbox port performs an access to MB4–MB7 registers or buffers. -/
  | mbpAccess (sel : MbpSelect) (buffers we : Bool) (addr : BitVec 11) (data : BitVec 32)
  /-- IO_DELAY_LOAD (R377). DLY_LOAD loads a delay tap. -/
  | ioDelayLoad (io : Fin 288) (v : BitVec 9)
  /-- IO_DELAY_INC (R377). DLY_INC moves the delay one tap up. -/
  | ioDelayInc (io : Fin 288) (both : Bool)
  /-- IO_DELAY_DEC (R377). DLY_DEC moves the delay one tap down. -/
  | ioDelayDec (io : Fin 288) (both : Bool)
  /-- PLC_LIBRARY_ADD (R432). 0x0300: Checks a piece file and adds it to the context library. -/
  | plcLibraryAdd (mb : Fin 16) (req : Request)
  /-- LIBRARY_ADD_COMPLETE (R432). The signature and frame checks of an added piece end and its notice is pushed. -/
  | libraryAddComplete
  /-- PLC_LIBRARY_REMOVE (R434). 0x0301: Removes a piece from the library. -/
  | plcLibraryRemove (mb : Fin 16) (req : Request)
  /-- PLC_LIBRARY_LIST (R460). 0x0302: Lists library pieces. -/
  | plcLibraryList (mb : Fin 16) (req : Request)
  /-- PLC_PLACE (R445). 0x0303: Chooses a placement for a piece and loads it. -/
  | plcPlace (mb : Fin 16) (req : Request)
  /-- PLC_UNPLACE (R449). 0x0304: Removes a placement at the next turn. -/
  | plcUnplace (mb : Fin 16) (req : Request)
  /-- PLC_MIGRATE (R451). 0x0305: Moves a placement to a disjoint footprint. -/
  | plcMigrate (mb : Fin 16) (req : Request)
  /-- BANK_COPY_START (R451). From pip 256 the gaffer copies LOCAL bank sets to their new banks. -/
  | bankCopyStart
  /-- BANK_COPY_END (R451). Every bank copy ends and the target switch is scheduled. -/
  | bankCopyEnd
  /-- PLC_REPORT (R460). 0x0306: Returns a placement's record and allocations. -/
  | plcReport (mb : Fin 16) (req : Request)
  /-- PLC_SET_HINTS (R443). 0x0307: Writes a hint set of the mailbox. -/
  | plcSetHints (mb : Fin 16) (req : Request)
  /-- SELF_TEST_DRAIN (R454). Before a slice the placer drains the unit by migrating or copying its holders. -/
  | selfTestDrain (kind : Fin 6)
  /-- SLICE_TEST_END (R810). A slice test ends, passing or failing, and the unit is re-initialised or mapped. -/
  | sliceTestEnd (fail : Bool) (detail : BitVec 16)
  /-- HALT (R475). The engine enters HALTED. -/
  | halt (e : Fin 1536) (w : BitVec 44) (cond : IssueCond)
  /-- MAC (R477). Four products are added into accumulators. -/
  | mac (e : Fin 1536) (w : BitVec 44) (cond : IssueCond)
  /-- TAPMV (R478). A MAC on the delay line that shifts it one slot through TAPC. -/
  | tapmv (e : Fin 1536) (w : BitVec 44) (cond : IssueCond)
  /-- MOV (R487). An accumulator is shifted, rounded, saturated and written to a stream, RAM or TAPC. -/
  | mov (e : Fin 1536) (w : BitVec 44) (cond : IssueCond)
  /-- LD (R480). A register is loaded from an immediate, a RAM or a stream. -/
  | ld (e : Fin 1536) (w : BitVec 44) (cond : IssueCond)
  /-- ST (R481). A RAM quad or element is written. -/
  | st (e : Fin 1536) (w : BitVec 44) (cond : IssueCond)
  /-- LOOP (R483). A hardware loop entry is pushed. -/
  | loop (e : Fin 1536) (w : BitVec 44) (cond : IssueCond)
  /-- BR (R484). A conditional branch, pruning loop entries that do not contain the target. -/
  | br (e : Fin 1536) (w : BitVec 44) (cond : IssueCond)
  /-- SYNC (R482). Waits until a stream FIFO holds or has room for N quads. -/
  | sync (e : Fin 1536) (w : BitVec 44) (cond : IssueCond)
  /-- EV (R482). Compares an accumulator and sets CMP or raises EV_TE_MATCH. -/
  | ev (e : Fin 1536) (w : BitVec 44) (cond : IssueCond)
  /-- NOP (R475). Does nothing for one cycle. -/
  | nop (e : Fin 1536) (w : BitVec 44) (cond : IssueCond)
  /-- ILLEGAL_OPCODE (R490). Opcode 0xC–0xF faults the engine with ILLEGAL. -/
  | illegalOpcode (e : Fin 1536) (op : Fin 4) (w : BitVec 44)
  /-- TE_STREAM_QUAD_IN (R468). A quad is accepted into IN0 from the fabric stream port. -/
  | teStreamQuadIn (e : Fin 1536) (quad : BitVec 96)
  /-- TE_RING_READ_RESPONSE (R470). A ring read response enters IN1 and advances CONS, or faults on error. -/
  | teRingReadResponse (e : Fin 1536) (fail : Bool)
  /-- TE_RING_WRITE_RESPONSE (R470). A ring write response advances OUT1 PROD, or faults on error. -/
  | teRingWriteResponse (e : Fin 1536) (fail : Bool)
  /-- TE_STALL_RELEASE (R472). A waiting stream condition is met and a STALLED engine resumes. -/
  | teStallRelease (e : Fin 1536) (taken : BitVec 5) (cycles : BitVec 32)
  /-- TE_CTRL_RESTART (R473). RESTART causes a page entry from HALTED or FAULT. -/
  | teCtrlRestart (e : Fin 1536)
  /-- TE_CTRL_STOP (R492). STOP halts the engine at the next instruction boundary. -/
  | teCtrlStop (e : Fin 1536)
  /-- TE_RAMDATA_ACCESS (R492). Reads or writes a RAM element when the engine is not running, auto-incrementing the index. -/
  | teRamdataAccess (e : Fin 1536) (v : Option (BitVec 32)) (who : Requester)
  /-- TE_RING_ENABLE (R492). Setting a ring's EN zeroes its indexes and activates it. -/
  | teRingEnable (e : Fin 1536) (out : Bool) (v : BitVec 32)
  /-- TE_NIN_PROD_WRITE (R470). The producer index of IN1 is written, letting the engine read quads. -/
  | teNinProdWrite (e : Fin 1536) (v : BitVec 16)
  /-- TE_NOUT_CONS_WRITE (R470). The consumer index of OUT1 is written, freeing ring room. -/
  | teNoutConsWrite (e : Fin 1536) (v : BitVec 16)
  /-- TE_EVQ_POP (R493). Discards the oldest Tap Engine event queue entry. -/
  | teEvqPop
  /-- SM_READ (R501). A master-port read of a cluster word. -/
  | smRead (c : Fin 96) (port : Fin 3) (addr : BitVec 17) (upset : Fin 3) (stale : Bool) (stalls : BitVec 16)
  /-- SM_WRITE (R501). A master-port write, read-modify-write when partial. -/
  | smWrite (c : Fin 96) (port : Fin 3) (addr : BitVec 17) (data : BitVec 64) (be : Byte) (upset : Fin 3) (stalls : BitVec 16)
  /-- SM_PUSH (R514). A window PUSH from a master port. -/
  | smPush (c : Fin 96) (port : Fin 3) (win : Fin 8) (data : BitVec 64) (stalls : BitVec 16)
  /-- SM_POP (R514). A window POP from a master port. -/
  | smPop (c : Fin 96) (port : Fin 3) (win : Fin 8) (upset : Fin 3) (stalls : BitVec 16)
  /-- SM_PEEK (R514). A window PEEK from a master port. -/
  | smPeek (c : Fin 96) (port : Fin 3) (win : Fin 8) (o : BitVec 17) (upset : Fin 3) (stalls : BitVec 16)
  /-- SM_POKE (R514). A window POKE from a master port. -/
  | smPoke (c : Fin 96) (port : Fin 3) (win : Fin 8) (o : BitVec 17) (data : BitVec 64) (be : Byte) (upset : Fin 3) (stalls : BitVec 16)
  /-- SM_INVALID_OP (R500). SM_OP 3 is answered WINDOW_OP. -/
  | smInvalidOp (c : Fin 96) (port : Fin 3)
  /-- SB_OWNER_WRITE (R508). A write of SB_OWNER hands an interleave set over, or lands in the gaffer's TL shadow. -/
  | sbOwnerWrite (bank : Fin 1536) (owner : Byte) (who : Requester)
  /-- QC_PORT_DATA_HI_WRITE (R519). Writing QC_PORT_DATA_HI performs a PUSH or POKE through the register port. -/
  | qcPortDataHiWrite (q : Fin 128) (v : BitVec 32) (who : Requester)
  /-- QC_PORT_DATA_LO_READ (R519). Reading QC_PORT_DATA_LO performs a POP or PEEK and snapshots the upper half. -/
  | qcPortDataLoRead (q : Fin 128) (who : Requester) (upset : Fin 3)
  /-- QC_WIN_CFG_WRITE (R518). Writes window settings; setting EN zeroes the pointers. -/
  | qcWinCfgWrite (q : Fin 128) (win : Fin 8) (v : BitVec 32) (who : Requester)
  /-- SRAM_SCRUB_WORD (R512). A cluster scrubs a word in an idle bank cycle. -/
  | sramScrubWord (bank : Fin 1536) (upset : Fin 3)
  /-- STACK_LINE_READ (R543). A stack-memory line is decoded, decrypted and checked against its tag. -/
  | stackLineRead (line : BitVec 30) (errs : List (Fin 72 × Byte)) (recordBad : Bool)
  /-- STACK_LINE_WRITE (R545). A stack-memory line is written, incrementing its MINOR, or read-modify-written when partial. -/
  | stackLineWrite (line : BitVec 30) (off : Fin 64) (bytes : List Byte) (errs : List (Fin 72 × Byte))
  /-- CHANNEL_RETRAIN_FAIL (R532). A channel that fails retraining becomes OFFLINE. -/
  | channelRetrainFail (ch : Fin 32)
  /-- SWEEP_PAGE (R551). The sweep engine re-encrypts one page of a rekeying segment under the new key. -/
  | sweepPage (recordBad : Bool)
  /-- SLOT_ZEROISE (R552). A DRAINING slot's INFLIGHT reaches 0 and the slot is zeroised and EMPTY. -/
  | slotZeroise (slot : Fin 16)
  /-- PATROL_SCRUB_LINE (R553). A channel patrols a line in idle cycles, rewriting a corrected one. -/
  | patrolScrubLine (line : BitVec 30) (errs : List (Fin 72 × Byte))
  /-- MEM_SCRUB_COMPLETE (R562). A MEM_SCRUB pass over its range ends and its notice is pushed. -/
  | memScrubComplete
  /-- MEM_ALLOC (R562). 0x0800: Allocates stack memory with an optional NoC reservation. -/
  | memAlloc (mb : Fin 16) (req : Request)
  /-- MEM_FREE (R562). 0x0801: Frees an allocation. -/
  | memFree (mb : Fin 16) (req : Request)
  /-- MEM_MAP_BAR2 (R829). 0x0802: Maps or unmaps a BAR2 window onto stack memory. -/
  | memMapBar2 (mb : Fin 16) (req : Request)
  /-- MEM_STATUS (R562). 0x0803: Returns guard and channel status. -/
  | memStatus (mb : Fin 16) (req : Request)
  /-- MEM_POISON_LIST (R562). 0x0804: Returns the list of failed lines. -/
  | memPoisonList (mb : Fin 16) (req : Request)
  /-- MEM_REKEY (R562). 0x0805: Rekeys every segment into one fresh slot. -/
  | memRekey (mb : Fin 16) (req : Request)
  /-- MEM_SCRUB (R554). 0x0806: Scrubs a range through the sweep engine. -/
  | memScrub (mb : Fin 16) (req : Request)
  /-- READ (R574). A NoC READ request is delivered and performed at its target. -/
  | read (r : NocRequest)
  /-- WRITE (R574). A NoC WRITE request is delivered and performed at its target. -/
  | write (r : NocRequest) (posted : Bool) (data : List Byte)
  /-- WIN_PUSH (R574). A NoC window PUSH request. -/
  | winPush (r : NocRequest) (win : Fin 8) (data : List (BitVec 64))
  /-- WIN_POP (R574). A NoC window POP request. -/
  | winPop (r : NocRequest) (win : Fin 8)
  /-- WIN_PEEK (R574). A NoC window PEEK request. -/
  | winPeek (r : NocRequest) (win : Fin 8)
  /-- WIN_POKE (R574). A NoC window POKE request. -/
  | winPoke (r : NocRequest) (win : Fin 8) (data : List (BitVec 64))
  /-- RESP (R574). A completion or error response reaches its source. -/
  | resp (p : NocResponse) (status : BitVec 4)
  /-- DATA (R574). A data response reaches its source. -/
  | data (p : NocResponse) (data : List Byte) (key : BitVec 4)
  /-- INV (R599). An invalidate reaches a caching unit, which drops the line and answers INV_ACK. -/
  | inv (dst : Option (Fin 49)) (line : BitVec 37)
  /-- KEY_DROP (R599). A caching unit drops every line of a key identifier and answers INV_ACK. -/
  | keyDrop (dst : Option (Fin 49)) (dev : Fin 8) (key : BitVec 4)
  /-- INV_ACK (R598). An invalidate acknowledgement reaches the channel, which releases the locked line when all are in. -/
  | invAck (sharer : Fin 64) (line : BitVec 37) (key : Option (BitVec 4))
  /-- ENDPOINT_DEAD (R592). An endpoint silent for 4,096 router cycles becomes DEAD. -/
  | endpointDead (e : Fin 240)
  /-- REQUEST_TIMEOUT (R593). A request without response for 65,536 cycles gets TIMEOUT. -/
  | requestTimeout (p : NocResponse)
  /-- ARRAY_REQUEST_TIMEOUT (R656). A request to another device gets TIMEOUT after 2^20 router cycles. -/
  | arrayRequestTimeout (p : NocResponse)
  /-- ENDPOINT_CLOSED (R594). A CLOSING endpoint with nothing outstanding becomes ISOLATED. -/
  | endpointClosed (e : Fin 240)
  /-- SIGNAL_DETECT (R609). Amplitude above threshold for 1 µs sets SIGNAL. -/
  | signalDetect (lane : Fin 120)
  /-- SIGNAL_LOSS (R609). Amplitude below threshold for 1 µs clears SIGNAL and sets LOS_SEEN. -/
  | signalLoss (lane : Fin 120)
  /-- CDR_LOCK_ACQUIRED (R610). The CDR locks within 1,000 ppm. -/
  | cdrLockAcquired (lane : Fin 120) (off : BitVec 32)
  /-- CDR_UNLOCK (R608). The CDR loses lock and LOCK falls. -/
  | cdrUnlock (lane : Fin 120)
  /-- COMMA_ALIGN (R614). A comma sets or moves the character boundary. -/
  | commaAlign (lane : Fin 120) (comma : Fin 3) (moved : Bool)
  /-- ALIGNMENT_LOSS (R609). 16 code violations in 64 characters clear ALIGNED. -/
  | alignmentLoss (lane : Fin 120)
  /-- EYE_CALIBRATION_DONE (R611). Eye calibration ends, loads GU_LAT and sets CAL_DONE. -/
  | eyeCalibrationDone (lane : Fin 120) (lat : BitVec 16)
  /-- QUAD_PLL_LOCK (R631). A quad PLL locks and its transmitters resume their sources. -/
  | quadPllLock (q : Fin 28)
  /-- PRBS_SYNC_ACQUIRED (R625). The checker finds 64 error-free bits and sets PRBS_SYNC. -/
  | prbsSyncAcquired (lane : Fin 120)
  /-- PRBS_SYNC_LOSS (R625). 32 of 64 mismatching bits clear PRBS_SYNC. -/
  | prbsSyncLoss (lane : Fin 120) (compared errors : BitVec 32)
  /-- ERROR_INJECTION (R627). A due injection corrupts the transmitted stream, repeating every SPACING words COUNT times. -/
  | errorInjection (lane : Fin 120)
  /-- EYE_SCAN_LANE_DONE (R630). The eye scan of one lane ends and its result is written. -/
  | eyeScanLaneDone (valid : Bool) (counts : List (BitVec 32))
  /-- LN_CONFIGURE (R638). 0x0900: Sets a lane's mode, width, alignment, idle and equaliser from the next turn. -/
  | lnConfigure (mb : Fin 16) (req : Request)
  /-- LN_SET_RATE (R638). 0x0901: Sets lane rates, choosing quad base rates. -/
  | lnSetRate (mb : Fin 16) (req : Request)
  /-- LN_POWER (R638). 0x0902: Sets lane power states. -/
  | lnPower (mb : Fin 16) (req : Request)
  /-- LN_LOOPBACK (R638). 0x0903: Sets lane loopbacks. -/
  | lnLoopback (mb : Fin 16) (req : Request)
  /-- LN_PRBS_SET (R638). 0x0904: Sets the lane pattern generator and checker. -/
  | lnPrbsSet (mb : Fin 16) (req : Request)
  /-- LN_PRBS_READ (R638). 0x0905: Returns PRBS counts, clearing them with CLEAR. -/
  | lnPrbsRead (mb : Fin 16) (req : Request)
  /-- LN_EYE_SCAN (R630). 0x0906: Starts an eye scan of up to 8 lanes. -/
  | lnEyeScan (mb : Fin 16) (req : Request)
  /-- LN_STATUS (R638). 0x0907: Returns a lane's and its quad's registers. -/
  | lnStatus (mb : Fin 16) (req : Request)
  /-- LN_INJECT (R627). 0x0908: Schedules an error injection on a lane. -/
  | lnInject (mb : Fin 16) (req : Request)
  /-- CLOCK_MONITOR_WINDOW (R715). A monitor window ends and each source is judged dead, out of range or qualified. -/
  | clockMonitorWindow (src : Fin 6) (n : BitVec 32)
  /-- CLOCK_NODE_SWITCH (R716). The glitch-free multiplexer completes a switch once both clocks reach low phases. -/
  | clockNodeSwitch (node : Fin 11)
  /-- BASE_PLL_SLEW_END (R708). A base PLL finishes slewing to its new target. -/
  | basePllSlewEnd
  /-- FPLL_RELOCK (R713). An FPLL relocks and its output restarts. -/
  | fpllRelock (n : Fin 8)
  /-- REFCLK_MEASURED (R701). A reference is measured and its frequency recorded, correcting quad settings if needed. -/
  | refclkMeasured (ref : Fin 2) (count : BitVec 32)
  /-- SYSCLK_QUALIFY_TIMEOUT (R709). SYSCLK_IN unqualified 100 ms into BOOT is logged and BOOT continues on the furnace. -/
  | sysclkQualifyTimeout
  /-- FREQ_METER_START (R723). Writing START begins a frequency-meter gate. -/
  | freqMeterStart (c : Fin 8) (v : BitVec 32) (who : Requester)
  /-- FREQ_METER_GATE_END (R723). A gate ends, the result is valid and EV_FM_DONE is raised. -/
  | freqMeterGateEnd (c : Fin 8) (count : BitVec 48)
  /-- FREQ_METER_TIMEOUT (R723). A gate not ended within 200 s ends with ABORT. -/
  | freqMeterTimeout (c : Fin 8)
  /-- GAFFER_PERIODIC_UPDATE (R704). Every 64 ms the gaffer reads sensors and updates trims, input voltage and AVS. -/
  | gafferPeriodicUpdate (u : PeriodicUpdate)
  /-- AVS_URGENT_RAISE (R730). A monitor margin below 5 mV makes the gaffer raise the logic rail within 1 ms. -/
  | avsUrgentRaise (tier : Fin 2) (mv : BitVec 12)
  /-- AUTO_CLOCK_GATE (R721). After 16 idle cycles a unit's clock closes automatically. -/
  | autoClockGate (col : Fin 96)
  /-- FORCED_GATE_CLOSE (R722). A forced gate closes once accesses in flight complete. -/
  | forcedGateClose (unit : Fin 264)
  /-- GATE_REFUSED (R722). An access still in flight 4,096 cycles after a forced gate raises EV_GATE_REFUSED. -/
  | gateRefused (unit : Fin 264)
  /-- PMB_ALERT (R726). PMB_ALERT_N falls; the gaffer reads, logs and clears the alerting regulator. -/
  | pmbAlert (addr : BitVec 7) (status : BitVec 16) (failed : Bool)
  /-- SUPPLY_OK_CHANGE (R728). The SUPPLY_OK ball changes and EV_SUPPLY_OK is raised. -/
  | supplyOkChange (level : Bool)
  /-- THERMAL_SAMPLE (R743). Sensors are sampled and each zone's levels are judged. -/
  | thermalSample (t : Vector (BitVec 12) 64)
  /-- SENSOR_SELF_TEST (R740). Once a second each sensor tests itself against its reference. -/
  | sensorSelfTest (failed : BitVec 64)
  /-- THROTTLE_STEP_RISE (R749). Every 20 ms at or above Throttle a zone's step rises by one. -/
  | throttleStepRise (zone : Fin 20)
  /-- THROTTLE_STEP_FALL (R749). Every 100 ms after leaving Throttle a zone's step falls by one. -/
  | throttleStepFall (zone : Fin 20)
  /-- POWER_READING (R750). Every 8 ms the gaffer sums device power and judges the power limit. -/
  | powerReading (p : PowerReading)
  /-- POWER_STEP_RISE (R750). Every 20 ms above LIMIT_W the power step rises. -/
  | powerStepRise (limit : Fin 3)
  /-- POWER_STEP_FALL (R750). Every 100 ms after leaving the limit the power step falls. -/
  | powerStepFall (limit : Fin 3)
  /-- THERMAL_TRIP (R753). Two samples at Trip latch the hardware trip, gate clocks and drive THERM_N low. -/
  | thermalTrip (sensor : Fin 64) (first second : BitVec 12)
  /-- TH_READ (R761). 0x0A00: Returns sensor readings. -/
  | thRead (mb : Fin 16) (req : Request)
  /-- TH_GET_ZONES (R761). 0x0A01: Returns zone states and limits. -/
  | thGetZones (mb : Fin 16) (req : Request)
  /-- TH_SET_HYSTERESIS (R761). 0x0A02: Sets the thermal hysteresis. -/
  | thSetHysteresis (mb : Fin 16) (req : Request)
  /-- PW_READ_RAILS (R761). 0x0A03: Returns rail targets, measurements and states. -/
  | pwReadRails (mb : Fin 16) (req : Request)
  /-- PW_GET_BUDGET (R761). 0x0A04: Returns the power budget. -/
  | pwGetBudget (mb : Fin 16) (req : Request)
  /-- PW_SET_LIMIT (R761). 0x0A05: Sets LIMIT_W and VIN_MIN_MV. -/
  | pwSetLimit (mb : Fin 16) (req : Request)
  /-- TH_RESUME (R752). 0x0A06: Resumes from a thermal stop once zones have cooled. -/
  | thResume (mb : Fin 16) (req : Request)
  /-- ALARM_SHIELD (R775). The lid mesh reports a fault and the alarm response acts. -/
  | alarmShield
  /-- ALARM_VOLTAGE (R775). A core rail excursion beyond 12 % raises the alarm. -/
  | alarmVoltage (rail : Fin 3) (mv : BitVec 12)
  /-- ALARM_CLOCK (R775). A gaffer clock glitch or furnace failure raises the alarm. -/
  | alarmClock
  /-- ALARM_TEMPERATURE (R775). A vault sensor outside −45 °C to 130 °C raises the alarm. -/
  | alarmTemperature (t : BitVec 12)
  /-- ALARM_PULSE_END (R777). The 1 ms ALARM_N pulse of a LOG response ends. -/
  | alarmPulseEnd
  /-- ZEROISE_CLEAR_COMPLETE (R779). The gaffer finishes clearing planes, banks and tables and the notice is pushed. -/
  | zeroiseClearComplete
  /-- SC_ATTEST (R780). 0x0B00: Starts signing an attestation report. -/
  | scAttest (mb : Fin 16) (req : Request)
  /-- ATTEST_REPORT_COMPLETE (R781). The report is written to the window and SC_REPORT_SEQ increments. -/
  | attestReportComplete
  /-- SC_GET_LIFECYCLE (R800). 0x0B01: Returns lifecycle and security status. -/
  | scGetLifecycle (mb : Fin 16) (req : Request)
  /-- SC_SET_LIFECYCLE (R800). 0x0B02: Starts a lifecycle change by blowing fuses. -/
  | scSetLifecycle (mb : Fin 16) (req : Request)
  /-- LIFECYCLE_FUSES_BLOWN (R192). The lifecycle fuses are blown, EV_LIFECYCLE_CHANGE raised and the notice pushed. -/
  | lifecycleFusesBlown (verified : Bool)
  /-- SC_PRESENT_CREDENTIAL (R772). 0x0B03: Checks a credential, opening debug on slot 3. -/
  | scPresentCredential (mb : Fin 16) (req : Request)
  /-- SC_SET_ALARM_POLICY (R800). 0x0B04: Sets and stores the alarm policy, optionally locking it. -/
  | scSetAlarmPolicy (mb : Fin 16) (req : Request)
  /-- SC_ZEROISE (R779). 0x0B05: Zeroises the device. -/
  | scZeroise (mb : Fin 16) (req : Request)
  /-- SC_LOAD_OWNER_KEY (R801). 0x0B06: Loads the owner keys from a wrapped blob. -/
  | scLoadOwnerKey (mb : Fin 16) (req : Request)
  /-- OWNER_KEY_LOAD_COMPLETE (R801). The owner keys are stored and any row blown, and the notice is pushed. -/
  | ownerKeyLoadComplete (verified : Bool)
  /-- SC_SET_OWNER_LOCK (R800). 0x0B07: Sets or clears the owner lock by blowing a fuse. -/
  | scSetOwnerLock (mb : Fin 16) (req : Request)
  /-- SC_STORE_RESET (R786). 0x0B08: Clears both store banks in RETURNED. -/
  | scStoreReset (mb : Fin 16) (req : Request)
  /-- UP_BEGIN (R802). 0x0C00: Begins or resumes a firmware download. -/
  | upBegin (mb : Fin 16) (req : Request)
  /-- UP_CHUNK (R793). 0x0C01: Writes one image chunk into the other slot. -/
  | upChunk (mb : Fin 16) (req : Request)
  /-- UP_CHUNK_COMPLETE (R793). A chunk is programmed and verified and its bit is recorded. -/
  | upChunkComplete (readBack : Bool)
  /-- UP_STATUS (R802). 0x0C02: Returns update state and chunk bitmap. -/
  | upStatus (mb : Fin 16) (req : Request)
  /-- UP_ACTIVATE (R802). 0x0C03: Activates a complete download for trial. -/
  | upActivate (mb : Fin 16) (req : Request)
  /-- UP_CONFIRM (R796). 0x0C04: Confirms the trial image and raises the security fuses. -/
  | upConfirm (mb : Fin 16) (req : Request)
  /-- UP_ABORT (R791). 0x0C05: Aborts a download or trial. -/
  | upAbort (mb : Fin 16) (req : Request)
  /-- UP_ARRAY_FORWARD (R666). 0x0C06: Forwards an image through the array members. -/
  | upArrayForward (mb : Fin 16) (req : Request)
  /-- ARRAY_IMAGE_CHUNK (R797). A forwarded image chunk arrives at MB15, is stored and passed on after acknowledgement. -/
  | arrayImageChunk (i : Fin 128) (len : BitVec 24) (sha : BitVec 256) (data : List Byte) (readBack : Bool)
  /-- UP_ARRAY_FORWARD_COMPLETE (R667). The forwarded image has passed every member or a refusal returns, and the notice is pushed. -/
  | upArrayForwardComplete (refused : Option (Fin 8 × BitVec 16))
  /-- BT_RUN (R814). 0x0D00: Runs user-directed self-test of units or of the whole device. -/
  | btRun (mb : Fin 16) (req : Request)
  /-- TEST_MODE_END (R815). A full TEST ends, pushing its notice and entering BOOT or SAFE HOLD. -/
  | testModeEnd (fails : List (BitVec 10 × BitVec 16))
  /-- BT_SET_SCHEDULE (R821). 0x0D01: Sets periodic slice exponents. -/
  | btSetSchedule (mb : Fin 16) (req : Request)
  /-- BT_STATUS (R821). 0x0D02: Returns self-test status. -/
  | btStatus (mb : Fin 16) (req : Request)
  /-- BT_RESULTS (R821). 0x0D03: Returns per-unit test results. -/
  | btResults (mb : Fin 16) (req : Request)
  /-- BT_SET_POLICY (R821). 0x0D04: Sets the self-test failure policy. -/
  | btSetPolicy (mb : Fin 16) (req : Request)
  /-- BT_UNIT_MAP (R821). 0x0D05: Returns, or with CLEAR clears, the unit map. -/
  | btUnitMap (mb : Fin 16) (req : Request)
  /-- SEAM_FRAME_RECEIVED (R650). A seam frame is verified and delivered, or rejected with a negative acknowledgement. -/
  | seamFrameReceived (port : Fin 4) (cls : Fin 4) (cntOk tagOk : Bool) (ack : Option (BitVec 16))
  /-- SEAM_NACK_RECEIVED (R650). A negative acknowledgement makes the sender replay from its buffer. -/
  | seamNackReceived (port : Fin 4) (cls : Fin 4) (frames : Fin 64) (again : Bool)
  /-- SEAM_ACK_TIMER (R650). After 16 frames or 1 µs the receiver sends an acknowledgement. -/
  | seamAckTimer (port : Fin 4)
  /-- SEAM_COUNTER_REKEY (R651). A direction's frame counter reaching its threshold starts a rekey. -/
  | seamCounterRekey (port : Fin 4)
  /-- SEAM_KEY_SWITCH (R651). A KEY_SWITCH control frame moves the direction to the new epoch's key. -/
  | seamKeySwitch (port : Fin 4) (sent : Bool)
  /-- SEAM_TRAINING_DONE (R652). Every lane locks and deskews and the link moves to KEYING. -/
  | seamTrainingDone (port : Fin 4) (same : Bool)
  /-- SEAM_TRAINING_TIMEOUT (R652). Training not done within 10 ms makes the link FAILED. -/
  | seamTrainingTimeout (port : Fin 4)
  /-- SEAM_KEYING_DONE (R652). Keys are derived and the peer verified, and the link goes UP or FAILED. -/
  | seamKeyingDone (port : Fin 4) (derived : Bool) (peer : Fin 8)
  /-- SEAM_LANE_LOCK_TIMEOUT (R652). A seam lane without LOCK for 1 ms takes the link DOWN. -/
  | seamLaneLockTimeout (port : Fin 4) (lane : Fin 6)
  /-- COMMON_START_MESSAGE (R665). A member receives a common-start message and confirms or refuses. -/
  | commonStartMessage (turn : BitVec 48)
  /-- COMMON_START_CONFIRM (R665). The initiator receives a member's confirmation or refusal. -/
  | commonStartConfirm (dev : Fin 8) (ok : Bool)
  /-- AR_DISCOVER (R671). 0x0F00: Trains the seam ports and probes every DEV_ID. -/
  | arDiscover (mb : Fin 16) (req : Request)
  /-- AR_DISCOVER_COMPLETE (R671). Discovery ends, MEMBERS is set and the notice is pushed. -/
  | arDiscoverComplete (answered : Byte)
  /-- AR_STATUS (R671). 0x0F01: Returns array and seam port status. -/
  | arStatus (mb : Fin 16) (req : Request)
  /-- AR_SET_MODE (R671). 0x0F02: Sets the seam port modes, rate and trigger export. -/
  | arSetMode (mb : Fin 16) (req : Request)
  /-- AR_LINK_REKEY (R651). 0x0F03: Rekeys the named seam links. -/
  | arLinkRekey (mb : Fin 16) (req : Request)
  /-- AR_COHERENT_WINDOW (R660). 0x0F04: Defines or deletes a coherent window on every member. -/
  | arCoherentWindow (mb : Fin 16) (req : Request)
  /-- AR_COMMON_START (R665). 0x0F05: Realigns the array's turn counters at a common boundary. -/
  | arCommonStart (mb : Fin 16) (req : Request)
  /-- BAR0_REQUEST (R827). A host BAR0 request is performed as 32-bit control-space accesses. -/
  | bar0Request (off : BitVec 24) (dws : Fin 64) (enables : Bool) (write : Option (List (BitVec 32))) (fabric : List (Option (BitVec 32)))
  /-- BAR2_ACCESS (R831). A host BAR2 access becomes NoC requests to its window's stack memory. -/
  | bar2Access (off : BitVec 36) (len : BitVec 13) (write : Option (List Byte))
  /-- BAR2_RESIZE (R832). Host software resizes BAR2 and windows beyond it are disabled. -/
  | bar2Resize (log2 : Fin 64)
  /-- PERST_N_ASSERT (R824). Fundamental reset takes the link down, resets MSI-X, halts DMA and resets MB0–MB3. -/
  | perstNAssert
  /-- HOT_RESET (R824). A hot reset acts as PERST_N. -/
  | hotReset
  /-- FUNCTION_LEVEL_RESET (R824). An FLR acts as PERST_N but keeps the link up. -/
  | functionLevelReset
  /-- HOST_APERTURE_REQUEST (R833). A request to the host memory aperture becomes PCI Express memory requests. -/
  | hostApertureRequest (r : NocRequest) (write : Option (List Byte)) (posted : Bool)
  /-- HOST_COMPLETION_TIMEOUT (R833). No host completion within 32 µs gives TIMEOUT. -/
  | hostCompletionTimeout (p : NocResponse)
  /-- HP_DMA_PROD_WRITE (R834). Writing HP_DMA_PROD makes a channel fetch and perform descriptors. -/
  | hpDmaProdWrite (c : Fin 8) (v : BitVec 16)
  /-- HP_DMA_CTRL_ENABLE (R836). Writing EN starts or restarts a DMA channel at CONS. -/
  | hpDmaCtrlEnable (c : Fin 8) (v : BitVec 32)
  /-- DMA_DESCRIPTOR_COMPLETE (R835). A descriptor's data has landed; STATUS is written back and CONS advances. -/
  | dmaDescriptorComplete (c : Fin 8) (d : DmaDescriptor) (fromHost : HostCompletion) (remote : List (BitVec 4 × List Byte))
  /-- MSIX_UNMASK (R839). An unmasked vector with its PBA bit set sends one message. -/
  | msixUnmask (v : Fin 64)
  /-- EV_ROUTE_SET (R852). 0x0E04: Sets event routes. -/
  | evRouteSet (mb : Fin 16) (req : Request)
  /-- EV_ROUTE_GET (R852). 0x0E05: Returns event routes. -/
  | evRouteGet (mb : Fin 16) (req : Request)
  /-- EV_SNAPSHOT (R852). 0x0E06: Returns event bits and counts, clearing them with CLEAR. -/
  | evSnapshot (mb : Fin 16) (req : Request)
  /-- MSPI_READ_FRAME (R840). A management SPI READ frame returns control-space words. -/
  | mspiReadFrame (addr : BitVec 24) (words : BitVec 16)
  /-- MSPI_WRITE_FRAME (R840). A management SPI WRITE frame writes permitted control-space words. -/
  | mspiWriteFrame (addr : BitVec 24) (words : List (BitVec 32))
  /-- MSPI_STATUS_FRAME (R841). A management SPI STATUS frame returns the status byte. -/
  | mspiStatusFrame (n : BitVec 8)
  /-- MSPI_UNKNOWN_FRAME (R840). A frame with an unknown first byte is ignored. -/
  | mspiUnknownFrame (first : Byte)
  /-- JTAG_IDCODE (R843). IDCODE selects the identification register. -/
  | jtagIdcode
  /-- JTAG_SAMPLE_PRELOAD (R843). SAMPLE/PRELOAD samples or preloads the boundary register. -/
  | jtagSamplePreload (cells : List Bool)
  /-- JTAG_EXTEST (R844). EXTEST drives the balls from the boundary register. -/
  | jtagExtest
  /-- JTAG_CLAMP (R844). CLAMP holds the boundary outputs with BYPASS selected. -/
  | jtagClamp
  /-- JTAG_HIGHZ (R844). HIGHZ puts the boundary outputs at high impedance. -/
  | jtagHighz
  /-- JTAG_BYPASS (R843). BYPASS selects the one-bit bypass register. -/
  | jtagBypass
  /-- PUNTY_SESSION_BEGIN (R846). Loading PUNTY with DEBUG_OPEN set begins a debug session. -/
  | puntySessionBegin
  /-- PUNTY_ACCESS (R845). An Update-DR starts a punty control-space access. -/
  | puntyAccess (dr : BitVec 64)
  /-- TEST_LOGIC_RESET (R846). Test-Logic-Reset, or TRST_N, ends a debug session and resets MB9. -/
  | testLogicReset
  /-- DEBUG_OPEN_TIMEOUT (R846). In OWNED, no session 60 s after DEBUG_OPEN was set clears it. -/
  | debugOpenTimeout
  /-- SNAPSHOT_READ (R17). A read of a LO register snapshots its HI partner for the access path. -/
  | snapshotRead (off : BitVec 24) (who : Requester)
  /-- REGISTER_WRITE (R18). A write to a register without a row of its own acts by its access class. -/
  | registerWrite (off : BitVec 24) (v : BitVec 32) (who : Requester)
  /-- FW_FAULT_RESTART (R56). Firmware that detects an internal inconsistency starts a warm restart with cause FW_FAULT. -/
  | fwFaultRestart
  /-- PROG_N_RELEASE (R180). PROG_N returns high with POR_N high and the furnace qualified, and the device leaves POWER-ON for BOOT. -/
  | progNRelease
  /-- PERST_N_RELEASE (R823). PERST_N rises and the host port becomes ready to train within 20 ms. -/
  | perstNRelease
  /-- PCIE_LINK_STATE_CHANGE (R825). The host link enters or leaves DL_Active, setting DOWN_SEEN and holding or releasing DMA, aperture requests and MSI-X. -/
  | pcieLinkStateChange (active : Bool) (speed : Fin 5) (width : Fin 9)
  /-- PCIE_CONFIG_WRITE (R825). Host software changes Bus Master Enable, the power state or MSI-X Enable in configuration space. -/
  | pcieConfigWrite (busMaster d3hot msixEnable functionMask : Bool)
  /-- HOST_COMPLETION_ARRIVAL (R833). A PCI Express completion for a host memory aperture request arrives and decides the NoC response. -/
  | hostCompletionArrival (p : NocResponse) (outcome : HostCompletion)
  /-- QUAD_PLL_UNLOCK (R636). A quad or seam-port PLL loses lock and sets PLL_UNLOCK_SEEN. -/
  | quadPllUnlock (q : Fin 28)
  /-- PLL_LOSS_OF_LOCK (R738). A base PLL or an FPLL loses lock, setting UNLOCK_SEEN and raising EV_PLL_UNLOCK. -/
  | pllLossOfLock (pll : Fin 11)
  /-- INIT_N_HIGH (R676). The shared INIT_N ball is released high and an XSPI device begins reading and sending the configuration image. -/
  | initNHigh
  /-- LANE_CODE_ERROR (R615). A decoded character carries a disparity error or code violation, which is counted, flagged and pulses lane condition 2. -/
  | laneCodeError (lane : Fin 120) (viol : Bool)
  /-- PRBS_BIT_ERROR (R625). The PRBS checker in sync finds a mismatching bit, counts it and sets PRBS_ERR_SEEN. -/
  | prbsBitError (lane : Fin 120) (compared : BitVec 32)
  deriving DecidableEq, Repr

end Sys2Proof
end

