-- ==== Sys2Proof/Decode.lean ====
section
/-!
DEFINITION. Decode.lean: the command that a word spells. No row of spec/opcode_table.json gives bits (its `fields` are
empty): the block's commands arrive as messages, accesses and events, not as words; so no word spells one.
-/

namespace Sys2Proof

/-- The command that a word spells: no row gives bits, so none. -/
def decodeTableWord (_nbits _w : Nat) : Option Instr := none

end Sys2Proof
end

