-- ==== Sys2Proof/Nets.lean ====
section
/-!
DEFINITION. Nets.lean: what a configuration plane says of the cells, wires, risers, seam ports and user I/O of a region, as plain
data (R333-R340, R348, R370, R374). Where a plane's frames hold each of these is not given (log entry 92).
-/

namespace Sys2Proof

/-- A side of a region, and the direction of a wire; N is towards larger y (log entry 92). -/
inductive Side | n | e | s | w
  deriving DecidableEq, Repr, Inhabited

/-- R337: the horizontal wires. -/
inductive WireKind | single | quad | long
  deriving DecidableEq, Repr, Inhabited

/-- R337: the wires of a kind that a tile has in each direction. -/
def WireKind.count : WireKind → Nat
  | .single => 32
  | .quad => 16
  | .long => 4

/-- The outputs of a cell: F and H of its table, its flip-flops A and B (R333, R335). -/
inductive CellOut | f | h | a | b
  deriving DecidableEq, Repr, Inhabited

/-- The routing inputs of a cell: I0-I5, the bypass inputs BA and BB, CE and SR (R333, R335). -/
inductive CellPin | i (k : Nat) | ba | bb | ce | sr
  deriving DecidableEq, Repr, Inhabited

/-- R338: what a routing multiplexer of a tile drives: a wire that leaves the tile, an input of cell `c`, a riser's data input, wire
`j` of the seam port of a border that the tile lies on; of a region's tile 0: region clock line 14 or 15, bit `j` and the enable
of I/O `i` of its half-bank, the register of fabric trigger line `l` (R367). -/
inductive Mux
  | wire (k : WireKind) (d : Side) (i : Nat)
  | cell (c : Nat) (p : CellPin)
  | riser (i : Nat)
  | border (d : Side) (j : Nat)
  | clock (l : Nat)
  | ioOut (i j : Nat)
  | ioEnable (i : Nat)
  | trigger (l : Nat)
  deriving DecidableEq, Repr, Inhabited

/-- R333-R347, R367: is there such a multiplexer? -/
def Mux.there : Mux → Bool
  | .wire k _ i => decide (i < k.count)
  | .cell c (.i k) => decide (c < 64) && decide (k < 6)
  | .cell c _ => decide (c < 64)
  | .riser i => decide (i < 32)
  | .border _ j => decide (j < 64)
  | .clock l => l == 14 || l == 15
  | .ioOut i j => decide (i < 12) && decide (j < 4)
  | .ioEnable i => decide (i < 12)
  | .trigger l => decide (l < 8)

/-- A signal that a region's hard ports and hard blocks give its routing: of the lane ports of its quad by lane `i` (R354, R357), an event
line (R368), the input word and the delay tap of an I/O of its half-bank (R374, R376), the mailbox port of U00 (R364), the stream ports of
its Tap Engines (R468); or another one. -/
inductive PortSignal
  | rxValid (i : Nat)
  | rxData (i j : Nat)
  | rxK (i j : Nat)
  | rxErr (i j : Nat)
  | rxWnum (i j : Nat)
  | rxLock (i : Nat)
  | riReady (i : Nat)
  | event (l : Nat)
  | ioIn (i j : Nat)
  | dlyCur (i j : Nat)
  | mbpAck
  | mbpData (j : Nat)
  | mbpErr
  | mbpDone (j : Nat)
  | tinReady (e : Nat)
  | toutValid (e : Nat)
  | toutData (e j : Nat)
  | toutTag (e j : Nat)
  | toutFirst (e : Nat)
  | other (n : Nat)
  deriving DecidableEq, Repr, Inhabited

/-- The hard ports of a region, each clocked on a region clock line that the plane names: the reinsertion port of lane `i` of the quad
(R357), the NoC port (R361), U00's mailbox port (R364), the registers of the trigger lines (R367), a column of Tap Engines (R462), the
stream ports of an engine (R468), fabric port 1-3 of an SRAM cluster (R499). -/
inductive HardPort
  | reinsert (i : Nat)
  | noc
  | mailbox
  | trigger
  | engines (col : Nat)
  | streamIn (e : Nat)
  | streamOut (e : Nat)
  | sram (cluster port : Nat)
  deriving DecidableEq, Repr, Inhabited

/-- Every hard port of a region. -/
def hardPorts : List HardPort :=
  (List.range 4).map .reinsert ++ [.noc, .mailbox, .trigger, .engines 0, .engines 1]
    ++ (List.range 32).map .streamIn ++ (List.range 32).map .streamOut
    ++ [.sram 0 1, .sram 0 2, .sram 0 3, .sram 1 1, .sram 1 2, .sram 1 3]

/-- What a multiplexer can take: a wire that passes the tile, by the tap at which it does (R337), an output of a cell of the tile,
one of the tile's 32 risers (R340), a wire of an inbound seam port, a signal of a hard port. -/
inductive Source
  | wire (k : WireKind) (d : Side) (tap i : Nat)
  | cell (c : Nat) (o : CellOut)
  | riser (upper : Bool) (i : Nat)
  | border (d : Side) (j : Nat)
  | port (p : PortSignal)
  deriving DecidableEq, Repr, Inhabited

/-- R333: the modes of a cell. -/
inductive CellMode | l6 | l5x2 | arith
  deriving DecidableEq, Repr, Inhabited

/-- R335: the D input of a flip-flop. -/
inductive DSelect | f | h | bypass
  deriving DecidableEq, Repr, Inhabited

/-- R335: what SR does. -/
inductive SrMode | none | syncReset | syncSet | asyncReset | asyncSet
  deriving DecidableEq, Repr, Inhabited

/-- A cell's settings in a plane (R333-R335): the mode, the table, which of the tile's two clocks, the D inputs and INIT values of A
and B, what SR does. -/
structure CellSettings where
  mode : CellMode
  table : BitVec 64
  clock : Bool
  dA : DSelect
  dB : DSelect
  sr : SrMode
  initA : Bool
  initB : Bool
  deriving DecidableEq, Repr, Inhabited

/-- R339: the modes of a border. -/
inductive BorderMode | through | seam
  deriving DecidableEq, Repr, Inhabited

/-- R348, R375: park values; HIGHZ is one of user I/O only. -/
inductive Park | hold | zero | one | highz
  deriving DecidableEq, Repr, Inhabited

/-- R374: the modes of an I/O cell. -/
inductive IoMode | bypass | sdr | ddr | ser4
  deriving DecidableEq, Repr, Inhabited

/-- The per-context settings of an I/O cell (R370, R374-R376): its mode, the region clock line of its registers, the FPLL of its
bank's multiplier, its park state, whether the plane drives it, whether its delay line is in the output path. -/
structure IoSettings where
  mode : IoMode
  line : Nat
  fpll : Nat
  park : Park
  driven : Bool
  delayOut : Bool
  deriving DecidableEq, Repr, Inhabited

/-- R374: bits of an I/O cell's register for each fabric clock. -/
def IoMode.width : IoMode → Nat
  | .bypass => 1
  | .sdr => 1
  | .ddr => 2
  | .ser4 => 4

end Sys2Proof
end

