-- ==== Sys2Proof/Config.lean ====
section
/-!
DEFINITION. Config.lean: what the spec leaves to the implementation, as opaque constants. Nothing in Lean can see a
value of them, so a claim holds whatever they are. Each is named in a log entry (entries 1 and 2).
-/

namespace Sys2Proof

/-- FREE VALUE (log entry 1): the n-th value that the spec leaves open (a random nonce, a measured value nothing
fixes, data of a failed unit). `State.free` counts how many have been drawn. -/
opaque Config.freeValue : Nat → Nat

/-- Ralheuth public key k (0-3), in the boot ROM (R762; log entry 2). -/
opaque Config.ralheuthKey : Nat → List Byte

/-- Is a reserved field of region frame k (0-207) set? The layout of a region frame that is not all zero is not given (log entry
44). -/
opaque Config.regionReserved : Nat → List Byte → Bool

/-- The seed of the identity key, in fuses (R762; log entry 2). -/
opaque Config.identitySeed : List Byte

/-- FREE VALUE (log entry 2): what the signer draws for the signature of a message (FIPS 205 leaves it to the signer). -/
opaque Config.signRandom : List Byte → List Byte

/-- The contents of the boot ROM (R780; log entry 2). -/
opaque Config.bootRom : List Byte

/-- The fuse map (R780) as a function of what the model keeps in fuses: its layout is not given (log entry 2). -/
opaque Config.fuseMap : List Nat → List Byte

/-- FREE VALUE (log entry 43): the initial tap of the delay line of a user I/O in a piece's plane (R376, R377): the layout of the
per-context I/O settings in the region frames is not given. Piece handle, position, I/O of the half-bank. -/
opaque Config.initialTap : Nat → Nat → Nat → Nat

/-! ### The layout of a plane's frames, and the routing (log entry 92)

A group of frames is given as (frame index, bytes); a frame that is not listed is all zero. -/

/-- The settings of cell `c` of a tile from the tile's eight cell frames (R383). -/
opaque Config.cellSettings : List (Nat × List Byte) → Nat → CellSettings

/-- The select of a multiplexer from its tile's cell frames; none: unused (R338). -/
opaque Config.muxSelect : List (Nat × List Byte) → Mux → Option Nat

/-- What input `n` of a multiplexer is. -/
opaque Config.muxInput : Mux → Nat → Source

/-- Where the ownership field of riser `i` of tile `t` lies (R341, R383): the edge frame (0-1,199) and the bit in it. -/
opaque Config.riserPlace : Nat → Nat → Nat × Nat

/-- The mode of position `i` of a border from the region's edge frames (R339). -/
opaque Config.borderMode : List (Nat × List Byte) → Side → Nat → BorderMode

/-- The constant CI of the chain that begins in tile `t` at the bottom of a region, from the tile's cell frames (R334). -/
opaque Config.carryConstant : List (Nat × List Byte) → Bool

/-- Which region clock line is tile clock 0 or 1 of tile `t`, from the region's edge frames (R337). -/
opaque Config.tileClock : List (Nat × List Byte) → Nat → Bool → Nat

/-- The PRIMARY line of a plane from its region frames (R353). -/
opaque Config.primaryLine : List (Nat × List Byte) → Nat

/-- R437: the port map that region frames hold, where the placer has not written it: the interface slot that position `i` of a side is
joined to, and the park value of an outbound one (none: inbound); none: the position is joined to no slot. -/
opaque Config.seamSlot : List (Nat × List Byte) → Side → Nat → Option (Nat × Option Park)

/-- The per-context settings of I/O `i` of the half-bank from the region frames (R370). -/
opaque Config.ioSettings : List (Nat × List Byte) → Nat → IoSettings

/-- The region clock line of a hard port from the region frames; none: the plane does not enable the port (R357, R359, R361, R364, R367,
R462, R468, R499). -/
opaque Config.portLine : List (Nat × List Byte) → HardPort → Option Nat

/-- Which of the 64 border wires a routing wire is, `hops` tiles from its origin (R339). -/
opaque Config.borderWire : WireKind → Side → Nat → Nat → Nat

/-- Does the plane enable the completer side of its region's NoC port (R361, R569), from its region frames? -/
opaque Config.completerEnabled : List (Nat × List Byte) → Bool

/-- FREE VALUE (log entry 102): the four check symbols of a flit over its data and control bytes (R571). -/
opaque Config.flitCheck : BitVec 640 → BitVec 32

/-- FREE VALUE (log entry 104): the bytes of a message between gaffers: a trigger (0), the start message (1), KEY_SWITCH (2), and its
value. -/
opaque Config.arrayMessage : Nat → Nat → List Byte

/-- FREE VALUE (log entry 92): the phase of a clock against the pip clock, in 1/64 pips: 0-7 the FPLLs, 8 + lane word clocks. -/
opaque Config.clockPhase : Nat → Nat

/-- FREE VALUE (log entry 99): the phase of the symbol boundaries of a lane's transmitter at a rate in kbit/s, in 1/64 pips over the
rate. -/
opaque Config.symbolPhase : Nat → Nat → Nat

/-- FREE VALUE (log entry 92): does I/O clock input `io` rise in the pip? -/
opaque Config.ioRises : Nat → Nat → Bool

/-- FREE VALUE (log entry 92): the bits that I/O `io` samples at its ball in the pip. -/
opaque Config.ioSampled : Nat → Nat → Nat

/-- FREE VALUE (log entry 92): which bit of the word of I/O `io` stands at its ball in the pip (R374). -/
opaque Config.ioBit : Nat → Nat → Nat

/-- FREE VALUE (log entry 92): signal `n` of another hard port of a region in the pip. -/
opaque Config.portSignal : Nat → Nat → Nat → Bool

/-- FREE VALUE (log entry 92): what a combinational loop settles at, in the pip. -/
opaque Config.loopSignal : Nat → Bool

end Sys2Proof
end

