-- ==== Sys2Proof/Machine/Regs.lean ====
section
/-!
DEFINITION. Machine/Regs.lean: the names of the control-space registers and of their fields, as the register
tables of spec/ give them (R56, R59, R60, R166, R195, R246, R248, R291, R292, R325, R326, R418-R420, R456,
R492, R493, R523-R526, R558-R560, R600-R603, R635, R636, R668, R669, R696, R735, R737, R759, R798, R819, R851,
R856, R857). A register is its control-space offset (R13: block offset plus register offset); a register of a
repeated set takes the instance numbers as arguments. A field is a register with its lowest bit and its width.
-/

namespace Sys2Proof.Machine

/-- A register field: the control-space offset of its register, its lowest bit, its width in bits. -/
structure RF where
  off : Nat
  lo : Nat
  w : Nat
  deriving DecidableEq, Repr

namespace R

def ID_DEVICE : Nat := 0x000000
def ID_DEVICE_CODE : RF := ⟨ID_DEVICE, 0, 32⟩
def ID_VARIANT : Nat := 0x000004
def ID_VARIANT_LANES : RF := ⟨ID_VARIANT, 0, 8⟩
def ID_VARIANT_SPEED : RF := ⟨ID_VARIANT, 8, 4⟩
def ID_VARIANT_TEMP : RF := ⟨ID_VARIANT, 12, 4⟩
def ID_VARIANT_STEPPING : RF := ⟨ID_VARIANT, 16, 8⟩
def ID_SERIAL_LO : Nat := 0x000008
def ID_SERIAL_LO_SERIAL : RF := ⟨ID_SERIAL_LO, 0, 32⟩
def ID_SERIAL_HI : Nat := 0x00000C
def ID_SERIAL_HI_SERIAL : RF := ⟨ID_SERIAL_HI, 0, 32⟩
def ID_FW_VERSION : Nat := 0x000010
def ID_FW_VERSION_VERSION : RF := ⟨ID_FW_VERSION, 0, 32⟩
def ID_ROM_VERSION : Nat := 0x000014
def ID_ROM_VERSION_VERSION : RF := ⟨ID_ROM_VERSION, 0, 32⟩
def ID_SECURITY_VERSION : Nat := 0x000018
def ID_SECURITY_VERSION_SVN : RF := ⟨ID_SECURITY_VERSION, 0, 7⟩
def GAF_STATUS : Nat := 0x000028
def GAF_STATUS_READY : RF := ⟨GAF_STATUS, 0, 1⟩
def GAF_STATUS_LOCKSTEP_OK : RF := ⟨GAF_STATUS, 1, 1⟩
def GAF_STATUS_CLK_SRC : RF := ⟨GAF_STATUS, 2, 1⟩
def GAF_STATUS_WARM : RF := ⟨GAF_STATUS, 3, 1⟩
def GAF_STATUS_LONG_OPS : RF := ⟨GAF_STATUS, 8, 8⟩
def GAF_HEARTBEAT : Nat := 0x00002C
def GAF_HEARTBEAT_COUNT : RF := ⟨GAF_HEARTBEAT, 0, 32⟩
def GAF_RESTART_CAUSE : Nat := 0x000030
def GAF_RESTART_CAUSE_POR : RF := ⟨GAF_RESTART_CAUSE, 0, 1⟩
def GAF_RESTART_CAUSE_PROG : RF := ⟨GAF_RESTART_CAUSE, 1, 1⟩
def GAF_RESTART_CAUSE_LOCKSTEP : RF := ⟨GAF_RESTART_CAUSE, 2, 1⟩
def GAF_RESTART_CAUSE_WATCHDOG : RF := ⟨GAF_RESTART_CAUSE, 3, 1⟩
def GAF_RESTART_CAUSE_SRAM_UE : RF := ⟨GAF_RESTART_CAUSE, 4, 1⟩
def GAF_RESTART_CAUSE_FW_FAULT : RF := ⟨GAF_RESTART_CAUSE, 5, 1⟩
def GAF_RESTART_COUNT : Nat := 0x000034
def GAF_RESTART_COUNT_COUNT : RF := ⟨GAF_RESTART_COUNT, 0, 16⟩
def GAF_SCRATCH (i : Nat) : Nat := 0x000038 + 0x4 * i
def GAF_SCRATCH_DATA (i : Nat) : RF := ⟨GAF_SCRATCH i, 0, 32⟩
def GAF_LOAD : Nat := 0x000048
def GAF_LOAD_BUSY_PCT : RF := ⟨GAF_LOAD, 0, 8⟩
def MB_DOORBELL (n : Nat) : Nat := 0x010000 + 0x40 * n
def MB_DOORBELL_RING (n : Nat) : RF := ⟨MB_DOORBELL n, 0, 1⟩
def MB_DOORBELL_CANCEL (n : Nat) : RF := ⟨MB_DOORBELL n, 1, 1⟩
def MB_STATUS (n : Nat) : Nat := 0x010004 + 0x40 * n
def MB_STATUS_STATE (n : Nat) : RF := ⟨MB_STATUS n, 0, 2⟩
def MB_STATUS_RING_LOST (n : Nat) : RF := ⟨MB_STATUS n, 2, 1⟩
def MB_STATUS_ACCESS_DENIED (n : Nat) : RF := ⟨MB_STATUS n, 3, 1⟩
def MB_STATUS_CPL_COUNT (n : Nat) : RF := ⟨MB_STATUS n, 4, 5⟩
def MB_ACK (n : Nat) : Nat := 0x010008 + 0x40 * n
def MB_ACK_ACK (n : Nat) : RF := ⟨MB_ACK n, 0, 1⟩
def MB_CPL (n : Nat) : Nat := 0x01000C + 0x40 * n
def MB_CPL_TAG (n : Nat) : RF := ⟨MB_CPL n, 0, 16⟩
def MB_CPL_STATUS (n : Nat) : RF := ⟨MB_CPL n, 16, 16⟩
def MB_CPL_POP (n : Nat) : Nat := 0x010010 + 0x40 * n
def MB_CPL_POP_POP (n : Nat) : RF := ⟨MB_CPL_POP n, 0, 1⟩
def MB_ACTIVE (n : Nat) : Nat := 0x010014 + 0x40 * n
def MB_ACTIVE_COMMAND (n : Nat) : RF := ⟨MB_ACTIVE n, 0, 16⟩
def MB_ACTIVE_TAG (n : Nat) : RF := ⟨MB_ACTIVE n, 16, 16⟩
def MB_STATS (n : Nat) : Nat := 0x010018 + 0x40 * n
def MB_STATS_REQUESTS (n : Nat) : RF := ⟨MB_STATS n, 0, 16⟩
def MB_STATS_BUSY (n : Nat) : RF := ⟨MB_STATS n, 16, 16⟩
def MB_CONFIG (n : Nat) : Nat := 0x01001C + 0x40 * n
def MB_CONFIG_ENABLED (n : Nat) : RF := ⟨MB_CONFIG n, 0, 1⟩
def TS_CTRL : Nat := 0x030000
def TS_CTRL_SOURCE : RF := ⟨TS_CTRL, 0, 3⟩
def TS_CTRL_PIP_REF : RF := ⟨TS_CTRL, 3, 1⟩
def TS_CTRL_SYNC_EDGE : RF := ⟨TS_CTRL, 4, 1⟩
def TS_CTRL_FLY_EN : RF := ⟨TS_CTRL, 5, 1⟩
def TS_CTRL_RELOCK : RF := ⟨TS_CTRL, 6, 1⟩
def TS_CTRL_MARKER_LANE : RF := ⟨TS_CTRL, 8, 7⟩
def TS_CTRL_MARKER_K : RF := ⟨TS_CTRL, 16, 4⟩
def TS_PERIOD : Nat := 0x030004
def TS_PERIOD_PERIOD : RF := ⟨TS_PERIOD, 0, 32⟩
def TS_PPS_DIV : Nat := 0x030008
def TS_PPS_DIV_DIV : RF := ⟨TS_PPS_DIV, 0, 20⟩
def TS_FLY_WINDOW : Nat := 0x03000C
def TS_FLY_WINDOW_W : RF := ⟨TS_FLY_WINDOW, 0, 16⟩
def TS_MARKER_PAT : Nat := 0x030010
def TS_MARKER_PAT_PAT : RF := ⟨TS_MARKER_PAT, 0, 32⟩
def TS_MARKER_MASK : Nat := 0x030014
def TS_MARKER_MASK_MASK : RF := ⟨TS_MARKER_MASK, 0, 32⟩
def TS_STATUS : Nat := 0x030020
def TS_STATUS_TURN_SYNTH : RF := ⟨TS_STATUS, 0, 1⟩
def TS_STATUS_PIP_LOCK : RF := ⟨TS_STATUS, 1, 1⟩
def TS_STATUS_SRC_REAL : RF := ⟨TS_STATUS, 2, 1⟩
def TS_STATUS_FLY_STATE : RF := ⟨TS_STATUS, 3, 2⟩
def TS_STATUS_SYNTH_SEEN : RF := ⟨TS_STATUS, 8, 1⟩
def TS_STATUS_UNLOCK_SEEN : RF := ⟨TS_STATUS, 9, 1⟩
def TS_TURN_LO : Nat := 0x030024
def TS_TURN_LO_TURN : RF := ⟨TS_TURN_LO, 0, 32⟩
def TS_TURN_HI : Nat := 0x030028
def TS_TURN_HI_TURN : RF := ⟨TS_TURN_HI, 0, 16⟩
def TS_PIP : Nat := 0x03002C
def TS_PIP_PIP : RF := ⟨TS_PIP, 0, 32⟩
def TS_PIP_LIVE : Nat := 0x030030
def TS_PIP_LIVE_PIP : RF := ⟨TS_PIP_LIVE, 0, 32⟩
def TS_LAST_LEN : Nat := 0x030034
def TS_LAST_LEN_LEN : RF := ⟨TS_LAST_LEN, 0, 32⟩
def TS_MEAN_LEN : Nat := 0x030038
def TS_MEAN_LEN_MEAN : RF := ⟨TS_MEAN_LEN, 0, 32⟩
def TS_SRC_LATENCY : Nat := 0x03003C
def TS_SRC_LATENCY_LAT : RF := ⟨TS_SRC_LATENCY, 0, 16⟩
def TS_COUNT_A : Nat := 0x030040
def TS_COUNT_A_EARLY : RF := ⟨TS_COUNT_A, 0, 16⟩
def TS_COUNT_A_SYNTH : RF := ⟨TS_COUNT_A, 16, 16⟩
def TS_COUNT_B : Nat := 0x030044
def TS_COUNT_B_MISS : RF := ⟨TS_COUNT_B, 0, 16⟩
def TS_COUNT_B_STRAY : RF := ⟨TS_COUNT_B, 16, 16⟩
def TS_SCHED_CODE : Nat := 0x030048
def TS_SCHED_CODE_CODE : RF := ⟨TS_SCHED_CODE, 0, 16⟩
def TS_SCHED_CODE_INDEX : RF := ⟨TS_SCHED_CODE, 16, 12⟩
def TS_SCHED_USED : Nat := 0x03004C
def TS_SCHED_USED_USED : RF := ⟨TS_SCHED_USED, 0, 13⟩
def GAF_MODE : Nat := 0x000020
def GAF_MODE_MODE : RF := ⟨GAF_MODE, 0, 4⟩
def GAF_MODE_PREV : RF := ⟨GAF_MODE, 4, 4⟩
def GAF_MODE_CAUSE : RF := ⟨GAF_MODE, 8, 8⟩
def GAF_MODE_STOP_DONE : RF := ⟨GAF_MODE, 16, 1⟩
def GAF_MODE_THR_THERMAL : RF := ⟨GAF_MODE, 17, 1⟩
def GAF_MODE_THR_POWER : RF := ⟨GAF_MODE, 18, 1⟩
def GAF_MODE_CHANGES : RF := ⟨GAF_MODE, 24, 8⟩
def GAF_LIFECYCLE : Nat := 0x000024
def GAF_LIFECYCLE_STATE : RF := ⟨GAF_LIFECYCLE, 0, 3⟩
def GAF_LIFECYCLE_DEBUG_OPEN : RF := ⟨GAF_LIFECYCLE, 3, 1⟩
def GAF_LIFECYCLE_OWNER_LOCK : RF := ⟨GAF_LIFECYCLE, 4, 1⟩
def GAF_LIFECYCLE_CRED_FAILS : RF := ⟨GAF_LIFECYCLE, 8, 2⟩
def GAF_LIFECYCLE_REPROV_LEFT : RF := ⟨GAF_LIFECYCLE, 12, 2⟩
def GAF_YIELD : Nat := 0x00004C
def GAF_YIELD_CODE : RF := ⟨GAF_YIELD, 0, 4⟩
def GAF_YIELD_OVER : RF := ⟨GAF_YIELD, 4, 4⟩
def GAF_YIELD_COUNT : RF := ⟨GAF_YIELD, 16, 16⟩
def GU_CTRL (n : Nat) : Nat := 0x100000 + 0x40 * n
def GU_CTRL_ENABLE (n : Nat) : RF := ⟨GU_CTRL n, 0, 1⟩
def GU_CTRL_FRAMING (n : Nat) : RF := ⟨GU_CTRL n, 1, 3⟩
def GU_CTRL_KEY_SRC (n : Nat) : RF := ⟨GU_CTRL n, 4, 1⟩
def GU_CTRL_CRC_CHK (n : Nat) : RF := ⟨GU_CTRL n, 5, 2⟩
def GU_CTRL_KEEP_DELIM (n : Nat) : RF := ⟨GU_CTRL n, 7, 1⟩
def GU_CTRL_LOSSLESS (n : Nat) : RF := ⟨GU_CTRL n, 8, 1⟩
def GU_CTRL_REGION (n : Nat) : RF := ⟨GU_CTRL n, 16, 6⟩
def GU_START01 (n : Nat) : Nat := 0x100004 + 0x40 * n
def GU_START01_CODE0 (n : Nat) : RF := ⟨GU_START01 n, 0, 9⟩
def GU_START01_EN0 (n : Nat) : RF := ⟨GU_START01 n, 15, 1⟩
def GU_START01_CODE1 (n : Nat) : RF := ⟨GU_START01 n, 16, 9⟩
def GU_START01_EN1 (n : Nat) : RF := ⟨GU_START01 n, 31, 1⟩
def GU_START23 (n : Nat) : Nat := 0x100008 + 0x40 * n
def GU_END01 (n : Nat) : Nat := 0x10000C + 0x40 * n
def GU_END23 (n : Nat) : Nat := 0x100010 + 0x40 * n
def GU_IDLE01 (n : Nat) : Nat := 0x100014 + 0x40 * n
def GU_MAXLEN (n : Nat) : Nat := 0x100018 + 0x40 * n
def GU_MAXLEN_LEN (n : Nat) : RF := ⟨GU_MAXLEN n, 0, 21⟩
def GU_BLOCK (n : Nat) : Nat := 0x10001C + 0x40 * n
def GU_BLOCK_LEN (n : Nat) : RF := ⟨GU_BLOCK n, 0, 15⟩
def GU_LAT (n : Nat) : Nat := 0x100020 + 0x40 * n
def GU_LAT_LAT (n : Nat) : RF := ⟨GU_LAT n, 0, 16⟩
def GU_STATUS (n : Nat) : Nat := 0x100024 + 0x40 * n
def GU_STATUS_DROP_SEEN (n : Nat) : RF := ⟨GU_STATUS n, 0, 1⟩
def GU_STATUS_OVERSIZE (n : Nat) : RF := ⟨GU_STATUS n, 1, 1⟩
def GU_STATUS_CRC_SEEN (n : Nat) : RF := ⟨GU_STATUS n, 2, 1⟩
def GU_STATUS_CODE_SEEN (n : Nat) : RF := ⟨GU_STATUS n, 3, 1⟩
def GU_STATUS_LATE_SEEN (n : Nat) : RF := ⟨GU_STATUS n, 4, 1⟩
def GU_STATUS_BUF_HIGH (n : Nat) : RF := ⟨GU_STATUS n, 5, 1⟩
def GU_STATUS_BUF_LEVEL (n : Nat) : RF := ⟨GU_STATUS n, 8, 8⟩
def GU_STATUS_IN_FRAME (n : Nat) : RF := ⟨GU_STATUS n, 16, 1⟩
def GU_FRAMES_LO (n : Nat) : Nat := 0x100028 + 0x40 * n
def GU_FRAMES_LO_COUNT (n : Nat) : RF := ⟨GU_FRAMES_LO n, 0, 32⟩
def GU_FRAMES_HI (n : Nat) : Nat := 0x10002C + 0x40 * n
def GU_FRAMES_HI_COUNT (n : Nat) : RF := ⟨GU_FRAMES_HI n, 0, 32⟩
def GU_DROPPED (n : Nat) : Nat := 0x100030 + 0x40 * n
def GU_DROPPED_COUNT (n : Nat) : RF := ⟨GU_DROPPED n, 0, 32⟩
def GU_ERRFRAMES (n : Nat) : Nat := 0x100034 + 0x40 * n
def GU_ERRFRAMES_COUNT (n : Nat) : RF := ⟨GU_ERRFRAMES n, 0, 32⟩
def GU_DISCARDED (n : Nat) : Nat := 0x100038 + 0x40 * n
def GU_DISCARDED_COUNT (n : Nat) : RF := ⟨GU_DISCARDED n, 0, 32⟩
def CQ_CFG (q : Nat) : Nat := 0x108000 + 0x40 * q
def CQ_CFG_MODE (q : Nat) : RF := ⟨CQ_CFG q, 0, 2⟩
def CQ_CFG_AUTOSEAL (q : Nat) : RF := ⟨CQ_CFG q, 2, 1⟩
def CQ_CFG_PREFILL (q : Nat) : RF := ⟨CQ_CFG q, 3, 1⟩
def CQ_CFG_TRIG_LINE (q : Nat) : RF := ⟨CQ_CFG q, 8, 8⟩
def CQ_BASE (q : Nat) : Nat := 0x108004 + 0x40 * q
def CQ_BASE_BASE_MIB (q : Nat) : RF := ⟨CQ_BASE q, 0, 16⟩
def CQ_SIZE (q : Nat) : Nat := 0x108008 + 0x40 * q
def CQ_SIZE_SIZE_MIB (q : Nat) : RF := ⟨CQ_SIZE q, 0, 17⟩
def CQ_WINDOW (q : Nat) : Nat := 0x10800C + 0x40 * q
def CQ_WINDOW_PRE_MIB (q : Nat) : RF := ⟨CQ_WINDOW q, 0, 16⟩
def CQ_WINDOW_POST_MIB (q : Nat) : RF := ⟨CQ_WINDOW q, 16, 16⟩
def CQ_RESERVE (q : Nat) : Nat := 0x108010 + 0x40 * q
def CQ_RESERVE_RATE (q : Nat) : RF := ⟨CQ_RESERVE q, 0, 16⟩
def CQ_STATE (q : Nat) : Nat := 0x108014 + 0x40 * q
def CQ_STATE_STATE (q : Nat) : RF := ⟨CQ_STATE q, 0, 3⟩
def CQ_STATE_GATE (q : Nat) : RF := ⟨CQ_STATE q, 3, 1⟩
def CQ_STATE_FULL (q : Nat) : RF := ⟨CQ_STATE q, 4, 1⟩
def CQ_STATE_WRAPPED (q : Nat) : RF := ⟨CQ_STATE q, 5, 1⟩
def CQ_STATE_TRIGGERED (q : Nat) : RF := ⟨CQ_STATE q, 6, 1⟩
def CQ_STATE_INT_ERR (q : Nat) : RF := ⟨CQ_STATE q, 7, 1⟩
def CQ_STATE_STOP_CAUSE (q : Nat) : RF := ⟨CQ_STATE q, 8, 4⟩
def CQ_WPTR (q : Nat) : Nat := 0x108018 + 0x40 * q
def CQ_WPTR_PTR (q : Nat) : RF := ⟨CQ_WPTR q, 0, 31⟩
def CQ_SEQ (q : Nat) : Nat := 0x10801C + 0x40 * q
def CQ_SEQ_SEQ (q : Nat) : RF := ⟨CQ_SEQ q, 0, 32⟩
def CQ_TRIG_PTR (q : Nat) : Nat := 0x108020 + 0x40 * q
def CQ_TRIG_PTR_PTR (q : Nat) : RF := ⟨CQ_TRIG_PTR q, 0, 31⟩
def CQ_TRIG_TS0 (q : Nat) : Nat := 0x108024 + 0x40 * q
def CQ_TRIG_TS0_TS (q : Nat) : RF := ⟨CQ_TRIG_TS0 q, 0, 32⟩
def CQ_TRIG_TS1 (q : Nat) : Nat := 0x108028 + 0x40 * q
def CQ_TRIG_TS1_TS (q : Nat) : RF := ⟨CQ_TRIG_TS1 q, 0, 32⟩
def CQ_TRIG_TS2 (q : Nat) : Nat := 0x10802C + 0x40 * q
def CQ_TRIG_TS2_TS (q : Nat) : RF := ⟨CQ_TRIG_TS2 q, 0, 32⟩
def CQ_RECORDS_LO (q : Nat) : Nat := 0x108030 + 0x40 * q
def CQ_RECORDS_LO_COUNT (q : Nat) : RF := ⟨CQ_RECORDS_LO q, 0, 32⟩
def CQ_RECORDS_HI (q : Nat) : Nat := 0x108034 + 0x40 * q
def CQ_RECORDS_HI_COUNT (q : Nat) : RF := ⟨CQ_RECORDS_HI q, 0, 32⟩
def CQ_DROPPED (q : Nat) : Nat := 0x108038 + 0x40 * q
def CQ_DROPPED_COUNT (q : Nat) : RF := ⟨CQ_DROPPED q, 0, 32⟩
def CQ_REFUSED (q : Nat) : Nat := 0x10803C + 0x40 * q
def CQ_REFUSED_COUNT (q : Nat) : RF := ⟨CQ_REFUSED q, 0, 32⟩
def CL_HASH_SEED : Nat := 0x140000
def CL_HASH_SEED_SEED : RF := ⟨CL_HASH_SEED, 0, 32⟩
def CL_STATUS : Nat := 0x140004
def CL_STATUS_EXACT_USED : RF := ⟨CL_STATUS, 0, 16⟩
def CL_STATUS_TERN_USED : RF := ⟨CL_STATUS, 16, 12⟩
def CL_STATUS_PENDING : RF := ⟨CL_STATUS, 28, 1⟩
def CL_ERRORS : Nat := 0x140008
def CL_ERRORS_TABLE_ERR : RF := ⟨CL_ERRORS, 0, 16⟩
def CL_ERRORS_PIPE_OVER : RF := ⟨CL_ERRORS, 16, 16⟩
def CL_INSERT_FAILS : Nat := 0x14000C
def CL_INSERT_FAILS_COUNT : RF := ⟨CL_INSERT_FAILS, 0, 32⟩
def CL_LANE_PROFILE (i : Nat) : Nat := 0x140040 + 0x4 * i
def CL_LANE_PROFILE_PROF (i : Nat) : RF := ⟨CL_LANE_PROFILE i, 0, 32⟩
def CL_SEL (p i : Nat) : Nat := 0x141000 + 0x100 * p + 0x4 * i
def CL_SEL_OFFSET (p i : Nat) : RF := ⟨CL_SEL p i, 0, 11⟩
def CL_SEL_SOURCE (p i : Nat) : RF := ⟨CL_SEL p i, 11, 3⟩
def CL_SEL_MASK (p i : Nat) : RF := ⟨CL_SEL p i, 16, 8⟩
def CL_MISS_LO (p : Nat) : Nat := 0x1410A0 + 0x100 * p
def CL_MISS_LO_ACTION (p : Nat) : RF := ⟨CL_MISS_LO p, 0, 32⟩
def CL_MISS_HI (p : Nat) : Nat := 0x1410A4 + 0x100 * p
def CL_MISS_HI_ACTION (p : Nat) : RF := ⟨CL_MISS_HI p, 0, 32⟩
def CL_PCTRL (p : Nat) : Nat := 0x1410A8 + 0x100 * p
def CL_PCTRL_BYPASS (p : Nat) : RF := ⟨CL_PCTRL p, 0, 1⟩
def CL_PCTRL_END_DEP (p : Nat) : RF := ⟨CL_PCTRL p, 1, 1⟩
def CL_PCTRL_LAST_OFF (p : Nat) : RF := ⟨CL_PCTRL p, 16, 11⟩
def TG_STATUS : Nat := 0x160000
def TG_STATUS_ARMED : RF := ⟨TG_STATUS, 0, 1⟩
def TG_STATUS_FINAL_SEEN : RF := ⟨TG_STATUS, 1, 1⟩
def TG_STATUS_STATE : RF := ⟨TG_STATUS, 4, 4⟩
def TG_STATUS_LAST_TRANS : RF := ⟨TG_STATUS, 8, 2⟩
def TG_TRANSITIONS : Nat := 0x160004
def TG_TRANSITIONS_COUNT : RF := ⟨TG_TRANSITIONS, 0, 32⟩
def TG_TIN_CFG : Nat := 0x160010
def TG_TIN_CFG_MODE : RF := ⟨TG_TIN_CFG, 0, 16⟩
def TG_TOUT_POL : Nat := 0x160014
def TG_TOUT_POL_POL : RF := ⟨TG_TOUT_POL, 0, 8⟩
def TG_TOUT_WIDTH (i : Nat) : Nat := 0x160020 + 0x4 * i
def TG_TOUT_WIDTH_WIDTH (i : Nat) : RF := ⟨TG_TOUT_WIDTH i, 0, 32⟩
def TG_CNT (c : Nat) : Nat := 0x160040 + 0x10 * c
def TG_CNT_VALUE (c : Nat) : RF := ⟨TG_CNT c, 0, 32⟩
def TG_CNT_LIMIT (c : Nat) : Nat := 0x160044 + 0x10 * c
def TG_CNT_LIMIT_LIMIT (c : Nat) : RF := ⟨TG_CNT_LIMIT c, 0, 32⟩
def TG_CNT_SRC (c : Nat) : Nat := 0x160048 + 0x10 * c
def TG_CNT_SRC_SEL (c : Nat) : RF := ⟨TG_CNT_SRC c, 0, 4⟩
def TG_CNT_SRC_ALL_FIRINGS (c : Nat) : RF := ⟨TG_CNT_SRC c, 6, 1⟩
def TG_CNT_SRC_EN (c : Nat) : RF := ⟨TG_CNT_SRC c, 7, 1⟩
def TG_TMR (t : Nat) : Nat := 0x160080 + 0x8 * t
def TG_TMR_VALUE (t : Nat) : RF := ⟨TG_TMR t, 0, 32⟩
def TG_TMR_LOAD (t : Nat) : Nat := 0x160084 + 0x8 * t
def TG_TMR_LOAD_LOAD (t : Nat) : RF := ⟨TG_TMR_LOAD t, 0, 32⟩
def TG_LANECOND (l : Nat) : Nat := 0x1600A0 + 0x4 * l
def TG_LANECOND_LANE (l : Nat) : RF := ⟨TG_LANECOND l, 0, 7⟩
def TG_LANECOND_COND (l : Nat) : RF := ⟨TG_LANECOND l, 8, 2⟩
def TG_LANECOND_EN (l : Nat) : RF := ⟨TG_LANECOND l, 15, 1⟩
def TG_CTXREQ (r : Nat) : Nat := 0x1600C0 + 0x4 * r
def TG_CTXREQ_GROUP (r : Nat) : RF := ⟨TG_CTXREQ r, 0, 6⟩
def TG_CTXREQ_PLANE (r : Nat) : RF := ⟨TG_CTXREQ r, 8, 3⟩
def TG_CTXREQ_EN (r : Nat) : RF := ⟨TG_CTXREQ r, 15, 1⟩
def TG_TERM_MASK_LO (t : Nat) : Nat := 0x160100 + 0x10 * t
def TG_TERM_MASK_LO_MASK (t : Nat) : RF := ⟨TG_TERM_MASK_LO t, 0, 32⟩
def TG_TERM_MASK_HI (t : Nat) : Nat := 0x160104 + 0x10 * t
def TG_TERM_MASK_HI_MASK (t : Nat) : RF := ⟨TG_TERM_MASK_HI t, 0, 32⟩
def TG_TERM_CTRL (t : Nat) : Nat := 0x160108 + 0x10 * t
def TG_TERM_CTRL_OP (t : Nat) : RF := ⟨TG_TERM_CTRL t, 0, 1⟩
def TG_TERM_CTRL_INV (t : Nat) : RF := ⟨TG_TERM_CTRL t, 1, 1⟩
def TG_TR_COND (s j : Nat) : Nat := 0x160200 + 0x40 * s + 0x10 * j
def TG_TR_OUT (s j : Nat) : Nat := 0x160204 + 0x40 * s + 0x10 * j
def TG_TR_OPS (s j : Nat) : Nat := 0x160208 + 0x40 * s + 0x10 * j
def RP_CFG (e : Nat) : Nat := 0x180000 + 0x80 * e
def RP_CFG_LATE_POLICY (e : Nat) : RF := ⟨RP_CFG e, 0, 2⟩
def RP_CFG_SUB_MODE (e : Nat) : RF := ⟨RP_CFG e, 2, 1⟩
def RP_CFG_START_LINE (e : Nat) : RF := ⟨RP_CFG e, 4, 3⟩
def RP_CFG_START_LINE_EN (e : Nat) : RF := ⟨RP_CFG e, 7, 1⟩
def RP_CFG_IDLE_MIN (e : Nat) : RF := ⟨RP_CFG e, 8, 8⟩
def RP_CFG_IDLE (e : Nat) : RF := ⟨RP_CFG e, 16, 9⟩
def RP_RAW_IDLE (e : Nat) : Nat := 0x180004 + 0x80 * e
def RP_RAW_IDLE_WORD (e : Nat) : RF := ⟨RP_RAW_IDLE e, 0, 32⟩
def RP_BASE (e : Nat) : Nat := 0x180008 + 0x80 * e
def RP_BASE_BASE (e : Nat) : RF := ⟨RP_BASE e, 0, 31⟩
def RP_LENGTH (e : Nat) : Nat := 0x18000C + 0x80 * e
def RP_LENGTH_LEN (e : Nat) : RF := ⟨RP_LENGTH e, 0, 31⟩
def RP_RESERVE (e : Nat) : Nat := 0x180010 + 0x80 * e
def RP_RESERVE_RATE (e : Nat) : RF := ⟨RP_RESERVE e, 0, 16⟩
def RP_LANE (e i : Nat) : Nat := 0x180014 + 0x80 * e + 0x4 * i
def RP_LANE_MASK (e i : Nat) : RF := ⟨RP_LANE e i, 0, 32⟩
def RP_STATE (e : Nat) : Nat := 0x180020 + 0x80 * e
def RP_STATE_STATE (e : Nat) : RF := ⟨RP_STATE e, 0, 2⟩
def RP_STATE_PRIMED (e : Nat) : RF := ⟨RP_STATE e, 2, 1⟩
def RP_STATE_DEPTH (e : Nat) : RF := ⟨RP_STATE e, 3, 2⟩
def RP_STATE_STOP_CAUSE (e : Nat) : RF := ⟨RP_STATE e, 8, 4⟩
def RP_STATE_LATE_SEEN (e : Nat) : RF := ⟨RP_STATE e, 16, 1⟩
def RP_STATE_SKIP_SEEN (e : Nat) : RF := ⟨RP_STATE e, 17, 1⟩
def RP_STATE_START_IGNORED (e : Nat) : RF := ⟨RP_STATE e, 18, 1⟩
def RP_STATE_UPD_SKIP (e : Nat) : RF := ⟨RP_STATE e, 19, 1⟩
def RP_STATE_SUB_TRUNC (e : Nat) : RF := ⟨RP_STATE e, 20, 1⟩
def RP_PTR (e : Nat) : Nat := 0x180024 + 0x80 * e
def RP_PTR_PTR (e : Nat) : RF := ⟨RP_PTR e, 0, 31⟩
def RP_LAST_SEQ (e : Nat) : Nat := 0x180028 + 0x80 * e
def RP_LAST_SEQ_SEQ (e : Nat) : RF := ⟨RP_LAST_SEQ e, 0, 32⟩
def RP_LAUNCHED_LO (e : Nat) : Nat := 0x18002C + 0x80 * e
def RP_LAUNCHED_LO_COUNT (e : Nat) : RF := ⟨RP_LAUNCHED_LO e, 0, 32⟩
def RP_LAUNCHED_HI (e : Nat) : Nat := 0x180030 + 0x80 * e
def RP_LAUNCHED_HI_COUNT (e : Nat) : RF := ⟨RP_LAUNCHED_HI e, 0, 32⟩
def RP_LATE (e : Nat) : Nat := 0x180034 + 0x80 * e
def RP_LATE_COUNT (e : Nat) : RF := ⟨RP_LATE e, 0, 32⟩
def RP_SKIPPED (e : Nat) : Nat := 0x180038 + 0x80 * e
def RP_SKIPPED_COUNT (e : Nat) : RF := ⟨RP_SKIPPED e, 0, 32⟩
def RP_MAX_LATE (e : Nat) : Nat := 0x18003C + 0x80 * e
def RP_MAX_LATE_PIPS (e : Nat) : RF := ⟨RP_MAX_LATE e, 0, 32⟩
def RP_UPD_CTRL (e u : Nat) : Nat := 0x180040 + 0x80 * e + 0x8 * u
def RP_UPD_CTRL_TYPE (e u : Nat) : RF := ⟨RP_UPD_CTRL e u, 0, 2⟩
def RP_UPD_CTRL_ENDIAN (e u : Nat) : RF := ⟨RP_UPD_CTRL e u, 2, 1⟩
def RP_UPD_CTRL_FROM_END (e u : Nat) : RF := ⟨RP_UPD_CTRL e u, 3, 1⟩
def RP_UPD_CTRL_WIDTH (e u : Nat) : RF := ⟨RP_UPD_CTRL e u, 4, 3⟩
def RP_UPD_CTRL_OFFSET (e u : Nat) : RF := ⟨RP_UPD_CTRL e u, 8, 14⟩
def RP_UPD_CTRL_STEP (e u : Nat) : RF := ⟨RP_UPD_CTRL e u, 24, 8⟩
def RP_UPD_ARG (e u : Nat) : Nat := 0x180044 + 0x80 * e + 0x8 * u
def RP_UPD_ARG_ARG (e u : Nat) : RF := ⟨RP_UPD_ARG e u, 0, 32⟩
def RP_PT_CTRL (n : Nat) : Nat := 0x182000 + 0x8 * n
def RP_PT_CTRL_EN (n : Nat) : RF := ⟨RP_PT_CTRL n, 0, 1⟩
def RP_PT_CTRL_SUB_EN (n : Nat) : RF := ⟨RP_PT_CTRL n, 1, 1⟩
def RP_PT_CTRL_SUB_ENGINE (n : Nat) : RF := ⟨RP_PT_CTRL n, 2, 5⟩
def RP_PT_STATUS (n : Nat) : Nat := 0x182004 + 0x8 * n
def RP_PT_STATUS_LAT (n : Nat) : RF := ⟨RP_PT_STATUS n, 0, 16⟩
def RP_PT_STATUS_BREAK_SEEN (n : Nat) : RF := ⟨RP_PT_STATUS n, 16, 1⟩
def RP_PT_STATUS_DISP_FIX_SEEN (n : Nat) : RF := ⟨RP_PT_STATUS n, 17, 1⟩
def CF_CTX_STATE (r : Nat) : Nat := 0x3C4000 + 0x20 * r
def CF_CTX_STATE_ACTIVE (r : Nat) : RF := ⟨CF_CTX_STATE r, 0, 3⟩
def CF_CTX_STATE_STATE (r : Nat) : RF := ⟨CF_CTX_STATE r, 4, 3⟩
def CF_CTX_STATE_PEND_PLANE (r : Nat) : RF := ⟨CF_CTX_STATE r, 8, 3⟩
def CF_CTX_STATE_PEND (r : Nat) : RF := ⟨CF_CTX_STATE r, 11, 1⟩
def CF_CTX_STATE_GROUP (r : Nat) : RF := ⟨CF_CTX_STATE r, 16, 7⟩
def CF_CTX_PLANES (r : Nat) : Nat := 0x3C4004 + 0x20 * r
def CF_CTX_PLANES_VALID (r : Nat) : RF := ⟨CF_CTX_PLANES r, 0, 8⟩
def CF_CTX_PLANES_LOADING (r : Nat) : RF := ⟨CF_CTX_PLANES r, 8, 8⟩
def CF_CTX_PLANES_INVALID (r : Nat) : RF := ⟨CF_CTX_PLANES r, 16, 8⟩
def CF_CTX_PLANES_ENTRY_INIT (r : Nat) : RF := ⟨CF_CTX_PLANES r, 24, 8⟩
def CF_CTX_SWITCHES (r : Nat) : Nat := 0x3C4008 + 0x20 * r
def CF_CTX_SWITCHES_COUNT (r : Nat) : RF := ⟨CF_CTX_SWITCHES r, 0, 32⟩
def CF_CTX_REFUSED (r : Nat) : Nat := 0x3C400C + 0x20 * r
def CF_CTX_REFUSED_REFUSED (r : Nat) : RF := ⟨CF_CTX_REFUSED r, 0, 16⟩
def CF_CTX_REFUSED_RELOADS (r : Nat) : RF := ⟨CF_CTX_REFUSED r, 16, 16⟩
def CF_CTX_LAST_TURN (r : Nat) : Nat := 0x3C4010 + 0x20 * r
def CF_CTX_LAST_TURN_TURN (r : Nat) : RF := ⟨CF_CTX_LAST_TURN r, 0, 32⟩
def CF_CTX_LAST_PIP (r : Nat) : Nat := 0x3C4014 + 0x20 * r
def CF_CTX_LAST_PIP_PIP (r : Nat) : RF := ⟨CF_CTX_LAST_PIP r, 0, 32⟩
def CF_CTX_GROUP_LO (g : Nat) : Nat := 0x3C4800 + 0x8 * g
def CF_CTX_GROUP_LO_MEMBERS (g : Nat) : RF := ⟨CF_CTX_GROUP_LO g, 0, 32⟩
def CF_CTX_GROUP_HI (g : Nat) : Nat := 0x3C4804 + 0x8 * g
def CF_CTX_GROUP_HI_MEMBERS (g : Nat) : RF := ⟨CF_CTX_GROUP_HI g, 0, 16⟩
def CF_CTX_GROUP_HI_OWNER (g : Nat) : RF := ⟨CF_CTX_GROUP_HI g, 16, 8⟩
def CF_CTX_GROUP_HI_DEFINED (g : Nat) : RF := ⟨CF_CTX_GROUP_HI g, 31, 1⟩
def CF_LOAD_STATUS : Nat := 0x3C4C00
def CF_LOAD_STATUS_BUSY : RF := ⟨CF_LOAD_STATUS, 0, 1⟩
def CF_LOAD_STATUS_REGION : RF := ⟨CF_LOAD_STATUS, 1, 6⟩
def CF_LOAD_STATUS_PLANE : RF := ⟨CF_LOAD_STATUS, 7, 3⟩
def CF_LOAD_STATUS_QUEUED : RF := ⟨CF_LOAD_STATUS, 10, 6⟩
def CF_LOAD_STATUS_FRAMES_LEFT : RF := ⟨CF_LOAD_STATUS, 16, 16⟩
def CF_SCRUB_STATUS : Nat := 0x3C4C04
def CF_SCRUB_STATUS_PASSES : RF := ⟨CF_SCRUB_STATUS, 0, 16⟩
def CF_SCRUB_STATUS_CORR_SEEN : RF := ⟨CF_SCRUB_STATUS, 16, 1⟩
def CF_SCRUB_STATUS_UNCORR_SEEN : RF := ⟨CF_SCRUB_STATUS, 17, 1⟩
def CF_SCRUB_STATUS_RISER_SEEN : RF := ⟨CF_SCRUB_STATUS, 18, 1⟩
def CF_SCRUB_CORRECTED : Nat := 0x3C4C08
def CF_SCRUB_CORRECTED_COUNT : RF := ⟨CF_SCRUB_CORRECTED, 0, 32⟩
def CF_SCRUB_UNCORR : Nat := 0x3C4C0C
def CF_SCRUB_UNCORR_COUNT : RF := ⟨CF_SCRUB_UNCORR, 0, 32⟩
def CF_SCRUB_LAST : Nat := 0x3C4C10
def CF_SCRUB_LAST_REGION : RF := ⟨CF_SCRUB_LAST, 0, 6⟩
def CF_SCRUB_LAST_PLANE : RF := ⟨CF_SCRUB_LAST, 6, 3⟩
def CF_SCRUB_LAST_FRAME : RF := ⟨CF_SCRUB_LAST, 9, 14⟩
def CF_SCRUB_LAST_UNCORR : RF := ⟨CF_SCRUB_LAST, 23, 1⟩
def CF_SCRUB_PERIOD : Nat := 0x3C4C14
def CF_SCRUB_PERIOD_US : RF := ⟨CF_SCRUB_PERIOD, 0, 32⟩
def CF_PLC_STATUS : Nat := 0x3C5000
def CF_PLC_STATUS_PLACED : RF := ⟨CF_PLC_STATUS, 0, 9⟩
def CF_PLC_STATUS_PIECES : RF := ⟨CF_PLC_STATUS, 16, 9⟩
def CF_LIB_USED : Nat := 0x3C5004
def CF_LIB_USED_MIB : RF := ⟨CF_LIB_USED, 0, 32⟩
def CF_PLC_TEST_LO : Nat := 0x3C5008
def CF_PLC_TEST_LO_REGIONS : RF := ⟨CF_PLC_TEST_LO, 0, 32⟩
def CF_PLC_TEST_HI : Nat := 0x3C500C
def CF_PLC_TEST_HI_REGIONS : RF := ⟨CF_PLC_TEST_HI, 0, 16⟩
def TE_STATUS (e : Nat) : Nat := 0x300000 + 0x40 * e
def TE_STATUS_STATE (e : Nat) : RF := ⟨TE_STATUS e, 0, 3⟩
def TE_STATUS_ACC_OVF (e : Nat) : RF := ⟨TE_STATUS e, 4, 4⟩
def TE_STATUS_MOV_SAT (e : Nat) : RF := ⟨TE_STATUS e, 8, 1⟩
def TE_STATUS_CMP (e : Nat) : RF := ⟨TE_STATUS e, 9, 1⟩
def TE_STATUS_AUTO (e : Nat) : RF := ⟨TE_STATUS e, 10, 1⟩
def TE_STATUS_S (e : Nat) : RF := ⟨TE_STATUS e, 11, 5⟩
def TE_STATUS_PC (e : Nat) : RF := ⟨TE_STATUS e, 16, 8⟩
def TE_STATUS_PAGE (e : Nat) : RF := ⟨TE_STATUS e, 24, 3⟩
def TE_STATUS_DEPTH (e : Nat) : RF := ⟨TE_STATUS e, 27, 2⟩
def TE_FAULT (e : Nat) : Nat := 0x300004 + 0x40 * e
def TE_FAULT_PC (e : Nat) : RF := ⟨TE_FAULT e, 0, 8⟩
def TE_FAULT_CAUSE (e : Nat) : RF := ⟨TE_FAULT e, 8, 4⟩
def TE_CTRL (e : Nat) : Nat := 0x300008 + 0x40 * e
def TE_CTRL_RESTART (e : Nat) : RF := ⟨TE_CTRL e, 0, 1⟩
def TE_CTRL_STOP (e : Nat) : RF := ⟨TE_CTRL e, 1, 1⟩
def TE_ISSUED (e : Nat) : Nat := 0x30000C + 0x40 * e
def TE_ISSUED_COUNT (e : Nat) : RF := ⟨TE_ISSUED e, 0, 32⟩
def TE_STALLS (e : Nat) : Nat := 0x300010 + 0x40 * e
def TE_STALLS_COUNT (e : Nat) : RF := ⟨TE_STALLS e, 0, 32⟩
def TE_RAMADDR (e : Nat) : Nat := 0x300014 + 0x40 * e
def TE_RAMADDR_INDEX (e : Nat) : RF := ⟨TE_RAMADDR e, 0, 9⟩
def TE_RAMADDR_RAM (e : Nat) : RF := ⟨TE_RAMADDR e, 9, 1⟩
def TE_RAMADDR_AUTOINC (e : Nat) : RF := ⟨TE_RAMADDR e, 31, 1⟩
def TE_RAMDATA (e : Nat) : Nat := 0x300018 + 0x40 * e
def TE_RAMDATA_DATA (e : Nat) : RF := ⟨TE_RAMDATA e, 0, 32⟩
def TE_NIN_BASE (e : Nat) : Nat := 0x300020 + 0x40 * e
def TE_NIN_BASE_BASE (e : Nat) : RF := ⟨TE_NIN_BASE e, 0, 28⟩
def TE_NIN_CTRL (e : Nat) : Nat := 0x300024 + 0x40 * e
def TE_NIN_CTRL_LOG2SIZE (e : Nat) : RF := ⟨TE_NIN_CTRL e, 0, 4⟩
def TE_NIN_CTRL_EN (e : Nat) : RF := ⟨TE_NIN_CTRL e, 31, 1⟩
def TE_NIN_PROD (e : Nat) : Nat := 0x300028 + 0x40 * e
def TE_NIN_PROD_INDEX (e : Nat) : RF := ⟨TE_NIN_PROD e, 0, 16⟩
def TE_NIN_CONS (e : Nat) : Nat := 0x30002C + 0x40 * e
def TE_NIN_CONS_INDEX (e : Nat) : RF := ⟨TE_NIN_CONS e, 0, 16⟩
def TE_NOUT_BASE (e : Nat) : Nat := 0x300030 + 0x40 * e
def TE_NOUT_CTRL (e : Nat) : Nat := 0x300034 + 0x40 * e
def TE_NOUT_PROD (e : Nat) : Nat := 0x300038 + 0x40 * e
def TE_NOUT_PROD_INDEX (e : Nat) : RF := ⟨TE_NOUT_PROD e, 0, 16⟩
def TE_NOUT_CONS (e : Nat) : Nat := 0x30003C + 0x40 * e
def TE_NOUT_CONS_INDEX (e : Nat) : RF := ⟨TE_NOUT_CONS e, 0, 16⟩
def TE_EVQ_HEAD : Nat := 0x370000
def TE_EVQ_HEAD_ENGINE : RF := ⟨TE_EVQ_HEAD, 0, 11⟩
def TE_EVQ_HEAD_PC : RF := ⟨TE_EVQ_HEAD, 11, 8⟩
def TE_EVQ_HEAD_PAGE : RF := ⟨TE_EVQ_HEAD, 19, 3⟩
def TE_EVQ_HEAD_KIND : RF := ⟨TE_EVQ_HEAD, 22, 2⟩
def TE_EVQ_HEAD_OVERRUN : RF := ⟨TE_EVQ_HEAD, 30, 1⟩
def TE_EVQ_HEAD_VALID : RF := ⟨TE_EVQ_HEAD, 31, 1⟩
def TE_EVQ_POP : Nat := 0x370004
def TE_EVQ_POP_POP : RF := ⟨TE_EVQ_POP, 0, 1⟩
def TE_EVQ_COUNT : Nat := 0x370008
def TE_EVQ_COUNT_COUNT : RF := ⟨TE_EVQ_COUNT, 0, 7⟩
def SB_OWNER (b : Nat) : Nat := 0x280000 + 0x10 * b
def SB_OWNER_OWNER (b : Nat) : RF := ⟨SB_OWNER b, 0, 8⟩
def SB_OWNER_PENDING (b : Nat) : RF := ⟨SB_OWNER b, 8, 1⟩
def SB_CFG (b : Nat) : Nat := 0x280004 + 0x10 * b
def SB_CFG_ILV (b : Nat) : RF := ⟨SB_CFG b, 0, 3⟩
def SB_ERR (b : Nat) : Nat := 0x280008 + 0x10 * b
def SB_ERR_CORR (b : Nat) : RF := ⟨SB_ERR b, 0, 16⟩
def SB_ERR_UNCORR (b : Nat) : RF := ⟨SB_ERR b, 16, 16⟩
def SB_CL_CTRL (c : Nat) : Nat := 0x288000 + 0x40 * c
def SB_CL_CTRL_CLK_LINE (c : Nat) : RF := ⟨SB_CL_CTRL c, 0, 3⟩
def SB_CL_CTRL_CLK_EN (c : Nat) : RF := ⟨SB_CL_CTRL c, 3, 1⟩
def SB_CL_STATUS (c : Nat) : Nat := 0x288004 + 0x40 * c
def SB_CL_STATUS_READY (c : Nat) : RF := ⟨SB_CL_STATUS c, 0, 1⟩
def SB_CL_STATUS_SCRUB_PASSES (c : Nat) : RF := ⟨SB_CL_STATUS c, 16, 16⟩
def SB_CL_FLAGS (c : Nat) : Nat := 0x288008 + 0x40 * c
def SB_CL_FLAGS_DENIED_SEEN (c : Nat) : RF := ⟨SB_CL_FLAGS c, 0, 1⟩
def SB_CL_FLAGS_CORR_SEEN (c : Nat) : RF := ⟨SB_CL_FLAGS c, 1, 1⟩
def SB_CL_FLAGS_UNCORR_SEEN (c : Nat) : RF := ⟨SB_CL_FLAGS c, 2, 1⟩
def SB_CL_FLAGS_POISON_SEEN (c : Nat) : RF := ⟨SB_CL_FLAGS c, 3, 1⟩
def SB_CL_FLAGS_HANDOVER_SEEN (c : Nat) : RF := ⟨SB_CL_FLAGS c, 4, 1⟩
def SB_CL_DENIED (c : Nat) : Nat := 0x28800C + 0x40 * c
def SB_CL_DENIED_READS (c : Nat) : RF := ⟨SB_CL_DENIED c, 0, 16⟩
def SB_CL_DENIED_WRITES (c : Nat) : RF := ⟨SB_CL_DENIED c, 16, 16⟩
def SB_CL_LAST_DENIED (c : Nat) : Nat := 0x288010 + 0x40 * c
def SB_CL_LAST_DENIED_BANK (c : Nat) : RF := ⟨SB_CL_LAST_DENIED c, 0, 4⟩
def SB_CL_LAST_DENIED_IDENT (c : Nat) : RF := ⟨SB_CL_LAST_DENIED c, 8, 8⟩
def SB_CL_LAST_DENIED_WRITE (c : Nat) : RF := ⟨SB_CL_LAST_DENIED c, 16, 1⟩
def SB_CL_LAST_DENIED_PORT (c : Nat) : RF := ⟨SB_CL_LAST_DENIED c, 17, 2⟩
def SB_CL_STALL (c i : Nat) : Nat := 0x288014 + 0x40 * c + 0x4 * i
def SB_CL_STALL_CYCLES (c i : Nat) : RF := ⟨SB_CL_STALL c i, 0, 32⟩
def SB_CL_DISCARDS (c : Nat) : Nat := 0x288020 + 0x40 * c
def SB_CL_DISCARDS_COUNT (c : Nat) : RF := ⟨SB_CL_DISCARDS c, 0, 16⟩
def QC_STATUS (q : Nat) : Nat := 0x290000 + 0x200 * q
def QC_STATUS_KIND (q : Nat) : RF := ⟨QC_STATUS q, 0, 2⟩
def QC_STATUS_HOMED (q : Nat) : RF := ⟨QC_STATUS q, 16, 11⟩
def QC_OPS_LO (q : Nat) : Nat := 0x290004 + 0x200 * q
def QC_OPS_LO_COUNT (q : Nat) : RF := ⟨QC_OPS_LO q, 0, 32⟩
def QC_OPS_HI (q : Nat) : Nat := 0x290008 + 0x200 * q
def QC_OPS_HI_COUNT (q : Nat) : RF := ⟨QC_OPS_HI q, 0, 32⟩
def QC_INT_FAILS (q : Nat) : Nat := 0x29000C + 0x200 * q
def QC_INT_FAILS_COUNT (q : Nat) : RF := ⟨QC_INT_FAILS q, 0, 32⟩
def QC_PORT_SEL (q : Nat) : Nat := 0x290080 + 0x200 * q
def QC_PORT_SEL_WIN (q : Nat) : RF := ⟨QC_PORT_SEL q, 0, 3⟩
def QC_PORT_SEL_OP (q : Nat) : RF := ⟨QC_PORT_SEL q, 4, 2⟩
def QC_PORT_SEL_OFFSET (q : Nat) : RF := ⟨QC_PORT_SEL q, 12, 17⟩
def QC_PORT_DATA_LO (q : Nat) : Nat := 0x290084 + 0x200 * q
def QC_PORT_DATA_LO_DATA (q : Nat) : RF := ⟨QC_PORT_DATA_LO q, 0, 32⟩
def QC_PORT_DATA_HI (q : Nat) : Nat := 0x290088 + 0x200 * q
def QC_PORT_DATA_HI_DATA (q : Nat) : RF := ⟨QC_PORT_DATA_HI q, 0, 32⟩
def QC_PORT_RESULT (q : Nat) : Nat := 0x29008C + 0x200 * q
def QC_PORT_RESULT_CODE (q : Nat) : RF := ⟨QC_PORT_RESULT q, 0, 3⟩
def QC_WIN_CFG (q w : Nat) : Nat := 0x290100 + 0x200 * q + 0x20 * w
def QC_WIN_CFG_EN (q w : Nat) : RF := ⟨QC_WIN_CFG q w, 0, 1⟩
def QC_WIN_CFG_MODE (q w : Nat) : RF := ⟨QC_WIN_CFG q w, 1, 1⟩
def QC_WIN_CFG_POLICY (q w : Nat) : RF := ⟨QC_WIN_CFG q w, 2, 1⟩
def QC_WIN_CFG_PRODUCER (q w : Nat) : RF := ⟨QC_WIN_CFG q w, 8, 8⟩
def QC_WIN_CFG_CONSUMER (q w : Nat) : RF := ⟨QC_WIN_CFG q w, 16, 8⟩
def QC_WIN_BASE (q w : Nat) : Nat := 0x290104 + 0x200 * q + 0x20 * w
def QC_WIN_BASE_BASE (q w : Nat) : RF := ⟨QC_WIN_BASE q w, 0, 17⟩
def QC_WIN_LEN (q w : Nat) : Nat := 0x290108 + 0x200 * q + 0x20 * w
def QC_WIN_LEN_LEN (q w : Nat) : RF := ⟨QC_WIN_LEN q w, 0, 18⟩
def QC_WIN_HEAD (q w : Nat) : Nat := 0x29010C + 0x200 * q + 0x20 * w
def QC_WIN_HEAD_PTR (q w : Nat) : RF := ⟨QC_WIN_HEAD q w, 0, 17⟩
def QC_WIN_TAIL (q w : Nat) : Nat := 0x290110 + 0x200 * q + 0x20 * w
def QC_WIN_TAIL_PTR (q w : Nat) : RF := ⟨QC_WIN_TAIL q w, 0, 17⟩
def QC_WIN_FILL (q w : Nat) : Nat := 0x290114 + 0x200 * q + 0x20 * w
def QC_WIN_FILL_FILL (q w : Nat) : RF := ⟨QC_WIN_FILL q w, 0, 18⟩
def QC_WIN_STATUS (q w : Nat) : Nat := 0x290118 + 0x200 * q + 0x20 * w
def QC_WIN_STATUS_REWRAP (q w : Nat) : RF := ⟨QC_WIN_STATUS q w, 0, 1⟩
def QC_WIN_STATUS_OVERWRITE (q w : Nat) : RF := ⟨QC_WIN_STATUS q w, 1, 1⟩
def QC_WIN_STATUS_EMPTY_SEEN (q w : Nat) : RF := ⟨QC_WIN_STATUS q w, 2, 1⟩
def QC_WIN_STATUS_FULL_SEEN (q w : Nat) : RF := ⟨QC_WIN_STATUS q w, 3, 1⟩
def QC_WIN_STATUS_CFG_ERR (q w : Nat) : RF := ⟨QC_WIN_STATUS q w, 4, 1⟩
def SM_CH_STATUS (k : Nat) : Nat := 0x200000 + 0x40 * k
def SM_CH_STATUS_STATE (k : Nat) : RF := ⟨SM_CH_STATUS k, 0, 2⟩
def SM_CH_STATUS_REFRESH_X2 (k : Nat) : RF := ⟨SM_CH_STATUS k, 2, 1⟩
def SM_CH_STATUS_PIN_DEAD (k : Nat) : RF := ⟨SM_CH_STATUS k, 3, 1⟩
def SM_CH_STATUS_DEAD_PIN (k : Nat) : RF := ⟨SM_CH_STATUS k, 4, 7⟩
def SM_CH_STATUS_TIER (k : Nat) : RF := ⟨SM_CH_STATUS k, 12, 3⟩
def SM_CH_FLAGS (k : Nat) : Nat := 0x200004 + 0x40 * k
def SM_CH_FLAGS_CORR_SEEN (k : Nat) : RF := ⟨SM_CH_FLAGS k, 0, 1⟩
def SM_CH_FLAGS_INT_SEEN (k : Nat) : RF := ⟨SM_CH_FLAGS k, 1, 1⟩
def SM_CH_FLAGS_POISON_SEEN (k : Nat) : RF := ⟨SM_CH_FLAGS k, 2, 1⟩
def SM_CH_FLAGS_STATE_SEEN (k : Nat) : RF := ⟨SM_CH_FLAGS k, 3, 1⟩
def SM_CH_CORR (k : Nat) : Nat := 0x200008 + 0x40 * k
def SM_CH_CORR_COUNT (k : Nat) : RF := ⟨SM_CH_CORR k, 0, 32⟩
def SM_CH_ERR (k : Nat) : Nat := 0x20000C + 0x40 * k
def SM_CH_ERR_UNCORR (k : Nat) : RF := ⟨SM_CH_ERR k, 0, 16⟩
def SM_CH_ERR_TAG_FAIL (k : Nat) : RF := ⟨SM_CH_ERR k, 16, 16⟩
def SM_CH_RES_A (k : Nat) : Nat := 0x200010 + 0x40 * k
def SM_CH_RES_A_CAPTURE (k : Nat) : RF := ⟨SM_CH_RES_A k, 0, 16⟩
def SM_CH_RES_A_REPLAY (k : Nat) : RF := ⟨SM_CH_RES_A k, 16, 16⟩
def SM_CH_RES_B (k : Nat) : Nat := 0x200014 + 0x40 * k
def SM_CH_RES_B_NOC (k : Nat) : RF := ⟨SM_CH_RES_B k, 0, 16⟩
def SM_CH_RES_B_FREE_MIB (k : Nat) : RF := ⟨SM_CH_RES_B k, 16, 16⟩
def SM_CH_BUSY (k : Nat) : Nat := 0x200018 + 0x40 * k
def SM_CH_BUSY_PCT (k : Nat) : RF := ⟨SM_CH_BUSY k, 0, 8⟩
def MG_STATUS : Nat := 0x202000
def MG_STATUS_CURRENT : RF := ⟨MG_STATUS, 0, 4⟩
def MG_STATUS_SWEEPING : RF := ⟨MG_STATUS, 4, 1⟩
def MG_STATUS_FULL_REKEY : RF := ⟨MG_STATUS, 5, 1⟩
def MG_STATUS_SLOT_WAIT : RF := ⟨MG_STATUS, 6, 1⟩
def MG_STATUS_SWEEPS : RF := ⟨MG_STATUS, 8, 9⟩
def MG_PAGE_REENC : Nat := 0x202004
def MG_PAGE_REENC_COUNT : RF := ⟨MG_PAGE_REENC, 0, 32⟩
def MG_REGION_REKEYS : Nat := 0x202008
def MG_REGION_REKEYS_REKEYS : RF := ⟨MG_REGION_REKEYS, 0, 16⟩
def MG_REGION_REKEYS_LOST_PAGES : RF := ⟨MG_REGION_REKEYS, 16, 16⟩
def MG_SWEEP_LEFT : Nat := 0x20200C
def MG_SWEEP_LEFT_MIB : RF := ⟨MG_SWEEP_LEFT, 0, 32⟩
def MG_SLOT (n : Nat) : Nat := 0x202040 + 0x4 * n
def MG_SLOT_STATE (n : Nat) : RF := ⟨MG_SLOT n, 0, 2⟩
def MG_SLOT_SEGMENTS (n : Nat) : RF := ⟨MG_SLOT n, 4, 9⟩
def MG_SLOT_INFLIGHT (n : Nat) : RF := ⟨MG_SLOT n, 16, 16⟩
def MG_SEG (s : Nat) : Nat := 0x202100 + 0x4 * s
def MG_SEG_KEY (s : Nat) : RF := ⟨MG_SEG s, 0, 4⟩
def MG_SEG_OLD_KEY (s : Nat) : RF := ⟨MG_SEG s, 4, 4⟩
def MG_SEG_SWEEP (s : Nat) : RF := ⟨MG_SEG s, 8, 1⟩
def MG_SEG_MAJ_HI (s : Nat) : RF := ⟨MG_SEG s, 16, 16⟩
def NC_RT_WEIGHT (r : Nat) : Nat := 0x380000 + 0x40 * r
def NC_RT_WEIGHT_W0 (r : Nat) : RF := ⟨NC_RT_WEIGHT r, 0, 8⟩
def NC_RT_WEIGHT_W1 (r : Nat) : RF := ⟨NC_RT_WEIGHT r, 8, 8⟩
def NC_RT_WEIGHT_W2 (r : Nat) : RF := ⟨NC_RT_WEIGHT r, 16, 8⟩
def NC_RT_WEIGHT_W3 (r : Nat) : RF := ⟨NC_RT_WEIGHT r, 24, 8⟩
def NC_RT_STATUS (r : Nat) : Nat := 0x380004 + 0x40 * r
def NC_RT_STATUS_APPLYING (r : Nat) : RF := ⟨NC_RT_STATUS r, 0, 1⟩
def NC_RT_STATUS_CORR_SEEN (r : Nat) : RF := ⟨NC_RT_STATUS r, 1, 1⟩
def NC_RT_STATUS_RETRY_SEEN (r : Nat) : RF := ⟨NC_RT_STATUS r, 2, 1⟩
def NC_RT_STATUS_FAILED (r : Nat) : RF := ⟨NC_RT_STATUS r, 3, 4⟩
def NC_RT_ERR (r : Nat) : Nat := 0x380008 + 0x40 * r
def NC_RT_ERR_CORR (r : Nat) : RF := ⟨NC_RT_ERR r, 0, 16⟩
def NC_RT_ERR_UNCORR (r : Nat) : RF := ⟨NC_RT_ERR r, 16, 16⟩
def NC_RT_RSV_NE (r : Nat) : Nat := 0x38000C + 0x40 * r
def NC_RT_RSV_NE_N (r : Nat) : RF := ⟨NC_RT_RSV_NE r, 0, 16⟩
def NC_RT_RSV_NE_E (r : Nat) : RF := ⟨NC_RT_RSV_NE r, 16, 16⟩
def NC_RT_RSV_SW (r : Nat) : Nat := 0x380010 + 0x40 * r
def NC_RT_RSV_SW_S (r : Nat) : RF := ⟨NC_RT_RSV_SW r, 0, 16⟩
def NC_RT_RSV_SW_W (r : Nat) : RF := ⟨NC_RT_RSV_SW r, 16, 16⟩
def NC_RT_BUSY (r : Nat) : Nat := 0x380014 + 0x40 * r
def NC_RT_BUSY_N (r : Nat) : RF := ⟨NC_RT_BUSY r, 0, 8⟩
def NC_RT_BUSY_E (r : Nat) : RF := ⟨NC_RT_BUSY r, 8, 8⟩
def NC_RT_BUSY_S (r : Nat) : RF := ⟨NC_RT_BUSY r, 16, 8⟩
def NC_RT_BUSY_W (r : Nat) : RF := ⟨NC_RT_BUSY r, 24, 8⟩
def NC_RT_STALL (r : Nat) : Nat := 0x380018 + 0x40 * r
def NC_RT_STALL_CYCLES (r : Nat) : RF := ⟨NC_RT_STALL r, 0, 32⟩
def NC_EP_CTRL (e : Nat) : Nat := 0x381000 + 0x20 * e
def NC_EP_CTRL_OPEN (e : Nat) : RF := ⟨NC_EP_CTRL e, 0, 1⟩
def NC_EP_CTRL_PRI_MAX (e : Nat) : RF := ⟨NC_EP_CTRL e, 2, 2⟩
def NC_EP_CTRL_BULK_LIMIT (e : Nat) : RF := ⟨NC_EP_CTRL e, 8, 8⟩
def NC_EP_STATUS (e : Nat) : Nat := 0x381004 + 0x20 * e
def NC_EP_STATUS_STATE (e : Nat) : RF := ⟨NC_EP_STATUS e, 0, 3⟩
def NC_EP_STATUS_DEAD_SEEN (e : Nat) : RF := ⟨NC_EP_STATUS e, 3, 1⟩
def NC_EP_STATUS_CLOSED_SEEN (e : Nat) : RF := ⟨NC_EP_STATUS e, 4, 1⟩
def NC_EP_STATUS_OUT_REQ (e : Nat) : RF := ⟨NC_EP_STATUS e, 8, 8⟩
def NC_EP_STATUS_IN_REQ (e : Nat) : RF := ⟨NC_EP_STATUS e, 16, 8⟩
def NC_EP_SUNK (e : Nat) : Nat := 0x381008 + 0x20 * e
def NC_EP_SUNK_REQUESTS (e : Nat) : RF := ⟨NC_EP_SUNK e, 0, 16⟩
def NC_EP_SUNK_POSTED (e : Nat) : RF := ⟨NC_EP_SUNK e, 16, 16⟩
def NC_EP_ERRS (e : Nat) : Nat := 0x38100C + 0x20 * e
def NC_EP_ERRS_TIMEOUT (e : Nat) : RF := ⟨NC_EP_ERRS e, 0, 16⟩
def NC_EP_ERRS_STALE (e : Nat) : RF := ⟨NC_EP_ERRS e, 16, 16⟩
def NC_EP_CACHE (e : Nat) : Nat := 0x381010 + 0x20 * e
def NC_EP_CACHE_LINES (e : Nat) : RF := ⟨NC_EP_CACHE e, 0, 11⟩
def NC_EP_CACHE_INVS (e : Nat) : RF := ⟨NC_EP_CACHE e, 16, 16⟩
def NC_COH_BASE (w : Nat) : Nat := 0x38C000 + 0x10 * w
def NC_COH_BASE_BASE_MIB (w : Nat) : RF := ⟨NC_COH_BASE w, 0, 16⟩
def NC_COH_BASE_EN (w : Nat) : RF := ⟨NC_COH_BASE w, 31, 1⟩
def NC_COH_SIZE (w : Nat) : Nat := 0x38C004 + 0x10 * w
def NC_COH_SIZE_SIZE_MIB (w : Nat) : RF := ⟨NC_COH_SIZE w, 0, 7⟩
def NC_COH_SHARERS_LO (w : Nat) : Nat := 0x38C008 + 0x10 * w
def NC_COH_SHARERS_LO_MASK (w : Nat) : RF := ⟨NC_COH_SHARERS_LO w, 0, 32⟩
def NC_COH_SHARERS_HI (w : Nat) : Nat := 0x38C00C + 0x10 * w
def NC_COH_SHARERS_HI_MASK (w : Nat) : RF := ⟨NC_COH_SHARERS_HI w, 0, 32⟩
def LN_CTRL (n : Nat) : Nat := 0x080000 + 0x80 * n
def LN_CTRL_MODE (n : Nat) : RF := ⟨LN_CTRL n, 0, 1⟩
def LN_CTRL_WIDTH (n : Nat) : RF := ⟨LN_CTRL n, 1, 2⟩
def LN_CTRL_RX_POL (n : Nat) : RF := ⟨LN_CTRL n, 3, 1⟩
def LN_CTRL_TX_POL (n : Nat) : RF := ⟨LN_CTRL n, 4, 1⟩
def LN_CTRL_ALIGN (n : Nat) : RF := ⟨LN_CTRL n, 5, 1⟩
def LN_CTRL_ALIGN_WORD (n : Nat) : RF := ⟨LN_CTRL n, 6, 1⟩
def LN_CTRL_COMMAS (n : Nat) : RF := ⟨LN_CTRL n, 7, 3⟩
def LN_CTRL_TX_IDLE (n : Nat) : RF := ⟨LN_CTRL n, 10, 2⟩
def LN_CTRL_ADAPT (n : Nat) : RF := ⟨LN_CTRL n, 12, 1⟩
def LN_CTRL_DIV (n : Nat) : RF := ⟨LN_CTRL n, 13, 2⟩
def LN_CTRL_PSTATE (n : Nat) : RF := ⟨LN_CTRL n, 15, 2⟩
def LN_CTRL_LOOP (n : Nat) : RF := ⟨LN_CTRL n, 17, 2⟩
def LN_TX_EQ (n : Nat) : Nat := 0x080004 + 0x80 * n
def LN_TX_EQ_PRE (n : Nat) : RF := ⟨LN_TX_EQ n, 0, 5⟩
def LN_TX_EQ_MAIN (n : Nat) : RF := ⟨LN_TX_EQ n, 8, 6⟩
def LN_TX_EQ_POST (n : Nat) : RF := ⟨LN_TX_EQ n, 16, 6⟩
def LN_IDLE (n : Nat) : Nat := 0x080008 + 0x80 * n
def LN_IDLE_IDLE_CHAR (n : Nat) : RF := ⟨LN_IDLE n, 0, 9⟩
def LN_IDLE_SLIP (n : Nat) : RF := ⟨LN_IDLE n, 16, 7⟩
def LN_EVT_MASK (n : Nat) : Nat := 0x08000C + 0x80 * n
def LN_EVT_MASK_MASK (n : Nat) : RF := ⟨LN_EVT_MASK n, 0, 9⟩
def LN_STATUS (n : Nat) : Nat := 0x080010 + 0x80 * n
def LN_STATUS_SIGNAL (n : Nat) : RF := ⟨LN_STATUS n, 0, 1⟩
def LN_STATUS_CDR_LOCK (n : Nat) : RF := ⟨LN_STATUS n, 1, 1⟩
def LN_STATUS_ALIGNED (n : Nat) : RF := ⟨LN_STATUS n, 2, 1⟩
def LN_STATUS_LOCK (n : Nat) : RF := ⟨LN_STATUS n, 3, 1⟩
def LN_STATUS_CAL_DONE (n : Nat) : RF := ⟨LN_STATUS n, 4, 1⟩
def LN_STATUS_PLL_LOCK (n : Nat) : RF := ⟨LN_STATUS n, 5, 1⟩
def LN_STATUS_PSTATE (n : Nat) : RF := ⟨LN_STATUS n, 6, 2⟩
def LN_STATUS_LOOP (n : Nat) : RF := ⟨LN_STATUS n, 8, 2⟩
def LN_STATUS_PRBS_SYNC (n : Nat) : RF := ⟨LN_STATUS n, 10, 1⟩
def LN_STATUS_INJ_PEND (n : Nat) : RF := ⟨LN_STATUS n, 11, 1⟩
def LN_STATUS_TX_SRC (n : Nat) : RF := ⟨LN_STATUS n, 12, 2⟩
def LN_STATUS_ABSENT (n : Nat) : RF := ⟨LN_STATUS n, 31, 1⟩
def LN_FLAGS (n : Nat) : Nat := 0x080014 + 0x80 * n
def LN_FLAGS_LOS_SEEN (n : Nat) : RF := ⟨LN_FLAGS n, 0, 1⟩
def LN_FLAGS_UNLOCK_SEEN (n : Nat) : RF := ⟨LN_FLAGS n, 1, 1⟩
def LN_FLAGS_DISP_SEEN (n : Nat) : RF := ⟨LN_FLAGS n, 2, 1⟩
def LN_FLAGS_CODE_SEEN (n : Nat) : RF := ⟨LN_FLAGS n, 3, 1⟩
def LN_FLAGS_REALIGN_SEEN (n : Nat) : RF := ⟨LN_FLAGS n, 4, 1⟩
def LN_FLAGS_PRBS_ERR_SEEN (n : Nat) : RF := ⟨LN_FLAGS n, 5, 1⟩
def LN_FLAGS_PRBS_SYNC_LOST (n : Nat) : RF := ⟨LN_FLAGS n, 6, 1⟩
def LN_FLAGS_INJ_DONE (n : Nat) : RF := ⟨LN_FLAGS n, 7, 1⟩
def LN_FLAGS_CAL_SEEN (n : Nat) : RF := ⟨LN_FLAGS n, 8, 1⟩
def LN_CNT_DISP (n : Nat) : Nat := 0x080018 + 0x80 * n
def LN_CNT_DISP_COUNT (n : Nat) : RF := ⟨LN_CNT_DISP n, 0, 32⟩
def LN_CNT_CODE (n : Nat) : Nat := 0x08001C + 0x80 * n
def LN_CNT_CODE_COUNT (n : Nat) : RF := ⟨LN_CNT_CODE n, 0, 32⟩
def LN_CNT_LINK (n : Nat) : Nat := 0x080020 + 0x80 * n
def LN_CNT_LINK_REALIGN (n : Nat) : RF := ⟨LN_CNT_LINK n, 0, 16⟩
def LN_CNT_LINK_UNLOCK (n : Nat) : RF := ⟨LN_CNT_LINK n, 16, 16⟩
def LN_PRBS_CTRL (n : Nat) : Nat := 0x080024 + 0x80 * n
def LN_PRBS_CTRL_GEN_EN (n : Nat) : RF := ⟨LN_PRBS_CTRL n, 0, 1⟩
def LN_PRBS_CTRL_CHK_EN (n : Nat) : RF := ⟨LN_PRBS_CTRL n, 1, 1⟩
def LN_PRBS_CTRL_GEN_INV (n : Nat) : RF := ⟨LN_PRBS_CTRL n, 2, 1⟩
def LN_PRBS_CTRL_CHK_INV (n : Nat) : RF := ⟨LN_PRBS_CTRL n, 3, 1⟩
def LN_PRBS_CTRL_PATTERN (n : Nat) : RF := ⟨LN_PRBS_CTRL n, 4, 4⟩
def LN_PRBS_USER0 (n : Nat) : Nat := 0x080028 + 0x80 * n
def LN_PRBS_USER0_BITS (n : Nat) : RF := ⟨LN_PRBS_USER0 n, 0, 32⟩
def LN_PRBS_USER1 (n : Nat) : Nat := 0x08002C + 0x80 * n
def LN_PRBS_USER1_BITS (n : Nat) : RF := ⟨LN_PRBS_USER1 n, 0, 32⟩
def LN_PRBS_USER2 (n : Nat) : Nat := 0x080030 + 0x80 * n
def LN_PRBS_USER2_BITS (n : Nat) : RF := ⟨LN_PRBS_USER2 n, 0, 16⟩
def LN_PRBS_BITS_LO (n : Nat) : Nat := 0x080034 + 0x80 * n
def LN_PRBS_BITS_LO_COUNT (n : Nat) : RF := ⟨LN_PRBS_BITS_LO n, 0, 32⟩
def LN_PRBS_BITS_HI (n : Nat) : Nat := 0x080038 + 0x80 * n
def LN_PRBS_BITS_HI_COUNT (n : Nat) : RF := ⟨LN_PRBS_BITS_HI n, 0, 32⟩
def LN_PRBS_ERR_LO (n : Nat) : Nat := 0x08003C + 0x80 * n
def LN_PRBS_ERR_LO_COUNT (n : Nat) : RF := ⟨LN_PRBS_ERR_LO n, 0, 32⟩
def LN_PRBS_ERR_HI (n : Nat) : Nat := 0x080040 + 0x80 * n
def LN_PRBS_ERR_HI_COUNT (n : Nat) : RF := ⟨LN_PRBS_ERR_HI n, 0, 32⟩
def LN_INJ (n : Nat) : Nat := 0x080044 + 0x80 * n
def LN_INJ_KIND (n : Nat) : RF := ⟨LN_INJ n, 0, 2⟩
def LN_INJ_LEFT (n : Nat) : RF := ⟨LN_INJ n, 16, 16⟩
def LN_FREQ_OFF (n : Nat) : Nat := 0x080048 + 0x80 * n
def LN_FREQ_OFF_OFFSET (n : Nat) : RF := ⟨LN_FREQ_OFF n, 0, 32⟩
def LN_RX_EQ (n : Nat) : Nat := 0x08004C + 0x80 * n
def LN_RX_EQ_CTLE (n : Nat) : RF := ⟨LN_RX_EQ n, 0, 5⟩
def LN_RX_EQ_DFE1 (n : Nat) : RF := ⟨LN_RX_EQ n, 8, 8⟩
def LN_Q_CTRL (q : Nat) : Nat := 0x084000 + 0x20 * q
def LN_Q_CTRL_REF_SEL (q : Nat) : RF := ⟨LN_Q_CTRL q, 0, 1⟩
def LN_Q_CTRL_REF_FREQ (q : Nat) : RF := ⟨LN_Q_CTRL q, 1, 1⟩
def LN_Q_CTRL_CLK_MODE (q : Nat) : RF := ⟨LN_Q_CTRL q, 2, 1⟩
def LN_Q_RATE (q : Nat) : Nat := 0x084004 + 0x20 * q
def LN_Q_RATE_BASE_KBPS (q : Nat) : RF := ⟨LN_Q_RATE q, 0, 25⟩
def LN_Q_STATUS (q : Nat) : Nat := 0x084008 + 0x20 * q
def LN_Q_STATUS_PLL_LOCK (q : Nat) : RF := ⟨LN_Q_STATUS q, 0, 1⟩
def LN_Q_STATUS_POWERED (q : Nat) : RF := ⟨LN_Q_STATUS q, 1, 1⟩
def LN_Q_STATUS_PLL_UNLOCK_SEEN (q : Nat) : RF := ⟨LN_Q_STATUS q, 2, 1⟩
def NC_SEAM_CTRL (p : Nat) : Nat := 0x38D040 + 0x20 * p
def NC_SEAM_CTRL_MODE (p : Nat) : RF := ⟨NC_SEAM_CTRL p, 0, 2⟩
def NC_SEAM_CTRL_CLK_MODE (p : Nat) : RF := ⟨NC_SEAM_CTRL p, 2, 1⟩
def NC_SEAM_CTRL_RATE (p : Nat) : RF := ⟨NC_SEAM_CTRL p, 8, 24⟩
def NC_SEAM_STATUS (p : Nat) : Nat := 0x38D044 + 0x20 * p
def NC_SEAM_STATUS_STATE (p : Nat) : RF := ⟨NC_SEAM_STATUS p, 0, 3⟩
def NC_SEAM_STATUS_PEER_ID (p : Nat) : RF := ⟨NC_SEAM_STATUS p, 3, 3⟩
def NC_SEAM_STATUS_PEER_VALID (p : Nat) : RF := ⟨NC_SEAM_STATUS p, 6, 1⟩
def NC_SEAM_STATUS_LANES (p : Nat) : RF := ⟨NC_SEAM_STATUS p, 8, 6⟩
def NC_SEAM_STATUS_FAIL_CAUSE (p : Nat) : RF := ⟨NC_SEAM_STATUS p, 16, 4⟩
def NC_SEAM_STATUS_STATE_SEEN (p : Nat) : RF := ⟨NC_SEAM_STATUS p, 20, 1⟩
def NC_SEAM_STATUS_REKEY_SEEN (p : Nat) : RF := ⟨NC_SEAM_STATUS p, 21, 1⟩
def NC_SEAM_STATUS_RETRY_SEEN (p : Nat) : RF := ⟨NC_SEAM_STATUS p, 22, 1⟩
def NC_SEAM_TXCNT_LO (p : Nat) : Nat := 0x38D048 + 0x20 * p
def NC_SEAM_TXCNT_LO_COUNT (p : Nat) : RF := ⟨NC_SEAM_TXCNT_LO p, 0, 32⟩
def NC_SEAM_TXCNT_HI (p : Nat) : Nat := 0x38D04C + 0x20 * p
def NC_SEAM_TXCNT_HI_COUNT (p : Nat) : RF := ⟨NC_SEAM_TXCNT_HI p, 0, 32⟩
def NC_SEAM_RXCNT_LO (p : Nat) : Nat := 0x38D050 + 0x20 * p
def NC_SEAM_RXCNT_LO_COUNT (p : Nat) : RF := ⟨NC_SEAM_RXCNT_LO p, 0, 32⟩
def NC_SEAM_RXCNT_HI (p : Nat) : Nat := 0x38D054 + 0x20 * p
def NC_SEAM_RXCNT_HI_COUNT (p : Nat) : RF := ⟨NC_SEAM_RXCNT_HI p, 0, 32⟩
def NC_SEAM_ERR (p : Nat) : Nat := 0x38D058 + 0x20 * p
def NC_SEAM_ERR_RETRIES (p : Nat) : RF := ⟨NC_SEAM_ERR p, 0, 16⟩
def NC_SEAM_ERR_TAG_FAILS (p : Nat) : RF := ⟨NC_SEAM_ERR p, 16, 16⟩
def NC_SEAM_EPOCH (p : Nat) : Nat := 0x38D05C + 0x20 * p
def NC_SEAM_EPOCH_EPOCH (p : Nat) : RF := ⟨NC_SEAM_EPOCH p, 0, 16⟩
def NC_SEAM_EPOCH_RTT (p : Nat) : RF := ⟨NC_SEAM_EPOCH p, 16, 16⟩
def CF_CFG_STATUS : Nat := 0x3C0000
def CF_CFG_STATUS_CFG_MODE : RF := ⟨CF_CFG_STATUS, 0, 3⟩
def CF_CFG_STATUS_STATE : RF := ⟨CF_CFG_STATUS, 4, 3⟩
def CF_CFG_STATUS_DONE_PIN : RF := ⟨CF_CFG_STATUS, 8, 1⟩
def CF_CFG_STATUS_INIT_PIN : RF := ⟨CF_CFG_STATUS, 9, 1⟩
def CF_CFG_STATUS_DONE_DRIVE : RF := ⟨CF_CFG_STATUS, 10, 1⟩
def CF_CFG_STATUS_INIT_DRIVE : RF := ⟨CF_CFG_STATUS, 11, 1⟩
def CF_CFG_STATUS_ARRAY : RF := ⟨CF_CFG_STATUS, 12, 1⟩
def CF_CFG_STATUS_ENCRYPTED : RF := ⟨CF_CFG_STATUS, 13, 1⟩
def CF_CFG_STATUS_OWNER_SIGNED : RF := ⟨CF_CFG_STATUS, 14, 1⟩
def CF_CFG_STATUS_FAILS : RF := ⟨CF_CFG_STATUS, 16, 4⟩
def CF_CFG_ERROR : Nat := 0x3C0004
def CF_CFG_ERROR_CODE : RF := ⟨CF_CFG_ERROR, 0, 16⟩
def CF_CFG_ERROR_SEGMENT : RF := ⟨CF_CFG_ERROR, 16, 16⟩
def CF_CFG_ERR_ADDR : Nat := 0x3C0008
def CF_CFG_ERR_ADDR_ADDR : RF := ⟨CF_CFG_ERR_ADDR, 0, 32⟩
def CF_CFG_BYTES : Nat := 0x3C000C
def CF_CFG_BYTES_COUNT : RF := ⟨CF_CFG_BYTES, 0, 32⟩
def CF_CFG_FORWARD : Nat := 0x3C0010
def CF_CFG_FORWARD_COUNT : RF := ⟨CF_CFG_FORWARD, 0, 32⟩
def CF_CFG_BOOT_LO : Nat := 0x3C0014
def CF_CFG_BOOT_LO_REGIONS : RF := ⟨CF_CFG_BOOT_LO, 0, 32⟩
def CF_CFG_BOOT_HI : Nat := 0x3C0018
def CF_CFG_BOOT_HI_REGIONS : RF := ⟨CF_CFG_BOOT_HI, 0, 16⟩
def CF_IO_MISMATCH : Nat := 0x3C001C
def CF_IO_MISMATCH_BANKS : RF := ⟨CF_IO_MISMATCH, 0, 12⟩
def CF_CFG_ID_LO : Nat := 0x3C0020
def CF_CFG_ID_LO_ID : RF := ⟨CF_CFG_ID_LO, 0, 32⟩
def CF_CFG_ID_HI : Nat := 0x3C0024
def CF_CFG_ID_HI_ID : RF := ⟨CF_CFG_ID_HI, 0, 32⟩
def CK_STATUS : Nat := 0x040000
def CK_STATUS_QUAL : RF := ⟨CK_STATUS, 0, 6⟩
def CK_STATUS_BASE_LOCK : RF := ⟨CK_STATUS, 6, 3⟩
def CK_STATUS_FPLL_LOCK : RF := ⟨CK_STATUS, 16, 8⟩
def CK_STATUS_REF0_FREQ : RF := ⟨CK_STATUS, 24, 1⟩
def CK_STATUS_REF1_FREQ : RF := ⟨CK_STATUS, 25, 1⟩
def CK_STATUS_REF0_VALID : RF := ⟨CK_STATUS, 26, 1⟩
def CK_STATUS_REF1_VALID : RF := ⟨CK_STATUS, 27, 1⟩
def CK_FLAGS : Nat := 0x040004
def CK_FLAGS_TRIP_SEEN : RF := ⟨CK_FLAGS, 0, 6⟩
def CK_FLAGS_UNLOCK_SEEN : RF := ⟨CK_FLAGS, 6, 1⟩
def CK_FLAGS_ABANDON_SEEN : RF := ⟨CK_FLAGS, 7, 1⟩
def CK_BASE_SRC : Nat := 0x040008
def CK_BASE_SRC_SRC : RF := ⟨CK_BASE_SRC, 0, 3⟩
def CK_BASE_SRC_AUTO_RETURN : RF := ⟨CK_BASE_SRC, 3, 1⟩
def CK_BASE_SRC_SLEWING : RF := ⟨CK_BASE_SRC, 4, 1⟩
def CK_FURNACE : Nat := 0x04000C
def CK_FURNACE_OFFSET : RF := ⟨CK_FURNACE, 0, 16⟩
def CK_FURNACE_TRIM : RF := ⟨CK_FURNACE, 16, 8⟩
def CK_FURNACE_REFERENCED : RF := ⟨CK_FURNACE, 24, 1⟩
def CK_GATE_REFUSALS : Nat := 0x040010
def CK_GATE_REFUSALS_COUNT : RF := ⟨CK_GATE_REFUSALS, 0, 32⟩
def CK_AUTO_EN (i : Nat) : Nat := 0x040020 + 0x4 * i
def CK_AUTO_EN_EN (i : Nat) : RF := ⟨CK_AUTO_EN i, 0, 32⟩
def CK_FORCE (i : Nat) : Nat := 0x040040 + 0x4 * i
def CK_FORCE_FORCE (i : Nat) : RF := ⟨CK_FORCE i, 0, 32⟩
def CK_GATED (i : Nat) : Nat := 0x040060 + 0x4 * i
def CK_GATED_GATED (i : Nat) : RF := ⟨CK_GATED i, 0, 32⟩
def CK_FPLL_CFG (n : Nat) : Nat := 0x040100 + 0x10 * n
def CK_FPLL_CFG_EN (n : Nat) : RF := ⟨CK_FPLL_CFG n, 0, 1⟩
def CK_FPLL_CFG_REF (n : Nat) : RF := ⟨CK_FPLL_CFG n, 1, 3⟩
def CK_FPLL_CFG_FALLBACK (n : Nat) : RF := ⟨CK_FPLL_CFG n, 4, 3⟩
def CK_FPLL_CFG_FB_EN (n : Nat) : RF := ⟨CK_FPLL_CFG n, 7, 1⟩
def CK_FPLL_CFG_ALIGN (n : Nat) : RF := ⟨CK_FPLL_CFG n, 8, 1⟩
def CK_FPLL_FREQ (n : Nat) : Nat := 0x040104 + 0x10 * n
def CK_FPLL_FREQ_KHZ (n : Nat) : RF := ⟨CK_FPLL_FREQ n, 0, 20⟩
def CK_FPLL_STATUS (n : Nat) : Nat := 0x040108 + 0x10 * n
def CK_FPLL_STATUS_LOCK (n : Nat) : RF := ⟨CK_FPLL_STATUS n, 0, 1⟩
def CK_FPLL_STATUS_ON_FALLBACK (n : Nat) : RF := ⟨CK_FPLL_STATUS n, 1, 1⟩
def CK_FPLL_STATUS_HOLDOVER (n : Nat) : RF := ⟨CK_FPLL_STATUS n, 2, 1⟩
def CK_FPLL_STATUS_STOPPED (n : Nat) : RF := ⟨CK_FPLL_STATUS n, 3, 1⟩
def CK_FPLL_STATUS_CFG_ERR (n : Nat) : RF := ⟨CK_FPLL_STATUS n, 4, 1⟩
def CK_FM_CTRL (c : Nat) : Nat := 0x040200 + 0x10 * c
def CK_FM_CTRL_SEL (c : Nat) : RF := ⟨CK_FM_CTRL c, 0, 8⟩
def CK_FM_CTRL_REF (c : Nat) : RF := ⟨CK_FM_CTRL c, 8, 3⟩
def CK_FM_CTRL_N (c : Nat) : RF := ⟨CK_FM_CTRL c, 16, 5⟩
def CK_FM_CTRL_START (c : Nat) : RF := ⟨CK_FM_CTRL c, 29, 1⟩
def CK_FM_CTRL_DONE (c : Nat) : RF := ⟨CK_FM_CTRL c, 30, 1⟩
def CK_FM_CTRL_ABORT (c : Nat) : RF := ⟨CK_FM_CTRL c, 31, 1⟩
def CK_FM_RES_LO (c : Nat) : Nat := 0x040204 + 0x10 * c
def CK_FM_RES_LO_COUNT (c : Nat) : RF := ⟨CK_FM_RES_LO c, 0, 32⟩
def CK_FM_RES_HI (c : Nat) : Nat := 0x040208 + 0x10 * c
def CK_FM_RES_HI_COUNT (c : Nat) : RF := ⟨CK_FM_RES_HI c, 0, 16⟩
def PW_STATUS : Nat := 0x060000
def PW_STATUS_SEQ : RF := ⟨PW_STATUS, 0, 3⟩
def PW_STATUS_PFAIL_PIN : RF := ⟨PW_STATUS, 3, 1⟩
def PW_STATUS_SUPPLY_OK_PIN : RF := ⟨PW_STATUS, 4, 1⟩
def PW_STATUS_ALERT_PIN : RF := ⟨PW_STATUS, 5, 1⟩
def PW_STATUS_VIN_LOW : RF := ⟨PW_STATUS, 6, 1⟩
def PW_FLAGS : Nat := 0x060004
def PW_FLAGS_RAIL_SEEN : RF := ⟨PW_FLAGS, 0, 1⟩
def PW_FLAGS_ALERT_SEEN : RF := ⟨PW_FLAGS, 1, 1⟩
def PW_FLAGS_PMBUS_SEEN : RF := ⟨PW_FLAGS, 2, 1⟩
def PW_FLAGS_VIN_SEEN : RF := ⟨PW_FLAGS, 3, 1⟩
def PW_REG_PRESENT : Nat := 0x060008
def PW_REG_PRESENT_ADDR : RF := ⟨PW_REG_PRESENT, 0, 16⟩
def PW_PMB_ERR : Nat := 0x06000C
def PW_PMB_ERR_FAILS : RF := ⟨PW_PMB_ERR, 0, 16⟩
def PW_PMB_ERR_LAST_ADDR : RF := ⟨PW_PMB_ERR, 16, 7⟩
def PW_VIN : Nat := 0x060010
def PW_VIN_VIN_MV : RF := ⟨PW_VIN, 0, 16⟩
def PW_VIN_VIN_MIN_MV : RF := ⟨PW_VIN, 16, 16⟩
def PW_RAIL_CTRL (k : Nat) : Nat := 0x060100 + 0x10 * k
def PW_RAIL_CTRL_TARGET_MV (k : Nat) : RF := ⟨PW_RAIL_CTRL k, 0, 12⟩
def PW_RAIL_MEAS (k : Nat) : Nat := 0x060104 + 0x10 * k
def PW_RAIL_MEAS_MV (k : Nat) : RF := ⟨PW_RAIL_MEAS k, 0, 12⟩
def PW_RAIL_MEAS_IOUT (k : Nat) : RF := ⟨PW_RAIL_MEAS k, 16, 12⟩
def PW_RAIL_STATE (k : Nat) : Nat := 0x060108 + 0x10 * k
def PW_RAIL_STATE_STATE (k : Nat) : RF := ⟨PW_RAIL_STATE k, 0, 3⟩
def PW_RAIL_STATE_BOARD (k : Nat) : RF := ⟨PW_RAIL_STATE k, 3, 1⟩
def PW_RAIL_STATE_EXCURSIONS (k : Nat) : RF := ⟨PW_RAIL_STATE k, 16, 16⟩
def TH_STATUS : Nat := 0x050000
def TH_STATUS_HOT_ZONE : RF := ⟨TH_STATUS, 0, 5⟩
def TH_STATUS_FAST : RF := ⟨TH_STATUS, 5, 1⟩
def TH_STATUS_TRIP : RF := ⟨TH_STATUS, 6, 1⟩
def TH_STATUS_THERM_PIN : RF := ⟨TH_STATUS, 7, 1⟩
def TH_STATUS_MAX_STEP : RF := ⟨TH_STATUS, 8, 4⟩
def TH_STATUS_POWER_STEP : RF := ⟨TH_STATUS, 12, 4⟩
def TH_FLAGS : Nat := 0x050004
def TH_FLAGS_WARN_SEEN : RF := ⟨TH_FLAGS, 0, 1⟩
def TH_FLAGS_THROTTLE_SEEN : RF := ⟨TH_FLAGS, 1, 1⟩
def TH_FLAGS_STOP_SEEN : RF := ⟨TH_FLAGS, 2, 1⟩
def TH_FLAGS_TRIP_SEEN : RF := ⟨TH_FLAGS, 3, 1⟩
def TH_FLAGS_SENSOR_SEEN : RF := ⟨TH_FLAGS, 4, 1⟩
def TH_FLAGS_POWER_SEEN : RF := ⟨TH_FLAGS, 5, 1⟩
def TH_CTRL : Nat := 0x050008
def TH_CTRL_HYST : RF := ⟨TH_CTRL, 0, 4⟩
def TH_POWER : Nat := 0x05000C
def TH_POWER_POWER_W : RF := ⟨TH_POWER, 0, 12⟩
def TH_POWER_LIMIT_W : RF := ⟨TH_POWER, 16, 12⟩
def TH_SENSOR (n : Nat) : Nat := 0x050100 + 0x4 * n
def TH_SENSOR_TEMP (n : Nat) : RF := ⟨TH_SENSOR n, 0, 12⟩
def TH_SENSOR_STATE (n : Nat) : RF := ⟨TH_SENSOR n, 12, 2⟩
def TH_SENSOR_CAUSE (n : Nat) : RF := ⟨TH_SENSOR n, 14, 2⟩
def TH_SENSOR_ZONE (n : Nat) : RF := ⟨TH_SENSOR n, 16, 5⟩
def TH_ZONE_STATE (z : Nat) : Nat := 0x050200 + 0x8 * z
def TH_ZONE_STATE_LEVEL (z : Nat) : RF := ⟨TH_ZONE_STATE z, 0, 3⟩
def TH_ZONE_STATE_STEP (z : Nat) : RF := ⟨TH_ZONE_STATE z, 4, 4⟩
def TH_ZONE_STATE_BROKEN (z : Nat) : RF := ⟨TH_ZONE_STATE z, 8, 2⟩
def TH_ZONE_STATE_TEMP (z : Nat) : RF := ⟨TH_ZONE_STATE z, 12, 12⟩
def TH_ZONE_LIMITS (z : Nat) : Nat := 0x050204 + 0x8 * z
def TH_ZONE_LIMITS_LEVELS (z : Nat) : RF := ⟨TH_ZONE_LIMITS z, 0, 32⟩
def SC_STATUS : Nat := 0x3E0000
def SC_STATUS_OWNER_KEYS : RF := ⟨SC_STATUS, 0, 1⟩
def SC_STATUS_VAULT_ERASED : RF := ⟨SC_STATUS, 1, 1⟩
def SC_STATUS_OWNER_ROW : RF := ⟨SC_STATUS, 2, 2⟩
def SC_STATUS_RAL_REVOKED : RF := ⟨SC_STATUS, 4, 4⟩
def SC_STATUS_STORE_RO : RF := ⟨SC_STATUS, 8, 1⟩
def SC_STATUS_STORE_BANK : RF := ⟨SC_STATUS, 9, 1⟩
def SC_STATUS_LOCK_CHANGES : RF := ⟨SC_STATUS, 16, 5⟩
def SC_STORE_SEQ : Nat := 0x3E0004
def SC_STORE_SEQ_SEQ : RF := ⟨SC_STORE_SEQ, 0, 32⟩
def SC_ALARM_POLICY : Nat := 0x3E0008
def SC_ALARM_POLICY_POLICY : RF := ⟨SC_ALARM_POLICY, 0, 12⟩
def SC_ALARM_CTRL : Nat := 0x3E000C
def SC_ALARM_CTRL_LOCK : RF := ⟨SC_ALARM_CTRL, 0, 1⟩
def SC_ALARM_STATUS : Nat := 0x3E0010
def SC_ALARM_STATUS_LATCHED : RF := ⟨SC_ALARM_STATUS, 0, 6⟩
def SC_ALARM_STATUS_ALARM_PIN : RF := ⟨SC_ALARM_STATUS, 6, 1⟩
def SC_ALARM_COUNT : Nat := 0x3E0014
def SC_ALARM_COUNT_COUNT : RF := ⟨SC_ALARM_COUNT, 0, 32⟩
def SC_AUTH_FAILS : Nat := 0x3E0018
def SC_AUTH_FAILS_COUNT : RF := ⟨SC_AUTH_FAILS, 0, 16⟩
def SC_UPDATE : Nat := 0x3E001C
def SC_UPDATE_STATE : RF := ⟨SC_UPDATE, 0, 3⟩
def SC_UPDATE_ACTIVE : RF := ⟨SC_UPDATE, 3, 1⟩
def SC_UPDATE_TRIAL_LEFT : RF := ⟨SC_UPDATE, 4, 2⟩
def SC_UPDATE_REVERTED : RF := ⟨SC_UPDATE, 6, 1⟩
def SC_UPDATE_DONE : RF := ⟨SC_UPDATE, 8, 8⟩
def SC_UPDATE_CHUNKS : RF := ⟨SC_UPDATE, 16, 8⟩
def SC_REPORT_SEQ : Nat := 0x3E0020
def SC_REPORT_SEQ_SEQ : RF := ⟨SC_REPORT_SEQ, 0, 32⟩
def SC_NONCE_LO (n : Nat) : Nat := 0x3E0100 + 0x8 * n
def SC_NONCE_LO_NONCE (n : Nat) : RF := ⟨SC_NONCE_LO n, 0, 32⟩
def SC_NONCE_HI (n : Nat) : Nat := 0x3E0104 + 0x8 * n
def SC_NONCE_HI_NONCE (n : Nat) : RF := ⟨SC_NONCE_HI n, 0, 32⟩
def BT_STATUS : Nat := 0x3F0000
def BT_STATUS_PHASE : RF := ⟨BT_STATUS, 0, 3⟩
def BT_STATUS_POLICY : RF := ⟨BT_STATUS, 3, 1⟩
def BT_STATUS_FAIL_SEEN : RF := ⟨BT_STATUS, 4, 1⟩
def BT_STATUS_OVERDUE_SEEN : RF := ⟨BT_STATUS, 5, 1⟩
def BT_STATUS_DEFER_SEEN : RF := ⟨BT_STATUS, 6, 1⟩
def BT_STATUS_UNIT : RF := ⟨BT_STATUS, 16, 10⟩
def BT_SCHED0 : Nat := 0x3F0004
def BT_SCHED0_E : RF := ⟨BT_SCHED0, 0, 32⟩
def BT_SCHED1 : Nat := 0x3F0008
def BT_SCHED1_E : RF := ⟨BT_SCHED1, 0, 16⟩
def BT_CTRL : Nat := 0x3F000C
def BT_CTRL_LOGIC_LINE : RF := ⟨BT_CTRL, 0, 3⟩
def BT_CTRL_HARD_LINE : RF := ⟨BT_CTRL, 4, 3⟩
def BT_COUNT_A : Nat := 0x3F0010
def BT_COUNT_A_PASSED : RF := ⟨BT_COUNT_A, 0, 16⟩
def BT_COUNT_A_FAILED : RF := ⟨BT_COUNT_A, 16, 16⟩
def BT_COUNT_B : Nat := 0x3F0014
def BT_COUNT_B_DEFERRED : RF := ⟨BT_COUNT_B, 0, 16⟩
def BT_COUNT_B_ABANDONED : RF := ⟨BT_COUNT_B, 16, 16⟩
def BT_LAST : Nat := 0x3F0018
def BT_LAST_UNIT : RF := ⟨BT_LAST, 0, 10⟩
def BT_LAST_RESULT : RF := ⟨BT_LAST, 12, 2⟩
def BT_LAST_DETAIL : RF := ⟨BT_LAST, 16, 16⟩
def BT_MAP (i : Nat) : Nat := 0x3F0040 + 0x4 * i
def BT_MAP_MAP (i : Nat) : RF := ⟨BT_MAP i, 0, 32⟩
def EV_STATUS (m : Nat) : Nat := 0x020000 + 0x4 * m
def EV_STATUS_STATUS (m : Nat) : RF := ⟨EV_STATUS m, 0, 32⟩
def EV_ROUTE (s : Nat) : Nat := 0x020400 + 0x4 * s
def EV_ROUTE_KIND (s : Nat) : RF := ⟨EV_ROUTE s, 0, 2⟩
def EV_ROUTE_TARGET (s : Nat) : RF := ⟨EV_ROUTE s, 8, 6⟩
def EV_ROUTE_EN (s : Nat) : RF := ⟨EV_ROUTE s, 31, 1⟩
def EV_COUNT (s : Nat) : Nat := 0x020900 + 0x4 * s
def EV_COUNT_COUNT (s : Nat) : RF := ⟨EV_COUNT s, 0, 16⟩
def HP_LINK : Nat := 0x3F8000
def HP_LINK_SPEED : RF := ⟨HP_LINK, 0, 3⟩
def HP_LINK_WIDTH : RF := ⟨HP_LINK, 3, 4⟩
def HP_LINK_DL_UP : RF := ⟨HP_LINK, 7, 1⟩
def HP_LINK_BME : RF := ⟨HP_LINK, 8, 1⟩
def HP_LINK_MSIX_EN : RF := ⟨HP_LINK, 9, 1⟩
def HP_LINK_D3 : RF := ⟨HP_LINK, 10, 1⟩
def HP_LINK_PERST_PIN : RF := ⟨HP_LINK, 11, 1⟩
def HP_FLAGS : Nat := 0x3F8004
def HP_FLAGS_DOWN_SEEN : RF := ⟨HP_FLAGS, 0, 1⟩
def HP_FLAGS_RESET_SEEN : RF := ⟨HP_FLAGS, 1, 1⟩
def HP_FLAGS_DISCARD_SEEN : RF := ⟨HP_FLAGS, 2, 1⟩
def HP_ERR : Nat := 0x3F8008
def HP_ERR_ABORTS : RF := ⟨HP_ERR, 0, 16⟩
def HP_ERR_DISCARDS : RF := ⟨HP_ERR, 16, 16⟩
def HP_ERR2 : Nat := 0x3F800C
def HP_ERR2_TIMEOUTS : RF := ⟨HP_ERR2, 0, 16⟩
def HP_ERR2_POISONED : RF := ⟨HP_ERR2, 16, 16⟩
def HP_BAR2_SIZE : Nat := 0x3F8010
def HP_BAR2_SIZE_LOG2 : RF := ⟨HP_BAR2_SIZE, 0, 6⟩
def HP_APER_BASE_LO : Nat := 0x3F8020
def HP_APER_BASE_LO_BASE : RF := ⟨HP_APER_BASE_LO, 30, 2⟩
def HP_APER_BASE_HI : Nat := 0x3F8024
def HP_APER_BASE_HI_BASE : RF := ⟨HP_APER_BASE_HI, 0, 32⟩
def HP_APER_CTRL : Nat := 0x3F8028
def HP_APER_CTRL_EN : RF := ⟨HP_APER_CTRL, 0, 1⟩
def HP_WIN_LOCAL (w : Nat) : Nat := 0x3F8040 + 0x10 * w
def HP_WIN_LOCAL_BASE_MIB (w : Nat) : RF := ⟨HP_WIN_LOCAL w, 0, 16⟩
def HP_WIN_LOCAL_READ_ONLY (w : Nat) : RF := ⟨HP_WIN_LOCAL w, 30, 1⟩
def HP_WIN_LOCAL_EN (w : Nat) : RF := ⟨HP_WIN_LOCAL w, 31, 1⟩
def HP_WIN_SIZE (w : Nat) : Nat := 0x3F8044 + 0x10 * w
def HP_WIN_SIZE_SIZE_MIB (w : Nat) : RF := ⟨HP_WIN_SIZE w, 0, 17⟩
def HP_WIN_OFFSET (w : Nat) : Nat := 0x3F8048 + 0x10 * w
def HP_WIN_OFFSET_OFFSET_MIB (w : Nat) : RF := ⟨HP_WIN_OFFSET w, 0, 17⟩
def HP_DMA_BASE_LO (c : Nat) : Nat := 0x3F8100 + 0x20 * c
def HP_DMA_BASE_LO_BASE (c : Nat) : RF := ⟨HP_DMA_BASE_LO c, 6, 26⟩
def HP_DMA_BASE_HI (c : Nat) : Nat := 0x3F8104 + 0x20 * c
def HP_DMA_BASE_HI_BASE (c : Nat) : RF := ⟨HP_DMA_BASE_HI c, 0, 32⟩
def HP_DMA_CTRL (c : Nat) : Nat := 0x3F8108 + 0x20 * c
def HP_DMA_CTRL_EN (c : Nat) : RF := ⟨HP_DMA_CTRL c, 0, 1⟩
def HP_DMA_CTRL_LOG2 (c : Nat) : RF := ⟨HP_DMA_CTRL c, 1, 4⟩
def HP_DMA_CTRL_VECTOR (c : Nat) : RF := ⟨HP_DMA_CTRL c, 8, 6⟩
def HP_DMA_CTRL_STATE (c : Nat) : RF := ⟨HP_DMA_CTRL c, 16, 2⟩
def HP_DMA_CTRL_ERR (c : Nat) : RF := ⟨HP_DMA_CTRL c, 24, 8⟩
def HP_DMA_PROD (c : Nat) : Nat := 0x3F810C + 0x20 * c
def HP_DMA_PROD_INDEX (c : Nat) : RF := ⟨HP_DMA_PROD c, 0, 16⟩
def HP_DMA_CONS (c : Nat) : Nat := 0x3F8110 + 0x20 * c
def HP_DMA_CONS_INDEX (c : Nat) : RF := ⟨HP_DMA_CONS c, 0, 16⟩
def IO_BANK_STATUS (b : Nat) : Nat := 0x3FC000 + 0x8 * b
def IO_BANK_STATUS_VCCIO_MV (b : Nat) : RF := ⟨IO_BANK_STATUS b, 0, 12⟩
def IO_BANK_STATUS_MISMATCH (b : Nat) : RF := ⟨IO_BANK_STATUS b, 12, 1⟩
def IO_BANK_STATUS_CAL_OK (b : Nat) : RF := ⟨IO_BANK_STATUS b, 13, 1⟩
def IO_BANK_CAL (b : Nat) : Nat := 0x3FC004 + 0x8 * b
def IO_BANK_CAL_TAP_FS (b : Nat) : RF := ⟨IO_BANK_CAL b, 0, 16⟩
def IO_BANK_CAL_TRIM (b : Nat) : RF := ⟨IO_BANK_CAL b, 16, 8⟩
def IO_PIN (n : Nat) : Nat := 0x3FC100 + 0x4 * n
def IO_PIN_STATIC (n : Nat) : RF := ⟨IO_PIN n, 0, 12⟩
def IO_PIN_IN (n : Nat) : RF := ⟨IO_PIN n, 16, 1⟩
def IO_PIN_OE (n : Nat) : RF := ⟨IO_PIN n, 17, 1⟩
def IO_PIN_PARKED (n : Nat) : RF := ⟨IO_PIN n, 18, 1⟩
def IO_PIN_TAP (n : Nat) : RF := ⟨IO_PIN n, 20, 9⟩
def MB_RR_LAST : Nat := 0x010800
def MB_RR_LAST_LAST : RF := ⟨MB_RR_LAST, 0, 4⟩
def NC_RSV (e i : Nat) : Nat := 0x384000 + 0x80 * e + 0x4 * i
def NC_RSV_DST (e i : Nat) : RF := ⟨NC_RSV e i, 0, 8⟩
def NC_RSV_EN (e i : Nat) : RF := ⟨NC_RSV e i, 8, 1⟩
def NC_RSV_RATE (e i : Nat) : RF := ⟨NC_RSV e i, 16, 16⟩
def SM_SEG_MAP (s : Nat) : Nat := 0x201000 + 0x4 * s
def SM_SEG_MAP_CH_LOG2 (s : Nat) : RF := ⟨SM_SEG_MAP s, 0, 3⟩
def SM_SEG_MAP_CH_FIRST (s : Nat) : RF := ⟨SM_SEG_MAP s, 8, 5⟩
def SM_SEG_MAP_PBASE (s : Nat) : RF := ⟨SM_SEG_MAP s, 16, 8⟩
def SM_SEG_MAP_ALLOC (s : Nat) : RF := ⟨SM_SEG_MAP s, 24, 1⟩
def SM_SEG_MAP_PRIV (s : Nat) : RF := ⟨SM_SEG_MAP s, 25, 1⟩
def NC_ARRAY : Nat := 0x38D000
def NC_ARRAY_DEV_ID : RF := ⟨NC_ARRAY, 0, 3⟩
def NC_ARRAY_COL : RF := ⟨NC_ARRAY, 3, 2⟩
def NC_ARRAY_ROW : RF := ⟨NC_ARRAY, 5, 1⟩
def NC_ARRAY_MEMBERS : RF := ⟨NC_ARRAY, 8, 8⟩
def NC_ARRAY_TRIG_EXPORT : RF := ⟨NC_ARRAY, 16, 8⟩
def NC_ARRAY_ALIGNED : RF := ⟨NC_ARRAY, 24, 1⟩
def CQ_NOTIFY (i : Nat) : Nat := 0x118000 + 0x4 * i
def CQ_NOTIFY_BITS (i : Nat) : RF := ⟨CQ_NOTIFY i, 0, 32⟩
def TE_RSVD (e : Nat) : Nat := 0x30001C + 0x40 * e
def SB_RSVD (b : Nat) : Nat := 0x28000C + 0x10 * b
def QC_WIN_RSVD (q w : Nat) : Nat := 0x29011C + 0x200 * q + 0x20 * w
def NC_EP_RSVD (e i : Nat) : Nat := 0x381014 + 0x20 * e + 0x4 * i

end R

end Sys2Proof.Machine
end

