-- ==== Sys2Proof/Machine/RegMap.lean ====
section
/-!
DEFINITION. Machine/RegMap.lean: the register map of the control space (R13): for every register of the register
tables its offset, how often it is repeated, its reset word and the bits of each access class (R18). Bits in none
of the class masks are RO. The rows are the register tables of spec/ written out.

PRESUMED/DESIGN CHOICE resets (fuse, pin, random, rail): log entries 3, 4 and 5.
-/

namespace Sys2Proof.Machine

/-- One row of the register map: `base + i * stride + j * stride2`, i below `count`, j below `count2`; the reset
word; the bits of the classes RW, W1C, GO and WO; and the bits that are turn-latched (TL). -/
structure RegRow where
  base : Nat
  count : Nat
  stride : Nat
  count2 : Nat
  stride2 : Nat
  reset : Nat
  rw : Nat
  w1c : Nat
  go : Nat
  wo : Nat
  tl : Nat
  deriving DecidableEq, Repr

/-- Instance numbers of an offset in a row, if the row covers the offset. -/
def rowInstance (r : RegRow) (off : Nat) : Option (Nat × Nat) :=
  if off < r.base then none
  else
    let d := off - r.base
    let i := d / r.stride
    let rest := d % r.stride
    let j := rest / r.stride2
    if i < r.count ∧ j < r.count2 ∧ rest % r.stride2 = 0 then some (i, j) else none

/-- R564, R565: does local port p of the router at (x, y) carry an endpoint? -/
def endpointFitted (e : Nat) : Bool :=
  let r := e / 4
  let p := e % 4
  let x := r % 10
  let y := r / 10
  if e ≥ 240 then false
  else if 2 ≤ x ∧ x ≤ 7 ∧ 1 ≤ y ∧ y ≤ 4 then true
  else if y = 5 then p == 0 || (x == 4 && p == 1)
  else if y = 0 then p == 0 || (x == 4 && p == 1)
  else if x = 0 then p == 0 || (y == 2 && p == 1)
  else if x = 9 then p == 0 || (y == 2 && p == 1)
  else if x = 1 then p == 0
  else if y = 1 then p ≤ 1
  else if y = 2 then p == 0
  else if y = 3 then p ≤ 1
  else p == 0

/-- R601: an endpoint resets to ISOLATED (3), or to ABSENT (0) where there is none. -/
def endpointStateReset (e : Nat) : Nat := if endpointFitted e then 3 else 0

/-- R724: the operating value of rail k in millivolts; the AVS rails start at 0.75 V (R729). The VCCIO banks,
whose level the board sets (1.2, 1.5 or 1.8 V), read 1.8 V (log entry 4). -/
def railTarget (k : Nat) : Nat :=
  if k = 0 then 1800 else if k = 1 then 750 else if k = 2 then 1200 else if k = 3 then 850
  else if k = 4 then 1800 else if k = 5 then 1050 else if k ≤ 8 then 750 else 1800

/-- R724: the rails that the board sets (bit 3 of PW_RAIL_STATE). -/
def railBoard (k : Nat) : Nat := if k ≤ 1 ∨ 9 ≤ k then 8 else 0

/-- R739: the zone of sensor n. -/
def sensorZone (n : Nat) : Nat :=
  if n < 16 then n % 8 else if n < 20 then 8 else if n < 52 then 9 + (n - 20) / 4
  else if n < 56 then 17 else if n < 60 then 18 else 19

/-- R759: TH_SENSOR carries its zone in bits 20:16; every sensor is present (LF96-96, log entry 3). -/
def sensorZoneReset (n : Nat) : Nat := sensorZone n * 65536

/-- R741: Warn, Throttle, Stop and Trip of a zone, one byte each. -/
def zoneLimits (z : Nat) : Nat := if 9 ≤ z ∧ z ≤ 16 then 0x69615C55 else 0x766C665F

/-- R736: the FPLL frequencies at speed grade 3, in kHz. -/
def fpllFreqReset (n : Nat) : Nat :=
  if n = 0 then 100000 else if n = 1 then 200000 else if n = 2 then 250000 else if n = 3 then 300000
  else if n = 4 then 400000 else if n = 5 then 500000 else if n = 6 then 600000 else 800000

/-- The part of a reset word that depends on the instance (fuse, rail and die values). -/
def instanceReset (base i : Nat) : Nat :=
  if base = 0x290000 then (if i < 96 then 0 else 1)
  else if base = 0x200000 then (i / 4) * 4096
  else if base = 0x381004 then endpointStateReset i
  else if base = 0x040104 then fpllFreqReset i
  else if base = 0x060100 then railTarget i
  else if base = 0x060108 then railBoard i
  else if base = 0x050100 then sensorZoneReset i
  else if base = 0x050204 then zoneLimits i
  else 0

/-- Registers at block offsets 0x00_0000 on. -/
def regRows00a : List RegRow :=
  [ ⟨0x000000, 1, 0x1000000, 1, 0x1000000, 0x4C460096, 0x00000000, 0x00000000, 0x00000000, 0x00000000, 0x00000000⟩ -- ID_DEVICE
  , ⟨0x000004, 1, 0x1000000, 1, 0x1000000, 0x00001360, 0x00000000, 0x00000000, 0x00000000, 0x00000000, 0x00000000⟩ -- ID_VARIANT
  , ⟨0x000008, 1, 0x1000000, 1, 0x1000000, 0x00000000, 0x00000000, 0x00000000, 0x00000000, 0x00000000, 0x00000000⟩ -- ID_SERIAL_LO
  , ⟨0x00000C, 1, 0x1000000, 1, 0x1000000, 0x00000000, 0x00000000, 0x00000000, 0x00000000, 0x00000000, 0x00000000⟩ -- ID_SERIAL_HI
  , ⟨0x000010, 1, 0x1000000, 1, 0x1000000, 0x00000000, 0x00000000, 0x00000000, 0xFFFFFFFF, 0x00000000, 0x00000000⟩ -- ID_FW_VERSION
  , ⟨0x000014, 1, 0x1000000, 1, 0x1000000, 0x01000000, 0x00000000, 0x00000000, 0x00000000, 0x00000000, 0x00000000⟩ -- ID_ROM_VERSION
  , ⟨0x000018, 1, 0x1000000, 1, 0x1000000, 0x00000000, 0x00000000, 0x00000000, 0x00000000, 0x00000000, 0x00000000⟩ -- ID_SECURITY_VERSION
  , ⟨0x000028, 1, 0x1000000, 1, 0x1000000, 0x00000002, 0x00000000, 0x00000000, 0x0000FF09, 0x00000000, 0x00000000⟩ -- GAF_STATUS
  , ⟨0x00002C, 1, 0x1000000, 1, 0x1000000, 0x00000000, 0x00000000, 0x00000000, 0xFFFFFFFF, 0x00000000, 0x00000000⟩ -- GAF_HEARTBEAT
  , ⟨0x000030, 1, 0x1000000, 1, 0x1000000, 0x00000001, 0x00000000, 0x0000003F, 0x00000000, 0x00000000, 0x00000000⟩ -- GAF_RESTART_CAUSE
  , ⟨0x000034, 1, 0x1000000, 1, 0x1000000, 0x00000000, 0x00000000, 0x00000000, 0x00000000, 0x00000000, 0x00000000⟩ -- GAF_RESTART_COUNT
  , ⟨0x000038, 4, 0x4, 1, 0x4, 0x00000000, 0xFFFFFFFF, 0x00000000, 0x00000000, 0x00000000, 0x00000000⟩ -- GAF_SCRATCH
  , ⟨0x000048, 1, 0x1000000, 1, 0x1000000, 0x00000000, 0x00000000, 0x00000000, 0x000000FF, 0x00000000, 0x00000000⟩ -- GAF_LOAD
  , ⟨0x000020, 1, 0x1000000, 1, 0x1000000, 0x00000000, 0x00000000, 0x00000000, 0xFF07FFFF, 0x00000000, 0x00000000⟩ -- GAF_MODE
  , ⟨0x000024, 1, 0x1000000, 1, 0x1000000, 0x00003002, 0x00000000, 0x00000000, 0x00000308, 0x00000000, 0x00000000⟩ -- GAF_LIFECYCLE
  , ⟨0x00004C, 1, 0x1000000, 1, 0x1000000, 0x00000000, 0x00000000, 0x00000000, 0xFFFF00FF, 0x00000000, 0x00000000⟩ -- GAF_YIELD
  ]

def regRows00 : List RegRow := regRows00a

/-- Registers at block offsets 0x01_0000 on. -/
def regRows01a : List RegRow :=
  [ ⟨0x010000, 16, 0x40, 1, 0x40, 0x00000000, 0x00000000, 0x00000000, 0x00000000, 0xFFFFFFFF, 0x00000000⟩ -- MB_DOORBELL
  , ⟨0x010004, 16, 0x40, 1, 0x40, 0x00000000, 0x00000000, 0x0000000C, 0x00000000, 0x00000000, 0x00000000⟩ -- MB_STATUS
  , ⟨0x010008, 16, 0x40, 1, 0x40, 0x00000000, 0x00000000, 0x00000000, 0x00000000, 0xFFFFFFFF, 0x00000000⟩ -- MB_ACK
  , ⟨0x01000C, 16, 0x40, 1, 0x40, 0x0000FFFF, 0x00000000, 0x00000000, 0x00000000, 0x00000000, 0x00000000⟩ -- MB_CPL
  , ⟨0x010010, 16, 0x40, 1, 0x40, 0x00000000, 0x00000000, 0x00000000, 0x00000000, 0xFFFFFFFF, 0x00000000⟩ -- MB_CPL_POP
  , ⟨0x010014, 16, 0x40, 1, 0x40, 0x00000000, 0x00000000, 0x00000000, 0xFFFFFFFF, 0x00000000, 0x00000000⟩ -- MB_ACTIVE
  , ⟨0x010018, 16, 0x40, 1, 0x40, 0x00000000, 0x00000000, 0x00000000, 0xFFFFFFFF, 0x00000000, 0x00000000⟩ -- MB_STATS
  , ⟨0x01001C, 16, 0x40, 1, 0x40, 0x00000001, 0x00000000, 0x00000000, 0x00000001, 0x00000000, 0x00000000⟩ -- MB_CONFIG
  , ⟨0x010800, 1, 0x1000000, 1, 0x1000000, 0x0000000F, 0x00000000, 0x00000000, 0x0000000F, 0x00000000, 0x00000000⟩ -- MB_RR_LAST
  ]

def regRows01 : List RegRow := regRows01a

/-- Registers at block offsets 0x02_0000 on. -/
def regRows02a : List RegRow :=
  [ ⟨0x020000, 9, 0x4, 1, 0x4, 0x00000000, 0x00000000, 0xFFFFFFFF, 0x00000000, 0x00000000, 0x00000000⟩ -- EV_STATUS
  , ⟨0x020400, 288, 0x4, 1, 0x4, 0x00000000, 0x00000000, 0x00000000, 0x80003F03, 0x00000000, 0x00000000⟩ -- EV_ROUTE
  , ⟨0x020900, 288, 0x4, 1, 0x4, 0x00000000, 0x00000000, 0x00000000, 0x00000000, 0x00000000, 0x00000000⟩ -- EV_COUNT
  ]

def regRows02 : List RegRow := regRows02a

/-- Registers at block offsets 0x03_0000 on. -/
def regRows03a : List RegRow :=
  [ ⟨0x030000, 1, 0x1000000, 1, 0x1000000, 0x00000000, 0x00000000, 0x00000000, 0x000F7F7F, 0x00000000, 0x000F7F7F⟩ -- TS_CTRL
  , ⟨0x030004, 1, 0x1000000, 1, 0x1000000, 0x001312D0, 0x00000000, 0x00000000, 0xFFFFFFFF, 0x00000000, 0xFFFFFFFF⟩ -- TS_PERIOD
  , ⟨0x030008, 1, 0x1000000, 1, 0x1000000, 0x00000001, 0x00000000, 0x00000000, 0x000FFFFF, 0x00000000, 0x000FFFFF⟩ -- TS_PPS_DIV
  , ⟨0x03000C, 1, 0x1000000, 1, 0x1000000, 0x00000040, 0x00000000, 0x00000000, 0x0000FFFF, 0x00000000, 0x0000FFFF⟩ -- TS_FLY_WINDOW
  , ⟨0x030010, 1, 0x1000000, 1, 0x1000000, 0x00000000, 0x00000000, 0x00000000, 0xFFFFFFFF, 0x00000000, 0xFFFFFFFF⟩ -- TS_MARKER_PAT
  , ⟨0x030014, 1, 0x1000000, 1, 0x1000000, 0x00000000, 0x00000000, 0x00000000, 0xFFFFFFFF, 0x00000000, 0xFFFFFFFF⟩ -- TS_MARKER_MASK
  , ⟨0x030020, 1, 0x1000000, 1, 0x1000000, 0x00000000, 0x00000000, 0x00000300, 0x00000000, 0x00000000, 0x00000000⟩ -- TS_STATUS
  , ⟨0x030024, 1, 0x1000000, 1, 0x1000000, 0x00000000, 0x00000000, 0x00000000, 0x00000000, 0x00000000, 0x00000000⟩ -- TS_TURN_LO
  , ⟨0x030028, 1, 0x1000000, 1, 0x1000000, 0x00000000, 0x00000000, 0x00000000, 0x00000000, 0x00000000, 0x00000000⟩ -- TS_TURN_HI
  , ⟨0x03002C, 1, 0x1000000, 1, 0x1000000, 0x00000000, 0x00000000, 0x00000000, 0x00000000, 0x00000000, 0x00000000⟩ -- TS_PIP
  , ⟨0x030030, 1, 0x1000000, 1, 0x1000000, 0x00000000, 0x00000000, 0x00000000, 0x00000000, 0x00000000, 0x00000000⟩ -- TS_PIP_LIVE
  , ⟨0x030034, 1, 0x1000000, 1, 0x1000000, 0x00000000, 0x00000000, 0x00000000, 0x00000000, 0x00000000, 0x00000000⟩ -- TS_LAST_LEN
  , ⟨0x030038, 1, 0x1000000, 1, 0x1000000, 0x00000000, 0x00000000, 0x00000000, 0x00000000, 0x00000000, 0x00000000⟩ -- TS_MEAN_LEN
  , ⟨0x03003C, 1, 0x1000000, 1, 0x1000000, 0x00000000, 0x00000000, 0x00000000, 0x00000000, 0x00000000, 0x00000000⟩ -- TS_SRC_LATENCY
  , ⟨0x030040, 1, 0x1000000, 1, 0x1000000, 0x00000000, 0x00000000, 0x00000000, 0x00000000, 0x00000000, 0x00000000⟩ -- TS_COUNT_A
  , ⟨0x030044, 1, 0x1000000, 1, 0x1000000, 0x00000000, 0x00000000, 0x00000000, 0x00000000, 0x00000000, 0x00000000⟩ -- TS_COUNT_B
  , ⟨0x030048, 1, 0x1000000, 1, 0x1000000, 0x00000000, 0x00000000, 0x00000000, 0x00000000, 0x00000000, 0x00000000⟩ -- TS_SCHED_CODE
  , ⟨0x03004C, 1, 0x1000000, 1, 0x1000000, 0x00000001, 0x00000000, 0x00000000, 0x00000000, 0x00000000, 0x00000000⟩ -- TS_SCHED_USED
  ]

def regRows03 : List RegRow := regRows03a

/-- Registers at block offsets 0x04_0000 on. -/
def regRows04a : List RegRow :=
  [ ⟨0x040000, 1, 0x1000000, 1, 0x1000000, 0x00000001, 0x00000000, 0x00000000, 0x00000000, 0x00000000, 0x00000000⟩ -- CK_STATUS
  , ⟨0x040004, 1, 0x1000000, 1, 0x1000000, 0x00000000, 0x00000000, 0x000000FF, 0x00000000, 0x00000000, 0x00000000⟩ -- CK_FLAGS
  , ⟨0x040008, 1, 0x1000000, 1, 0x1000000, 0x0000000F, 0x00000000, 0x00000000, 0x00000008, 0x00000000, 0x00000000⟩ -- CK_BASE_SRC
  , ⟨0x04000C, 1, 0x1000000, 1, 0x1000000, 0x00000000, 0x00000000, 0x00000000, 0x00000000, 0x00000000, 0x00000000⟩ -- CK_FURNACE
  , ⟨0x040010, 1, 0x1000000, 1, 0x1000000, 0x00000000, 0x00000000, 0x00000000, 0x00000000, 0x00000000, 0x00000000⟩ -- CK_GATE_REFUSALS
  , ⟨0x040020, 6, 0x4, 1, 0x4, 0xFFFFFFFF, 0x00000000, 0x00000000, 0xFFFFFFFF, 0x00000000, 0x00000000⟩ -- CK_AUTO_EN
  , ⟨0x040040, 6, 0x4, 1, 0x4, 0x00000000, 0x00000000, 0x00000000, 0xFFFFFFFF, 0x00000000, 0x00000000⟩ -- CK_FORCE
  , ⟨0x040060, 6, 0x4, 1, 0x4, 0xFFFFFFFF, 0x00000000, 0x00000000, 0x00000000, 0x00000000, 0x00000000⟩ -- CK_GATED
  , ⟨0x040100, 8, 0x10, 1, 0x10, 0x000001C0, 0x000001FF, 0x00000000, 0x00000000, 0x00000000, 0x000001FF⟩ -- CK_FPLL_CFG
  , ⟨0x040104, 8, 0x10, 1, 0x10, 0x00000000, 0x000FFFFF, 0x00000000, 0x00000000, 0x00000000, 0x000FFFFF⟩ -- CK_FPLL_FREQ
  , ⟨0x040108, 8, 0x10, 1, 0x10, 0x00000008, 0x00000000, 0x00000010, 0x00000000, 0x00000000, 0x00000000⟩ -- CK_FPLL_STATUS
  , ⟨0x040200, 8, 0x10, 1, 0x10, 0x000A0000, 0x001F07FF, 0x00000000, 0x00000000, 0x20000000, 0x00000000⟩ -- CK_FM_CTRL
  , ⟨0x040204, 8, 0x10, 1, 0x10, 0x00000000, 0x00000000, 0x00000000, 0x00000000, 0x00000000, 0x00000000⟩ -- CK_FM_RES_LO
  , ⟨0x040208, 8, 0x10, 1, 0x10, 0x00000000, 0x00000000, 0x00000000, 0x00000000, 0x00000000, 0x00000000⟩ -- CK_FM_RES_HI
  ]

def regRows04 : List RegRow := regRows04a

/-- Registers at block offsets 0x05_0000 on. -/
def regRows05a : List RegRow :=
  [ ⟨0x050000, 1, 0x1000000, 1, 0x1000000, 0x00000080, 0x00000000, 0x00000000, 0x00000000, 0x00000000, 0x00000000⟩ -- TH_STATUS
  , ⟨0x050004, 1, 0x1000000, 1, 0x1000000, 0x00000000, 0x00000000, 0x0000003F, 0x00000000, 0x00000000, 0x00000000⟩ -- TH_FLAGS
  , ⟨0x050008, 1, 0x1000000, 1, 0x1000000, 0x00000003, 0x00000000, 0x00000000, 0x0000000F, 0x00000000, 0x00000000⟩ -- TH_CTRL
  , ⟨0x05000C, 1, 0x1000000, 1, 0x1000000, 0x00F00000, 0x00000000, 0x00000000, 0x0FFF0FFF, 0x00000000, 0x00000000⟩ -- TH_POWER
  , ⟨0x050100, 64, 0x4, 1, 0x4, 0x00000000, 0x00000000, 0x00000000, 0x00000000, 0x00000000, 0x00000000⟩ -- TH_SENSOR
  , ⟨0x050200, 20, 0x8, 1, 0x8, 0x00000000, 0x00000000, 0x00000000, 0x00000000, 0x00000000, 0x00000000⟩ -- TH_ZONE_STATE
  , ⟨0x050204, 20, 0x8, 1, 0x8, 0x00000000, 0x00000000, 0x00000000, 0x00000000, 0x00000000, 0x00000000⟩ -- TH_ZONE_LIMITS
  ]

def regRows05 : List RegRow := regRows05a

/-- Registers at block offsets 0x06_0000 on. -/
def regRows06a : List RegRow :=
  [ ⟨0x060000, 1, 0x1000000, 1, 0x1000000, 0x00000038, 0x00000000, 0x00000000, 0x00000047, 0x00000000, 0x00000000⟩ -- PW_STATUS
  , ⟨0x060004, 1, 0x1000000, 1, 0x1000000, 0x00000000, 0x00000000, 0x0000000F, 0x00000000, 0x00000000, 0x00000000⟩ -- PW_FLAGS
  , ⟨0x060008, 1, 0x1000000, 1, 0x1000000, 0x00000000, 0x00000000, 0x00000000, 0x0000FFFF, 0x00000000, 0x00000000⟩ -- PW_REG_PRESENT
  , ⟨0x06000C, 1, 0x1000000, 1, 0x1000000, 0x00000000, 0x00000000, 0x00000000, 0x007FFFFF, 0x00000000, 0x00000000⟩ -- PW_PMB_ERR
  , ⟨0x060010, 1, 0x1000000, 1, 0x1000000, 0x00000000, 0x00000000, 0x00000000, 0xFFFFFFFF, 0x00000000, 0x00000000⟩ -- PW_VIN
  , ⟨0x060100, 21, 0x10, 1, 0x10, 0x00000000, 0x00000000, 0x00000000, 0x00000FFF, 0x00000000, 0x00000000⟩ -- PW_RAIL_CTRL
  , ⟨0x060104, 21, 0x10, 1, 0x10, 0x00000000, 0x00000000, 0x00000000, 0x0FFF0000, 0x00000000, 0x00000000⟩ -- PW_RAIL_MEAS
  , ⟨0x060108, 21, 0x10, 1, 0x10, 0x00000000, 0x00000000, 0x00000000, 0x00000000, 0x00000000, 0x00000000⟩ -- PW_RAIL_STATE
  ]

def regRows06 : List RegRow := regRows06a

/-- Registers at block offsets 0x08_0000 on. -/
def regRows08a : List RegRow :=
  [ ⟨0x080000, 120, 0x80, 1, 0x80, 0x00019100, 0x00000000, 0x00000000, 0x0007FFFF, 0x00000000, 0x0007FFFF⟩ -- LN_CTRL
  , ⟨0x080004, 120, 0x80, 1, 0x80, 0x00083000, 0x00000000, 0x00000000, 0x003F3F1F, 0x00000000, 0x003F3F1F⟩ -- LN_TX_EQ
  , ⟨0x080008, 120, 0x80, 1, 0x80, 0x000001BC, 0x00000000, 0x00000000, 0x007F01FF, 0x00000000, 0x007F01FF⟩ -- LN_IDLE
  , ⟨0x08000C, 120, 0x80, 1, 0x80, 0x00000003, 0x00000000, 0x00000000, 0x000001FF, 0x00000000, 0x00000000⟩ -- LN_EVT_MASK
  , ⟨0x080010, 120, 0x80, 1, 0x80, 0x000000C0, 0x00000000, 0x00000000, 0x00000000, 0x00000000, 0x00000000⟩ -- LN_STATUS
  , ⟨0x080014, 120, 0x80, 1, 0x80, 0x00000000, 0x00000000, 0x000001FF, 0x00000000, 0x00000000, 0x00000000⟩ -- LN_FLAGS
  , ⟨0x080018, 120, 0x80, 1, 0x80, 0x00000000, 0x00000000, 0x00000000, 0x00000000, 0x00000000, 0x00000000⟩ -- LN_CNT_DISP
  , ⟨0x08001C, 120, 0x80, 1, 0x80, 0x00000000, 0x00000000, 0x00000000, 0x00000000, 0x00000000, 0x00000000⟩ -- LN_CNT_CODE
  , ⟨0x080020, 120, 0x80, 1, 0x80, 0x00000000, 0x00000000, 0x00000000, 0x00000000, 0x00000000, 0x00000000⟩ -- LN_CNT_LINK
  , ⟨0x080024, 120, 0x80, 1, 0x80, 0x00000000, 0x00000000, 0x00000000, 0x000000FF, 0x00000000, 0x00000000⟩ -- LN_PRBS_CTRL
  , ⟨0x080028, 120, 0x80, 1, 0x80, 0x00000000, 0x00000000, 0x00000000, 0xFFFFFFFF, 0x00000000, 0x00000000⟩ -- LN_PRBS_USER0
  , ⟨0x08002C, 120, 0x80, 1, 0x80, 0x00000000, 0x00000000, 0x00000000, 0xFFFFFFFF, 0x00000000, 0x00000000⟩ -- LN_PRBS_USER1
  , ⟨0x080030, 120, 0x80, 1, 0x80, 0x00000000, 0x00000000, 0x00000000, 0x0000FFFF, 0x00000000, 0x00000000⟩ -- LN_PRBS_USER2
  , ⟨0x080034, 120, 0x80, 1, 0x80, 0x00000000, 0x00000000, 0x00000000, 0x00000000, 0x00000000, 0x00000000⟩ -- LN_PRBS_BITS_LO
  , ⟨0x080038, 120, 0x80, 1, 0x80, 0x00000000, 0x00000000, 0x00000000, 0x00000000, 0x00000000, 0x00000000⟩ -- LN_PRBS_BITS_HI
  , ⟨0x08003C, 120, 0x80, 1, 0x80, 0x00000000, 0x00000000, 0x00000000, 0x00000000, 0x00000000, 0x00000000⟩ -- LN_PRBS_ERR_LO
  , ⟨0x080040, 120, 0x80, 1, 0x80, 0x00000000, 0x00000000, 0x00000000, 0x00000000, 0x00000000, 0x00000000⟩ -- LN_PRBS_ERR_HI
  , ⟨0x080044, 120, 0x80, 1, 0x80, 0x00000000, 0x00000000, 0x00000000, 0x00000000, 0x00000000, 0x00000000⟩ -- LN_INJ
  , ⟨0x080048, 120, 0x80, 1, 0x80, 0x00000000, 0x00000000, 0x00000000, 0x00000000, 0x00000000, 0x00000000⟩ -- LN_FREQ_OFF
  , ⟨0x08004C, 120, 0x80, 1, 0x80, 0x00000000, 0x00000000, 0x00000000, 0x00000000, 0x00000000, 0x00000000⟩ -- LN_RX_EQ
  ]

/-- Registers at block offsets 0x08_0000 on. -/
def regRows08b : List RegRow :=
  [ ⟨0x084000, 28, 0x20, 1, 0x20, 0x00000000, 0x00000000, 0x00000000, 0x00000007, 0x00000000, 0x00000007⟩ -- LN_Q_CTRL
  , ⟨0x084004, 28, 0x20, 1, 0x20, 0x00989680, 0x00000000, 0x00000000, 0x01FFFFFF, 0x00000000, 0x01FFFFFF⟩ -- LN_Q_RATE
  , ⟨0x084008, 28, 0x20, 1, 0x20, 0x00000000, 0x00000000, 0x00000004, 0x00000000, 0x00000000, 0x00000000⟩ -- LN_Q_STATUS
  ]

def regRows08 : List RegRow := regRows08a ++ regRows08b

/-- Registers at block offsets 0x10_0000 on. -/
def regRows10a : List RegRow :=
  [ ⟨0x100000, 96, 0x40, 1, 0x40, 0x003F0000, 0x00000000, 0x00000000, 0x003F01FF, 0x00000000, 0x003F01FF⟩ -- GU_CTRL
  , ⟨0x100004, 96, 0x40, 1, 0x40, 0x00000000, 0x00000000, 0x00000000, 0x81FF81FF, 0x00000000, 0x81FF81FF⟩ -- GU_START01
  , ⟨0x100008, 96, 0x40, 1, 0x40, 0x00000000, 0x00000000, 0x00000000, 0x81FF81FF, 0x00000000, 0x81FF81FF⟩ -- GU_START23
  , ⟨0x10000C, 96, 0x40, 1, 0x40, 0x00000000, 0x00000000, 0x00000000, 0x81FF81FF, 0x00000000, 0x81FF81FF⟩ -- GU_END01
  , ⟨0x100010, 96, 0x40, 1, 0x40, 0x00000000, 0x00000000, 0x00000000, 0x81FF81FF, 0x00000000, 0x81FF81FF⟩ -- GU_END23
  , ⟨0x100014, 96, 0x40, 1, 0x40, 0x00000000, 0x00000000, 0x00000000, 0x81FF81FF, 0x00000000, 0x81FF81FF⟩ -- GU_IDLE01
  , ⟨0x100018, 96, 0x40, 1, 0x40, 0x00010000, 0x00000000, 0x00000000, 0x001FFFFF, 0x00000000, 0x001FFFFF⟩ -- GU_MAXLEN
  , ⟨0x10001C, 96, 0x40, 1, 0x40, 0x00000400, 0x00000000, 0x00000000, 0x00007FFF, 0x00000000, 0x00007FFF⟩ -- GU_BLOCK
  , ⟨0x100020, 96, 0x40, 1, 0x40, 0x00000000, 0x00000000, 0x00000000, 0x00000000, 0x00000000, 0x00000000⟩ -- GU_LAT
  , ⟨0x100024, 96, 0x40, 1, 0x40, 0x00000000, 0x00000000, 0x0000003F, 0x00000000, 0x00000000, 0x00000000⟩ -- GU_STATUS
  , ⟨0x100028, 96, 0x40, 1, 0x40, 0x00000000, 0x00000000, 0x00000000, 0x00000000, 0x00000000, 0x00000000⟩ -- GU_FRAMES_LO
  , ⟨0x10002C, 96, 0x40, 1, 0x40, 0x00000000, 0x00000000, 0x00000000, 0x00000000, 0x00000000, 0x00000000⟩ -- GU_FRAMES_HI
  , ⟨0x100030, 96, 0x40, 1, 0x40, 0x00000000, 0x00000000, 0x00000000, 0x00000000, 0x00000000, 0x00000000⟩ -- GU_DROPPED
  , ⟨0x100034, 96, 0x40, 1, 0x40, 0x00000000, 0x00000000, 0x00000000, 0x00000000, 0x00000000, 0x00000000⟩ -- GU_ERRFRAMES
  , ⟨0x100038, 96, 0x40, 1, 0x40, 0x00000000, 0x00000000, 0x00000000, 0x00000000, 0x00000000, 0x00000000⟩ -- GU_DISCARDED
  , ⟨0x108000, 1024, 0x40, 1, 0x40, 0x0000FF00, 0x00000000, 0x00000000, 0x0000FF0F, 0x00000000, 0x00000000⟩ -- CQ_CFG
  , ⟨0x108004, 1024, 0x40, 1, 0x40, 0x00000000, 0x00000000, 0x00000000, 0x0000FFFF, 0x00000000, 0x00000000⟩ -- CQ_BASE
  , ⟨0x108008, 1024, 0x40, 1, 0x40, 0x00000000, 0x00000000, 0x00000000, 0x0001FFFF, 0x00000000, 0x00000000⟩ -- CQ_SIZE
  , ⟨0x10800C, 1024, 0x40, 1, 0x40, 0x00000000, 0x00000000, 0x00000000, 0xFFFFFFFF, 0x00000000, 0x00000000⟩ -- CQ_WINDOW
  , ⟨0x108010, 1024, 0x40, 1, 0x40, 0x00000000, 0x00000000, 0x00000000, 0x0000FFFF, 0x00000000, 0x00000000⟩ -- CQ_RESERVE
  ]

/-- Registers at block offsets 0x10_0000 on. -/
def regRows10b : List RegRow :=
  [ ⟨0x108014, 1024, 0x40, 1, 0x40, 0x00000000, 0x00000000, 0x00000000, 0x00000000, 0x00000000, 0x00000000⟩ -- CQ_STATE
  , ⟨0x108018, 1024, 0x40, 1, 0x40, 0x00000000, 0x00000000, 0x00000000, 0x00000000, 0x00000000, 0x00000000⟩ -- CQ_WPTR
  , ⟨0x10801C, 1024, 0x40, 1, 0x40, 0x00000000, 0x00000000, 0x00000000, 0x00000000, 0x00000000, 0x00000000⟩ -- CQ_SEQ
  , ⟨0x108020, 1024, 0x40, 1, 0x40, 0x00000000, 0x00000000, 0x00000000, 0x00000000, 0x00000000, 0x00000000⟩ -- CQ_TRIG_PTR
  , ⟨0x108024, 1024, 0x40, 1, 0x40, 0x00000000, 0x00000000, 0x00000000, 0x00000000, 0x00000000, 0x00000000⟩ -- CQ_TRIG_TS0
  , ⟨0x108028, 1024, 0x40, 1, 0x40, 0x00000000, 0x00000000, 0x00000000, 0x00000000, 0x00000000, 0x00000000⟩ -- CQ_TRIG_TS1
  , ⟨0x10802C, 1024, 0x40, 1, 0x40, 0x00000000, 0x00000000, 0x00000000, 0x00000000, 0x00000000, 0x00000000⟩ -- CQ_TRIG_TS2
  , ⟨0x108030, 1024, 0x40, 1, 0x40, 0x00000000, 0x00000000, 0x00000000, 0x00000000, 0x00000000, 0x00000000⟩ -- CQ_RECORDS_LO
  , ⟨0x108034, 1024, 0x40, 1, 0x40, 0x00000000, 0x00000000, 0x00000000, 0x00000000, 0x00000000, 0x00000000⟩ -- CQ_RECORDS_HI
  , ⟨0x108038, 1024, 0x40, 1, 0x40, 0x00000000, 0x00000000, 0x00000000, 0x00000000, 0x00000000, 0x00000000⟩ -- CQ_DROPPED
  , ⟨0x10803C, 1024, 0x40, 1, 0x40, 0x00000000, 0x00000000, 0x00000000, 0x00000000, 0x00000000, 0x00000000⟩ -- CQ_REFUSED
  ]

def regRows10 : List RegRow := regRows10a ++ regRows10b

/-- Registers at block offsets 0x11_0000 on. -/
def regRows11a : List RegRow :=
  [ ⟨0x108000, 1024, 0x40, 1, 0x40, 0x0000FF00, 0x00000000, 0x00000000, 0x0000FF0F, 0x00000000, 0x00000000⟩ -- CQ_CFG
  , ⟨0x108004, 1024, 0x40, 1, 0x40, 0x00000000, 0x00000000, 0x00000000, 0x0000FFFF, 0x00000000, 0x00000000⟩ -- CQ_BASE
  , ⟨0x108008, 1024, 0x40, 1, 0x40, 0x00000000, 0x00000000, 0x00000000, 0x0001FFFF, 0x00000000, 0x00000000⟩ -- CQ_SIZE
  , ⟨0x10800C, 1024, 0x40, 1, 0x40, 0x00000000, 0x00000000, 0x00000000, 0xFFFFFFFF, 0x00000000, 0x00000000⟩ -- CQ_WINDOW
  , ⟨0x108010, 1024, 0x40, 1, 0x40, 0x00000000, 0x00000000, 0x00000000, 0x0000FFFF, 0x00000000, 0x00000000⟩ -- CQ_RESERVE
  , ⟨0x108014, 1024, 0x40, 1, 0x40, 0x00000000, 0x00000000, 0x00000000, 0x00000000, 0x00000000, 0x00000000⟩ -- CQ_STATE
  , ⟨0x108018, 1024, 0x40, 1, 0x40, 0x00000000, 0x00000000, 0x00000000, 0x00000000, 0x00000000, 0x00000000⟩ -- CQ_WPTR
  , ⟨0x10801C, 1024, 0x40, 1, 0x40, 0x00000000, 0x00000000, 0x00000000, 0x00000000, 0x00000000, 0x00000000⟩ -- CQ_SEQ
  , ⟨0x108020, 1024, 0x40, 1, 0x40, 0x00000000, 0x00000000, 0x00000000, 0x00000000, 0x00000000, 0x00000000⟩ -- CQ_TRIG_PTR
  , ⟨0x108024, 1024, 0x40, 1, 0x40, 0x00000000, 0x00000000, 0x00000000, 0x00000000, 0x00000000, 0x00000000⟩ -- CQ_TRIG_TS0
  , ⟨0x108028, 1024, 0x40, 1, 0x40, 0x00000000, 0x00000000, 0x00000000, 0x00000000, 0x00000000, 0x00000000⟩ -- CQ_TRIG_TS1
  , ⟨0x10802C, 1024, 0x40, 1, 0x40, 0x00000000, 0x00000000, 0x00000000, 0x00000000, 0x00000000, 0x00000000⟩ -- CQ_TRIG_TS2
  , ⟨0x108030, 1024, 0x40, 1, 0x40, 0x00000000, 0x00000000, 0x00000000, 0x00000000, 0x00000000, 0x00000000⟩ -- CQ_RECORDS_LO
  , ⟨0x108034, 1024, 0x40, 1, 0x40, 0x00000000, 0x00000000, 0x00000000, 0x00000000, 0x00000000, 0x00000000⟩ -- CQ_RECORDS_HI
  , ⟨0x108038, 1024, 0x40, 1, 0x40, 0x00000000, 0x00000000, 0x00000000, 0x00000000, 0x00000000, 0x00000000⟩ -- CQ_DROPPED
  , ⟨0x10803C, 1024, 0x40, 1, 0x40, 0x00000000, 0x00000000, 0x00000000, 0x00000000, 0x00000000, 0x00000000⟩ -- CQ_REFUSED
  , ⟨0x118000, 32, 0x4, 1, 0x4, 0x00000000, 0x00000000, 0xFFFFFFFF, 0x00000000, 0x00000000, 0x00000000⟩ -- CQ_NOTIFY
  ]

def regRows11 : List RegRow := regRows11a

/-- Registers at block offsets 0x14_0000 on. -/
def regRows14a : List RegRow :=
  [ ⟨0x140000, 1, 0x1000000, 1, 0x1000000, 0x4C465EED, 0x00000000, 0x00000000, 0x00000000, 0x00000000, 0x00000000⟩ -- CL_HASH_SEED
  , ⟨0x140004, 1, 0x1000000, 1, 0x1000000, 0x00000000, 0x00000000, 0x00000000, 0x00000000, 0x00000000, 0x00000000⟩ -- CL_STATUS
  , ⟨0x140008, 1, 0x1000000, 1, 0x1000000, 0x00000000, 0x00000000, 0x00000000, 0x00000000, 0x00000000, 0x00000000⟩ -- CL_ERRORS
  , ⟨0x14000C, 1, 0x1000000, 1, 0x1000000, 0x00000000, 0x00000000, 0x00000000, 0x00000000, 0x00000000, 0x00000000⟩ -- CL_INSERT_FAILS
  , ⟨0x140040, 12, 0x4, 1, 0x4, 0x00000000, 0x00000000, 0x00000000, 0xFFFFFFFF, 0x00000000, 0x00000000⟩ -- CL_LANE_PROFILE
  , ⟨0x141000, 16, 0x100, 40, 0x4, 0x00FF1800, 0x00000000, 0x00000000, 0x00FF3FFF, 0x00000000, 0x00000000⟩ -- CL_SEL
  , ⟨0x1410A0, 16, 0x100, 1, 0x100, 0x00000004, 0x00000000, 0x00000000, 0xFFFFFFFF, 0x00000000, 0x00000000⟩ -- CL_MISS_LO
  , ⟨0x1410A4, 16, 0x100, 1, 0x100, 0x00000000, 0x00000000, 0x00000000, 0xFFFFFFFF, 0x00000000, 0x00000000⟩ -- CL_MISS_HI
  , ⟨0x1410A8, 16, 0x100, 1, 0x100, 0x00000001, 0x00000000, 0x00000000, 0x00000001, 0x00000000, 0x00000000⟩ -- CL_PCTRL
  ]

def regRows14 : List RegRow := regRows14a

/-- Registers at block offsets 0x16_0000 on. -/
def regRows16a : List RegRow :=
  [ ⟨0x160000, 1, 0x1000000, 1, 0x1000000, 0x00000000, 0x00000000, 0x00000002, 0x00000000, 0x00000000, 0x00000000⟩ -- TG_STATUS
  , ⟨0x160004, 1, 0x1000000, 1, 0x1000000, 0x00000000, 0x00000000, 0x00000000, 0x00000000, 0x00000000, 0x00000000⟩ -- TG_TRANSITIONS
  , ⟨0x160010, 1, 0x1000000, 1, 0x1000000, 0x00000000, 0x00000000, 0x00000000, 0x0000FFFF, 0x00000000, 0x00000000⟩ -- TG_TIN_CFG
  , ⟨0x160014, 1, 0x1000000, 1, 0x1000000, 0x00000000, 0x00000000, 0x00000000, 0x000000FF, 0x00000000, 0x00000000⟩ -- TG_TOUT_POL
  , ⟨0x160020, 4, 0x4, 1, 0x4, 0x007D007D, 0x00000000, 0x00000000, 0xFFFFFFFF, 0x00000000, 0x00000000⟩ -- TG_TOUT_WIDTH
  , ⟨0x160040, 4, 0x10, 1, 0x10, 0x00000000, 0x00000000, 0x00000000, 0x00000000, 0x00000000, 0x00000000⟩ -- TG_CNT
  , ⟨0x160044, 4, 0x10, 1, 0x10, 0xFFFFFFFF, 0x00000000, 0x00000000, 0xFFFFFFFF, 0x00000000, 0x00000000⟩ -- TG_CNT_LIMIT
  , ⟨0x160048, 4, 0x10, 1, 0x10, 0x00000000, 0x00000000, 0x00000000, 0x000000CF, 0x00000000, 0x00000000⟩ -- TG_CNT_SRC
  , ⟨0x160080, 4, 0x8, 1, 0x8, 0x00000000, 0x00000000, 0x00000000, 0x00000000, 0x00000000, 0x00000000⟩ -- TG_TMR
  , ⟨0x160084, 4, 0x8, 1, 0x8, 0x00000000, 0x00000000, 0x00000000, 0xFFFFFFFF, 0x00000000, 0x00000000⟩ -- TG_TMR_LOAD
  , ⟨0x1600A0, 8, 0x4, 1, 0x4, 0x00000000, 0x00000000, 0x00000000, 0x0000837F, 0x00000000, 0x00000000⟩ -- TG_LANECOND
  , ⟨0x1600C0, 4, 0x4, 1, 0x4, 0x00000000, 0x00000000, 0x00000000, 0x0000873F, 0x00000000, 0x00000000⟩ -- TG_CTXREQ
  , ⟨0x160100, 16, 0x10, 1, 0x10, 0x00000000, 0x00000000, 0x00000000, 0xFFFFFFFF, 0x00000000, 0x00000000⟩ -- TG_TERM_MASK_LO
  , ⟨0x160104, 16, 0x10, 1, 0x10, 0x00000000, 0x00000000, 0x00000000, 0xFFFFFFFF, 0x00000000, 0x00000000⟩ -- TG_TERM_MASK_HI
  , ⟨0x160108, 16, 0x10, 1, 0x10, 0x00000000, 0x00000000, 0x00000000, 0x00000003, 0x00000000, 0x00000000⟩ -- TG_TERM_CTRL
  , ⟨0x160200, 16, 0x40, 4, 0x10, 0x00000000, 0x00000000, 0x00000000, 0x070F838F, 0x00000000, 0x00000000⟩ -- TG_TR_COND
  , ⟨0x160204, 16, 0x40, 4, 0x10, 0x00000000, 0x00000000, 0x00000000, 0xFFFFFFFF, 0x00000000, 0x00000000⟩ -- TG_TR_OUT
  , ⟨0x160208, 16, 0x40, 4, 0x10, 0x00000000, 0x00000000, 0x00000000, 0x00FFFF0F, 0x00000000, 0x00000000⟩ -- TG_TR_OPS
  ]

def regRows16 : List RegRow := regRows16a

/-- Registers at block offsets 0x18_0000 on. -/
def regRows18a : List RegRow :=
  [ ⟨0x180000, 32, 0x80, 1, 0x80, 0x01BC0C00, 0x00000000, 0x00000000, 0x01FFFFF7, 0x00000000, 0x00000000⟩ -- RP_CFG
  , ⟨0x180004, 32, 0x80, 1, 0x80, 0x55555555, 0x00000000, 0x00000000, 0xFFFFFFFF, 0x00000000, 0x00000000⟩ -- RP_RAW_IDLE
  , ⟨0x180008, 32, 0x80, 1, 0x80, 0x00000000, 0x00000000, 0x00000000, 0x7FFFFFFF, 0x00000000, 0x00000000⟩ -- RP_BASE
  , ⟨0x18000C, 32, 0x80, 1, 0x80, 0x00000000, 0x00000000, 0x00000000, 0x7FFFFFFF, 0x00000000, 0x00000000⟩ -- RP_LENGTH
  , ⟨0x180010, 32, 0x80, 1, 0x80, 0x00000000, 0x00000000, 0x00000000, 0x0000FFFF, 0x00000000, 0x00000000⟩ -- RP_RESERVE
  , ⟨0x180014, 32, 0x80, 3, 0x4, 0x00000000, 0x00000000, 0x00000000, 0xFFFFFFFF, 0x00000000, 0x00000000⟩ -- RP_LANE
  , ⟨0x180020, 32, 0x80, 1, 0x80, 0x00000000, 0x00000000, 0x001F0000, 0x00000000, 0x00000000, 0x00000000⟩ -- RP_STATE
  , ⟨0x180024, 32, 0x80, 1, 0x80, 0x00000000, 0x00000000, 0x00000000, 0x00000000, 0x00000000, 0x00000000⟩ -- RP_PTR
  , ⟨0x180028, 32, 0x80, 1, 0x80, 0x00000000, 0x00000000, 0x00000000, 0x00000000, 0x00000000, 0x00000000⟩ -- RP_LAST_SEQ
  , ⟨0x18002C, 32, 0x80, 1, 0x80, 0x00000000, 0x00000000, 0x00000000, 0x00000000, 0x00000000, 0x00000000⟩ -- RP_LAUNCHED_LO
  , ⟨0x180030, 32, 0x80, 1, 0x80, 0x00000000, 0x00000000, 0x00000000, 0x00000000, 0x00000000, 0x00000000⟩ -- RP_LAUNCHED_HI
  , ⟨0x180034, 32, 0x80, 1, 0x80, 0x00000000, 0x00000000, 0x00000000, 0x00000000, 0x00000000, 0x00000000⟩ -- RP_LATE
  , ⟨0x180038, 32, 0x80, 1, 0x80, 0x00000000, 0x00000000, 0x00000000, 0x00000000, 0x00000000, 0x00000000⟩ -- RP_SKIPPED
  , ⟨0x18003C, 32, 0x80, 1, 0x80, 0x00000000, 0x00000000, 0x00000000, 0x00000000, 0x00000000, 0x00000000⟩ -- RP_MAX_LATE
  , ⟨0x180040, 32, 0x80, 8, 0x8, 0x01000000, 0x00000000, 0x00000000, 0xFF3FFF7F, 0x00000000, 0x00000000⟩ -- RP_UPD_CTRL
  , ⟨0x180044, 32, 0x80, 8, 0x8, 0x00000000, 0x00000000, 0x00000000, 0xFFFFFFFF, 0x00000000, 0x00000000⟩ -- RP_UPD_ARG
  , ⟨0x182000, 96, 0x8, 1, 0x8, 0x00000000, 0x00000000, 0x00000000, 0x0000007F, 0x00000000, 0x0000007F⟩ -- RP_PT_CTRL
  , ⟨0x182004, 96, 0x8, 1, 0x8, 0x00000000, 0x00000000, 0x00030000, 0x00000000, 0x00000000, 0x00000000⟩ -- RP_PT_STATUS
  ]

def regRows18 : List RegRow := regRows18a

/-- Registers at block offsets 0x20_0000 on. -/
def regRows20a : List RegRow :=
  [ ⟨0x200000, 32, 0x40, 1, 0x40, 0x00000000, 0x00000000, 0x00000000, 0x00000000, 0x00000000, 0x00000000⟩ -- SM_CH_STATUS
  , ⟨0x200004, 32, 0x40, 1, 0x40, 0x00000000, 0x00000000, 0x0000000F, 0x00000000, 0x00000000, 0x00000000⟩ -- SM_CH_FLAGS
  , ⟨0x200008, 32, 0x40, 1, 0x40, 0x00000000, 0x00000000, 0x00000000, 0x00000000, 0x00000000, 0x00000000⟩ -- SM_CH_CORR
  , ⟨0x20000C, 32, 0x40, 1, 0x40, 0x00000000, 0x00000000, 0x00000000, 0x00000000, 0x00000000, 0x00000000⟩ -- SM_CH_ERR
  , ⟨0x200010, 32, 0x40, 1, 0x40, 0x00000000, 0x00000000, 0x00000000, 0x00000000, 0x00000000, 0x00000000⟩ -- SM_CH_RES_A
  , ⟨0x200014, 32, 0x40, 1, 0x40, 0x00000000, 0x00000000, 0x00000000, 0x00000000, 0x00000000, 0x00000000⟩ -- SM_CH_RES_B
  , ⟨0x200018, 32, 0x40, 1, 0x40, 0x00000000, 0x00000000, 0x00000000, 0x00000000, 0x00000000, 0x00000000⟩ -- SM_CH_BUSY
  , ⟨0x202000, 1, 0x1000000, 1, 0x1000000, 0x00000000, 0x00000000, 0x00000000, 0x0000002F, 0x00000000, 0x00000000⟩ -- MG_STATUS
  , ⟨0x202004, 1, 0x1000000, 1, 0x1000000, 0x00000000, 0x00000000, 0x00000000, 0x00000000, 0x00000000, 0x00000000⟩ -- MG_PAGE_REENC
  , ⟨0x202008, 1, 0x1000000, 1, 0x1000000, 0x00000000, 0x00000000, 0x00000000, 0x00000000, 0x00000000, 0x00000000⟩ -- MG_REGION_REKEYS
  , ⟨0x20200C, 1, 0x1000000, 1, 0x1000000, 0x00000000, 0x00000000, 0x00000000, 0x00000000, 0x00000000, 0x00000000⟩ -- MG_SWEEP_LEFT
  , ⟨0x202040, 16, 0x4, 1, 0x4, 0x00000000, 0x00000000, 0x00000000, 0x00000000, 0x00000000, 0x00000000⟩ -- MG_SLOT
  , ⟨0x202100, 256, 0x4, 1, 0x4, 0x00000000, 0x00000000, 0x00000000, 0x00000000, 0x00000000, 0x00000000⟩ -- MG_SEG
  , ⟨0x201000, 256, 0x4, 1, 0x4, 0x00000000, 0x00000000, 0x00000000, 0x03FF1F07, 0x00000000, 0x00000000⟩ -- SM_SEG_MAP
  ]

def regRows20 : List RegRow := regRows20a

/-- Registers at block offsets 0x28_0000 on. -/
def regRows28a : List RegRow :=
  [ ⟨0x280000, 1536, 0x10, 1, 0x10, 0x000000F0, 0x000000FF, 0x00000000, 0x00000000, 0x00000000, 0x00000000⟩ -- SB_OWNER
  , ⟨0x280004, 1536, 0x10, 1, 0x10, 0x00000000, 0x00000000, 0x00000000, 0x00000007, 0x00000000, 0x00000007⟩ -- SB_CFG
  , ⟨0x280008, 1536, 0x10, 1, 0x10, 0x00000000, 0x00000000, 0x00000000, 0x00000000, 0x00000000, 0x00000000⟩ -- SB_ERR
  , ⟨0x288000, 96, 0x40, 1, 0x40, 0x00000000, 0x00000000, 0x00000000, 0x0000000F, 0x00000000, 0x00000000⟩ -- SB_CL_CTRL
  , ⟨0x288004, 96, 0x40, 1, 0x40, 0x00000000, 0x00000000, 0x00000000, 0x00000000, 0x00000000, 0x00000000⟩ -- SB_CL_STATUS
  , ⟨0x288008, 96, 0x40, 1, 0x40, 0x00000000, 0x00000000, 0x0000001F, 0x00000000, 0x00000000, 0x00000000⟩ -- SB_CL_FLAGS
  , ⟨0x28800C, 96, 0x40, 1, 0x40, 0x00000000, 0x00000000, 0x00000000, 0x00000000, 0x00000000, 0x00000000⟩ -- SB_CL_DENIED
  , ⟨0x288010, 96, 0x40, 1, 0x40, 0x00000000, 0x00000000, 0x00000000, 0x00000000, 0x00000000, 0x00000000⟩ -- SB_CL_LAST_DENIED
  , ⟨0x288014, 96, 0x40, 3, 0x4, 0x00000000, 0x00000000, 0x00000000, 0x00000000, 0x00000000, 0x00000000⟩ -- SB_CL_STALL
  , ⟨0x288020, 96, 0x40, 1, 0x40, 0x00000000, 0x00000000, 0x00000000, 0x00000000, 0x00000000, 0x00000000⟩ -- SB_CL_DISCARDS
  , ⟨0x28000C, 1536, 0x10, 1, 0x10, 0x00000000, 0x00000000, 0x00000000, 0x00000000, 0x00000000, 0x00000000⟩ -- SB_RSVD
  ]

def regRows28 : List RegRow := regRows28a

/-- Registers at block offsets 0x29_0000 on. -/
def regRows29a : List RegRow :=
  [ ⟨0x290000, 128, 0x200, 1, 0x200, 0x00000000, 0x00000000, 0x00000000, 0x00000000, 0x00000000, 0x00000000⟩ -- QC_STATUS
  , ⟨0x290004, 128, 0x200, 1, 0x200, 0x00000000, 0x00000000, 0x00000000, 0x00000000, 0x00000000, 0x00000000⟩ -- QC_OPS_LO
  , ⟨0x290008, 128, 0x200, 1, 0x200, 0x00000000, 0x00000000, 0x00000000, 0x00000000, 0x00000000, 0x00000000⟩ -- QC_OPS_HI
  , ⟨0x29000C, 128, 0x200, 1, 0x200, 0x00000000, 0x00000000, 0x00000000, 0x00000000, 0x00000000, 0x00000000⟩ -- QC_INT_FAILS
  , ⟨0x290080, 128, 0x200, 1, 0x200, 0x00000000, 0x1FFFF037, 0x00000000, 0x00000000, 0x00000000, 0x00000000⟩ -- QC_PORT_SEL
  , ⟨0x290084, 128, 0x200, 1, 0x200, 0x00000000, 0xFFFFFFFF, 0x00000000, 0x00000000, 0x00000000, 0x00000000⟩ -- QC_PORT_DATA_LO
  , ⟨0x290088, 128, 0x200, 1, 0x200, 0x00000000, 0xFFFFFFFF, 0x00000000, 0x00000000, 0x00000000, 0x00000000⟩ -- QC_PORT_DATA_HI
  , ⟨0x29008C, 128, 0x200, 1, 0x200, 0x00000000, 0x00000000, 0x00000000, 0x00000000, 0x00000000, 0x00000000⟩ -- QC_PORT_RESULT
  , ⟨0x290100, 128, 0x200, 8, 0x20, 0x00FFFF00, 0x00FFFF07, 0x00000000, 0x00000000, 0x00000000, 0x00000000⟩ -- QC_WIN_CFG
  , ⟨0x290104, 128, 0x200, 8, 0x20, 0x00000000, 0x0001FFFF, 0x00000000, 0x00000000, 0x00000000, 0x00000000⟩ -- QC_WIN_BASE
  , ⟨0x290108, 128, 0x200, 8, 0x20, 0x00000001, 0x0003FFFF, 0x00000000, 0x00000000, 0x00000000, 0x0003FFFF⟩ -- QC_WIN_LEN
  , ⟨0x29010C, 128, 0x200, 8, 0x20, 0x00000000, 0x00000000, 0x00000000, 0x00000000, 0x00000000, 0x00000000⟩ -- QC_WIN_HEAD
  , ⟨0x290110, 128, 0x200, 8, 0x20, 0x00000000, 0x00000000, 0x00000000, 0x00000000, 0x00000000, 0x00000000⟩ -- QC_WIN_TAIL
  , ⟨0x290114, 128, 0x200, 8, 0x20, 0x00000000, 0x00000000, 0x00000000, 0x00000000, 0x00000000, 0x00000000⟩ -- QC_WIN_FILL
  , ⟨0x290118, 128, 0x200, 8, 0x20, 0x00000000, 0x00000000, 0x0000001F, 0x00000000, 0x00000000, 0x00000000⟩ -- QC_WIN_STATUS
  , ⟨0x29011C, 128, 0x200, 8, 0x20, 0x00000000, 0x00000000, 0x00000000, 0x00000000, 0x00000000, 0x00000000⟩ -- QC_WIN_RSVD
  ]

def regRows29 : List RegRow := regRows29a

/-- Registers at block offsets 0x30_0000 on. -/
def regRows30a : List RegRow :=
  [ ⟨0x300000, 1536, 0x40, 1, 0x40, 0x00000000, 0x00000000, 0x000001F0, 0x00000000, 0x00000000, 0x00000000⟩ -- TE_STATUS
  , ⟨0x300004, 1536, 0x40, 1, 0x40, 0x00000000, 0x00000000, 0x00000000, 0x00000000, 0x00000000, 0x00000000⟩ -- TE_FAULT
  , ⟨0x300008, 1536, 0x40, 1, 0x40, 0x00000000, 0x00000000, 0x00000000, 0x00000000, 0xFFFFFFFF, 0x00000000⟩ -- TE_CTRL
  , ⟨0x30000C, 1536, 0x40, 1, 0x40, 0x00000000, 0x00000000, 0x00000000, 0x00000000, 0x00000000, 0x00000000⟩ -- TE_ISSUED
  , ⟨0x300010, 1536, 0x40, 1, 0x40, 0x00000000, 0x00000000, 0x00000000, 0x00000000, 0x00000000, 0x00000000⟩ -- TE_STALLS
  , ⟨0x300014, 1536, 0x40, 1, 0x40, 0x00000000, 0x800003FF, 0x00000000, 0x00000000, 0x00000000, 0x00000000⟩ -- TE_RAMADDR
  , ⟨0x300018, 1536, 0x40, 1, 0x40, 0x00000000, 0xFFFFFFFF, 0x00000000, 0x00000000, 0x00000000, 0x00000000⟩ -- TE_RAMDATA
  , ⟨0x300020, 1536, 0x40, 1, 0x40, 0x00000000, 0x0FFFFFFF, 0x00000000, 0x00000000, 0x00000000, 0x00000000⟩ -- TE_NIN_BASE
  , ⟨0x300024, 1536, 0x40, 1, 0x40, 0x00000004, 0x8000000F, 0x00000000, 0x00000000, 0x00000000, 0x00000000⟩ -- TE_NIN_CTRL
  , ⟨0x300028, 1536, 0x40, 1, 0x40, 0x00000000, 0x0000FFFF, 0x00000000, 0x00000000, 0x00000000, 0x00000000⟩ -- TE_NIN_PROD
  , ⟨0x30002C, 1536, 0x40, 1, 0x40, 0x00000000, 0x00000000, 0x00000000, 0x00000000, 0x00000000, 0x00000000⟩ -- TE_NIN_CONS
  , ⟨0x300030, 1536, 0x40, 1, 0x40, 0x00000000, 0xFFFFFFFF, 0x00000000, 0x00000000, 0x00000000, 0x00000000⟩ -- TE_NOUT_BASE
  , ⟨0x300034, 1536, 0x40, 1, 0x40, 0x00000004, 0xFFFFFFFF, 0x00000000, 0x00000000, 0x00000000, 0x00000000⟩ -- TE_NOUT_CTRL
  , ⟨0x300038, 1536, 0x40, 1, 0x40, 0x00000000, 0x00000000, 0x00000000, 0x00000000, 0x00000000, 0x00000000⟩ -- TE_NOUT_PROD
  , ⟨0x30003C, 1536, 0x40, 1, 0x40, 0x00000000, 0x0000FFFF, 0x00000000, 0x00000000, 0x00000000, 0x00000000⟩ -- TE_NOUT_CONS
  , ⟨0x30001C, 1536, 0x40, 1, 0x40, 0x00000000, 0x00000000, 0x00000000, 0x00000000, 0x00000000, 0x00000000⟩ -- TE_RSVD
  ]

def regRows30 : List RegRow := regRows30a

/-- Registers at block offsets 0x31_0000 on. -/
def regRows31a : List RegRow :=
  [ ⟨0x300000, 1536, 0x40, 1, 0x40, 0x00000000, 0x00000000, 0x000001F0, 0x00000000, 0x00000000, 0x00000000⟩ -- TE_STATUS
  , ⟨0x300004, 1536, 0x40, 1, 0x40, 0x00000000, 0x00000000, 0x00000000, 0x00000000, 0x00000000, 0x00000000⟩ -- TE_FAULT
  , ⟨0x300008, 1536, 0x40, 1, 0x40, 0x00000000, 0x00000000, 0x00000000, 0x00000000, 0xFFFFFFFF, 0x00000000⟩ -- TE_CTRL
  , ⟨0x30000C, 1536, 0x40, 1, 0x40, 0x00000000, 0x00000000, 0x00000000, 0x00000000, 0x00000000, 0x00000000⟩ -- TE_ISSUED
  , ⟨0x300010, 1536, 0x40, 1, 0x40, 0x00000000, 0x00000000, 0x00000000, 0x00000000, 0x00000000, 0x00000000⟩ -- TE_STALLS
  , ⟨0x300014, 1536, 0x40, 1, 0x40, 0x00000000, 0x800003FF, 0x00000000, 0x00000000, 0x00000000, 0x00000000⟩ -- TE_RAMADDR
  , ⟨0x300018, 1536, 0x40, 1, 0x40, 0x00000000, 0xFFFFFFFF, 0x00000000, 0x00000000, 0x00000000, 0x00000000⟩ -- TE_RAMDATA
  , ⟨0x300020, 1536, 0x40, 1, 0x40, 0x00000000, 0x0FFFFFFF, 0x00000000, 0x00000000, 0x00000000, 0x00000000⟩ -- TE_NIN_BASE
  , ⟨0x300024, 1536, 0x40, 1, 0x40, 0x00000004, 0x8000000F, 0x00000000, 0x00000000, 0x00000000, 0x00000000⟩ -- TE_NIN_CTRL
  , ⟨0x300028, 1536, 0x40, 1, 0x40, 0x00000000, 0x0000FFFF, 0x00000000, 0x00000000, 0x00000000, 0x00000000⟩ -- TE_NIN_PROD
  , ⟨0x30002C, 1536, 0x40, 1, 0x40, 0x00000000, 0x00000000, 0x00000000, 0x00000000, 0x00000000, 0x00000000⟩ -- TE_NIN_CONS
  , ⟨0x300030, 1536, 0x40, 1, 0x40, 0x00000000, 0xFFFFFFFF, 0x00000000, 0x00000000, 0x00000000, 0x00000000⟩ -- TE_NOUT_BASE
  , ⟨0x300034, 1536, 0x40, 1, 0x40, 0x00000004, 0xFFFFFFFF, 0x00000000, 0x00000000, 0x00000000, 0x00000000⟩ -- TE_NOUT_CTRL
  , ⟨0x300038, 1536, 0x40, 1, 0x40, 0x00000000, 0x00000000, 0x00000000, 0x00000000, 0x00000000, 0x00000000⟩ -- TE_NOUT_PROD
  , ⟨0x30003C, 1536, 0x40, 1, 0x40, 0x00000000, 0x0000FFFF, 0x00000000, 0x00000000, 0x00000000, 0x00000000⟩ -- TE_NOUT_CONS
  , ⟨0x30001C, 1536, 0x40, 1, 0x40, 0x00000000, 0x00000000, 0x00000000, 0x00000000, 0x00000000, 0x00000000⟩ -- TE_RSVD
  ]

def regRows31 : List RegRow := regRows31a

/-- Registers at block offsets 0x37_0000 on. -/
def regRows37a : List RegRow :=
  [ ⟨0x370000, 1, 0x1000000, 1, 0x1000000, 0x00000000, 0x00000000, 0x00000000, 0x00000000, 0x00000000, 0x00000000⟩ -- TE_EVQ_HEAD
  , ⟨0x370004, 1, 0x1000000, 1, 0x1000000, 0x00000000, 0x00000000, 0x00000000, 0x00000000, 0xFFFFFFFF, 0x00000000⟩ -- TE_EVQ_POP
  , ⟨0x370008, 1, 0x1000000, 1, 0x1000000, 0x00000000, 0x00000000, 0x00000000, 0x00000000, 0x00000000, 0x00000000⟩ -- TE_EVQ_COUNT
  ]

def regRows37 : List RegRow := regRows37a

/-- Registers at block offsets 0x38_0000 on. -/
def regRows38a : List RegRow :=
  [ ⟨0x380000, 60, 0x40, 1, 0x40, 0x08040201, 0x00000000, 0x00000000, 0xFFFFFFFF, 0x00000000, 0xFFFFFFFF⟩ -- NC_RT_WEIGHT
  , ⟨0x380004, 60, 0x40, 1, 0x40, 0x00000000, 0x00000000, 0x00000006, 0x00000000, 0x00000000, 0x00000000⟩ -- NC_RT_STATUS
  , ⟨0x380008, 60, 0x40, 1, 0x40, 0x00000000, 0x00000000, 0x00000000, 0x00000000, 0x00000000, 0x00000000⟩ -- NC_RT_ERR
  , ⟨0x38000C, 60, 0x40, 1, 0x40, 0x00000000, 0x00000000, 0x00000000, 0x00000000, 0x00000000, 0x00000000⟩ -- NC_RT_RSV_NE
  , ⟨0x380010, 60, 0x40, 1, 0x40, 0x00000000, 0x00000000, 0x00000000, 0x00000000, 0x00000000, 0x00000000⟩ -- NC_RT_RSV_SW
  , ⟨0x380014, 60, 0x40, 1, 0x40, 0x00000000, 0x00000000, 0x00000000, 0x00000000, 0x00000000, 0x00000000⟩ -- NC_RT_BUSY
  , ⟨0x380018, 60, 0x40, 1, 0x40, 0x00000000, 0x00000000, 0x00000000, 0x00000000, 0x00000000, 0x00000000⟩ -- NC_RT_STALL
  , ⟨0x381000, 240, 0x20, 1, 0x20, 0x0000000C, 0x00000000, 0x00000000, 0x0000FF0D, 0x00000000, 0x00000001⟩ -- NC_EP_CTRL
  , ⟨0x381004, 240, 0x20, 1, 0x20, 0x00000000, 0x00000000, 0x00000018, 0x00000000, 0x00000000, 0x00000000⟩ -- NC_EP_STATUS
  , ⟨0x381008, 240, 0x20, 1, 0x20, 0x00000000, 0x00000000, 0x00000000, 0x00000000, 0x00000000, 0x00000000⟩ -- NC_EP_SUNK
  , ⟨0x38100C, 240, 0x20, 1, 0x20, 0x00000000, 0x00000000, 0x00000000, 0x00000000, 0x00000000, 0x00000000⟩ -- NC_EP_ERRS
  , ⟨0x381010, 240, 0x20, 1, 0x20, 0x00000000, 0x00000000, 0x00000000, 0x00000000, 0x00000000, 0x00000000⟩ -- NC_EP_CACHE
  , ⟨0x38C000, 8, 0x10, 1, 0x10, 0x00000000, 0x00000000, 0x00000000, 0x8000FFFF, 0x00000000, 0x00000000⟩ -- NC_COH_BASE
  , ⟨0x38C004, 8, 0x10, 1, 0x10, 0x00000000, 0x00000000, 0x00000000, 0x0000007F, 0x00000000, 0x00000000⟩ -- NC_COH_SIZE
  , ⟨0x38C008, 8, 0x10, 1, 0x10, 0x00000000, 0x00000000, 0x00000000, 0x00000000, 0x00000000, 0x00000000⟩ -- NC_COH_SHARERS_LO
  , ⟨0x38C00C, 8, 0x10, 1, 0x10, 0x00000000, 0x00000000, 0x00000000, 0x00000000, 0x00000000, 0x00000000⟩ -- NC_COH_SHARERS_HI
  , ⟨0x38D040, 4, 0x20, 1, 0x20, 0x003E8000, 0x00000000, 0x00000000, 0xFFFFFF07, 0x00000000, 0x00000000⟩ -- NC_SEAM_CTRL
  , ⟨0x38D044, 4, 0x20, 1, 0x20, 0x00000000, 0x00000000, 0x00700000, 0x00000000, 0x00000000, 0x00000000⟩ -- NC_SEAM_STATUS
  , ⟨0x38D048, 4, 0x20, 1, 0x20, 0x00000000, 0x00000000, 0x00000000, 0x00000000, 0x00000000, 0x00000000⟩ -- NC_SEAM_TXCNT_LO
  , ⟨0x38D04C, 4, 0x20, 1, 0x20, 0x00000000, 0x00000000, 0x00000000, 0x00000000, 0x00000000, 0x00000000⟩ -- NC_SEAM_TXCNT_HI
  ]

/-- Registers at block offsets 0x38_0000 on. -/
def regRows38b : List RegRow :=
  [ ⟨0x38D050, 4, 0x20, 1, 0x20, 0x00000000, 0x00000000, 0x00000000, 0x00000000, 0x00000000, 0x00000000⟩ -- NC_SEAM_RXCNT_LO
  , ⟨0x38D054, 4, 0x20, 1, 0x20, 0x00000000, 0x00000000, 0x00000000, 0x00000000, 0x00000000, 0x00000000⟩ -- NC_SEAM_RXCNT_HI
  , ⟨0x38D058, 4, 0x20, 1, 0x20, 0x00000000, 0x00000000, 0x00000000, 0x00000000, 0x00000000, 0x00000000⟩ -- NC_SEAM_ERR
  , ⟨0x38D05C, 4, 0x20, 1, 0x20, 0x00000000, 0x00000000, 0x00000000, 0x00000000, 0x00000000, 0x00000000⟩ -- NC_SEAM_EPOCH
  , ⟨0x384000, 240, 0x80, 32, 0x4, 0x00000000, 0x00000000, 0x00000000, 0xFFFF01FF, 0x00000000, 0xFFFF01FF⟩ -- NC_RSV
  , ⟨0x38D000, 1, 0x1000000, 1, 0x1000000, 0x00000100, 0x00000000, 0x00000000, 0x01FFFF00, 0x00000000, 0x00000000⟩ -- NC_ARRAY
  , ⟨0x381014, 240, 0x20, 3, 0x4, 0x00000000, 0x00000000, 0x00000000, 0x00000000, 0x00000000, 0x00000000⟩ -- NC_EP_RSVD
  ]

def regRows38 : List RegRow := regRows38a ++ regRows38b

/-- Registers at block offsets 0x3C_0000 on. -/
def regRows3Ca : List RegRow :=
  [ ⟨0x3C4000, 48, 0x20, 1, 0x20, 0x007F0000, 0x00000000, 0x00000000, 0x007F0000, 0x00000000, 0x00000000⟩ -- CF_CTX_STATE
  , ⟨0x3C4004, 48, 0x20, 1, 0x20, 0x00000000, 0x00000000, 0x00000000, 0xFF000000, 0x00000000, 0x00000000⟩ -- CF_CTX_PLANES
  , ⟨0x3C4008, 48, 0x20, 1, 0x20, 0x00000000, 0x00000000, 0x00000000, 0x00000000, 0x00000000, 0x00000000⟩ -- CF_CTX_SWITCHES
  , ⟨0x3C400C, 48, 0x20, 1, 0x20, 0x00000000, 0x00000000, 0x00000000, 0x00000000, 0x00000000, 0x00000000⟩ -- CF_CTX_REFUSED
  , ⟨0x3C4010, 48, 0x20, 1, 0x20, 0x00000000, 0x00000000, 0x00000000, 0x00000000, 0x00000000, 0x00000000⟩ -- CF_CTX_LAST_TURN
  , ⟨0x3C4014, 48, 0x20, 1, 0x20, 0x00000000, 0x00000000, 0x00000000, 0x00000000, 0x00000000, 0x00000000⟩ -- CF_CTX_LAST_PIP
  , ⟨0x3C4800, 64, 0x8, 1, 0x8, 0x00000000, 0x00000000, 0x00000000, 0xFFFFFFFF, 0x00000000, 0x00000000⟩ -- CF_CTX_GROUP_LO
  , ⟨0x3C4804, 64, 0x8, 1, 0x8, 0x00000000, 0x00000000, 0x00000000, 0x80FFFFFF, 0x00000000, 0x00000000⟩ -- CF_CTX_GROUP_HI
  , ⟨0x3C4C00, 1, 0x1000000, 1, 0x1000000, 0x00000000, 0x00000000, 0x00000000, 0x00000000, 0x00000000, 0x00000000⟩ -- CF_LOAD_STATUS
  , ⟨0x3C4C04, 1, 0x1000000, 1, 0x1000000, 0x00000000, 0x00000000, 0x00070000, 0x00000000, 0x00000000, 0x00000000⟩ -- CF_SCRUB_STATUS
  , ⟨0x3C4C08, 1, 0x1000000, 1, 0x1000000, 0x00000000, 0x00000000, 0x00000000, 0x00000000, 0x00000000, 0x00000000⟩ -- CF_SCRUB_CORRECTED
  , ⟨0x3C4C0C, 1, 0x1000000, 1, 0x1000000, 0x00000000, 0x00000000, 0x00000000, 0x00000000, 0x00000000, 0x00000000⟩ -- CF_SCRUB_UNCORR
  , ⟨0x3C4C10, 1, 0x1000000, 1, 0x1000000, 0x00000000, 0x00000000, 0x00000000, 0x00000000, 0x00000000, 0x00000000⟩ -- CF_SCRUB_LAST
  , ⟨0x3C4C14, 1, 0x1000000, 1, 0x1000000, 0x00000000, 0x00000000, 0x00000000, 0x00000000, 0x00000000, 0x00000000⟩ -- CF_SCRUB_PERIOD
  , ⟨0x3C5000, 1, 0x1000000, 1, 0x1000000, 0x00000000, 0x00000000, 0x00000000, 0x01FF01FF, 0x00000000, 0x00000000⟩ -- CF_PLC_STATUS
  , ⟨0x3C5004, 1, 0x1000000, 1, 0x1000000, 0x00000000, 0x00000000, 0x00000000, 0xFFFFFFFF, 0x00000000, 0x00000000⟩ -- CF_LIB_USED
  , ⟨0x3C5008, 1, 0x1000000, 1, 0x1000000, 0x00000000, 0x00000000, 0x00000000, 0xFFFFFFFF, 0x00000000, 0x00000000⟩ -- CF_PLC_TEST_LO
  , ⟨0x3C500C, 1, 0x1000000, 1, 0x1000000, 0x00000000, 0x00000000, 0x00000000, 0x0000FFFF, 0x00000000, 0x00000000⟩ -- CF_PLC_TEST_HI
  , ⟨0x3C0000, 1, 0x1000000, 1, 0x1000000, 0x00000F00, 0x00000000, 0x00000000, 0x00000000, 0x00000000, 0x00000000⟩ -- CF_CFG_STATUS
  , ⟨0x3C0004, 1, 0x1000000, 1, 0x1000000, 0x00000000, 0x00000000, 0x00000000, 0x00000000, 0x00000000, 0x00000000⟩ -- CF_CFG_ERROR
  ]

/-- Registers at block offsets 0x3C_0000 on. -/
def regRows3Cb : List RegRow :=
  [ ⟨0x3C0008, 1, 0x1000000, 1, 0x1000000, 0x00000000, 0x00000000, 0x00000000, 0x00000000, 0x00000000, 0x00000000⟩ -- CF_CFG_ERR_ADDR
  , ⟨0x3C000C, 1, 0x1000000, 1, 0x1000000, 0x00000000, 0x00000000, 0x00000000, 0x00000000, 0x00000000, 0x00000000⟩ -- CF_CFG_BYTES
  , ⟨0x3C0010, 1, 0x1000000, 1, 0x1000000, 0x00000000, 0x00000000, 0x00000000, 0x00000000, 0x00000000, 0x00000000⟩ -- CF_CFG_FORWARD
  , ⟨0x3C0014, 1, 0x1000000, 1, 0x1000000, 0x00000000, 0x00000000, 0x00000000, 0x00000000, 0x00000000, 0x00000000⟩ -- CF_CFG_BOOT_LO
  , ⟨0x3C0018, 1, 0x1000000, 1, 0x1000000, 0x00000000, 0x00000000, 0x00000000, 0x00000000, 0x00000000, 0x00000000⟩ -- CF_CFG_BOOT_HI
  , ⟨0x3C001C, 1, 0x1000000, 1, 0x1000000, 0x00000000, 0x00000000, 0x00000000, 0x00000000, 0x00000000, 0x00000000⟩ -- CF_IO_MISMATCH
  , ⟨0x3C0020, 1, 0x1000000, 1, 0x1000000, 0x00000000, 0x00000000, 0x00000000, 0x00000000, 0x00000000, 0x00000000⟩ -- CF_CFG_ID_LO
  , ⟨0x3C0024, 1, 0x1000000, 1, 0x1000000, 0x00000000, 0x00000000, 0x00000000, 0x00000000, 0x00000000, 0x00000000⟩ -- CF_CFG_ID_HI
  ]

def regRows3C : List RegRow := regRows3Ca ++ regRows3Cb

/-- Registers at block offsets 0x3E_0000 on. -/
def regRows3Ea : List RegRow :=
  [ ⟨0x3E0000, 1, 0x1000000, 1, 0x1000000, 0x00000000, 0x00000000, 0x00000000, 0x00000000, 0x00000000, 0x00000000⟩ -- SC_STATUS
  , ⟨0x3E0004, 1, 0x1000000, 1, 0x1000000, 0x00000000, 0x00000000, 0x00000000, 0x00000000, 0x00000000, 0x00000000⟩ -- SC_STORE_SEQ
  , ⟨0x3E0008, 1, 0x1000000, 1, 0x1000000, 0x00000656, 0x00000000, 0x00000000, 0x00000FFF, 0x00000000, 0x00000000⟩ -- SC_ALARM_POLICY
  , ⟨0x3E000C, 1, 0x1000000, 1, 0x1000000, 0x00000000, 0x00000000, 0x00000000, 0x00000001, 0x00000000, 0x00000000⟩ -- SC_ALARM_CTRL
  , ⟨0x3E0010, 1, 0x1000000, 1, 0x1000000, 0x00000040, 0x00000000, 0x0000003F, 0x00000000, 0x00000000, 0x00000000⟩ -- SC_ALARM_STATUS
  , ⟨0x3E0014, 1, 0x1000000, 1, 0x1000000, 0x00000000, 0x00000000, 0x00000000, 0x00000000, 0x00000000, 0x00000000⟩ -- SC_ALARM_COUNT
  , ⟨0x3E0018, 1, 0x1000000, 1, 0x1000000, 0x00000000, 0x00000000, 0x00000000, 0x00000000, 0x00000000, 0x00000000⟩ -- SC_AUTH_FAILS
  , ⟨0x3E001C, 1, 0x1000000, 1, 0x1000000, 0x00000000, 0x00000000, 0x00000000, 0x00FFFF7F, 0x00000000, 0x00000000⟩ -- SC_UPDATE
  , ⟨0x3E0020, 1, 0x1000000, 1, 0x1000000, 0x00000000, 0x00000000, 0x00000000, 0x00000000, 0x00000000, 0x00000000⟩ -- SC_REPORT_SEQ
  , ⟨0x3E0100, 16, 0x8, 1, 0x8, 0x00000000, 0x00000000, 0x00000000, 0x00000000, 0x00000000, 0x00000000⟩ -- SC_NONCE_LO
  , ⟨0x3E0104, 16, 0x8, 1, 0x8, 0x00000000, 0x00000000, 0x00000000, 0x00000000, 0x00000000, 0x00000000⟩ -- SC_NONCE_HI
  ]

def regRows3E : List RegRow := regRows3Ea

/-- Registers at block offsets 0x3F_0000 on. -/
def regRows3Fa : List RegRow :=
  [ ⟨0x3F0000, 1, 0x1000000, 1, 0x1000000, 0x00000001, 0x00000000, 0x00000070, 0x00000008, 0x00000000, 0x00000000⟩ -- BT_STATUS
  , ⟨0x3F0004, 1, 0x1000000, 1, 0x1000000, 0x00000000, 0x00000000, 0x00000000, 0xFFFFFFFF, 0x00000000, 0x00000000⟩ -- BT_SCHED0
  , ⟨0x3F0008, 1, 0x1000000, 1, 0x1000000, 0x00000000, 0x00000000, 0x00000000, 0x0000FFFF, 0x00000000, 0x00000000⟩ -- BT_SCHED1
  , ⟨0x3F000C, 1, 0x1000000, 1, 0x1000000, 0x00000076, 0x00000000, 0x00000000, 0x00000077, 0x00000000, 0x00000000⟩ -- BT_CTRL
  , ⟨0x3F0010, 1, 0x1000000, 1, 0x1000000, 0x00000000, 0x00000000, 0x00000000, 0x00000000, 0x00000000, 0x00000000⟩ -- BT_COUNT_A
  , ⟨0x3F0014, 1, 0x1000000, 1, 0x1000000, 0x00000000, 0x00000000, 0x00000000, 0x00000000, 0x00000000, 0x00000000⟩ -- BT_COUNT_B
  , ⟨0x3F0018, 1, 0x1000000, 1, 0x1000000, 0x00000000, 0x00000000, 0x00000000, 0x00000000, 0x00000000, 0x00000000⟩ -- BT_LAST
  , ⟨0x3F0040, 14, 0x4, 1, 0x4, 0x00000000, 0x00000000, 0x00000000, 0x00000000, 0x00000000, 0x00000000⟩ -- BT_MAP
  , ⟨0x3F8000, 1, 0x1000000, 1, 0x1000000, 0x00000000, 0x00000000, 0x00000000, 0x00000000, 0x00000000, 0x00000000⟩ -- HP_LINK
  , ⟨0x3F8004, 1, 0x1000000, 1, 0x1000000, 0x00000000, 0x00000000, 0x00000007, 0x00000000, 0x00000000, 0x00000000⟩ -- HP_FLAGS
  , ⟨0x3F8008, 1, 0x1000000, 1, 0x1000000, 0x00000000, 0x00000000, 0x00000000, 0x00000000, 0x00000000, 0x00000000⟩ -- HP_ERR
  , ⟨0x3F800C, 1, 0x1000000, 1, 0x1000000, 0x00000000, 0x00000000, 0x00000000, 0x00000000, 0x00000000, 0x00000000⟩ -- HP_ERR2
  , ⟨0x3F8010, 1, 0x1000000, 1, 0x1000000, 0x0000001E, 0x00000000, 0x00000000, 0x00000000, 0x00000000, 0x00000000⟩ -- HP_BAR2_SIZE
  , ⟨0x3F8020, 1, 0x1000000, 1, 0x1000000, 0x00000000, 0xC0000000, 0x00000000, 0x00000000, 0x00000000, 0x00000000⟩ -- HP_APER_BASE_LO
  , ⟨0x3F8024, 1, 0x1000000, 1, 0x1000000, 0x00000000, 0xFFFFFFFF, 0x00000000, 0x00000000, 0x00000000, 0x00000000⟩ -- HP_APER_BASE_HI
  , ⟨0x3F8028, 1, 0x1000000, 1, 0x1000000, 0x00000000, 0x00000001, 0x00000000, 0x00000000, 0x00000000, 0x00000000⟩ -- HP_APER_CTRL
  , ⟨0x3F8040, 8, 0x10, 1, 0x10, 0x00000000, 0x00000000, 0x00000000, 0xC000FFFF, 0x00000000, 0x00000000⟩ -- HP_WIN_LOCAL
  , ⟨0x3F8044, 8, 0x10, 1, 0x10, 0x00000000, 0x00000000, 0x00000000, 0x0001FFFF, 0x00000000, 0x00000000⟩ -- HP_WIN_SIZE
  , ⟨0x3F8048, 8, 0x10, 1, 0x10, 0x00000000, 0x00000000, 0x00000000, 0x0001FFFF, 0x00000000, 0x00000000⟩ -- HP_WIN_OFFSET
  , ⟨0x3F8100, 8, 0x20, 1, 0x20, 0x00000000, 0xFFFFFFC0, 0x00000000, 0x00000000, 0x00000000, 0x00000000⟩ -- HP_DMA_BASE_LO
  ]

/-- Registers at block offsets 0x3F_0000 on. -/
def regRows3Fb : List RegRow :=
  [ ⟨0x3F8104, 8, 0x20, 1, 0x20, 0x00000000, 0xFFFFFFFF, 0x00000000, 0x00000000, 0x00000000, 0x00000000⟩ -- HP_DMA_BASE_HI
  , ⟨0x3F8108, 8, 0x20, 1, 0x20, 0x00000008, 0x00003F1F, 0x00000000, 0x00000000, 0x00000000, 0x00000000⟩ -- HP_DMA_CTRL
  , ⟨0x3F810C, 8, 0x20, 1, 0x20, 0x00000000, 0x0000FFFF, 0x00000000, 0x00000000, 0x00000000, 0x00000000⟩ -- HP_DMA_PROD
  , ⟨0x3F8110, 8, 0x20, 1, 0x20, 0x00000000, 0x00000000, 0x00000000, 0x00000000, 0x00000000, 0x00000000⟩ -- HP_DMA_CONS
  , ⟨0x3FC000, 12, 0x8, 1, 0x8, 0x00000000, 0x00000000, 0x00000000, 0x00000000, 0x00000000, 0x00000000⟩ -- IO_BANK_STATUS
  , ⟨0x3FC004, 12, 0x8, 1, 0x8, 0x00000000, 0x00000000, 0x00000000, 0x00000000, 0x00000000, 0x00000000⟩ -- IO_BANK_CAL
  , ⟨0x3FC100, 288, 0x4, 1, 0x4, 0x00000000, 0x00000000, 0x00000000, 0x00000000, 0x00000000, 0x00000000⟩ -- IO_PIN
  ]

def regRows3F : List RegRow := regRows3Fa ++ regRows3Fb

/-- The rows of the register tables that can hold an offset: those of its 64 KiB block. -/
def regRowsOf (blk : Nat) : List RegRow :=
  if blk = 0x00 then regRows00 else
  if blk = 0x01 then regRows01 else
  if blk = 0x02 then regRows02 else
  if blk = 0x03 then regRows03 else
  if blk = 0x04 then regRows04 else
  if blk = 0x05 then regRows05 else
  if blk = 0x06 then regRows06 else
  if blk = 0x08 then regRows08 else
  if blk = 0x10 then regRows10 else
  if blk = 0x11 then regRows11 else
  if blk = 0x14 then regRows14 else
  if blk = 0x16 then regRows16 else
  if blk = 0x18 then regRows18 else
  if blk = 0x20 then regRows20 else
  if blk = 0x28 then regRows28 else
  if blk = 0x29 then regRows29 else
  if blk = 0x30 then regRows30 else
  if blk = 0x31 then regRows31 else
  if blk = 0x37 then regRows37 else
  if blk = 0x38 then regRows38 else
  if blk = 0x3C then regRows3C else
  if blk = 0x3E then regRows3E else
  if blk = 0x3F then regRows3F else
  []

/-- The row and instance that an offset names. -/
def rowFind (off : Nat) : List RegRow → Option (RegRow × Nat × Nat)
  | [] => none
  | r :: rs =>
    match rowInstance r off with
    | some (i, j) => some (r, i, j)
    | none => rowFind off rs

/-- The register map: the register at a control-space offset, if there is one. -/
def regAt (off : Nat) : Option (RegRow × Nat × Nat) := rowFind off (regRowsOf (off / 65536))

/-- What a register holds after power-on reset; 0 where the offset holds no register. -/
def resetWord (off : Nat) : Word :=
  match regAt off with
  | some (r, i, _) => BitVec.ofNat 32 (r.reset + instanceReset r.base i)
  | none => 0

end Sys2Proof.Machine
end

