-- ==== Sys2Proof/Machine/Table.lean ====
section
/-!
DEFINITION. Machine/Table.lean: sparse tables in one canonical form. A table is a list of (key, value) pairs with
strictly rising keys; a key that is not listed has the table's default. Writing the default removes the entry,
so equal tables are equal data.
-/

namespace Sys2Proof.Machine

/-- A sparse table: strictly rising keys. -/
abbrev Tbl (α : Type) := List (Nat × α)

/-- The value listed under a key. -/
def tblFind {α : Type} (k : Nat) : Tbl α → Option α
  | [] => none
  | (k', v) :: t => if k' = k then some v else tblFind k t

/-- List `v` under `k`, in place of what `k` held. -/
def tblPut {α : Type} (k : Nat) (v : α) : Tbl α → Tbl α
  | [] => [(k, v)]
  | (k', v') :: t =>
    if k < k' then (k, v) :: (k', v') :: t
    else if k = k' then (k, v) :: t
    else (k', v') :: tblPut k v t

/-- Remove what is listed under `k`. -/
def tblDel {α : Type} (k : Nat) : Tbl α → Tbl α
  | [] => []
  | (k', v') :: t => if k' = k then tblDel k t else (k', v') :: tblDel k t

/-- The value of a key in a table whose unlisted keys read as `dflt`. -/
def tblGet {α : Type} (dflt : Nat → α) (t : Tbl α) (k : Nat) : α :=
  (tblFind k t).getD (dflt k)

/-- Set a key in a table whose unlisted keys read as `dflt`: the default is never listed. -/
def tblSet {α : Type} [DecidableEq α] (dflt : Nat → α) (t : Tbl α) (k : Nat) (v : α) : Tbl α :=
  if v = dflt k then tblDel k t else tblPut k v t

/-- The keys rise strictly. -/
def tblRising {α : Type} : Tbl α → Bool
  | [] => true
  | [_] => true
  | (a, _) :: (b, w) :: t => decide (a < b) && tblRising ((b, w) :: t)

/-- The canonical form: strictly rising keys, and no entry that equals the default. -/
def tblWf {α : Type} [DecidableEq α] (dflt : Nat → α) (t : Tbl α) : Bool :=
  tblRising t && t.all (fun e => decide (e.2 ≠ dflt e.1))

end Sys2Proof.Machine
end

