-- ==== Sys2Proof/Machine/State.lean ====
section
/-!
DEFINITION. Machine/State.lean: everything the spec gives the block, as plain data, and the state after power-on
reset. Every control-space register lives in `regs`, keyed by its offset (R13, R14); a register that is not listed
holds its reset word. What is no register (queues, tables, buffers, operations in progress, memories, pins) has a
field of its own. The queue of waiting commands is `pending`.
-/

namespace Sys2Proof.Machine

open Sys2Proof

/-- No command faults: where the spec has an error, it gives an error response, which is an effect. The one reason is
raised by no meaning; it stands for a command that the part could not survive (safe: never raised). -/
inductive Fault where
  | halted
  deriving DecidableEq, Repr

/-- Why a command has no meaning. -/
inductive Refusal where
  /-- Raised by Dispatch alone, for a row of the table that has no meaning yet; safe. -/
  | notModelled (mnemonic : String)
  deriving DecidableEq, Repr

/-! ### The gaffer -/

/-- A completion notice waiting in a mailbox (R67). -/
structure Notice where
  tag : Nat
  status : Nat
  deriving DecidableEq, Repr

/-- An ACCEPTED operation that is still outstanding (R67, R80, R89): its mailbox, tag and command, the resources it
holds (class * 65536 + index), what its completion needs, its progress (R111); `quiet` when its notice is to be
discarded (R96). -/
structure Op where
  mb : Nat
  tag : Nat
  command : Nat
  holds : List Nat := []
  args : List Nat := []
  data : List Byte := []
  progress : Nat := 255
  quiet : Bool := false
  deriving DecidableEq, Repr

/-- A completed ACCEPTED operation, kept for SYS_OP_STATUS (R94, R111). -/
structure OpDone where
  mb : Nat
  tag : Nat
  command : Nat
  status : Nat
  detail : Nat
  turn : Nat
  progress : Nat
  deriving DecidableEq, Repr

/-- A claim (R83-R88): the holding mailbox; releasing until its stop has taken effect (R107). -/
structure Claim where
  mb : Nat
  releasing : Bool := false
  deriving DecidableEq, Repr

/-- A log entry (R118). -/
structure LogEntry where
  seq : Nat
  turn : Nat
  pip : Nat
  severity : Nat
  group : Nat
  code : Nat
  mailbox : Nat
  arg0 : Nat
  arg1 : Nat
  arg2 : Nat
  deriving DecidableEq, Repr

/-- A yield record (R209). -/
structure YieldRec where
  turn : Nat
  pip : Nat
  code : Nat
  overCode : Nat
  detail : Nat
  deriving DecidableEq, Repr

/-- A request that waits for a peer's answer (R658). -/
structure Forward where
  mb : Nat
  tag : Nat
  command : Nat
  device : Nat
  deriving DecidableEq, Repr

/-- An ACCEPTED operation of a peer whose notice comes back to the forwarding mailbox (R658); `quiet` when its notice is to be
discarded (R96). -/
structure PeerOp where
  mb : Nat
  tag : Nat
  command : Nat
  quiet : Bool := false
  deriving DecidableEq, Repr

/-- An entry of the turn schedule (R154); `first` is its first turn (R157), `left` the firings that remain when COUNT
is not 0, `fired` the turn in which it last fired or came due, one above it (0: never). -/
structure SchedEntry where
  pip : Nat
  action : Nat
  rel : Bool
  target : Nat
  start : Nat
  period : Nat
  count : Nat
  arg : Nat
  owner : Nat
  first : Nat := 0
  left : Nat := 0
  fired : Nat := 0
  deriving DecidableEq, Repr

/-- An entry of the exact table (R260). -/
structure ExactEntry where
  key : BitVec 320
  action : BitVec 64
  deriving DecidableEq, Repr

/-- A valid entry of the ternary table (R265). -/
structure TernEntry where
  value : BitVec 320
  mask : BitVec 320
  action : BitVec 64
  deriving DecidableEq, Repr

/-- What takes effect at a turn boundary (R148): a TL shadow, an edit of the schedule, an edit of the classifier, or
an action that a command placed at the next turn. -/
inductive Edit where
  /-- A TL shadow: the register at `off` takes the bits of `v` under `mask` (R18, R148 step 2). -/
  | reg (off : Nat) (mask : Nat) (v : Nat)
  /-- A schedule edit (R156): an entry is written, or none: freed. -/
  | sched (idx : Nat) (e : Option SchedEntry)
  /-- The turn counter takes a value in place of an increment (R147, R170). -/
  | turnLoad (turn : Nat)
  /-- An exact-table edit (R274). -/
  | exact (idx : Nat) (e : Option ExactEntry)
  /-- A ternary-table edit (R274). -/
  | tern (idx : Nat) (e : Option TernEntry)
  /-- A profile edit is among the edits: EV_CL_ACTIVE at the boundary (R274). -/
  | profile (off : Nat) (v : Nat)
  /-- CQ_ARM takes effect (R234). -/
  | queueArm (q : Nat) (openNow : Bool)
  /-- CQ_STOP, CQ_SEAL or a forced release takes effect (R234). -/
  | queueStop (q : Nat) (cause : Nat) (sealing : Bool)
  /-- TG_ARM, TG_DISARM take effect (R285, R286). -/
  | trigArm
  | trigDisarm
  /-- A start of a replay engine at pip 0 of the turn (R317). -/
  | replayStart (e : Nat)
  /-- A resource of a forced release becomes free (R107). -/
  | claimFree (key : Nat)
  /-- LN_CONFIGURE with CLEAR: the counters of a lane are cleared (R635). -/
  | laneClear (lane : Nat)
  /-- A placement is removed at the boundary (R449). -/
  | unplace (handle : Nat)
  /-- The gaffer's hand-over of a bank (R508). -/
  | bankOwner (bank : Nat) (owner : Nat)
  /-- The new LEN of a window applies (R517). -/
  | windowLen (q : Nat) (w : Nat)
  /-- LEHR entry at the boundary (R731). -/
  | lehr
  /-- The coherent windows are redefined (R660). -/
  | cohWindow (w : Nat) (base : Nat) (size : Nat) (en : Bool)
  deriving DecidableEq, Repr

/-- The gaffer's own working state. -/
structure Gaffer where
  /-- Completion notices of each mailbox, oldest first (R67). -/
  notices : Tbl (List Notice) := []
  /-- Outstanding ACCEPTED operations, oldest first. -/
  ops : List Op := []
  /-- Completed ACCEPTED operations, newest first, at most 16 of a mailbox (R94). -/
  done : List OpDone := []
  /-- Claims, keyed by class * 65536 + index (R83). -/
  claims : Tbl Claim := []
  /-- The log, oldest first, at most 4,096 entries (R116), the next sequence number, the level of each group. -/
  log : List LogEntry := []
  logNext : Nat := 0
  logLevels : List Nat := List.replicate 16 1
  /-- When the warm restart under way started, and when the one before it did (pips of `now`). -/
  restarting : Option Nat := none
  lastRestart : Option Nat := none
  /-- Mailboxes to be reset once their response is acknowledged (R113). -/
  resetAfterAck : List Nat := []
  /-- Requests forwarded to peers, and peers' ACCEPTED operations (R658). -/
  forwards : List Forward := []
  peerOps : List PeerOp := []
  /-- The TL shadows and edits that become active at the next boundary, in the order written (R148, R156, R274). -/
  shadow : List Edit := []
  /-- The burst of commands served too late in this turn (R150). -/
  held : List Edit := []
  /-- Yield counters for codes 1-8, the last 8 yield records, newest first, and the codes that have yielded in this
  turn (R198, R209). -/
  yields : List Nat := List.replicate 8 0
  yieldRecs : List YieldRec := []
  yieldedNow : List Nat := []
  /-- When each mailbox was rung (pips of `now`), and when the gaffer last spent time on each guarantee, by its code (R91, R92). -/
  rungAt : Tbl Nat := []
  worked : Tbl Nat := []
  /-- Turn and pip of the last mode change (R208). -/
  modeTurn : Nat := 0
  modePip : Nat := 0
  /-- The PFAIL policy in force (R210). -/
  pfailAction : Nat := 0
  pfailFilter : Nat := 2
  pfailAuto : Bool := false
  deriving DecidableEq, Repr

/-! ### Time -/

/-- A turn that has ended: its number, when it began (pips of `now`), whether it was synthetic (R129, R141). -/
structure PastTurn where
  turn : Nat
  start : Nat
  synth : Bool
  deriving DecidableEq, Repr

/-- The timebase (R130, R142, R143): whether the counters run (the pip PLL has first locked), turn and pip, all pips
counted since power-on (the model's own measure of elapsed time), the flywheel's history (newest first), whether the
current turn began at a real boundary with the pip PLL locked, the schedule (active entries), pending turn load. -/
structure Timebase where
  counting : Bool := false
  turn : Nat := 0
  pip : Nat := 0
  now : Nat := 0
  history : List Nat := []
  beganReal : Bool := false
  /-- The turns that have ended, newest first; when PIP_LOCK last changed, newest first (pips of `now`, the new value): what a
  timestamp of an earlier instant needs (R129, R141, R223, R302). -/
  past : List PastTurn := []
  locks : List (Nat × Bool) := []
  sched : Tbl SchedEntry := []
  /-- When the last PPS boundary, of an edge or derived, fell (pips of `now`), and the derived boundaries that still follow the
  edge (R136). -/
  ppsAt : Nat := 0
  ppsLeft : Nat := 0
  /-- The real time at which the current turn's boundary lay; set by the boundary (pips of `now`). -/
  turnStart : Nat := 0
  /-- The value that the turn counter takes at the next boundary in place of an increment (R147). -/
  load : Option Nat := none
  deriving DecidableEq, Repr

/-! ### Capture, classifier, triggers -/

/-- What the queue controller has gathered for the index entry of the MiB it is writing (R231). -/
structure IndexAcc where
  firstTs : Nat := 0
  firstOff : Nat := 0xFFFFFFFF
  firstSeq : Nat := 0
  count : Nat := 0
  lastTs : Nat := 0
  trigger : Bool := false
  drop : Bool := false
  synth : Bool := false
  integrity : Bool := false
  trigOff : Nat := 0
  deriving DecidableEq, Repr

/-- A record of a queue that is not wholly in memory: the absolute offset of its start, and the frame (lane, timestamp) that it records
where it is no marker and no pad record (R230, R245). -/
structure HeldRec where
  at_ : Nat
  frame : Option (Nat × Timestamp)
  deriving DecidableEq, Repr

/-- A capture queue's state beside its registers: bytes written since arming (`total`), of which the last half line
may still be held (R228), the index entry being gathered, entries written, the trigger flags (R237-R239), its memory. -/
structure Queue where
  total : Nat := 0
  half : List Byte := []
  acc : IndexAcc := {}
  indexed : Nat := 0
  fired : Bool := false
  waitTrig : Bool := false
  trigTotal : Nat := 0
  /-- The entry gathered for the MiB left last; the records that are not wholly in memory; the index lines (line, bytes) that wait for a
  rekey (R551); frames refused since the queue was full (R235); the handle of its memory. -/
  prev : IndexAcc := {}
  held : List HeldRec := []
  indexWaits : List (Nat × List Byte) := []
  refusedFull : Nat := 0
  alloc : Nat := 0
  /-- When GATE_OPEN or GATE_CLOSE last changed the gate, newest first: (instant, the gate before) (R161). Bytes written to the
  window since the trigger point with the gate closed (R240). A line of the next MiB has failed (R245). -/
  gates : List (Nat × Bool) := []
  closed : Nat := 0
  nextBad : Bool := false
  deriving DecidableEq, Repr

/-- Frames of one lane dropped from one queue since the last drop marker (R244). -/
structure Drops where
  count : Nat
  first : Timestamp
  deriving DecidableEq, Repr

/-- A frame whose trigger bits reached the matrix in this pip (R279, R284): lane, bits, queue, and the record's place in
the queue when one was written. -/
structure TrigFrame where
  lane : Nat
  bits : Nat
  queue : Nat
  total : Option Nat
  /-- The records after the first of its chain (R226). -/
  more : List Nat := []
  ts : Timestamp
  deriving DecidableEq, Repr

/-- A frame in progress at a gather unit (R214-R216): its timestamp, its payload so far with K flags, the errors seen in
it; `skip` while the rest of a FIXED block is discarded (R215). -/
structure OpenFrame where
  ts : Timestamp
  /-- ORIGIN as in R227; of a reinserted frame: LATE_REINSERT, the driving region (48: none), the key beats once RI_EOF has come. -/
  origin : Nat := 0
  late : Bool := false
  region : Nat := 48
  keys : Option (List (BitVec 64)) := none
  payload : List (Bool × Byte) := []
  disp : Bool := false
  viol : Bool := false
  blockLeft : Nat := 0
  skip : Bool := false
  deriving DecidableEq, Repr

/-- A lane's receive port (R354, R356): the number of the next word (RX_WNUM), the characters of the word in progress, the word
delivered last (RX_DATA, RX_K, RX_ERR) and the pip of `now` in which it was, the receive timestamps of the bytes of the last 4,096 words,
newest first (R217), the running disparity of the decoder (R615; true: positive). -/
structure RxPort where
  rd : Bool := false
  at_ : Nat := 0
  wnum : Nat := 0
  part : List (RxChar × Timestamp) := []
  word : List RxChar := []
  stamps : List (List Timestamp) := []
  deriving DecidableEq, Repr

/-- Gather units, capture queues, classifier and trigger matrix. -/
structure Capture where
  /-- Receive ports, by lane; beats held in each reinsertion store (R358). -/
  rx : Tbl RxPort := []
  stored : Tbl Nat := []
  /-- Frames in progress, by lane. -/
  open_ : Tbl OpenFrame := []
  /-- Bytes in each gather buffer (R243), as of its lane's last frame. -/
  fill : Tbl Nat := []
  queues : Tbl Queue := []
  drops : Tbl Drops := []
  /-- The turn in which EV_210 was last raised, one above it (R250). -/
  refusedTurn : Nat := 0
  exact : Tbl ExactEntry := []
  tern : Tbl TernEntry := []
  /-- The gaffer's copies, from which an invalidated entry is rewritten (R272, R273). -/
  exactCopy : Tbl ExactEntry := []
  ternCopy : Tbl TernEntry := []
  /-- Hit counters: frames and payload bytes (R268). -/
  counters : Tbl (Nat × Nat) := []
  /-- Longest displacement chain used (R295). -/
  chain : Nat := 0
  /-- Pulse inputs of the trigger matrix in this pip (R277), the levels of the TRIG_IN balls, the frames of this pip. -/
  pulses : Nat := 0
  trigIn : Nat := 0
  frames : List TrigFrame := []
  /-- Running timers (R280), the turn of arming (R295), TRIG_OUT pulses: the pip of `now` at which each ends. -/
  timers : List Nat := []
  armTurn : Nat := 0
  tout : Tbl Nat := []
  /-- The polarity of the TRIG_OUT balls in force since the last arming (R287); the matrix has sampled this pip. -/
  tpol : Nat := 0
  sampled : Bool := false
  deriving DecidableEq, Repr

/-! ### Keys, alarms, store, update -/

/-- The key vault, the fuses that are no register, the persistent store, the update state (R762-R797). -/
structure Security where
  /-- Slot 1 (fuses) and slots 2-15 (vault store): credential keys; permission masks of slots 4-15 (R768-R770). -/
  ralKey : BitVec 256 := 0
  keys : Tbl (BitVec 256) := []
  masks : Tbl Nat := []
  deviceSecret : BitVec 256 := 0
  transportKey : BitVec 256 := 0
  bitstreamKey : BitVec 256 := 0
  ownerPub : List Byte := []
  ownerBitKey : BitVec 256 := 0
  arrayKey : BitVec 256 := 0
  vaultErased : Bool := false
  /-- Owner rows: hash, and the rows revoked (R766). -/
  rows : Tbl (BitVec 256) := []
  rowsRevoked : Nat := 0
  /-- The flash (R782): bytes that are not listed read 0xFF (erased). The store: bank and slot of the valid record; is
  there one; slots used in each bank. -/
  flash : List Host.Cell := []
  storeValid : Bool := false
  storeBank : Nat := 0
  storeUsed : List Nat := [0, 0]
  /-- The persistent state beside the registers (R783): the PFAIL policy to apply from the next BOOT stands in `gaf`. -/
  slotComplete : List Bool := [true, false]
  imageLen : Nat := 0
  imageSha : BitVec 256 := 0
  chunks : Nat := 0
  /-- Units taken from the unit map by BT_UNIT_MAP, which stay excluded until the next BOOT (R821). -/
  excluded : List Nat := []
  /-- SVN and version of the image in each slot, as verified last. -/
  slotSvn : List Nat := [0, 0]
  slotVersion : List Nat := [0x01000000, 0]
  /-- Slots whose bytes are as delivered: slot A then holds an acceptable image, slot B none (log entry 48). -/
  delivered : List Bool := [true, false]
  /-- SEGS_SHA256 of the boot stream (R780); the staging area of R794 is reserved. -/
  bootSegs : BitVec 256 := 0
  staged : Bool := false
  running : Nat := 0
  /-- A record is due but PFAIL_N is low (R202). -/
  recordDue : Bool := false
  /-- The image digest that each slot holds. -/
  slotSha : List (BitVec 256) := [0, 0]
  /-- The last completed attestation report (R781) and the body being signed. -/
  report : List Byte := []
  deriving DecidableEq, Repr

/-- The balls that the block reads or drives beside the registers that show them. -/
structure Pins where
  porN : Bool := false
  progN : Bool := true
  pfailLow : Bool := false
  pfailTaken : Bool := false
  furnace : Bool := false
  iopull : Bool := false
  devId : Nat := 0
  thermN : Bool := true
  alarmN : Bool := true
  /-- ALARM_N is held low until SAFE HOLD or ZEROIZED is left (R777). -/
  alarmHeld : Bool := false
  perstN : Bool := false
  pwrEn : Nat := 0
  /-- Management SPI: LAST_REFUSED (R841). JTAG: the instruction, the boundary register's held data, a debug session, the capture
  value of PUNTY's data register (R843-R847). -/
  mspiRefused : Bool := false
  jtagIr : Nat := 1
  boundary : Nat := 0
  session : Bool := false
  punty : Nat := 0
  deriving DecidableEq, Repr

/-! ### Self-test -/

/-- The slice in progress (R810): its unit; handed over to self-test; `back` once it waits for its hand-back; started by
BT_RUN; counted as deferred. -/
structure Slice where
  unit : Nat
  handed : Bool := false
  back : Bool := false
  user : Bool := false
  deferred : Bool := false
  deriving DecidableEq, Repr

/-- A test result (R821): RESULT, turn, DETAIL. -/
structure TestResult where
  result : Nat
  turn : Nat
  detail : Nat
  deriving DecidableEq, Repr

/-- Self-test: the slice, the units of BT_RUN still to come, the results of the last BT_RUN, the turn of each unit's last
completed test (one above it), the first unit that failed in the BT_RUN, the turn in which each kind's last slice began (one above
it). -/
structure Bist where
  slice : Option Slice := none
  queue : List Nat := []
  results : Tbl TestResult := []
  lastTest : Tbl Nat := []
  firstFail : Option Nat := none
  lastSlice : Tbl Nat := []
  overdue : List Nat := []
  deriving DecidableEq, Repr

/-! ### Stack memory, SRAM, network -/

/-- The counter record of a 4 KiB page that differs from a fresh one (R542): MAJOR, the MINOR of each line, LOST. -/
structure Page where
  major : Nat := 0
  minors : Tbl Nat := []
  lost : Bool := false
  deriving DecidableEq, Repr

/-- An entry of MEM_POISON_LIST (R562): the line, KIND, channel, turn. -/
structure PoisonLine where
  line : Nat
  kind : Nat
  channel : Nat
  turn : Nat
  deriving DecidableEq, Repr

/-- What an allocation of stack memory serves: MEM_ALLOC, a capture queue, a placement's buffer, the context library,
the gaffer's working area. -/
inductive AllocUse where
  | handle
  | queue (q : Nat)
  | buffer
  | library
  | gaffer
  deriving DecidableEq, Repr

/-- An allocation (R883): its handle, the mailbox that made it, its channel set, size in MiB, reservation of each channel
in 1/32 of 100 MB/s, and its runs of local memory (first MiB, MiB). -/
structure Alloc where
  handle : Nat
  use : AllocUse
  mb : Nat
  first : Nat
  log2 : Nat
  size : Nat
  rate : Nat
  extents : List (Nat × Nat)
  deriving DecidableEq, Repr

/-- Stack memory and its guard. -/
structure StackMem where
  /-- The guard has started (R555): requests to stack memory proceed. -/
  ready : Bool := false
  /-- Plaintext bytes by local address; an unlisted byte is 0 (R555). -/
  data : List Host.Cell := []
  /-- Pages whose record is not fresh, keyed by local address / 4096. -/
  pages : Tbl Page := []
  /-- Symbols of a line's stored codeword that have changed (symbol, XOR), keyed by local address / 64. -/
  upsets : Tbl (List (Nat × Nat)) := []
  /-- Poisoned lines (R547). -/
  poisoned : Tbl Bool := []
  plist : List PoisonLine := []
  overflow : Bool := false
  /-- When each pin of a channel last accounted for corrections, in pips of `now`, newest first (R531). -/
  pinHits : Tbl (List Nat) := []
  /-- Pages swept in order of a segment under sweep, and those swept out of order (R551). -/
  sweepPos : Tbl Nat := []
  sweptOut : Tbl (List Nat) := []
  /-- Segments whose rekey waits for a slot, and those with a further rekey due (R550, R551). -/
  waiting : List Nat := []
  again : List Nat := []
  /-- The segment from which the sweep engine looks for its next page. -/
  sweepNext : Nat := 0
  /-- Keys loaded since power-on, and which of them each slot holds. -/
  loads : Nat := 0
  slotLoad : List Nat := List.replicate 16 0
  allocs : List Alloc := []
  nextHandle : Nat := 1
  /-- Reservations of each channel in 1/32 of 100 MB/s: capture, replay, NoC (R241). -/
  resCapture : Tbl Nat := []
  resReplay : Tbl Nat := []
  resNoc : Tbl Nat := []
  deriving DecidableEq, Repr

/-- A reserved flow (R584): source, destination, rate in 1/32 of 100 MB/s. -/
structure Flow where
  src : Nat
  dst : Nat
  rate : Nat
  deriving DecidableEq, Repr

/-- A line held in a line cache (R597): the caching unit (0-47 region, 48 gaffer), the line, its key identifier, the
copy's bytes. -/
structure CacheLine where
  unit : Nat
  line : Nat
  key : Nat
  data : List Byte
  deriving DecidableEq, Repr

/-- A non-posted request that has no response yet (R578, R593): source endpoint, originating device, tag, destination endpoint,
address and length, the plane of its region when it was issued (R363), whether its answer carries data, the answer once its target
has given it, whether it left the device. -/
structure Outstanding where
  src : Nat
  dev : Nat
  tag : Nat
  dst : Nat
  addr : Nat
  len : Nat
  plane : Nat
  read : Bool
  answer : Option (Nat × List Byte)
  away : Bool
  /-- Window lines of another member, to be stored in the source's cache with the answer (R597, R599). -/
  store : Bool := false
  /-- Its PRI and RSV, which the response carries (R582). -/
  pri : Nat := 0
  rsv : Bool := false
  deriving DecidableEq, Repr

/-- A window line locked until its invalidates are acknowledged (R598): the sharers that have not answered, and the write whose
response waits (source endpoint, device, tag), if one does. -/
structure LockedLine where
  line : Nat
  awaiting : List Nat
  write : Option (Nat × Nat × Nat)
  deriving DecidableEq, Repr

/-- TYPE of a packet (R574). -/
inductive PacketKind where
  | read
  | write
  | winPush
  | winPop
  | winPeek
  | winPoke
  | resp
  | data
  | inv
  | keyDrop
  | invAck
  deriving DecidableEq, Repr

/-- A packet of the on-chip network: the fields of its header, and its data (R572). `src` and `dst` are endpoints. -/
structure Packet where
  kind : PacketKind
  pri : Nat := 0
  rsv : Bool := false
  posted : Bool := false
  poison : Bool := false
  src : Nat
  dst : Nat
  dev : Nat
  plane : Nat := 0
  status : Nat := 0
  tag : Nat := 0
  ident : Nat := 0
  ident2 : Nat := 0
  win : Nat := 0
  len : Nat
  addr : Nat := 0
  data : List Byte := []
  deriving DecidableEq, Repr

/-- A flit (R571): control field, data bytes, check symbols. -/
structure Flit where
  control : BitVec 128
  data : BitVec 512
  check : BitVec 32
  deriving DecidableEq, Repr

/-- The on-chip network. -/
structure Noc where
  flows : List Flow := []
  caches : List CacheLine := []
  /-- Sharer masks, keyed by window * 64 + channel (R598). -/
  sharers : Tbl Nat := []
  out : List Outstanding := []
  locked : List LockedLine := []
  /-- Snoops on their way (caching unit 0-48, or 56 + d: device d; line, or device of a KEY_DROP; its key identifier, none for an
  INV), and acknowledgements on their way back. -/
  snoops : List (Nat × Nat × Option Nat) := []
  acks : List (Nat × Nat × Option Nat) := []
  /-- The packet injected last (R572). -/
  packet : Option Packet := none
  /-- Token buckets of the reservations (R584), keyed by 240 * source + destination: the level in 1/100 bytes, and when it held (pips
  of `now`); unlisted: full. -/
  buckets : Tbl (Nat × Nat) := []
  deriving DecidableEq, Repr

/-- The last answer on an access path (an interface of the block): the response code of R575 and the data. -/
structure Answer where
  status : Nat
  data : List Byte
  deriving DecidableEq, Repr

/-- SRAM contents: bytes by physical address (bank * 65536 + row * 8 + byte; unlisted 0), words with bad symbols (1: one
bad symbol; 2: uncorrectable), keyed by physical word. -/
structure Sram where
  data : List Host.Cell := []
  bad : Tbl Nat := []
  /-- Words that the scrubber has visited in each bank since reset (R512). -/
  scrubbed : Tbl Nat := []
  deriving DecidableEq, Repr

/-! ### Replay -/

/-- A record as it was sent on a lane (R299, R312): the engine, its SEQ, the symbols with K flags, the instant of launch
in 1/64 pips of `now`. -/
structure SentRecord where
  engine : Nat
  seq : Nat
  symbols : List (Bool × Byte)
  launch : Nat
  finish : Nat
  deriving DecidableEq, Repr

/-- A character, or a byte of a raw stream, that a lane in pass-through forwards (R319, R320, R324): whether in its alternate
encoding, and the instant at which it leaves the transmitter, in 1/64 pips of `now`. -/
structure Forwarded where
  char : RxChar
  alternate : Bool
  out : Nat
  deriving DecidableEq, Repr

/-- A replay engine beside its registers: the pattern buffer (bytes from pattern offset `bufAt`, R307), the pattern
offset of a line that failed (R309), the loop stack (top first) and the returning flag (R310), counter values (R312), the
start (instant in 1/64 pips of `now`, turn), a pending AT start, a pending stop (cause, first turn in which it is taken), the stop
that the end of the transmission brings (instant, cause), the instant of the last stop in pips, the end of the last record on each
lane (R302), the last launch (R304), the lane of a chain whose next record is still to come (R300), its fetch reservation (rate of
each channel, channels). -/
structure Engine where
  bufAt : Nat := 0
  buf : List Byte := []
  bad : Option Nat := none
  stack : List (Nat × Nat) := []
  returning : Bool := false
  counters : List Nat := List.replicate 8 0
  start : Nat := 0
  startTurn : Nat := 0
  at_ : Option (Nat × Nat) := none
  stop : Option (Nat × Nat) := none
  ending : Option (Nat × Nat) := none
  stoppedAt : Option Nat := none
  ends : Tbl Nat := []
  lastLaunch : Nat := 0
  chain : Option Nat := none
  rate : Nat := 0
  channels : List Nat := []
  deriving DecidableEq, Repr

/-- Replay engines; what was last sent on each lane; lanes in pass-through whose transmitter is in electrical idle because the receiver
has lost, or has not yet, its signal or its lock (R321); the stream that each lane last forwarded; how many of its coming characters
a substituted record replaces (R322); lanes whose running disparity is still to be realigned (R324); by lane, the instant at which the
symbol that realigns it leaves the transmitter (1/64 pips of `now`). -/
structure Replay where
  engines : Tbl Engine := []
  sent : Tbl SentRecord := []
  broken : List Nat := []
  forwarded : Tbl (List Forwarded) := []
  replaced : Tbl Nat := []
  realign : List Nat := []
  fixing : Tbl Nat := []
  deriving DecidableEq, Repr

/-! ### Fabric, context library, placements (R380-R460, R672-R699) -/

/-- A piece of the context library (R431): its handle, the mailbox that added it (0xFF: the boot context), its manifest, the
frames it holds by footprint position * 16384 + frame (256 bytes each; a frame that is not listed is all zero), the
positions it covers, the allocation that serves it, whether it is still being added. -/
structure Piece where
  handle : Nat
  mb : Nat
  manifest : List Byte
  frames : Tbl (List Byte) := []
  alloc : Nat := 0
  adding : Bool := false
  deriving DecidableEq, Repr

/-- A seam interface as it is joined (R437): NAME, region, side, DIR, COUNT, the first position on the side, PARK. -/
structure SeamJoin where
  name : Nat
  region : Nat
  side : Nat
  dir : Nat
  count : Nat
  at_ : Nat
  park : Nat
  /-- SLOT: the region's first interface slot. -/
  slot : Nat := 0
  deriving DecidableEq, Repr

/-- What a plane of a region holds: the piece last loaded into it, the position, its frames as the library gives them, by
frame index (a frame that is not listed is all zero). -/
structure Image where
  handle : Nat
  pos : Nat
  frames : Tbl (List Byte) := []
  /-- The hard ports that it enables, each with its region clock line; the PRIMARY line (R353); the trigger lines that it drives (R367). -/
  ports : List (HardPort × Nat) := []
  primary : Nat := 0
  trig : Nat := 0
  /-- Does it enable the completer side of the region's NoC port (R569)? -/
  completer : Bool := false
  /-- The placer's port map (R437): the interfaces of the region as they are joined; none: the map that the frames themselves hold. -/
  joins : Option (List SeamJoin) := none
  /-- The cells that the placer bound to an address bit (R438), keyed by 64 * tile + cell. -/
  bound : Tbl Bool := []
  deriving DecidableEq, Repr

/-- What a placement holds for one requirement entry (R460): kind (1 bank set, 2 Tap Engines, 3 buffer), entry index, region,
SHARE_ID, size or engine mask; the banks, the engines, or the allocation of stack memory; the binding address; its
reservation: rate of each channel and channels; LOCAL bank set. -/
structure Holding where
  kind : Nat
  entry : Nat
  region : Nat
  share : Nat
  size : Nat
  units : List Nat := []
  alloc : Nat := 0
  addr : Nat := 0
  rate : Nat := 0
  channels : List Nat := []
  local_ : Bool := false
  deriving DecidableEq, Repr

/-- An outbound seam port as it was last driven (R349): its 64 wires, and the park value declared then; whether it showed its park value at
the last switching edge of its region (R350). -/
structure SeamPort where
  value : Nat
  park : Park
  parked : Bool := false
  deriving DecidableEq, Repr

/-- A user I/O cell (R374, R375): the output, output-enable and input registers (1, 2 or 4 bits), the park state declared when it was last
driven, whether it has been driven since power-on, whether it showed its park state at the last switching edge of its region. -/
structure IoCell where
  out : Nat := 0
  enable : Bool := false
  inp : Nat := 0
  park : Park := .highz
  used : Bool := false
  parked : Bool := true
  deriving DecidableEq, Repr

/-- The answer of U00's mailbox port (R364): MBP_ACK until the next edge of the port's line, MBP_RDATA, MBP_ERR. -/
structure MbpAnswer where
  ack : Bool := false
  data : Nat := 0
  err : Bool := false
  deriving DecidableEq, Repr

/-- A placement (R460): its ID, piece, mailbox (0xFF: the boot context), origin, plane, regions in order of position, what
it holds, its seam interfaces; flags; NoC cost; the turn placed. -/
structure Placement where
  id : Nat
  handle : Nat
  mb : Nat
  origin : Nat
  plane : Nat
  regions : List Nat
  holds : List Holding := []
  seams : List SeamJoin := []
  hot : Bool := false
  direct : Bool := false
  pinned : Bool := false
  migrating : Bool := false
  stacked : Bool := false
  cost : Nat := 0
  turn : Nat := 0
  deriving DecidableEq, Repr

/-- What a load serves. -/
inductive LoadKind where
  /-- CTX_LOAD of a piece; CTX_LOAD with RELOAD; PLC_PLACE. -/
  | ctx
  | rewrite
  | place
  /-- A reload after an uncorrectable frame (R412): the regions held with it. -/
  | reload (held : List Nat)
  /-- The boot context (R688). -/
  | boot
  /-- A migration (R451). -/
  | migrate
  deriving DecidableEq, Repr

/-- A load of the configuration controller (R405): the regions in increasing index with their pieces' handles and positions,
the plane, the operation it serves (mailbox, tag), the placement, the group to switch once it is loaded, the region that is
being written and the pips for which it has been. -/
structure Load where
  kind : LoadKind
  regions : List (Nat × Nat × Nat)
  plane : Nat
  op : Option (Nat × Nat) := none
  placement : Nat := 0
  switch : Option Nat := none
  at_ : Nat := 0
  pips : Nat := 0
  deriving DecidableEq, Repr

/-- A pending switch request of a group (R401): the plane, its rank (0 the gaffer, 1 the schedule, 2 + n trigger output n), the members
that have not switched yet, whether it has been checked at the first E0 (R398), the operation whose notice waits for it, when it
came (pips of `now`). -/
structure PendSwitch where
  plane : Nat
  rank : Nat
  members : List Nat
  began : Bool := false
  op : Option (Nat × Nat) := none
  at_ : Nat := 0
  deriving DecidableEq, Repr

/-- A migration (R451): the placement, its new form, the operation it serves (none: a drain), whether its source ran, the LOCAL
sets still to be copied (old banks, new banks); whether they are being copied, the load has passed, the source has stopped, the copies
have ended. -/
structure Migration where
  id : Nat
  next : Placement
  op : Option (Nat × Nat)
  ran : Bool := false
  copies : List (List Nat × List Nat) := []
  copying : Bool := false
  loaded : Bool := false
  moved : Bool := false
  copied : Bool := false
  deriving DecidableEq, Repr

/-- A NOC bank set that is moved out of a cluster (R454): its old and its new banks, whether it is being copied, whether it has been. -/
structure SetMove where
  old : List Nat
  new : List Nat
  copying : Bool := false
  copied : Bool := false
  deriving DecidableEq, Repr

/-- A switch that the gaffer makes at a turn boundary (R422 SWITCH_AFTER, R447, R451), and the notice that waits. -/
structure SwitchAfter where
  group : Nat
  plane : Nat
  op : Option (Nat × Nat)
  index : Option Nat := none
  deriving DecidableEq, Repr

/-- Regions, their planes, the context library, placements and loads. -/
structure Fabric where
  /-- The planes that were active in a region before each of its switches, newest first: (instant of E0, plane left). -/
  planesBefore : Tbl (List (Nat × Nat)) := []
  /-- Regions in the dead cycle of a switch (R388): the instant of E0. -/
  dead : Tbl Nat := []
  /-- The user flip-flops (R335): what each has captured since its region started; the image from whose INIT values each region
  started (R336, R393). -/
  flops : Tbl Bool := []
  flopStart : Tbl Image := []
  /-- Outbound seam ports as they were last driven, by (region * 4 + side) * 40 + position (R349). -/
  seamPorts : Tbl SeamPort := []
  /-- Region clock lines 14 and 15, made by the routing: twice the rising edges, and the level (R351). -/
  lineCount : Tbl Nat := []
  /-- The registers of the user I/O cells (R374); the I/O that START-UP found unsuited to their bank (R373, R692). -/
  ioCells : Tbl IoCell := []
  ioOff : List Nat := []
  /-- The registers of the fabric trigger lines, by region (R367); the answer of U00's mailbox port (R364). -/
  trigLines : Tbl Nat := []
  mbp : MbpAnswer := {}
  /-- Risers that decode 0b11 (R344), by ((pair * 2 + upper) * 1600 + tile) * 16 + riser: the frame, as in `scrubFirst`. -/
  illegal : Tbl Nat := []
  /-- The library; the next handle. -/
  pieces : Tbl Piece := []
  nextHandle : Nat := 1
  /-- What each plane of each region holds, by region * 8 + plane. -/
  images : Tbl Image := []
  placements : Tbl Placement := []
  /-- Hint sets (R443), by mailbox * 16 + set: (KIND, value). -/
  hints : Tbl (List (Nat × Nat)) := []
  /-- Loads in the order in which they are taken (R405); the head runs once CF_LOAD_STATUS.BUSY is 1. -/
  loads : List Load := []
  /-- Pending switch requests, by group. -/
  pend : Tbl PendSwitch := []
  /-- Regions released into RUNNING at the next boundary (R387). -/
  releases : List Nat := []
  /-- Regions whose endpoint opens at the next boundary (R595). -/
  reopen : List Nat := []
  /-- Switches after loads, and migrations. -/
  after : List SwitchAfter := []
  migrations : List Migration := []
  /-- NOC bank sets that are moved out of a cluster to be tested (R454). -/
  setMoves : List SetMove := []
  /-- Banks to be zeroed before their next allocation (R449). -/
  dirtyBanks : List Nat := []
  /-- Frames that the scrubber reads ahead of its order (R411). -/
  scrubFirst : List Nat := []
  /-- The I/O cells (R370, R376): static settings (R685), current delay taps, by I/O number. -/
  ioStatic : Tbl Nat := []
  taps : Tbl Nat := []
  /-- The boot stream as checked: its content waits for the write into plane 0 (R688); its START command (R683). -/
  bootStart : Option (Nat × Nat) := none
  /-- HOST staging window (R699): open, and the bytes written through it. -/
  staging : Bool := false
  /-- R690: the end record of the image has been passed on. -/
  imageEnded : Bool := false
  deriving DecidableEq, Repr

/-! ### Tap Engines (R464) -/

/-- An address generator (R466): BASE, LEN - 1, STEP (two's complement, 7 bits), PTR. -/
structure AddrGen where
  base : Nat := 0
  lenM1 : Nat := 0
  step : Nat := 0
  ptr : Nat := 0
  deriving DecidableEq, Repr

/-- A quad in an output FIFO (R489): its elements (24 bits each), S at its push, FIRST. -/
structure OutQuad where
  elems : List Nat
  s : Nat
  first : Bool
  deriving DecidableEq, Repr

/-- A loop entry (R483): the start, END, the count. -/
structure TeLoop where
  start : Nat
  stop : Nat
  count : Nat
  deriving DecidableEq, Repr

/-- A Tap Engine beside its registers (STATE, flags, AUTO, S, PC, PAGE, DEPTH and the rings' indexes are registers): the
RAMs' elements (24 bits; element 4q + i), accumulators (64 bits), address generators, TAPC, the stream FIFOs, the loop stack
(top first), ACCMODE and RND, the block maximum and whether a move was counted in the block (R488), the staging quads,
whether the next quad of each output is the first (R489), what a STALLED engine waits for (R482: port, quads), a STOP that
waits for the next instruction boundary, a page entry that waits for the next edge of its clock (R395, R473). -/
structure TapEngine where
  c : Tbl Nat := []
  d : Tbl Nat := []
  acc : List Nat := [0, 0, 0, 0]
  ags : List AddrGen := [{}, {}, {}, {}]
  tapc : Nat := 0
  in0 : List (List Nat) := []
  in1 : List (List Nat) := []
  out0 : List OutQuad := []
  out1 : List OutQuad := []
  loops : List TeLoop := []
  wrap : Bool := false
  conv : Bool := false
  bmax : Nat := 0
  moved : Bool := false
  stage0 : List Nat := [0, 0, 0, 0]
  stage1 : List Nat := [0, 0, 0, 0]
  first0 : Bool := false
  first1 : Bool := false
  wait : Option (Nat × Nat) := none
  stopping : Bool := false
  restart : Bool := false
  deriving DecidableEq, Repr

/-- An entry of the Tap Engine event queue (R493). -/
structure TeEvent where
  engine : Nat
  pc : Nat
  page : Nat
  kind : Nat
  overrun : Bool
  deriving DecidableEq, Repr

/-- The Tap Engines, their event queue (oldest first) and whether entries were lost since the last kept one; engines to be
zeroed before their next allocation (R491). -/
structure TapEngines where
  engines : Tbl TapEngine := []
  evq : List TeEvent := []
  lost : Bool := false
  dirty : List Nat := []
  deriving DecidableEq, Repr

/-! ### Host port -/

/-- An entry of the MSI-X table (R826). -/
structure MsixEntry where
  addr : Nat := 0
  data : Nat := 0
  masked : Bool := true
  deriving DecidableEq, Repr

/-- A common start in progress (R665): TURN, the operation it serves (none: a peer's start), the members that have not confirmed
yet (bits); whether the start message has been sent. -/
structure CommonStart where
  turn : Nat
  op : Option (Nat × Nat)
  waiting : Nat
  sent : Bool := true
  deriving DecidableEq, Repr

/-- A frame of a seam link (R646): CLASS, KIND, counter, the NoC header of a packet, its payload. -/
structure SeamFrame where
  cls : Nat
  kind : Nat
  counter : Nat
  header : Option Nat
  body : List Byte
  deriving DecidableEq, Repr

/-- The array (R639-R671): consecutive failures of a link's frame (port * 4 + class), the
frames delivered since the last acknowledgement (by port, R650), rekeys (ports whose KEY_SWITCH was sent, or
received), the mailboxes that defined coherent windows, the common start, the turn of the last load, windows of other members (8 * device + window: base and size in MiB), the replay buffers (port * 4 + class: the newest
64 frames, R650), what the keys of the links come from (R649): nonces and epoch in use (port * 2 + direction), the nonces
exchanged last (8 + port), the peer's serial number (12 + port). -/
structure ArrayLinks where
  fails : Tbl Nat := []
  unacked : Tbl Nat := []
  keySent : List Nat := []
  keyGot : List Nat := []
  owners : Tbl Nat := []
  start : Option CommonStart := none
  lastLoad : Nat := 0
  windows : Tbl (Nat × Nat) := []
  replay : Tbl (List SeamFrame) := []
  keys : Tbl (Nat × Nat) := []
  deriving DecidableEq, Repr

/-- The host port (R821-R839): link, configuration space, MSI-X, DMA. `sent` counts the messages of each vector. -/
structure HostPort where
  dlActive : Bool := false
  busMaster : Bool := false
  d3hot : Bool := false
  msixEnable : Bool := false
  functionMask : Bool := false
  ready : Bool := false
  msix : Tbl MsixEntry := []
  pba : Nat := 0
  sent : Tbl Nat := []
  deriving DecidableEq, Repr

/-! ### Lanes, clocks, rails, temperatures -/

/-- An error injection that is pending on a lane (R627): the turn and pip of its first action, SPACING, and, once it has acted, the
instant of its next action in 1/64 pips. -/
structure Injection where
  turn : Nat
  pip : Nat
  spacing : Nat
  next : Option Nat := none
  deriving DecidableEq, Repr

/-- The eye scan in progress (R630): its operation, DEST, strides, DWELL, the lanes still to scan and how many there were, the place of the next result. -/
structure EyeScan where
  op : Nat × Nat
  dest : Nat
  pStride : Nat
  vStride : Nat
  dwell : Nat
  lanes : List Nat
  total : Nat := 0
  deriving DecidableEq, Repr

/-- A thermal zone beside its register (R743, R749, R752): the levels that it is at (bit 0 Warn, 1 Throttle, 2 Stop, 3 Trip), the
consecutive samples at or below each level less HYST, and those below Resume. -/
structure Zone where
  at_ : Nat := 0
  below : List Nat := [0, 0, 0]
  cool : Nat := 0
  deriving DecidableEq, Repr

/-- A power limit (R750, R859): reached; consecutive readings above it, and at or below 95 % of it; whether the last reading was
above it; the step. -/
structure PowerLimit where
  reached : Bool := false
  overCount : Nat := 0
  under : Nat := 0
  above : Bool := false
  step : Nat := 0
  deriving DecidableEq, Repr

/-- Lanes, clock monitors, frequency meters, rails, power limit and zones. -/
structure Physical where
  inj : Tbl Injection := []
  injected : Tbl (Nat × Nat) := []
  scan : Option EyeScan := none
  /-- Clock sources (R715): consecutive windows within 2 % and beyond 5 %; the sources found dead. -/
  good : Tbl Nat := []
  bad : Tbl Nat := []
  dead : Nat := 0
  /-- References whose last measurement was near neither frequency (R701). -/
  badRef : Nat := 0
  /-- Frequency meters with a gate in progress (R723). -/
  gates : Nat := 0
  /-- Consecutive failed transactions of a regulator (R726), by address. -/
  pmbFails : Tbl Nat := []
  /-- Rails' last settings before LEHR (R733). -/
  lastTarget : Tbl Nat := []
  /-- The power limits: 0 LIMIT_W (R750), 1 and 2 the current of VCC_LL and VCC_LU (R859); the six consumers of R44 as last
  reported, in 0.1 W. -/
  power : List PowerLimit := [{}, {}, {}]
  consumers : List Nat := [0, 0, 0, 0, 0, 0]
  zones : Tbl Zone := []
  /-- EV_TH_RESUME_READY has been raised in this stop (R752). -/
  resumeReady : Bool := false
  /-- LEHR and its wake (R731-R734): regions that ran when LEHR was entered; when the wake or the resume
  began (`now`); the release it leads to: START-UP after MODE_WAKE, or a stop left under R734. -/
  lehrRegions : List Nat := []
  wakeAt : Option Nat := none
  lehrStop : Bool := false
  resumeAt : Option Nat := none
  /-- Causes that came while a resume was being carried out, first come first: they are evaluated in OPERATE (R182). -/
  waiting : List Nat := []
  /-- Step 3 of the stop sequence is waiting for replay engines (R184). -/
  stopping : Bool := false
  /-- START-UP after CONFIGURE (R693): when it was entered; DONE was sampled high. -/
  startAt : Nat := 0
  doneHigh : Bool := false
  deriving DecidableEq, Repr

/-- The block. -/
structure State where
  /-- Control-space registers: an offset that is not listed holds its reset word. -/
  regs : List (Nat × Word) := []
  /-- Snapshots of HI registers, keyed by access path * 2^24 + offset (R17). -/
  snaps : List (Nat × Word) := []
  /-- Request and response buffers of the mailboxes, keyed by control-space offset (R61). -/
  mbuf : List Host.Cell := []
  gaf : Gaffer := {}
  tb : Timebase := {}
  cap : Capture := {}
  sec : Security := {}
  pins : Pins := {}
  bist : Bist := {}
  mem : StackMem := {}
  noc : Noc := {}
  sram : Sram := {}
  /-- The last answer of each access path: 0 BAR0, 1 BAR2, 2 management SPI, 3 debug, 4 U00's mailbox port, and the
  control space over the network, 8 + c: DMA channel c, 16 + endpoint: the network, 512 + 4 * cluster + port: an SRAM master port, 1024 + ring: a Tap Engine ring. -/
  answers : Tbl Answer := []
  fab : Fabric := {}
  rep : Replay := {}
  te : TapEngines := {}
  host : HostPort := {}
  /-- The 32 fabric event lines (R368); the pip of `now` in which each last toggled; the lines that wait for their next toggle. -/
  evLines : Nat := 0
  evLast : Tbl Nat := []
  evWait : List Nat := []
  arr : ArrayLinks := {}
  phys : Physical := {}
  /-- How many free values have been drawn: the model's own field (log entry 1). -/
  free : Nat := 0
  /-- The commands that wait, first in first out. -/
  pending : List Instr := []
  deriving DecidableEq, Repr

/-- The block right after power-on reset. -/
def State.reset : State := {}

end Sys2Proof.Machine
end

