-- ==== Sys2Proof/Machine/Ops.lean ====
section
/-!
DEFINITION. Machine/Ops.lean: the named operations over registers, fields, events, the log, notices, turn-latched
edits and modes, which every meaning is built from.
-/

namespace Sys2Proof.Machine

open Sys2Proof

/-! ### Bits -/

/-- Bit `i` of a number. -/
def bit (x i : Nat) : Bool := x / 2 ^ i % 2 == 1

/-- Bits `lo` to `lo + w - 1` of a number. -/
def bits (x lo w : Nat) : Nat := x / 2 ^ lo % 2 ^ w

/-- A number with the field of `w` bits at `lo` replaced by `v`. -/
def withBits (x lo w v : Nat) : Nat := x - 2 ^ lo * bits x lo w + 2 ^ lo * (v % 2 ^ w)

/-- 1 for true, 0 for false. -/
def b2n (b : Bool) : Nat := if b then 1 else 0

/-- Set bit `i`. -/
def setBit (x i : Nat) : Nat := if bit x i then x else 2 ^ i + x

/-- Clear bit `i`. -/
def clearBit (x i : Nat) : Nat := if bit x i then x - 2 ^ i else x

/-- Saturating increment of a counter of `w` bits. -/
def satAdd (w x n : Nat) : Nat := min (x + n) (2 ^ w - 1)

/-! ### Registers (R14) -/

/-- The word that a register holds. -/
def State.reg (s : State) (off : Nat) : Nat := (tblGet resetWord s.regs off).toNat

/-- A register takes a word. -/
def State.setReg (s : State) (off v : Nat) : State :=
  { s with regs := tblSet resetWord s.regs off (BitVec.ofNat 32 v) }

/-- The value of a field. -/
def State.get (s : State) (f : RF) : Nat := bits (s.reg f.off) f.lo f.w

/-- A field takes a value (its low `w` bits); the register's other bits stay. -/
def State.put (s : State) (f : RF) (v : Nat) : State := s.setReg f.off (withBits (s.reg f.off) f.lo f.w v)

/-- A one-bit field, or any field, is not 0. -/
def State.has (s : State) (f : RF) : Bool := s.get f != 0

/-- A counter field counts `n` and saturates. -/
def State.bumpBy (s : State) (f : RF) (n : Nat) : State := s.put f (satAdd f.w (s.get f) n)

/-- A counter field counts 1 and saturates. -/
def State.bump (s : State) (f : RF) : State := s.bumpBy f 1

/-- A counter field counts 1 and wraps. -/
def State.wrapInc (s : State) (f : RF) : State := s.put f (s.get f + 1)

/-- A LO/HI pair counts `n` (R17). -/
def State.inc64 (s : State) (lo hi : Nat) (n : Nat) : State :=
  let v := s.reg lo + 2 ^ 32 * s.reg hi + n
  (s.setReg lo v).setReg hi (v / 2 ^ 32)

/-- The registers of a range of offsets return to their reset words. -/
def State.resetRegs (s : State) (lo hi : Nat) : State :=
  { s with regs := s.regs.filter (fun e => e.1 < lo || hi ≤ e.1) }

/-- Do `f i` for i from 0 to n - 1, in order. -/
def iterate (n : Nat) (f : Nat → State → State) (s : State) : State := (List.range n).foldl (fun t i => f i t) s

/-- Do `f` for each element of a list, in order. -/
def forEach {α : Type} (l : List α) (f : α → State → State) (s : State) : State := l.foldl (fun t a => f a t) s

/-! ### Free values (log entry 1) -/

/-- The next free value: nothing fixes it. -/
def State.peekFree (s : State) : Nat := Config.freeValue s.free

/-- A free value has been used. -/
def State.drawn (s : State) : State := { s with free := s.free + 1 }

/-! ### The variant and the modes -/

/-- LF96-48 (R6): 48 test lanes. -/
def State.is48 (s : State) : Bool := s.get R.ID_VARIANT_LANES == 0x30

/-- Test lanes of the variant (R6). -/
def State.lanes (s : State) : Nat := if s.is48 then 48 else 96

/-- Stack-memory channels of the variant (R6). -/
def State.channels (s : State) : Nat := if s.is48 then 16 else 32

/-- R178: the modes. -/
def mPowerOn : Nat := 0
def mBoot : Nat := 1
def mProvision : Nat := 2
def mConfigure : Nat := 3
def mStartUp : Nat := 4
def mOperate : Nat := 5
def mThrottled : Nat := 6
def mStop : Nat := 7
def mLehr : Nat := 8
def mSafeHold : Nat := 9
def mTest : Nat := 10
def mZeroized : Nat := 11

/-- The mode (R178). -/
def State.mode (s : State) : Nat := s.get R.GAF_MODE_MODE

/-- The cause of the last mode change (R180). -/
def State.cause (s : State) : Nat := s.get R.GAF_MODE_CAUSE

/-- OPERATE or THROTTLED. -/
def State.running (s : State) : Bool := s.mode == mOperate || s.mode == mThrottled

/-- The lifecycle state (R191): 0 FACTORY, 1 PROVISIONED, 2 OWNED, 3 RETURNED, 4 RETIRED. -/
def State.life (s : State) : Nat := s.get R.GAF_LIFECYCLE_STATE

/-! ### Messages to the host (R839) -/

/-- A vector is triggered: a message, or its PBA bit when the vector is masked; nothing with MSI-X disabled. A message
that the link or Bus Master Enable holds back is held pending (R825). -/
def State.msix (s : State) (v : Nat) : State :=
  let h := s.host
  if !h.msixEnable then s
  else
    let e := tblGet (fun _ => ({} : MsixEntry)) h.msix v
    if e.masked || h.functionMask || !h.dlActive || !h.busMaster || h.d3hot then
      { s with host := { h with pba := setBit h.pba v } }
    else { s with host := { h with sent := tblSet (fun _ => 0) h.sent v (tblGet (fun _ => 0) h.sent v + 1) } }

/-! ### Events (R848, R849) -/

/-- Is the source never set on this variant (R9)? -/
def State.eventAbsent (s : State) (e : Nat) : Bool := s.is48 && 128 ≤ e && e ≤ 175

/-- R368: an event line toggles. -/
def State.toggleLine (s : State) (l : Nat) : State :=
  { s with evLines := s.evLines ^^^ 2 ^ l, evLast := tblPut l s.tb.now s.evLast, evWait := s.evWait.filter (· != l) }

/-- R368: has an event line not toggled within the last 16 ns (20 pips)? -/
def State.lineReady (s : State) (l : Nat) : Bool := ((tblFind l s.evLast).map (fun i => decide (i + 20 ≤ s.tb.now))).getD true

/-- R368: an event goes out on a line, or is merged into the line's next toggle. -/
def State.eventLine (s : State) (l : Nat) : State :=
  if s.lineReady l then s.toggleLine l else { s with evWait := l :: s.evWait.filter (· != l) }

/-- R849: an event is delivered on its route. `was` is the source's status bit before the set. -/
def State.deliver (s : State) (e : Nat) (was : Bool) : State :=
  if !s.has (R.EV_ROUTE_EN e) then s
  else
    let k := s.get (R.EV_ROUTE_KIND e)
    let t := s.get (R.EV_ROUTE_TARGET e)
    if k = 1 then (if was then s else s.msix t)
    else if k = 2 then s.eventLine (t % 32)
    else if k = 3 then { s with cap := { s.cap with pulses := setBit s.cap.pulses (32 + t % 8) } }
    else s

/-- R848: event source `e` occurs: its status bit is set, its count rises and saturates, it is delivered. -/
def State.raise (s : State) (e : Nat) : State :=
  if s.eventAbsent e then s
  else
    let off := R.EV_STATUS (e / 32)
    let w := s.reg off
    let was := bit w (e % 32)
    ((s.setReg off (setBit w (e % 32))).bump (R.EV_COUNT_COUNT e)).deliver e was

/-! ### The log (R116-R121) -/

/-- A log entry is written: it takes the next sequence number, and the oldest entry goes when 4,096 are held (R116);
ERROR and CRITICAL raise EV_LOG_ERROR (R120). -/
def State.logAlways (s : State) (severity group code mailbox a0 a1 a2 : Nat) : State :=
  let g := s.gaf
  let e : LogEntry := ⟨g.logNext, s.tb.turn, s.tb.pip, severity, group, code, mailbox, a0, a1, a2⟩
  let kept := if 4096 ≤ g.log.length then g.log.drop 1 else g.log
  let s := { s with gaf := { g with log := kept ++ [e], logNext := (g.logNext + 1) % 2 ^ 32 } }
  if 4 ≤ severity then s.raise 5 else s

/-- R119: an entry below its group's level is not recorded. The codes 0x0100 and above are the firmware's (R879); the
model writes 0x0100. -/
def State.log (s : State) (severity group a0 a1 a2 : Nat) : State :=
  if severity < s.gaf.logLevels.getD group 1 then s else s.logAlways severity group 0x0100 0 a0 a1 a2

/-! ### Guarantees (R198) -/

/-- R879: the log group of the guarantee that yielded. -/
def yieldGroup (code : Nat) : Nat :=
  if code = 2 then 0x0B else if code = 3 then 0x08 else if code = 4 then 0x04 else if code = 5 then 0x06
  else if code = 6 then 0x08 else if code = 7 then 0x01 else 0x0D

/-- R92: the gaffer spends time on a guarantee now. -/
def State.workedFor (s : State) (code : Nat) : State :=
  { s with gaf := { s.gaf with worked := tblSet (fun _ => 0) s.gaf.worked code (s.tb.now + 1) } }

/-- R118, R198: guarantee `code` yields to `overCode` at unit `detail`. The MAILBOX field of its log entry is 0, also for a guarantee that
serves a mailbox (log entry 116). -/
def State.yielded (s : State) (code overCode detail : Nat) : State :=
  let s := ((s.put R.GAF_YIELD_CODE code).put R.GAF_YIELD_OVER overCode).bump R.GAF_YIELD_COUNT
  let n := satAdd 32 (s.gaf.yields.getD (code - 1) 0) 1
  let s := ({ s with gaf := { s.gaf with yields := s.gaf.yields.set (code - 1) n } } : State).workedFor overCode
  if s.gaf.yieldedNow.contains code then s
  else
    let r : YieldRec := ⟨s.tb.turn, s.tb.pip, code, overCode, detail⟩
    let s := { s with gaf := { s.gaf with yieldRecs := (r :: s.gaf.yieldRecs).take 8,
                                          yieldedNow := code :: s.gaf.yieldedNow } }
    (s.raise 1).logAlways 3 (yieldGroup code) 0x0003 0 code overCode detail

/-! ### Notices and operations (R66, R67, R89, R94) -/

/-- MB_CPL and MB_STATUS.CPL_COUNT show the waiting notices of a mailbox (R59). -/
def State.showNotices (s : State) (mb : Nat) : State :=
  let l := tblGet (fun _ => []) s.gaf.notices mb
  let s := s.put (R.MB_STATUS_CPL_COUNT mb) l.length
  match l with
  | [] => (s.put (R.MB_CPL_TAG mb) 0xFFFF).put (R.MB_CPL_STATUS mb) 0
  | n :: _ => (s.put (R.MB_CPL_TAG mb) n.tag).put (R.MB_CPL_STATUS mb) n.status

/-- The waiting notices of a mailbox become `l`. -/
def State.setNotices (s : State) (mb : Nat) (l : List Notice) : State :=
  ({ s with gaf := { s.gaf with notices := tblSet (fun _ => []) s.gaf.notices mb l } }).showNotices mb

/-- R66: a completion notice is pushed to a mailbox and EV_016 + n is set. -/
def State.pushNotice (s : State) (mb tag status : Nat) : State :=
  (s.setNotices mb (tblGet (fun _ => []) s.gaf.notices mb ++ [⟨tag, status⟩])).raise (16 + mb)

/-- Outstanding operations of the device (R81), shown in GAF_STATUS.LONG_OPS. -/
def State.showOps (s : State) : State := s.put R.GAF_STATUS_LONG_OPS s.gaf.ops.length

/-- The outstanding operation of a mailbox with a tag. -/
def State.opOf (s : State) (mb tag : Nat) : Option Op := s.gaf.ops.find? (fun o => o.mb == mb && o.tag == tag)

/-- Keep the last 16 outcomes of each mailbox (R94). -/
def keepDone (d : OpDone) (l : List OpDone) : List OpDone :=
  (d :: (l.filter (fun x => x.mb == d.mb)).take 15) ++ l.filter (fun x => x.mb != d.mb)

/-- An operation ends with a final status: its outcome is kept (R94) and its notice is pushed, unless its mailbox's
source was reset (R96). -/
def State.endOp (s : State) (o : Op) (status detail : Nat) : State :=
  let prog := if o.progress = 255 then 255 else if status = 0 then 100 else o.progress
  let d : OpDone := ⟨o.mb, o.tag, o.command, status, detail, s.tb.turn, prog⟩
  let s := ({ s with gaf := { s.gaf with
    ops := s.gaf.ops.filter (fun x => !(x.mb == o.mb && x.tag == o.tag)),
    done := keepDone d s.gaf.done } }).showOps
  if o.quiet then s else s.pushNotice o.mb o.tag status

/-- R111, R460, R698: an operation that checks frames or bytes has failed: how far its check had come is a free value (log entry 113). -/
def State.partChecked (s : State) (o : Op) : Op := { o with progress := s.peekFree % 101 }

/-- R111: the commands whose chapter defines PROGRESS: PLC_LIBRARY_ADD, CTX_LOAD, CFG_STREAM_LOAD, MEM_REKEY, LN_EYE_SCAN. -/
def progressCommands : List Nat := [0x0300, 0x0308, 0x030D, 0x0805, 0x0906]

/-- R94, R658: an ACCEPTED operation that ran at a peer has ended; of its DETAIL and of the progress that it had reached a notice says
nothing: free values (log entry 113). -/
def State.endPeerOp (s : State) (o : PeerOp) (status : Nat) : State :=
  let prog := if !progressCommands.contains o.command then 255 else if status = 0 then 100 else s.peekFree % 101
  let d : OpDone := ⟨o.mb, o.tag, o.command, status, if status = 0 then 0 else s.drawn.peekFree % 65536, s.tb.turn, prog⟩
  let s := ({ s with gaf := { s.gaf with
    peerOps := s.gaf.peerOps.filter (fun x => !(x.mb == o.mb && x.tag == o.tag)), done := keepDone d s.gaf.done } } : State).drawn.drawn
  if o.quiet then s else s.pushNotice o.mb o.tag status

/-- Every outstanding operation of a command ends. -/
def State.endOps (s : State) (command status detail : Nat) : State :=
  forEach (s.gaf.ops.filter (fun o => o.command == command)) (fun o t => t.endOp o status detail) s

/-! ### Modes (R180-R183, R190, R880, R881) -/

/-- R190: may an ACCEPTED operation run in a mode? -/
def opPermitted (mode command : Nat) : Bool :=
  if mode = mOperate ∨ mode = mThrottled then true
  else if mode = mStop then [0x0202, 0x0203, 0x0806, 0x0B00, 0x0B05, 0x0B02, 0x0C01, 0x0C06].contains command
  else if mode = mLehr then [0x0204, 0x0B05].contains command
  else if mode = mSafeHold then [0x0205, 0x0B00, 0x0B05, 0x0B02, 0x0B06, 0x0C01, 0x0D00].contains command
  else if mode = mProvision then [0x0B02, 0x0B00, 0x0B05, 0x0D00].contains command
  else if mode = mConfigure then [0x030D, 0x0B00, 0x0B05].contains command
  else if mode = mStartUp ∨ mode = mTest then command == 0x0B05
  else if mode = mZeroized then [0x0B06, 0x0B00].contains command
  else false

/-- R82: the operations that a mode change for `cause` does not stop because they bring it about: MODE_STOP,
MODE_RESUME, MODE_ENTER_LEHR, MODE_WAKE and MODE_SAFE_HOLD_EXIT, SC_ZEROISE, SC_SET_LIFECYCLE, SC_LOAD_OWNER_KEY and
BT_RUN, each across the modes it moves the device through. -/
def opCauses (cause command : Nat) : Bool :=
  (command == 0x0201 && cause == 0x0B) || (command == 0x0202 && cause == 0x15)
  || (command == 0x0203 && cause == 0x16) || (command == 0x0204 && (cause == 0x17 || cause == 0x05))
  || (command == 0x0205 && (cause == 0x18 || cause == 0x03 || cause == 0x04 || cause == 0x05))
  || (command == 0x0B05 && cause == 0x1B)
  || ((command == 0x0B02 || command == 0x0B06) && (cause == 0x1D || cause == 0x1E || cause == 0x12 || cause == 0x13))
  || (command == 0x0D00 && (cause == 0x19 || cause == 0x1A || cause == 0x0D))

/-- R82: is an operation spared by a mode change for `cause`? A BT_RUN with SCOPE UNITS (args [1]) brings no mode change about. -/
def opSpared (mode cause : Nat) (o : Op) : Bool :=
  opPermitted mode o.command || (opCauses cause o.command && !(o.command == 0x0D00 && o.args == [1]))

/-- R82: what a stopped operation still had to do is dropped: PLC_UNPLACE's removal, the entry into LEHR, an eye scan, a common start,
the units of a BT_RUN. -/
def State.dropWork (s : State) (o : Op) : State :=
  if o.command = 0x0304 then
    { s with gaf := { s.gaf with shadow := s.gaf.shadow.erase (.unplace (o.args.headD 0)),
                                 held := s.gaf.held.erase (.unplace (o.args.headD 0)) } }
  else if o.command = 0x0203 then
    { s with gaf := { s.gaf with shadow := s.gaf.shadow.erase .lehr, held := s.gaf.held.erase .lehr } }
  else if o.command = 0x0906 then { s with phys := { s.phys with scan := none } }
  else if o.command = 0x0F05 then { s with arr := { s.arr with start := none } }
  else if o.command = 0x0D00 then { s with bist := { s.bist with queue := [] } }
  else s

/-- R82: the operations that the new mode does not permit are stopped, with REFUSED_STATE in their notice. -/
def State.stopOps (s : State) (cause : Nat) : State :=
  let m := s.mode
  forEach (s.gaf.ops.filter (fun o => !opSpared m cause o)) (fun o t => (t.dropWork o).endOp o 0x0300 0) s

/-- R183, R879, R880: one mode change: MODE, PREV, CHANGES, EV_MODE_CHANGE, the log entry. `keepCause` where R880 keeps
CAUSE; STOP_DONE is 0 outside ORDERLY STOP. -/
def State.modeStep (s : State) (m cause : Nat) (keepCause : Bool) : State :=
  let old := s.mode
  let s := (s.put R.GAF_MODE_PREV old).put R.GAF_MODE_MODE m
  let s := if keepCause then s else s.put R.GAF_MODE_CAUSE cause
  let s := if m = mStop then s else s.put R.GAF_MODE_STOP_DONE 0
  let s := s.bump R.GAF_MODE_CHANGES
  let s := { s with gaf := { s.gaf with modeTurn := s.tb.turn, modePip := s.tb.pip } }
  let s := (s.raise 0).logAlways 2 0x02 0x0002 0 m old s.cause
  -- R286: the sequencer disarms on entry to any mode other than OPERATE and THROTTLED
  let s := if m = mOperate ∨ m = mThrottled then s else s.put R.TG_STATUS_ARMED 0
  s.stopOps cause

/-- R749: a zone's step is above 0. -/
def State.thermalActive (s : State) : Bool := (List.range 20).any (fun z => s.has (R.TH_ZONE_STATE_STEP z))

/-- R750: the power step is above 0. -/
def State.powerActive (s : State) : Bool := s.has R.TH_STATUS_POWER_STEP

/-- R756: a sensor is broken (TH_SENSOR.STATE 1). -/
def State.sensorBroken (s : State) : Bool := (List.range 64).any (fun n => s.get (R.TH_SENSOR_STATE n) == 1)

/-- R184-R186: in ORDERLY STOP, once the stop sequence is done, the clocks of the regions and of the Tap Engines are gated; in LEHR they
are stopped (R731). -/
def State.regionClocked (s : State) : Bool :=
  !((s.mode == mStop && s.has R.GAF_MODE_STOP_DONE) || s.mode == mLehr)

/-- R720, R722: has the forced gate of a unit closed its clock? -/
def State.forceGated (s : State) (u : Nat) : Bool :=
  bit (s.reg (R.CK_FORCE (u / 32))) (u % 32) && bit (s.reg (R.CK_GATED (u / 32))) (u % 32)

/-- CK_GATED (R735): bits of word `m`; bits 168-191 read 1. -/
def State.setGates (s : State) (m v : Nat) : State := s.setReg (R.CK_GATED m) (if m = 5 then v ||| 0xFFFFFF00 else v)

/-- R720, R721: the clock of a unit runs, unless CK_FORCE holds it closed. -/
def State.openClock (s : State) (u : Nat) : State :=
  if bit (s.reg (R.CK_FORCE (u / 32))) (u % 32) then s else s.setGates (u / 32) (clearBit (s.reg (R.CK_GATED (u / 32))) (u % 32))

/-- R184, R734: the SRAM queue controllers are gated with them, but for a stop that was entered from LEHR. -/
def State.clustersClocked (s : State) : Bool := s.regionClocked || (s.mode == mStop && s.phys.lehrStop)

/-- R186, R720: a thermal trip has gated the gather units and the trigger matrix too; in LEHR they are stopped. -/
def State.gatherClocked (s : State) : Bool :=
  !((s.mode == mStop && s.has R.GAF_MODE_STOP_DONE && s.cause == 0x0F) || s.mode == mLehr)

/-- R186, R720: has a replay engine its clock? -/
def State.replayClocked (s : State) (e : Nat) : Bool := s.gatherClocked && !s.forceGated (144 + e / 4)

/-- R881: GAF_MODE shows the thermal and the power cause in every mode. -/
def State.showThrottle (s : State) : State :=
  (s.put R.GAF_MODE_THR_THERMAL (b2n s.thermalActive)).put R.GAF_MODE_THR_POWER (b2n s.powerActive)

/-- R881: the throttle cause that is active, in the order SENSOR_BROKEN, THERM_THROTTLE, POWER_LIMIT. -/
def State.throttleCause (s : State) : Option Nat :=
  if s.sensorBroken then some 0x20 else if s.thermalActive then some 0x06
  else if s.powerActive then some 0x07 else none

/-- A transition of R180: with R881, entry into OPERATE under an active throttle cause passes on to THROTTLED. -/
def State.changeMode (s : State) (m cause : Nat) : State :=
  let s := s.modeStep m cause false
  if m = mOperate then
    match s.throttleCause with
    | some c => s.modeStep mThrottled c false
    | none => s
  else s

/-- R880: a transition to the mode the device is already in. -/
def State.sameMode (s : State) (cause : Nat) (keepCause : Bool) : State := s.modeStep s.mode cause keepCause

/-- R181: a cause for which the present mode has no row is logged and ignored. One that comes while a resume is being carried out waits
for the mode that results (R182, log entry 123). -/
def State.causeIgnored (s : State) (cause : Nat) : State :=
  if s.mode = mStop ∧ s.phys.resumeAt.isSome ∧ [0x09, 0x0A, 0x0C, 0x0D, 0x0E].contains cause ∧ !s.phys.waiting.contains cause then
    { s with phys := { s.phys with waiting := s.phys.waiting ++ [cause] } }
  else s.log 2 0x02 cause s.mode 0

/-! ### Instants of turns (R129, R141, R302) -/

/-- Where pip `p` of turn `t` fell among turns that have ended (newest first), the turn after them having begun at `next`: a pip
beyond its turn's end, and a turn that a turn load passed by, fall at the start of the turn that followed (R302). -/
def instantAmong (t p next : Nat) : List PastTurn → Nat
  | [] => next
  | e :: l =>
    let d := (2 ^ 48 + e.turn - t) % 2 ^ 48
    if d = 0 then min (e.start + p) next else if 2 ^ 47 ≤ d then next else instantAmong t p e.start l

/-- Pip `p` of turn `t` on the axis of `now`, in pips: none while the turn lies ahead. -/
def State.instantOf (s : State) (t p : Nat) : Option Nat :=
  let d := (2 ^ 48 + s.tb.turn - t % 2 ^ 48) % 2 ^ 48
  if d = 0 then some (s.tb.turnStart + p)
  else if d < 2 ^ 47 then some (instantAmong (t % 2 ^ 48) p s.tb.turnStart s.tb.past)
  else none

/-- Was the pip PLL locked in the pip at instant `i` (R129)? -/
def State.lockedAt (s : State) (i : Nat) : Bool :=
  match s.tb.locks.find? (fun e => decide (e.1 ≤ i)) with
  | some e => e.2
  | none => false

/-- Was turn `t` synthetic (R129, R141)? -/
def State.turnSynth (s : State) (t : Nat) : Bool :=
  if t = s.tb.turn then s.has R.TS_STATUS_TURN_SYNTH
  else match s.tb.past.find? (fun e => e.turn == t) with
    | some e => e.synth
    | none => false

/-- R129, R141, R223: the synthetic-turn flag of a record with a timestamp: its turn was synthetic, or the PLL was not locked at
its instant. -/
def State.synthStamp (s : State) (t : Timestamp) : Bool :=
  s.turnSynth t.turn.toNat || !s.lockedAt ((s.instantOf t.turn.toNat t.pip.toNat).getD s.tb.now)

/-! ### Turn-latched settings (R148-R150) -/

/-- R150: is it too late in this turn to begin a burst? -/
def State.late (s : State) : Bool := decide (256 < s.tb.pip)

/-- R150: the bursts held since an earlier turn are written to the shadows. -/
def State.writeHeld (s : State) : State :=
  { s with gaf := { s.gaf with shadow := s.gaf.shadow ++ s.gaf.held, held := [] } }

/-- The settings of one command are written: to the shadows, after the bursts that earlier commands left; or held for the next turn
when it is too late (R150). -/
def State.latch (s : State) (es : List Edit) : State :=
  if s.late then { s with gaf := { s.gaf with held := s.gaf.held ++ es } }
  else
    let s := s.writeHeld
    { s with gaf := { s.gaf with shadow := s.gaf.shadow ++ es } }

/-- R665: does a common start's message go out in this turn: it has, or pip TL/2 is still to come? -/
def State.startsThisTurn (s : State) (c : CommonStart) : Bool := c.sent || decide (s.tb.pip ≤ s.get R.TS_LAST_LEN_LEN / 2)

/-- The number that the turn after this one takes, with the loads of the turn counter that are due at its boundary (R147, R665). -/
def State.nextNumber (s : State) : Nat :=
  match s.arr.start.filter (fun c => s.startsThisTurn c && c.waiting == 0) with
  | some c => c.turn % 2 ^ 48
  | none => s.tb.load.getD (s.tb.turn + 1) % 2 ^ 48

/-- The number of the turn after that: a load of TB_SET_SOURCE among the shadows is taken there (R170), and a common start whose message goes
out in the next turn (R665), where no member has to confirm it. -/
def State.secondNumber (s : State) : Nat :=
  match s.arr.start.filter (fun c => !s.startsThisTurn c && c.waiting == 0) with
  | some c => c.turn % 2 ^ 48
  | none => s.gaf.shadow.foldl (fun n e =>
    match e with
    | .turnLoad t => t % 2 ^ 48
    | _ => n) ((s.nextNumber + 1) % 2 ^ 48)

/-- The turn at which what is latched now takes effect (R150, R156): the next, or the one after. -/
def State.effectTurn (s : State) : Nat := if s.late then s.secondNumber else s.nextNumber

/-- R150, R174: the turn with which a check compares a turn of the payload: the present one, or, for a deferred command, the present one plus
1, whatever a load of the turn counter makes of the next (log entry 118). -/
def State.checkTurn (s : State) : Nat := (s.tb.turn + b2n s.late) % 2 ^ 48

/-- A write of a turn-latched field goes to the shadow (R18). -/
def tl (f : RF) (v : Nat) : Edit := .reg f.off ((2 ^ f.w - 1) * 2 ^ f.lo) (v % 2 ^ f.w * 2 ^ f.lo)

/-- The value a turn-latched field will have after every pending edit. -/
def State.pendingField (s : State) (f : RF) : Nat :=
  (s.gaf.shadow ++ s.gaf.held).foldl (fun x e =>
    match e with
    | .reg off mask v => if off = f.off ∧ bit (mask / 2 ^ f.lo) 0 then bits v f.lo f.w else x
    | _ => x) (s.get f)

/-! ### Claims (R83-R88) -/

/-- The key of a claimable resource: class * 65536 + index (R83). -/
def claimKey (cls idx : Nat) : Nat := 65536 * cls + idx

/-- Who holds a resource. -/
def State.claimOf (s : State) (key : Nat) : Option Claim := tblFind key s.gaf.claims

/-- Does a mailbox hold a resource (R84)? A releasing resource is held by nobody. -/
def State.holds (s : State) (mb key : Nat) : Bool :=
  match s.claimOf key with
  | some c => c.mb == mb && !c.releasing
  | none => false

/-- A resource is claimed. -/
def State.setClaim (s : State) (key : Nat) (c : Claim) : State :=
  { s with gaf := { s.gaf with claims := tblPut key c s.gaf.claims } }

/-- A resource is free. -/
def State.dropClaim (s : State) (key : Nat) : State :=
  { s with gaf := { s.gaf with claims := tblDel key s.gaf.claims } }

end Sys2Proof.Machine
end

