-- ==== Sys2Proof/Machine/Operands.lean ====
section
/-!
DEFINITION. Machine/Operands.lean: bytes of messages. Multi-byte fields are little-endian (R68, R69, R61).
-/

namespace Sys2Proof.Machine

open Sys2Proof

/-! ### Little-endian bytes -/

/-- Number the elements of a list from 0. -/
def numbered {α : Type} (l : List α) : List (Nat × α) := (List.range l.length).zip l

/-- `n` bytes from offset `i` of a message, little-endian; bytes beyond its end read 0. -/
def le (l : List Byte) (i n : Nat) : Nat :=
  match n with
  | 0 => 0
  | n + 1 => (l.getD i 0).toNat + 256 * le l (i + 1) n

/-- `n` bytes of a number, least significant first. -/
def toLE (n v : Nat) : List Byte :=
  match n with
  | 0 => []
  | n + 1 => BitVec.ofNat 8 v :: toLE n (v / 256)

/-- `n` zero bytes. -/
def zeros (n : Nat) : List Byte := List.replicate n 0

/-- A list cut or filled with zeros to `n` bytes. -/
def fit (n : Nat) (l : List Byte) : List Byte := (l ++ zeros (n - l.length)).take n

/-- Are `n` bytes from offset `i` all 0? -/
def zeroAt (l : List Byte) (i n : Nat) : Bool := le l i n == 0

/-! ### Byte buffers -/

/-- A byte of a sparse buffer whose unlisted bytes read `d`. -/
def cellGet (d : Byte) (m : List Host.Cell) (a : Nat) : Byte := tblGet (fun _ => d) m a

/-- `n` bytes of a sparse buffer. -/
def cellsGet (d : Byte) (m : List Host.Cell) (a n : Nat) : List Byte := (List.range n).map (fun i => cellGet d m (a + i))

/-- Write bytes into a sparse buffer. -/
def cellsSet (d : Byte) (m : List Host.Cell) (a : Nat) : List Byte → List Host.Cell
  | [] => m
  | b :: bs => cellsSet d (tblSet (fun _ => d) m a b) (a + 1) bs

/-- R61: control-space offset of the request buffer of a mailbox. -/
def reqBuf (mb : Nat) : Nat := 0x800000 + 0x2000 * mb

/-- R61: control-space offset of the response buffer of a mailbox. -/
def rspBuf (mb : Nat) : Nat := 0x801000 + 0x2000 * mb

/-! ### The message formats (R68, R69) -/

/-- The header bytes 0-15 of a request (R68), which R769 covers. -/
def requestHeader (r : Request) : List Byte :=
  [r.version, r.flags] ++ toLE 2 r.command.toNat ++ toLE 2 r.tag.toNat ++ toLE 2 r.length.toNat
    ++ [r.credSlot, r.dest] ++ toLE 6 r.reserved.toNat

/-- The bytes of a request: header, AUTH, payload. -/
def requestBytes (r : Request) : List Byte :=
  requestHeader r ++ toLE 16 r.auth.toNat ++ fit (min r.length.toNat 4064) r.payload

/-- The request that a request buffer holds (R68). -/
def parseRequest (l : List Byte) : Request :=
  { version := l.getD 0 0, flags := l.getD 1 0, command := BitVec.ofNat 16 (le l 2 2), tag := BitVec.ofNat 16 (le l 4 2),
    length := BitVec.ofNat 16 (le l 6 2), credSlot := l.getD 8 0, dest := l.getD 9 0,
    reserved := BitVec.ofNat 48 (le l 10 6), auth := BitVec.ofNat 128 (le l 16 16),
    payload := (l.drop 32).take (le l 6 2) }

/-- A request with its payload cut or filled to LENGTH, as the buffer holds it. -/
def fittedRequest (r : Request) : Request := { r with payload := fit (min r.length.toNat 4064) r.payload }

/-- The bytes of a response (R69). -/
def responseBytes (forwarded : Bool) (command tag status detail turn pip : Nat) (payload : List Byte) : List Byte :=
  [1, BitVec.ofNat 8 (b2n forwarded)] ++ toLE 2 command ++ toLE 2 tag ++ toLE 2 payload.length ++ toLE 2 status
    ++ toLE 2 detail ++ toLE 6 turn ++ toLE 4 pip ++ zeros 10 ++ payload

/-! ### Lists of entries in a payload -/

/-- `n` entries of `size` bytes from offset `base`. -/
def entriesOf (l : List Byte) (base size n : Nat) : List (List Byte) :=
  (List.range n).map (fun i => (l.drop (base + size * i)).take size)

/-- The position of the first element that satisfies `p`. -/
def firstIdx {α : Type} (p : α → Bool) (l : List α) : Option Nat := l.findIdx? p

/-- Do two elements of a list with positions agree in `f`? -/
def hasRepeat (l : List Nat) : Bool :=
  match l with
  | [] => false
  | a :: t => t.contains a || hasRepeat t

/-- The bit numbers set in a mask of `n` bits, in increasing order. -/
def bitsOf (n mask : Nat) : List Nat := (List.range n).filter (fun i => bit mask i)

/-- The mask of a list of bit numbers. -/
def maskOf (l : List Nat) : Nat := l.foldl setBit 0

end Sys2Proof.Machine
end

