-- ==== Sys2Proof/Machine/Crypto.lean ====
section
/-!
DEFINITION. Machine/Crypto.lean: the algorithms that the spec names: SHA-256 and HMAC-SHA-256 (R764, R769), AES-256, its counter mode and
GCM (R540, R541, R649, R680, R681), and SLH-DSA (R773). The spec names them by their standards (FIPS 180-4, FIPS 197, FIPS 198-1, SP 800-38D,
FIPS 205) and prints none of them (log entry 2).
-/

namespace Sys2Proof.Machine

open Sys2Proof

/-- A number as bytes, the most significant first. -/
def toBE (n v : Nat) : List Byte := (toLE n v).reverse

/-- The number that bytes spell, the most significant first. -/
def be (l : List Byte) : Nat := l.foldl (fun x b => 256 * x + b.toNat) 0

/-- Blocks of `n` bytes, without a rest. -/
def blocksOf (n : Nat) (l : List Byte) : List (List Byte) := (List.range (l.length / n)).map (fun i => (l.drop (n * i)).take n)

/-! ### SHA-2 -/

/-- The round constants of SHA-256. -/
def shaK256 : List (BitVec 32) :=
  [0x428A2F98, 0x71374491, 0xB5C0FBCF, 0xE9B5DBA5, 0x3956C25B, 0x59F111F1, 0x923F82A4, 0xAB1C5ED5,
   0xD807AA98, 0x12835B01, 0x243185BE, 0x550C7DC3, 0x72BE5D74, 0x80DEB1FE, 0x9BDC06A7, 0xC19BF174,
   0xE49B69C1, 0xEFBE4786, 0x0FC19DC6, 0x240CA1CC, 0x2DE92C6F, 0x4A7484AA, 0x5CB0A9DC, 0x76F988DA,
   0x983E5152, 0xA831C66D, 0xB00327C8, 0xBF597FC7, 0xC6E00BF3, 0xD5A79147, 0x06CA6351, 0x14292967,
   0x27B70A85, 0x2E1B2138, 0x4D2C6DFC, 0x53380D13, 0x650A7354, 0x766A0ABB, 0x81C2C92E, 0x92722C85,
   0xA2BFE8A1, 0xA81A664B, 0xC24B8B70, 0xC76C51A3, 0xD192E819, 0xD6990624, 0xF40E3585, 0x106AA070,
   0x19A4C116, 0x1E376C08, 0x2748774C, 0x34B0BCB5, 0x391C0CB3, 0x4ED8AA4A, 0x5B9CCA4F, 0x682E6FF3,
   0x748F82EE, 0x78A5636F, 0x84C87814, 0x8CC70208, 0x90BEFFFA, 0xA4506CEB, 0xBEF9A3F7, 0xC67178F2]

/-- The round constants of SHA-512. -/
def shaK512 : List (BitVec 64) :=
  [0x428A2F98D728AE22, 0x7137449123EF65CD, 0xB5C0FBCFEC4D3B2F, 0xE9B5DBA58189DBBC,
   0x3956C25BF348B538, 0x59F111F1B605D019, 0x923F82A4AF194F9B, 0xAB1C5ED5DA6D8118,
   0xD807AA98A3030242, 0x12835B0145706FBE, 0x243185BE4EE4B28C, 0x550C7DC3D5FFB4E2,
   0x72BE5D74F27B896F, 0x80DEB1FE3B1696B1, 0x9BDC06A725C71235, 0xC19BF174CF692694,
   0xE49B69C19EF14AD2, 0xEFBE4786384F25E3, 0x0FC19DC68B8CD5B5, 0x240CA1CC77AC9C65,
   0x2DE92C6F592B0275, 0x4A7484AA6EA6E483, 0x5CB0A9DCBD41FBD4, 0x76F988DA831153B5,
   0x983E5152EE66DFAB, 0xA831C66D2DB43210, 0xB00327C898FB213F, 0xBF597FC7BEEF0EE4,
   0xC6E00BF33DA88FC2, 0xD5A79147930AA725, 0x06CA6351E003826F, 0x142929670A0E6E70,
   0x27B70A8546D22FFC, 0x2E1B21385C26C926, 0x4D2C6DFC5AC42AED, 0x53380D139D95B3DF,
   0x650A73548BAF63DE, 0x766A0ABB3C77B2A8, 0x81C2C92E47EDAEE6, 0x92722C851482353B]
  ++ [0xA2BFE8A14CF10364, 0xA81A664BBC423001, 0xC24B8B70D0F89791, 0xC76C51A30654BE30,
   0xD192E819D6EF5218, 0xD69906245565A910, 0xF40E35855771202A, 0x106AA07032BBD1B8,
   0x19A4C116B8D2D0C8, 0x1E376C085141AB53, 0x2748774CDF8EEB99, 0x34B0BCB5E19B48A8,
   0x391C0CB3C5C95A63, 0x4ED8AA4AE3418ACB, 0x5B9CCA4F7763E373, 0x682E6FF3D6B2B8A3,
   0x748F82EE5DEFB2FC, 0x78A5636F43172F60, 0x84C87814A1F0AB72, 0x8CC702081A6439EC,
   0x90BEFFFA23631E28, 0xA4506CEBDE82BDE9, 0xBEF9A3F7B2C67915, 0xC67178F2E372532B,
   0xCA273ECEEA26619C, 0xD186B8C721C0C207, 0xEADA7DD6CDE0EB1E, 0xF57D4F7FEE6ED178,
   0x06F067AA72176FBA, 0x0A637DC5A2C898A6, 0x113F9804BEF90DAE, 0x1B710B35131C471B,
   0x28DB77F523047D84, 0x32CAAB7B40C72493, 0x3C9EBE0A15C9BEBC, 0x431D67C49C100D4C,
   0x4CC5D4BECB3E42B6, 0x597F299CFC657E2A, 0x5FCB6FAB3AD6FAEC, 0x6C44198C4A475817]

/-- The initial values of SHA-256 and SHA-512. -/
def shaIv256 : List (BitVec 32) :=
  [0x6A09E667, 0xBB67AE85, 0x3C6EF372, 0xA54FF53A, 0x510E527F, 0x9B05688C, 0x1F83D9AB, 0x5BE0CD19]
def shaIv512 : List (BitVec 64) :=
  [0x6A09E667F3BCC908, 0xBB67AE8584CAA73B, 0x3C6EF372FE94F82B, 0xA54FF53A5F1D36F1,
   0x510E527FADE682D1, 0x9B05688C2B3E6C1F, 0x1F83D9ABFB41BD6B, 0x5BE0CD19137E2179]

/-- SHA-2 for words of `w` bits: the rotations of the two sums and the two schedule functions, the last of each schedule function a shift. -/
structure Sha2 (w : Nat) where
  sum0 : Nat × Nat × Nat
  sum1 : Nat × Nat × Nat
  sched0 : Nat × Nat × Nat
  sched1 : Nat × Nat × Nat
  k : List (BitVec w)
  iv : List (BitVec w)

def sha256Of : Sha2 32 := ⟨(2, 13, 22), (6, 11, 25), (7, 18, 3), (17, 19, 10), shaK256, shaIv256⟩
def sha512Of : Sha2 64 := ⟨(28, 34, 39), (14, 18, 41), (1, 8, 7), (19, 61, 6), shaK512, shaIv512⟩

/-- Three rotations of a word. -/
def rotations {w : Nat} (r : Nat × Nat × Nat) (x : BitVec w) : BitVec w :=
  x.rotateRight r.1 ^^^ x.rotateRight r.2.1 ^^^ x.rotateRight r.2.2

/-- Two rotations and a shift of a word. -/
def rotateShift {w : Nat} (r : Nat × Nat × Nat) (x : BitVec w) : BitVec w :=
  x.rotateRight r.1 ^^^ x.rotateRight r.2.1 ^^^ (x >>> r.2.2)

/-- The schedule of a block, the latest word first. -/
def shaSchedule {w : Nat} (a : Sha2 w) (words : List (BitVec w)) : Nat → List (BitVec w)
  | 0 => words.reverse
  | n + 1 =>
    let l := shaSchedule a words n
    (rotateShift a.sched1 (l.getD 1 0) + l.getD 6 0 + rotateShift a.sched0 (l.getD 14 0) + l.getD 15 0) :: l

/-- One round on the eight working words, with the sum of constant and schedule word. -/
def shaRound {w : Nat} (a : Sha2 w) (v : List (BitVec w)) (kw : BitVec w) : List (BitVec w) :=
  match v with
  | [x0, x1, x2, x3, x4, x5, x6, x7] =>
    let t1 := x7 + rotations a.sum1 x4 + ((x4 &&& x5) ^^^ (~~~x4 &&& x6)) + kw
    let t2 := rotations a.sum0 x0 + ((x0 &&& x1) ^^^ (x0 &&& x2) ^^^ (x1 &&& x2))
    [t1 + t2, x0, x1, x2, x3 + t1, x4, x5, x6]
  | _ => v

/-- One block: the hash values take it in. -/
def shaBlock {w : Nat} (a : Sha2 w) (h : List (BitVec w)) (b : List Byte) : List (BitVec w) :=
  let words := (blocksOf (w / 8) b).map (fun x => BitVec.ofNat w (be x))
  let sched := (shaSchedule a words (a.k.length - 16)).reverse
  h.zipWith (· + ·) ((a.k.zipWith (· + ·) sched).foldl (shaRound a) h)

/-- SHA-2 of a message, as bytes. -/
def sha2 {w : Nat} (a : Sha2 w) (m : List Byte) : List Byte :=
  let size := 2 * w
  let tail := m.length + 1 + w / 4
  let padded := m ++ [0x80] ++ zeros ((size - tail % size) % size) ++ toBE (w / 4) (8 * m.length)
  ((blocksOf size padded).foldl (shaBlock a) a.iv).flatMap (fun x => toBE (w / 8) x.toNat)

@[irreducible] def sha256Bytes (m : List Byte) : List Byte := sha2 sha256Of m
@[irreducible] def sha512Bytes (m : List Byte) : List Byte := sha2 sha512Of m

/-- SHA-256 as a word whose byte 0 is the digest's first. -/
def sha256 (m : List Byte) : BitVec 256 := BitVec.ofNat 256 (le (sha256Bytes m) 0 32)

/-- HMAC with a hash of `size`-byte blocks (FIPS 198-1). -/
def hmacWith (hash : List Byte → List Byte) (size : Nat) (key m : List Byte) : List Byte :=
  let k := fit size (if size < key.length then hash key else key)
  hash (k.map (· ^^^ 0x5C) ++ hash (k.map (· ^^^ 0x36) ++ m))

/-- R764, R769: HMAC-SHA-256 of a message under a key, as a word whose byte 0 is the code's first. -/
def hmac (key m : List Byte) : BitVec 256 := BitVec.ofNat 256 (le (hmacWith sha256Bytes 64 key m) 0 32)

/-- R764: HKDF-SHA-256 (RFC 5869): extract, then expand to block `i` (from 0) of the output. -/
def hkdf (ikm : BitVec 256) (salt info : List Byte) : Nat → BitVec 256
  | 0 => hmac (toLE 32 (hmac salt (toLE 32 ikm.toNat)).toNat) (info ++ [1])
  | i + 1 => hmac (toLE 32 (hmac salt (toLE 32 ikm.toNat)).toNat)
      (toLE 32 (hkdf ikm salt info i).toNat ++ info ++ [BitVec.ofNat 8 (i + 2)])

/-! ### AES-256 -/

/-- The S-box of AES. -/
def aesSbox : List Byte :=
  [99, 124, 119, 123, 242, 107, 111, 197, 48, 1, 103, 43, 254, 215, 171, 118,
   202, 130, 201, 125, 250, 89, 71, 240, 173, 212, 162, 175, 156, 164, 114, 192,
   183, 253, 147, 38, 54, 63, 247, 204, 52, 165, 229, 241, 113, 216, 49, 21,
   4, 199, 35, 195, 24, 150, 5, 154, 7, 18, 128, 226, 235, 39, 178, 117]
  ++ [9, 131, 44, 26, 27, 110, 90, 160, 82, 59, 214, 179, 41, 227, 47, 132,
   83, 209, 0, 237, 32, 252, 177, 91, 106, 203, 190, 57, 74, 76, 88, 207,
   208, 239, 170, 251, 67, 77, 51, 133, 69, 249, 2, 127, 80, 60, 159, 168,
   81, 163, 64, 143, 146, 157, 56, 245, 188, 182, 218, 33, 16, 255, 243, 210]
  ++ [205, 12, 19, 236, 95, 151, 68, 23, 196, 167, 126, 61, 100, 93, 25, 115,
   96, 129, 79, 220, 34, 42, 144, 136, 70, 238, 184, 20, 222, 94, 11, 219,
   224, 50, 58, 10, 73, 6, 36, 92, 194, 211, 172, 98, 145, 149, 228, 121,
   231, 200, 55, 109, 141, 213, 78, 169, 108, 86, 244, 234, 101, 122, 174, 8]
  ++ [186, 120, 37, 46, 28, 166, 180, 198, 232, 221, 116, 31, 75, 189, 139, 138,
   112, 62, 181, 102, 72, 3, 246, 14, 97, 53, 87, 185, 134, 193, 29, 158,
   225, 248, 152, 17, 105, 217, 142, 148, 155, 30, 135, 233, 206, 85, 40, 223,
   140, 161, 137, 13, 191, 230, 66, 104, 65, 153, 45, 15, 176, 84, 187, 22]

def aesSub (b : Byte) : Byte := aesSbox.getD b.toNat 0

/-- Multiplication by x in AES's field. -/
def aesTwice (b : Byte) : Byte := (b <<< 1) ^^^ (if b.msb then 0x1B else 0)

/-- The round keys of a 32-byte key, as words of four bytes, the latest first. -/
def aesWords (key : List Byte) : Nat → List (List Byte)
  | 0 => (blocksOf 4 key).reverse
  | n + 1 =>
    let l := aesWords key n
    let i := n + 8
    let t := l.headD []
    let t := if i % 8 = 0 then
        ((t.drop 1 ++ t.take 1).map aesSub).zipWith (· ^^^ ·) [BitVec.ofNat 8 (2 ^ (i / 8 - 1)), 0, 0, 0]
      else if i % 8 = 4 then t.map aesSub
      else t
    (l.getD 7 []).zipWith (· ^^^ ·) t :: l

/-- The rows of a state of 16 bytes (column by column) rotate. -/
def aesShift (s : List Byte) : List Byte := (List.range 16).map (fun i => s.getD ((i + 4 * (i % 4)) % 16) 0)

/-- A column is mixed. -/
def aesMix (c : List Byte) : List Byte :=
  (List.range 4).map (fun i =>
    let b (k : Nat) : Byte := c.getD ((i + k) % 4) 0
    aesTwice (b 0) ^^^ (aesTwice (b 1) ^^^ b 1) ^^^ b 2 ^^^ b 3)

/-- AES-256 of a block of 16 bytes (FIPS 197). -/
def aesBytes (key block : List Byte) : List Byte :=
  let keys := blocksOf 16 ((aesWords key 52).reverse.flatten)
  let first := block.zipWith (· ^^^ ·) (keys.headD [])
  let mixed := ((keys.drop 1).take 13).foldl (fun s k =>
    (((blocksOf 4 (aesShift (s.map aesSub))).flatMap aesMix)).zipWith (· ^^^ ·) k) first
  (aesShift (mixed.map aesSub)).zipWith (· ^^^ ·) (keys.getD 14 [])

/-- R540: one block of AES-256. A key's byte 0 is its lowest; bits 127:120 of a block are its first byte (log entry 2). -/
@[irreducible] def aes (key : BitVec 256) (b : BitVec 128) : BitVec 128 :=
  BitVec.ofNat 128 (be (aesBytes (toLE 32 key.toNat) (toBE 16 b.toNat)))

/-- The product of two elements of GHASH's field, whose bit 127 is the coefficient of 1 (SP 800-38D). -/
def ghashMul (x y : BitVec 128) : BitVec 128 :=
  ((List.range 128).foldl (fun (a : BitVec 128 × BitVec 128) i =>
    (if x.getMsbD i then a.1 ^^^ a.2 else a.1,
     (a.2 >>> 1) ^^^ (if a.2.getLsbD 0 then (0xE1 : BitVec 128) <<< 120 else 0))) (0, y)).1

/-- GHASH of additional data and a ciphertext under a hash key. -/
@[irreducible] def ghash (h : BitVec 128) (aad cipher : List Byte) : BitVec 128 :=
  let pad (l : List Byte) : List Byte := l ++ zeros ((16 - l.length % 16) % 16)
  (blocksOf 16 (pad aad ++ pad cipher ++ toBE 8 (8 * aad.length) ++ toBE 8 (8 * cipher.length))).foldl
    (fun y b => ghashMul (y ^^^ BitVec.ofNat 128 (be b)) h) 0

/-- GCM's counter block `i` for an IV of 12 bytes. -/
def gcmBlock (iv : List Byte) (i : Nat) : BitVec 128 := BitVec.ofNat 128 (be (iv ++ toBE 4 i))

/-- GCM's counter mode, from block 2 on. -/
def gcmStream (key : BitVec 256) (iv data : List Byte) : List Byte :=
  data.zipWith (· ^^^ ·) ((List.range ((data.length + 15) / 16)).flatMap (fun i => toBE 16 (aes key (gcmBlock iv (i + 2))).toNat))

/-- GCM's tag of additional data and a ciphertext. -/
def gcmTag (key : BitVec 256) (iv aad cipher : List Byte) : List Byte :=
  toBE 16 (ghash (aes key 0) aad cipher ^^^ aes key (gcmBlock iv 1)).toNat

/-- R649: AES-256-GCM: key, IV, additional data and plaintext give the ciphertext and the tag. -/
def gcmSeal (key : BitVec 256) (iv aad plain : List Byte) : List Byte × List Byte :=
  let c := gcmStream key iv plain
  (c, gcmTag key iv aad c)

/-- R680, R681: AES-256-GCM: the plaintext, or none when the tag fails. -/
def gcmOpen (key : BitVec 256) (iv aad cipher tag : List Byte) : Option (List Byte) :=
  if gcmTag key iv aad cipher = tag then some (gcmStream key iv cipher) else none

/-! ### SLH-DSA (R773, FIPS 205) -/

/-- A parameter set: bytes of a hash, layers, height of a layer's tree, height and number of the FORS trees, bytes of a digest; `wide`: the
functions of categories 3 and 5, which take SHA-512 for all but F and PRF. -/
structure SlhParams where
  n : Nat
  layers : Nat
  height : Nat
  forsHeight : Nat
  forsTrees : Nat
  digest : Nat
  wide : Bool

def slh192s : SlhParams := ⟨24, 7, 9, 14, 17, 39, true⟩
def slh128f : SlhParams := ⟨16, 22, 3, 6, 33, 34, false⟩

/-- The chains of a one-time key: 2 n of the message and 3 of its checksum. -/
def SlhParams.chains (p : SlhParams) : Nat := 2 * p.n + 3

/-- The bytes of a signature. -/
def SlhParams.size (p : SlhParams) : Nat :=
  p.n * (1 + p.forsTrees * (1 + p.forsHeight) + p.layers * (p.height + p.chains))

/-- An address: layer, tree, type, and three words that the type gives a meaning (key pair; chain or height; step or index). -/
structure SlhAdrs where
  layer : Nat := 0
  tree : Nat := 0
  type : Nat := 0
  pair : Nat := 0
  mid : Nat := 0
  low : Nat := 0

/-- The compressed address of 22 bytes. -/
def SlhAdrs.bytes (a : SlhAdrs) : List Byte :=
  toBE 1 a.layer ++ toBE 8 a.tree ++ toBE 1 a.type ++ toBE 4 a.pair ++ toBE 4 a.mid ++ toBE 4 a.low

/-- F and PRF: one hash value, or a secret seed, under an address. -/
def slhF (p : SlhParams) (seed : List Byte) (a : SlhAdrs) (m : List Byte) : List Byte :=
  (sha256Bytes (seed ++ zeros (64 - p.n) ++ a.bytes ++ m)).take p.n

/-- H and T: several hash values under an address. -/
def slhT (p : SlhParams) (seed : List Byte) (a : SlhAdrs) (m : List Byte) : List Byte :=
  if p.wide then (sha512Bytes (seed ++ zeros (128 - p.n) ++ a.bytes ++ m)).take p.n else slhF p seed a m

/-- MGF1: bytes from a seed. -/
def mgf1 (hash : List Byte → List Byte) (seed : List Byte) (n : Nat) : List Byte :=
  ((List.range n).flatMap (fun i => if i * (hash []).length < n then hash (seed ++ toBE 4 i) else [])).take n

/-- H_msg: the digest of a message under a randomizer. -/
def slhDigest (p : SlhParams) (r seed root m : List Byte) : List Byte :=
  let hash := if p.wide then sha512Bytes else sha256Bytes
  mgf1 hash (r ++ seed ++ hash (r ++ seed ++ root ++ m)) p.digest

/-- Digit `i` of `b` bits, the most significant first, of bytes. -/
def slhDigit (l : List Byte) (b i : Nat) : Nat := be l / 2 ^ (8 * l.length - b * (i + 1)) % 2 ^ b

/-- The digits of a message of `n` bytes and of its checksum. -/
def slhDigits (p : SlhParams) (m : List Byte) : List Nat :=
  let d := (List.range (2 * p.n)).map (slhDigit m 4)
  let sum := 16 * (d.map (15 - ·)).sum
  d ++ (List.range 3).map (slhDigit (toBE 2 sum) 4)

/-- `n` steps of a chain from step `i` on. -/
def slhChain (p : SlhParams) (seed : List Byte) (a : SlhAdrs) : Nat → Nat → List Byte → List Byte
  | 0, _, x => x
  | n + 1, i, x => slhChain p seed a n (i + 1) (slhF p seed { a with low := i } x)

/-- The one-time public key that ends of chains make. -/
def slhEnds (p : SlhParams) (seed : List Byte) (a : SlhAdrs) (ends : List (List Byte)) : List Byte :=
  slhT p seed { a with type := 1, mid := 0, low := 0 } ends.flatten

/-- The secret start of a chain of key pair `a.pair`. -/
def slhStart (p : SlhParams) (sk seed : List Byte) (a : SlhAdrs) (chain : Nat) : List Byte :=
  slhF p seed { a with type := 5, mid := chain, low := 0 } sk

/-- The root of a tree of `z` levels over leaf `leaf i`, at node `i` of that level; `node` gives the address of an inner node. -/
def slhNode (p : SlhParams) (seed : List Byte) (node : Nat → Nat → SlhAdrs) (leaf : Nat → List Byte) : Nat → Nat → List Byte
  | 0, i => leaf i
  | z + 1, i => slhT p seed (node (z + 1) i) (slhNode p seed node leaf z (2 * i) ++ slhNode p seed node leaf z (2 * i + 1))

/-- A root from a leaf at place `i` and the nodes beside its path, from level `z` on. -/
def slhClimb (p : SlhParams) (seed : List Byte) (node : Nat → Nat → SlhAdrs) : Nat → Nat → List Byte → List (List Byte) → List Byte
  | _, _, x, [] => x
  | z, i, x, b :: path =>
    slhClimb p seed node (z + 1) (i / 2) (slhT p seed (node (z + 1) (i / 2)) (if i % 2 = 0 then x ++ b else b ++ x)) path

/-- The place beside node `i` at level `j` of the path of leaf `i`. -/
def slhBeside (i j : Nat) : Nat := if i / 2 ^ j % 2 = 0 then i / 2 ^ j + 1 else i / 2 ^ j - 1

/-- A one-time key's address in a tree, and an inner node's. -/
def SlhAdrs.oneTime (a : SlhAdrs) (i : Nat) : SlhAdrs := { a with type := 0, pair := i, mid := 0, low := 0 }
def SlhAdrs.inner (a : SlhAdrs) (z i : Nat) : SlhAdrs := { a with type := 2, pair := 0, mid := z, low := i }

/-- The leaf of key pair `i`: its public key. -/
def slhLeaf (p : SlhParams) (sk seed : List Byte) (a : SlhAdrs) (i : Nat) : List Byte :=
  let a := a.oneTime i
  slhEnds p seed a ((List.range p.chains).map (fun c => slhChain p seed { a with mid := c } 15 0 (slhStart p sk seed a c)))

/-- A layer's signature of a hash value by key pair `i`: the chains at its digits, then the path. -/
def slhLayerSign (p : SlhParams) (sk seed : List Byte) (a : SlhAdrs) (i : Nat) (m : List Byte) : List Byte :=
  let b := a.oneTime i
  ((slhDigits p m).zipIdx.flatMap (fun d => slhChain p seed { b with mid := d.2 } d.1 0 (slhStart p sk seed b d.2)))
    ++ (List.range p.height).flatMap (fun j => slhNode p seed a.inner (slhLeaf p sk seed a) j (slhBeside i j))

/-- The root that a layer's signature of a hash value gives. -/
def slhLayerRoot (p : SlhParams) (seed : List Byte) (a : SlhAdrs) (i : Nat) (sig m : List Byte) : List Byte :=
  let b := a.oneTime i
  let parts := blocksOf p.n sig
  let ends := ((slhDigits p m).zip (parts.take p.chains)).zipIdx.map (fun d =>
    slhChain p seed { b with mid := d.2 } (15 - d.1.1) d.1.1 d.1.2)
  slhClimb p seed a.inner 0 i (slhEnds p seed b ends) ((parts.drop p.chains).take p.height)

/-- The layers of a signature from layer `j` on: the hash value that they sign goes up the layers. -/
def slhLayersSign (p : SlhParams) (sk seed : List Byte) : Nat → Nat → Nat → Nat → List Byte → List Byte
  | 0, _, _, _, _ => []
  | n + 1, j, tree, leaf, m =>
    let a : SlhAdrs := { layer := j, tree := tree }
    let sig := slhLayerSign p sk seed a leaf m
    sig ++ slhLayersSign p sk seed n (j + 1) (tree / 2 ^ p.height) (tree % 2 ^ p.height) (slhLayerRoot p seed a leaf sig m)

/-- The root that the layers of a signature give. -/
def slhLayersRoot (p : SlhParams) (seed : List Byte) : Nat → Nat → Nat → Nat → List Byte → List Byte → List Byte
  | 0, _, _, _, _, m => m
  | n + 1, j, tree, leaf, sig, m =>
    let size := p.n * (p.chains + p.height)
    slhLayersRoot p seed n (j + 1) (tree / 2 ^ p.height) (tree % 2 ^ p.height) (sig.drop size)
      (slhLayerRoot p seed { layer := j, tree := tree } leaf (sig.take size) m)

/-- What a digest selects: the digits of the FORS trees, the tree and the leaf of the lowest layer. -/
def slhSelect (p : SlhParams) (digest : List Byte) : List Nat × Nat × Nat :=
  let md := (p.forsTrees * p.forsHeight + 7) / 8
  let above := p.height * (p.layers - 1)
  let mt := (above + 7) / 8
  let ml := (p.height + 7) / 8
  let part (o n : Nat) : List Byte := (digest.drop o).take n
  ((List.range p.forsTrees).map (slhDigit (part 0 md) p.forsHeight), be (part md mt) % 2 ^ above, be (part (md + mt) ml) % 2 ^ p.height)

/-- A node of the FORS trees of a key pair. -/
def SlhAdrs.fors (a : SlhAdrs) (z i : Nat) : SlhAdrs := { a with type := 3, mid := z, low := i }

/-- The secret of a FORS leaf, and the leaf. -/
def slhForsSecret (p : SlhParams) (sk seed : List Byte) (a : SlhAdrs) (i : Nat) : List Byte :=
  slhF p seed { a with type := 6, mid := 0, low := i } sk
def slhForsLeaf (p : SlhParams) (sk seed : List Byte) (a : SlhAdrs) (i : Nat) : List Byte :=
  slhF p seed (a.fors 0 i) (slhForsSecret p sk seed a i)

/-- The FORS signature of digits: for each tree the secret and the path. -/
def slhForsSign (p : SlhParams) (sk seed : List Byte) (a : SlhAdrs) (digits : List Nat) : List Byte :=
  digits.zipIdx.flatMap (fun d =>
    slhForsSecret p sk seed a (d.2 * 2 ^ p.forsHeight + d.1)
      ++ (List.range p.forsHeight).flatMap (fun j =>
        slhNode p seed a.fors (slhForsLeaf p sk seed a) j (d.2 * 2 ^ (p.forsHeight - j) + slhBeside d.1 j)))

/-- The FORS public key that a signature of digits gives. -/
def slhForsRoot (p : SlhParams) (seed : List Byte) (a : SlhAdrs) (digits : List Nat) (sig : List Byte) : List Byte :=
  let size := p.forsHeight + 1
  let parts := blocksOf p.n sig
  let roots := digits.zipIdx.map (fun d =>
    let l := (parts.drop (size * d.2)).take size
    let i := d.2 * 2 ^ p.forsHeight + d.1
    slhClimb p seed a.fors 0 i (slhF p seed (a.fors 0 i) (l.headD [])) (l.drop 1))
  slhT p seed { a with type := 4, mid := 0, low := 0 } roots.flatten

/-- R773: a message in pure mode with an empty context. -/
def slhPure (m : List Byte) : List Byte := [0, 0] ++ m

/-- R773: does a signature of a message verify under a public key? -/
@[irreducible] def slhVerify (p : SlhParams) (pub m sig : List Byte) : Bool :=
  let seed := pub.take p.n
  let root := pub.drop p.n
  let r := sig.take p.n
  let x := slhSelect p (slhDigest p r seed root (slhPure m))
  let a : SlhAdrs := { tree := x.2.1, pair := x.2.2 }
  let fors := p.n * p.forsTrees * (p.forsHeight + 1)
  sig.length == p.size && pub.length == 2 * p.n
    && slhLayersRoot p seed p.layers 0 x.2.1 x.2.2 (sig.drop (p.n + fors))
        (slhForsRoot p seed a x.1 ((sig.drop p.n).take fors)) == root

/-- The public key of a seed: SK.seed, SK.prf and PK.seed. -/
@[irreducible] def slhPublic (p : SlhParams) (key : List Byte) : List Byte :=
  let seed := (key.drop (2 * p.n)).take p.n
  let a : SlhAdrs := { layer := p.layers - 1 }
  seed ++ slhNode p seed a.inner (slhLeaf p (key.take p.n) seed a) p.height 0

/-- R773: the signature of a message by the key of a seed; `random`: the n bytes that FIPS 205 lets the signer draw. -/
@[irreducible] def slhSign (p : SlhParams) (key random m : List Byte) : List Byte :=
  let sk := key.take p.n
  let pub := slhPublic p key
  let seed := pub.take p.n
  let r := (hmacWith (if p.wide then sha512Bytes else sha256Bytes) (if p.wide then 128 else 64) ((key.drop p.n).take p.n)
    (random ++ slhPure m)).take p.n
  let x := slhSelect p (slhDigest p r seed (pub.drop p.n) (slhPure m))
  let a : SlhAdrs := { tree := x.2.1, pair := x.2.2 }
  let fors := slhForsSign p sk seed a x.1
  r ++ fors ++ slhLayersSign p sk seed p.layers 0 x.2.1 x.2.2 (slhForsRoot p seed a x.1 fors)

end Sys2Proof.Machine
end

