-- ==== Sys2Proof/Machine/NocPaths.lean ====
section
/-!
DEFINITION. Machine/NocPaths.lean: routes of the on-chip network and its bandwidth reservations (R563-R566, R576,
R584-R587).
-/

namespace Sys2Proof.Machine

open Sys2Proof

/-- R564: the endpoint (4r + p) of stack-memory channel k. -/
def channelEndpoint (k : Nat) : Nat :=
  if k < 10 then 4 * (50 + k) else if k < 20 then 4 * (k - 10) else if k < 24 then 4 * (10 * (k - 19))
  else if k < 28 then 4 * (10 * (k - 23) + 9) else 4 * (10 * (k - 27) + 1)

/-- R533: the channel of a local address. -/
def State.channelOf (s : State) (a : Nat) : Nat :=
  let g := a / 0x10000000
  s.get (R.SM_SEG_MAP_CH_FIRST g) + a % 0x10000000 / 4096 % 2 ^ s.get (R.SM_SEG_MAP_CH_LOG2 g)

/-- R564: the router of pair k. -/
def pairRouter (k : Nat) : Nat := 10 * (1 + k / 6) + (2 + k % 6)

/-- R564: the NoC port of region r (Uk is region k, Lk region 24 + k). -/
def regionEndpoint (r : Nat) : Nat := 4 * pairRouter (r % 24) + r / 24

/-- R564: the endpoint of SRAM cluster c. -/
def clusterEndpoint (c : Nat) : Nat := 4 * pairRouter (c % 48 / 2) + 2 + c / 48

def gafferEndpoint : Nat := 72
def controlEndpoint : Nat := 73
def hostEndpoint : Nat := 112
def configEndpoint : Nat := 152
def sweepEndpoint : Nat := 153
def selfTestEndpoint : Nat := 192

/-- R564: the endpoint of seam port N, E, S, W (0-3). -/
def seamEndpoint (port : Nat) : Nat :=
  if port = 0 then 4 * 54 + 1 else if port = 1 then 4 * 29 + 1 else if port = 2 then 4 * 4 + 1 else 4 * 20 + 1

/-- R566: hops between two endpoints. -/
def hops (a b : Nat) : Nat :=
  let xa := a / 4 % 10
  let ya := a / 40
  let xb := b / 4 % 10
  let yb := b / 40
  (xa - xb) + (xb - xa) + ((ya - yb) + (yb - ya))

/-- R576: the link directions (router * 4 + N 0, E 1, S 2, W 3) of a packet's way: first along x, then along y. -/
def route (src dst : Nat) : List Nat :=
  let xa := src / 4 % 10
  let ya := src / 40
  let xb := dst / 4 % 10
  let yb := dst / 40
  (List.range (xb - xa)).map (fun i => 4 * (10 * ya + xa + i) + 1)
    ++ (List.range (xa - xb)).map (fun i => 4 * (10 * ya + xa - i) + 3)
    ++ (List.range (yb - ya)).map (fun i => 4 * (10 * (ya + i) + xb))
    ++ (List.range (ya - yb)).map (fun i => 4 * (10 * (ya - i) + xb) + 2)

/-- R585: everything a flow is counted on: the link directions of both ways (below 240), and the ports of both ends
(240 + endpoint). -/
def flowPath (f : Flow) : List Nat := route f.src f.dst ++ route f.dst f.src ++ [240 + f.src, 240 + f.dst]

/-- The load of a link direction or port, in 1/32 of 100 MB/s. -/
def linkLoad (l : List Flow) (x : Nat) : Nat :=
  l.foldl (fun n f => n + f.rate * ((flowPath f).filter (· == x)).length) 0

/-- R585: 76.8 GB/s. -/
def linkLimit : Nat := 768 * 32

/-- R585: do flows stay within every limit once `new` is added? -/
def flowsFit (old new : List Flow) : Bool :=
  (new.flatMap flowPath).eraseDups.all (fun x => decide (linkLoad (old ++ new) x ≤ linkLimit))

/-- NC_RT_RSV shows the reservations of each outbound link in 100 MB/s (R600). -/
def State.showFlows (s : State) : State :=
  let l := s.noc.flows
  iterate 60 (fun r t =>
    (t.setReg (R.NC_RT_RSV_NE r) (linkLoad l (4 * r) / 32 + 65536 * (linkLoad l (4 * r + 1) / 32))).setReg
      (R.NC_RT_RSV_SW r) (linkLoad l (4 * r + 2) / 32 + 65536 * (linkLoad l (4 * r + 3) / 32))) s

/-- R584: the flows of an endpoint by destination, merged: what its NC_RSV entries hold. -/
def flowsOf (l : List Flow) (e : Nat) : List (Nat × Nat) :=
  let mine := l.filter (fun f => f.src == e && decide (0 < f.rate))
  (mine.map (·.dst)).eraseDups.map (fun d => (d, (mine.filter (fun f => f.dst == d)).foldl (fun n f => n + f.rate) 0))

/-- R584, R602, R587: the gaffer writes the NC_RSV entries of an endpoint, which are turn-latched. RATE is rounded up to
100 MB/s (log entry 32). -/
def rsvEdits (l : List Flow) (e : Nat) : List Edit :=
  let m := (flowsOf l e).take 32
  (List.range 32).map (fun i =>
    match m[i]? with
    | some (d, rate) => .reg (R.NC_RSV e i) 0xFFFFFFFF (d + 256 + 65536 * ((rate + 31) / 32 % 65536))
    | none => .reg (R.NC_RSV e i) 0xFFFFFFFF 0)

/-- Flows are added or removed: the reservations of the links show it, the entries of the sources follow at the next
turn. -/
def State.setFlows (s : State) (l : List Flow) (sources : List Nat) : State :=
  let s := { s with noc := { s.noc with flows := l } }
  (s.latch (sources.flatMap (rsvEdits l))).showFlows

/-- Remove one flow equal to each of a list. -/
def dropFlows (l gone : List Flow) : List Flow := gone.foldl (fun m f => m.erase f) l

end Sys2Proof.Machine
end

