-- ==== Sys2Proof/Machine/Flits.lean ====
section
/-!
DEFINITION. Machine/Flits.lean: packets and flits of the on-chip network: their layout, priorities and reservations, and what a router
does with a flit that arrives with bad symbols (R571-R575, R582, R584, R588, R589).
-/

namespace Sys2Proof.Machine

open Sys2Proof

/-! ### Packets (R572, R574) -/

/-- TYPE of a packet (R574). -/
def PacketKind.code : PacketKind → Nat
  | .read => 0
  | .write => 1
  | .winPush => 2
  | .winPop => 3
  | .winPeek => 4
  | .winPoke => 5
  | .resp => 6
  | .data => 7
  | .inv => 8
  | .keyDrop => 9
  | .invAck => 10

/-- The virtual network of a TYPE (R574): 0 REQ, 1 RESP, 2 SNOOP, 3 DATA. -/
def vnetOf (type : Nat) : Nat :=
  if type ≤ 5 then 0 else if type = 7 then 3 else if type = 8 ∨ type = 9 then 2 else 1

/-- Flits of a packet (R574). -/
def Packet.flitCount (p : Packet) : Nat :=
  match p.kind with
  | .write => max 1 ((p.len + 63) / 64)
  | .data => max 1 ((p.len + 63) / 64)
  | _ => 1

/-- An endpoint as X, Y and port (R564). -/
def endpointField (e : Nat) : Nat := e / 4 % 10 + 16 * (e / 40 % 8) + 128 * (e % 4)

/-- The header in the control field of a head flit (R572). -/
def Packet.header (p : Packet) : Nat :=
  p.kind.code + 2 ^ 4 * vnetOf p.kind.code + 2 ^ 6 * (p.pri % 4) + 2 ^ 8 * b2n p.rsv + 2 ^ 9 * b2n p.posted + 2 ^ 11 * b2n p.poison
    + 2 ^ 12 * ((p.flitCount - 1) % 4) + 2 ^ 14 * endpointField p.dst + 2 ^ 23 * endpointField p.src + 2 ^ 32 * (p.dev % 8)
    + 2 ^ 35 * (p.plane % 8) + 2 ^ 38 * (p.status % 16) + 2 ^ 42 * (p.tag % 2048) + 2 ^ 53 * (p.ident % 256) + 2 ^ 61 * (p.ident2 % 256)
    + 2 ^ 69 * (p.win % 8) + 2 ^ 72 * ((p.len - 1) % 256) + 2 ^ 80 * (p.addr % 2 ^ 43)

/-- The control field of body flit `j` (R573). -/
def Packet.bodyControl (p : Packet) (j : Nat) : Nat :=
  0xF + 2 ^ 4 * vnetOf p.kind.code + 2 ^ 6 * (j % 4) + 2 ^ 8 * (p.tag % 2048)

/-- Flit `j` of a packet (R571, R572): bytes beyond LEN are 0. -/
def Packet.flit (p : Packet) (j : Nat) : Flit :=
  let control := BitVec.ofNat 128 (if j = 0 then p.header else p.bodyControl j)
  let data := BitVec.ofNat 512 (le (fit 64 ((p.data.take p.len).drop (64 * j))) 0 64)
  ⟨control, data, Config.flitCheck (data ++ control)⟩

def Packet.flits (p : Packet) : List Flit := (List.range p.flitCount).map p.flit

/-- The 672 bits of a flit (R571). -/
def Flit.bits (f : Flit) : BitVec 672 := f.check ++ (f.data ++ f.control)

/-! ### Flits with bad symbols (R571, R588, R589) -/

/-- The 84 symbols of a flit as the link delivers them: the bad ones are changed. -/
def Flit.received (f : Flit) (bad : List (Fin 84 × Byte)) : BitVec 672 :=
  bad.foldl (fun w e => w ^^^ BitVec.ofNat 672 (e.2.toNat * 2 ^ (8 * e.1.val))) f.bits

/-- How many symbols a pattern changes. -/
def badSymbols (bad : List (Fin 84 × Byte)) : Nat :=
  ((List.range 84).filter (fun i => (bad.filter (fun e => e.1.val == i)).foldl (fun x e => x ^^^ e.2) (0 : Byte) != 0)).length

/-- What the check of R571 makes of a flit: one bad symbol is corrected; two or three are detected. Four or more are taken as detected
(log entry 102). -/
inductive FlitCheck where
  | clean
  | corrected
  | uncorrectable
  deriving DecidableEq, Repr

def checkFlit (bad : List (Fin 84 × Byte)) : FlitCheck :=
  match badSymbols bad with
  | 0 => .clean
  | 1 => .corrected
  | _ => .uncorrectable

/-- R588: is one arrival of a flit refused: it is uncorrectable, or its VNET disagrees with its packet's TYPE? -/
def refusedArrival (type : Nat) (a : FlitArrival) : Bool :=
  checkFlit a.bad == .uncorrectable || (match a.vnet with
    | some v => v.toNat != vnetOf type
    | none => false)

/-- R588, R589: a flit of a packet of a TYPE arrives, is refused and resent until an arrival passes; 16 failed retries make the link direction
FAILED. -/
def State.linkFault (s : State) (type : Nat) (f : LinkFault) : State :=
  let r := f.router.val
  let n := min 17 (f.arrivals.takeWhile (refusedArrival type)).length
  let s := if n = 0 then s
    else iterate n (fun _ t => t.raise 267) ((s.bumpBy (R.NC_RT_ERR_UNCORR r) n).put (R.NC_RT_STATUS_RETRY_SEEN r) 1)
  if n = 17 then
    ((s.put (R.NC_RT_STATUS_FAILED r) (setBit (s.get (R.NC_RT_STATUS_FAILED r)) f.port.val)).raise 268).log 5 0x08 r f.port.val 0
  else if ((f.arrivals[n]?).map (fun a => checkFlit a.bad)) = some .corrected then
    ((s.bump (R.NC_RT_ERR_CORR r)).put (R.NC_RT_STATUS_CORR_SEEN r) 1).raise 266
  else s

/-! ### Priority and reservation (R582, R584) -/

/-- R584: the RATE, in 100 MB/s, that endpoint `src` has reserved to `dst`. -/
def State.reservedRate (s : State) (src dst : Nat) : Nat :=
  ((List.range 32).filter (fun i => s.has (R.NC_RSV_EN src i) && s.get (R.NC_RSV_DST src i) == dst)).foldl
    (fun n i => n + s.get (R.NC_RSV_RATE src i)) 0

/-- R584: the token bucket of a flow now, in 1/100 bytes: 4 KiB deep, filled at RATE (8 hundredths of a byte a pip for each 100 MB/s); a
new flow's is full (log entry 102). -/
def State.bucket (s : State) (src dst : Nat) : Nat :=
  let x := tblGet (fun _ => (409600, 0)) s.noc.buckets (240 * src + dst)
  min 409600 (x.1 + 8 * s.reservedRate src dst * (s.tb.now - x.2))

/-- R584: what a request for `n` bytes of data, either way, takes from a bucket: 64 bytes for each flit. -/
def tokensOf (n : Nat) : Nat := 6400 * ((n + 63) / 64)

/-- R584: RSV of a request: does its flow's bucket hold what it takes? -/
def State.reserved (s : State) (src dst n : Nat) : Bool :=
  decide (0 < s.reservedRate src dst) && decide (tokensOf n ≤ s.bucket src dst)

/-- R587: a bucket keeps its level under a new RATE. A flow that has ended keeps none. -/
def State.settleBuckets (s : State) : State :=
  let kept := s.noc.buckets.filterMap (fun e =>
    if s.reservedRate (e.1 / 240) (e.1 % 240) = 0 then none else some (e.1, (s.bucket (e.1 / 240) (e.1 % 240), s.tb.now)))
  { s with noc := { s.noc with buckets := kept } }

/-- R582, R641: the PRI of a request that endpoint `src` injects: a region's port chooses one up to its PRI_MAX; that of a peer's request is
capped at 2. -/
def State.priOf (s : State) (src asked : Nat) : Nat :=
  if src = gafferEndpoint then 3
  else if src = hostEndpoint then 2
  else if src = configEndpoint ∨ src = selfTestEndpoint then 1
  else if src = sweepEndpoint then 0
  else if (List.range 4).any (fun p => seamEndpoint p == src) then min asked 2
  else min asked (s.get (R.NC_EP_CTRL_PRI_MAX src))

/-- A packet is injected; a request within its reservation takes its bytes from the bucket (R584). -/
def State.inject (s : State) (p : Packet) : State :=
  let taken := if p.rsv && decide (p.kind.code ≤ 5) then
      tblPut (240 * p.src + p.dst) (s.bucket p.src p.dst - tokensOf p.len, s.tb.now) s.noc.buckets
    else s.noc.buckets
  { s with noc := { s.noc with packet := some p, buckets := taken } }

end Sys2Proof.Machine
end

