-- ==== Sys2Proof/Machine/Seams.lean ====
section
/-!
DEFINITION. Machine/Seams.lean: the seam links between devices: their states, the frames that they carry and how those are laid out,
protected and replayed (R639, R643-R647, R649-R653).
-/

namespace Sys2Proof.Machine

open Sys2Proof

/-- The 8-byte serial number. -/
def State.serial (s : State) : List Byte := toLE 4 (s.reg R.ID_SERIAL_LO) ++ toLE 4 (s.reg R.ID_SERIAL_HI)

def asciiSeam : List Byte := [0x53, 0x45, 0x41, 0x4D]

/-! ### Neighbours (R639, R653) -/

def State.devId (s : State) : Nat := s.get R.NC_ARRAY_DEV_ID

/-- R639: the neighbour of a device on a port. -/
def seamNeighbour (d p : Nat) : Option Nat :=
  if p = 0 then (if d < 4 then some (d + 4) else none)
  else if p = 1 then (if d % 4 < 3 then some (d + 1) else none)
  else if p = 2 then (if 4 ≤ d then some (d - 4) else none)
  else (if 0 < d % 4 then some (d - 1) else none)

/-- R653: the exit port toward another device: by column first, then by row. -/
def exitPort (own dev : Nat) : Nat :=
  if dev % 4 ≠ own % 4 then (if own % 4 < dev % 4 then 1 else 3) else if own / 4 < dev / 4 then 0 else 2

/-! ### Link states (R652) -/

def smDown : Nat := 0
def smTraining : Nat := 1
def smKeying : Nat := 2
def smUp : Nat := 3
def smRekeying : Nat := 4
def smFailed : Nat := 5

def State.seam (s : State) (p : Nat) : Nat := s.get (R.NC_SEAM_STATUS_STATE p)

/-- Is a link UP or REKEYING? -/
def State.seamLive (s : State) (p : Nat) : Bool := s.seam p == smUp || s.seam p == smRekeying

/-- A link changes its state. One that leaves UP drops the frames that are not verified yet, and its keys. -/
def State.setSeam (s : State) (p st : Nat) : State :=
  if s.seam p = st then s
  else
    let s := ((s.put (R.NC_SEAM_STATUS_STATE p) st).put (R.NC_SEAM_STATUS_STATE_SEEN p) 1).raise 287
    if s.seamLive p then s
    else { s with arr := { s.arr with replay := s.arr.replay.filter (fun e => e.1 / 4 != p), keys := s.arr.keys.filter (fun e => e.1 / 2 != p && e.1 != 8 + p && e.1 != 12 + p) } }

/-- A link becomes FAILED for a cause. -/
def State.failSeam (s : State) (p cause : Nat) : State := (s.put (R.NC_SEAM_STATUS_FAIL_CAUSE p) cause).setSeam p smFailed

/-! ### Frames (R643, R645-R647, R649) -/

/-- R643: the lanes of the group that carries a class. -/
def laneGroup (mode cls : Nat) : List Nat :=
  if mode = 1 then List.range 6 else if cls = 3 then [3, 4, 5] else [cls]

/-- What a frame encrypts (R646): the NoC header, for KIND 0 only, and the payload. -/
def SeamFrame.plain (f : SeamFrame) : List Byte := (match f.header with
  | some h => toLE 16 h
  | none => []) ++ f.body

/-- The link header (R646). Body bytes count the NoC header and the payload (log entry 104). -/
def SeamFrame.link (f : SeamFrame) : List Byte :=
  toLE 4 (f.cls % 4 + 4 * (f.kind % 4) + 16 * ((f.plain.length - 1) % 4096) + 65536 * (f.counter % 65536))

/-- R649: the IV of a frame: the salt, then the frame counter. -/
def SeamFrame.iv (f : SeamFrame) (salt : BitVec 32) : List Byte := toLE 4 salt.toNat ++ toLE 8 f.counter

/-- R646, R649: the characters of a frame (K flag and byte) under the key and salt of its direction. -/
def SeamFrame.chars (f : SeamFrame) (key : BitVec 256 × BitVec 32) : List (Bool × Byte) :=
  let sealed := gcmSeal key.1 (f.iv key.2) f.link f.plain
  (true, 0xFB) :: (f.link ++ sealed.1 ++ sealed.2).map (fun b => (false, b)) ++ [(true, 0xFD)]

/-- R645: the characters of a frame by lane, round-robin over the lanes of its group. -/
def onLanes (group : List Nat) (chars : List (Bool × Byte)) : List (Nat × Bool × Byte) :=
  (numbered chars).map (fun x => (group.getD (x.1 % group.length) 0, x.2))

/-- What stands in `arr.keys` under a key: nonces or a serial number, and an epoch. -/
def State.seamNonces (s : State) (k : Nat) : Nat × Nat := tblGet (fun _ => (0, 0)) s.arr.keys k

/-- R649: the gaffers of a link exchange fresh nonces, or (`12 + port`) their serial numbers: free values. -/
def State.drawNonces (s : State) (k : Nat) : State :=
  ({ s with arr := { s.arr with keys := tblSet (fun _ => (0, 0)) s.arr.keys k (s.peekFree, 0) } } : State).drawn

/-- R649, R764: the key and salt of a direction of a link, now: from the owner array key, the two serial numbers, the two nonces (this
device's in the low 256 bits) and the epoch. -/
def State.seamKey (s : State) (p : Nat) (tx : Bool) : BitVec 256 × BitVec 32 :=
  let x := s.seamNonces (2 * p + b2n tx)
  let mine := toLE 32 x.1
  let theirs := toLE 32 (x.1 / 2 ^ 256)
  let peer := toLE 8 (s.seamNonces (12 + p)).1
  let salt := if tx then mine ++ theirs else theirs ++ mine
  let info := asciiSeam ++ (if tx then s.serial ++ peer else peer ++ s.serial) ++ toLE 2 x.2
  (hkdf s.sec.arrayKey salt info 0, BitVec.ofNat 32 (le (toLE 32 (hkdf s.sec.arrayKey salt info 1).toNat) 0 4))

/-- R649, R651: a direction of a link goes on under the keys of an epoch, from the nonces exchanged last (`8 + port`), with counter 0. -/
def State.rekeySeam (s : State) (p : Nat) (tx : Bool) (epoch : Nat) : State :=
  let arr := { s.arr with keys := tblSet (fun _ => (0, 0)) s.arr.keys (2 * p + b2n tx) ((s.seamNonces (8 + p)).1, epoch % 65536),
                          replay := if tx then s.arr.replay.filter (fun e => e.1 / 4 != p) else s.arr.replay }
  let s : State := { s with arr := arr }
  if tx then (s.setReg (R.NC_SEAM_TXCNT_LO p) 0).setReg (R.NC_SEAM_TXCNT_HI p) 0
  else (s.setReg (R.NC_SEAM_RXCNT_LO p) 0).setReg (R.NC_SEAM_RXCNT_HI p) 0

/-- A counter of a port. -/
def State.seamCount (s : State) (lo hi : Nat) : Nat := s.reg lo + 2 ^ 32 * s.reg hi

/-- R649: the transmit counter counts `n` frames. -/
def State.sendFrames (s : State) (p n : Nat) : State := s.inc64 (R.NC_SEAM_TXCNT_LO p) (R.NC_SEAM_TXCNT_HI p) n

/-- The 64 newest of a class's frames (R650). -/
def newest64 (l : List SeamFrame) : List SeamFrame := l.drop (l.length - 64)

/-- R649, R650: a frame is sent: it takes the counter's value, and the replay buffer of its class holds it. -/
def State.sendFrame (s : State) (p cls kind : Nat) (header : Option Nat) (body : List Byte) : State :=
  let f : SeamFrame := ⟨cls, kind, s.seamCount (R.NC_SEAM_TXCNT_LO p) (R.NC_SEAM_TXCNT_HI p), header, body⟩
  let k := 4 * p + cls
  let l := newest64 (tblGet (fun _ => []) s.arr.replay k ++ [f])
  ({ s with arr := { s.arr with replay := tblSet (fun _ => []) s.arr.replay k l } } : State).sendFrames p 1

/-- R650: the newest `n` frames of a class are sent again, each under a fresh counter. -/
def State.resend (s : State) (p cls n : Nat) : State :=
  let k := 4 * p + cls
  let l := tblGet (fun _ => []) s.arr.replay k
  let c := s.seamCount (R.NC_SEAM_TXCNT_LO p) (R.NC_SEAM_TXCNT_HI p)
  let again := (numbered (l.drop (l.length - n))).map (fun x => { x.2 with counter := (c + x.1) % 2 ^ 64 })
  ({ s with arr := { s.arr with replay := tblSet (fun _ => []) s.arr.replay k (l.take (l.length - n) ++ again) } } : State).sendFrames p n

/-- R643, R646, R647: a packet leaves by a seam port, in the class of its virtual network; in ARRAY mode the data of a request are a frame
of their own, on the DATA group. -/
def State.sendPacket (s : State) (p : Nat) (k : Packet) : State :=
  let cls := vnetOf k.kind.code
  if s.get (R.NC_SEAM_CTRL_MODE p) = 2 ∧ cls = 0 ∧ !k.data.isEmpty then (s.sendFrame p 0 0 (some k.header) []).sendFrame p 3 1 none k.data
  else s.sendFrame p cls 0 (some k.header) k.data

/-! ### Messages to other members (R647, R661, R662, R665) -/

/-- A message of the array to device `d`, on the SNOOP class: a control frame. -/
def State.tellDevice (s : State) (d kind v : Nat) : State :=
  let p := exitPort s.devId d
  if s.seamLive p then s.sendFrame p 2 3 none (Config.arrayMessage kind v) else s

/-- A message to every other member. -/
def State.tellMembers (s : State) (kind v : Nat) : State :=
  forEach ((bitsOf 8 (s.get R.NC_ARRAY_MEMBERS)).filter (fun d => d != s.devId)) (fun d t => t.tellDevice d kind v) s

/-- R661: a snoop goes to device `d`: INV of a global line, or KEY_DROP of this device's key identifier. -/
def State.snoopDevice (s : State) (d line : Nat) (key : Option Nat) : State :=
  let p := exitPort s.devId d
  if s.seamLive p then
    s.sendPacket p { kind := if key.isSome then .keyDrop else .inv, pri := 3, src := if key.isSome then gafferEndpoint else channelEndpoint (s.channelOf (64 * line % 2 ^ 40)),
                     dst := seamEndpoint p, dev := s.devId, len := 64, addr := key.getD (64 * line) }
  else s

end Sys2Proof.Machine
end

