-- ==== Sys2Proof/Machine/Guard.lean ====
section
/-!
DEFINITION. Machine/Guard.lean: the channel map, the line code, the memory guard (R528-R557) and the lines that a
request reads and writes.
-/

namespace Sys2Proof.Machine

open Sys2Proof

/-! ### The channel map (R533, R534) -/

/-- Segments of the variant (R11): 256, or 128 on LF96-48. -/
def State.segments (s : State) : Nat := if s.is48 then 128 else 256

/-- R533: the offset in that channel. -/
def State.channelOffset (s : State) (a : Nat) : Nat :=
  let g := a / 0x10000000
  2 ^ 23 * s.get (R.SM_SEG_MAP_PBASE g) + 4096 * (a % 0x10000000 / 4096 / 2 ^ s.get (R.SM_SEG_MAP_CH_LOG2 g)) + a % 4096

/-- SM_SEG_MAP of a segment takes its map; ALLOC and PRIV stay. -/
def State.mapSegment (s : State) (g log2 first pbase : Nat) : State :=
  ((s.put (R.SM_SEG_MAP_CH_LOG2 g) log2).put (R.SM_SEG_MAP_CH_FIRST g) first).put (R.SM_SEG_MAP_PBASE g) pbase

/-- R534: log2 of the fitted channels. -/
def State.fullLog2 (s : State) : Nat := if s.is48 then 4 else 5

/-- R534: the map of BOOT: every segment over every fitted channel. -/
def State.mapFull (s : State) (g : Nat) : State := s.mapSegment g s.fullLog2 0 (32 / s.channels * g)

/-! ### The line code (R529, R530, R531, R547) -/

/-- GF(2^8) with x^8 + x^4 + x^3 + x^2 + 1: multiplication by α. -/
def gfAlpha (x : Nat) : Nat := if 128 ≤ x then (2 * x) ^^^ 0x11D else 2 * x

/-- x · α^n. -/
def gfShift (n x : Nat) : Nat :=
  match n with
  | 0 => x
  | n + 1 => gfAlpha (gfShift n x)

/-- The syndromes S0..S3 of a pattern of changed symbols (symbol i has degree 71 - i). -/
def syndromes (p : List (Nat × Nat)) : List Nat :=
  (List.range 4).map (fun j => p.foldl (fun x e => x ^^^ gfShift (j * (71 - e.1)) e.2) 0)

/-- The single symbol error that explains syndromes in geometric progression, if one does. -/
def singleError (syn : List Nat) : Option (Nat × Nat) :=
  let s0 := syn.getD 0 0
  if s0 = 0 then none
  else
    match (List.range 72).find? (fun i => (List.range (syn.length - 1)).all (fun j =>
        gfShift (71 - i) (syn.getD j 0) == syn.getD (j + 1) 0)) with
    | some i => some (i, s0)
    | none => none

/-- R547: the pattern with which a poisoned line's check symbols are XORed. -/
def poisonPattern : List (Nat × Nat) := [(68, 0x5A), (69, 0xA5), (70, 0x3C), (71, 0xC3)]

/-- What the decoder reports of a line (R530, R531). -/
inductive Decoded where
  | clean
  | corrected (sym : Nat) (xor : Nat)
  | poisoned
  | uncorrectable
  deriving DecidableEq, Repr

/-- R531: syndromes with the erased symbol's share removed. -/
def withoutErasure (d : Nat) (syn : List Nat) : List Nat :=
  (List.range 3).map (fun j => syn.getD (j + 1) 0 ^^^ gfShift (71 - d) (syn.getD j 0))

/-- Division by α^a + α^b of the erasure decoder, by search. -/
def gfQuotient (t a b : Nat) : Nat :=
  ((List.range 256).find? (fun v => (gfShift a v ^^^ gfShift b v) == t)).getD 0

/-- R530, R531: the decoder of a channel with `dead` marked dead, or none. -/
def decodeLine (dead : Option Nat) (pattern : List (Nat × Nat)) : Decoded :=
  let syn := syndromes pattern
  match dead with
  | none =>
    if syn.all (· == 0) then .clean
    else if syn == syndromes poisonPattern then .poisoned
    else match singleError syn with
      | some (i, v) => .corrected i v
      | none => .uncorrectable
  | some d =>
    let t := withoutErasure d syn
    if t.all (· == 0) then .clean
    else if t == withoutErasure d (syndromes poisonPattern) then .poisoned
    else match singleError t with
      | some (i, v) => if i = d then .uncorrectable else .corrected i (gfQuotient v (71 - i) (71 - d))
      | none => .uncorrectable

/-- Two patterns of changed symbols on one line. -/
def addPattern (p q : List (Nat × Nat)) : List (Nat × Nat) :=
  (List.range 72).filterMap (fun i =>
    let x := (p ++ q).foldl (fun x e => if e.1 = i then x ^^^ e.2 else x) 0
    if x = 0 then none else some (i, x % 256))

/-! ### Counter blocks and stored symbols (R529, R540, R541) -/

/-- R540: the 128-bit counter block. -/
def counterBlock (line key major minor domain block : Nat) : BitVec 128 :=
  BitVec.ofNat 128 (2 ^ 98 * line + 2 ^ 94 * (key % 16) + 2 ^ 62 * (major % 2 ^ 32) + 2 ^ 55 * (minor % 128)
    + domain % 2 * 8 + block % 8)

/-- R540: the ciphertext of a line: each 16-byte block XORed with the keystream of its counter block, bits 127:120 with the first byte (log
entry 2). -/
def lineCipher (aesKey : BitVec 256) (line key major minor : Nat) (plain : List Byte) : List Byte :=
  (List.range 4).flatMap (fun b =>
    let ks := toBE 16 (aes aesKey (counterBlock line key major minor 0 b)).toNat
    ((plain.drop (16 * b)).take 16).zipWith (· ^^^ ·) ks)

/-- R541: TAG: bits 127:100 of the GMAC of the ciphertext, whose additional data are the first 16 bytes of the counter
block with BLOCK 0, masked by the keystream block with DOMAIN 1. -/
def lineTag (aesKey : BitVec 256) (line key major minor : Nat) (cipher : List Byte) : Nat :=
  let mac := ghash (aes aesKey 0) (toBE 16 (counterBlock line key major minor 0 0).toNat) cipher
  ((mac ^^^ aes aesKey (counterBlock line key major minor 1 0)).toNat) / 2 ^ 100

/-- R530: the check symbols C0..C3 of 68 message symbols: the ones that make every syndrome 0. They are found as the
remainder of division by the generator. -/
def checkSymbols (msg : List Byte) : List Nat :=
  msg.foldl (fun r m =>
    let f := r.getD 0 0 ^^^ m.toNat
    let g := fun k => gfShift k f
    -- the generator is x^4 + α^75 x^3 + α^249 x^2 + α^78 x + α^6
    [r.getD 1 0 ^^^ g 75, r.getD 2 0 ^^^ g 249, r.getD 3 0 ^^^ g 78, g 6]) [0, 0, 0, 0]

/-- R529: the 72 symbols that the channel stores for a line of plaintext. -/
def lineSymbols (aesKey : BitVec 256) (line key major minor : Nat) (plain : List Byte) : List Byte :=
  let c := lineCipher aesKey line key major minor plain
  let tag := lineTag aesKey line key major minor c
  let msg := c ++ [BitVec.ofNat 8 (key % 16 + tag % 16 * 16)] ++ toLE 3 (tag / 16)
  msg ++ (checkSymbols msg).map (BitVec.ofNat 8)

/-! ### Pages and slots -/

/-- The record of a page (R542); one that is not listed is fresh. -/
def State.page (s : State) (p : Nat) : Page := tblGet (fun _ => {}) s.mem.pages p

/-- MAJ_HI shows the largest MAJOR of a segment (R560). -/
def State.showMajor (s : State) (g : Nat) : State :=
  let m := s.mem.pages.foldl (fun x e => if e.1 / 65536 = g then max x e.2.major else x) 0
  s.put (R.MG_SEG_MAJ_HI g) (m / 65536)

def State.setPage (s : State) (p : Nat) (r : Page) : State :=
  ({ s with mem := { s.mem with pages := tblSet (fun _ => {}) s.mem.pages p r } }).showMajor (p / 65536)

/-- Has the running sweep of its segment passed a page (R551)? -/
def State.pageSwept (s : State) (p : Nat) : Bool :=
  let g := p / 65536
  !s.has (R.MG_SEG_SWEEP g) || decide (p % 65536 < tblGet (fun _ => 0) s.mem.sweepPos g)
    || (tblGet (fun _ => []) s.mem.sweptOut g).contains p

/-- R551: the slot under which a page lies: a page is always wholly under one key. -/
def State.pageKey (s : State) (p : Nat) : Nat :=
  let g := p / 65536
  if s.pageSwept p then s.get (R.MG_SEG_KEY g) else s.get (R.MG_SEG_OLD_KEY g)

/-- The slots that segments use: its KEY, and its OLD_KEY while it is swept. -/
def State.slotUses (s : State) : List Nat :=
  (List.range s.segments).flatMap (fun g =>
    let w := s.reg (R.MG_SEG g)
    if bit w 8 then [bits w 0 4, bits w 4 4] else [bits w 0 4])

/-- Lines under a slot in caches, and KEY_DROPs for it that are not acknowledged yet (R552, R599). -/
def State.slotInflight (s : State) (n : Nat) : Nat :=
  let own := s.get R.NC_ARRAY_DEV_ID
  (s.noc.caches.filter (fun c => c.key == n && c.line / 2 ^ 34 == own)).length
    + ((s.noc.snoops ++ s.noc.acks).filter (fun x => x.2.1 == own && x.2.2 == some n)).length

/-- R549, R552, R560: the slots' states, SEGMENTS and INFLIGHT; a loaded slot that no segment uses drains, and a KEY_DROP
goes to every caching unit that holds its lines and to every peer that holds a sharer bit (R661). -/
def State.showSlots (s : State) : State :=
  let uses := s.slotUses
  let cur := s.get R.MG_STATUS_CURRENT
  iterate 16 (fun n t =>
    let was := t.get (R.MG_SLOT_STATE n)
    let k := (uses.filter (· == n)).length
    let st := if was = 0 then 0 else if n = cur then 1 else if 0 < k then 2 else 3
    let t := (t.put (R.MG_SLOT_STATE n) st).put (R.MG_SLOT_SEGMENTS n) (if was = 0 then 0 else k)
    let t := if st = 3 ∧ was ≠ 3 then
        let own := t.get R.NC_ARRAY_DEV_ID
        let units := ((t.noc.caches.filter (fun c => c.key == n && c.line / 2 ^ 34 == own)).map (·.unit)).eraseDups
        let shared := t.noc.sharers.foldl (fun m e => m ||| e.2) 0
        let peers := ((List.range 8).map (56 + ·)).filter (fun b => bit shared b)
        let t : State := { t with noc := { t.noc with snoops := t.noc.snoops ++ (units ++ peers).map (fun u => (u, own, some n)) } }
        forEach peers (fun b t => t.snoopDevice (b - 56) own (some n)) t
      else t
    t.put (R.MG_SLOT_INFLIGHT n) (min (t.slotInflight n) 65535)) s

/-- MG_STATUS and MG_SWEEP_LEFT (R560): the segments being swept, the MiB left, rounded up. -/
def State.showSweeps (s : State) : State :=
  let gs := (List.range s.segments).filter (fun g => s.has (R.MG_SEG_SWEEP g))
  let left := gs.foldl (fun n g =>
    n + (65536 - tblGet (fun _ => 0) s.mem.sweepPos g)
      - ((tblGet (fun _ => []) s.mem.sweptOut g).filter (fun p =>
          decide (tblGet (fun _ => 0) s.mem.sweepPos g ≤ p % 65536))).length) 0
  (((s.put R.MG_STATUS_SWEEPING (b2n (!gs.isEmpty))).put R.MG_STATUS_SWEEPS gs.length).put R.MG_STATUS_SLOT_WAIT
    (b2n (!s.mem.waiting.isEmpty))).setReg R.MG_SWEEP_LEFT ((left + 255) / 256)

/-- The lowest EMPTY slot. -/
def State.emptySlot (s : State) : Option Nat := (List.range 16).find? (fun n => s.get (R.MG_SLOT_STATE n) == 0)

/-- R549: a fresh key is loaded into slot `n`, which becomes CURRENT. -/
def State.openSlot (s : State) (n : Nat) : State :=
  let m := s.mem
  let s := { s with mem := { m with loads := m.loads + 1, slotLoad := m.slotLoad.set n (m.loads + 1) } }
  ((s.put (R.MG_SLOT_STATE n) 1).put R.MG_STATUS_CURRENT n).showSlots

/-- R550: a segment's sweep begins: it moves into CURRENT and keeps its old key until the sweep ends. -/
def State.beginSweep (s : State) (g : Nat) : State :=
  let old := s.get (R.MG_SEG_KEY g)
  let s := ((s.put (R.MG_SEG_OLD_KEY g) old).put (R.MG_SEG_KEY g) (s.get R.MG_STATUS_CURRENT)).put (R.MG_SEG_SWEEP g) 1
  let s := { s with mem := { s.mem with sweepPos := tblDel g s.mem.sweepPos, sweptOut := tblDel g s.mem.sweptOut,
                                        waiting := s.mem.waiting.filter (· != g) } }
  (s.showSlots.showSweeps).raise 245

/-- R550: the rekey of a segment that is neither being swept nor waiting starts, or waits for a slot. -/
def State.startRekey (s : State) (g : Nat) : State :=
  if s.get (R.MG_SEG_KEY g) = s.get R.MG_STATUS_CURRENT then
    match s.emptySlot with
    | some n => (s.openSlot n).beginSweep g
    | none => ({ s with mem := { s.mem with waiting := s.mem.waiting ++ [g] } }).showSweeps.raise 245
  else s.beginSweep g

/-- R550, R551: a cause arises for the segment of a page: it is merged with a rekey under way, unless the page has
already been swept in it. -/
def State.rekeyFor (s : State) (p : Nat) : State :=
  let g := p / 65536
  if s.mem.waiting.contains g then s
  else if s.has (R.MG_SEG_SWEEP g) then
    if s.pageSwept p ∧ !s.mem.again.contains g then { s with mem := { s.mem with again := s.mem.again ++ [g] } } else s
  else s.startRekey g

/-- R548: a page's counter record fails: the page is LOST and its segment is rekeyed. -/
def State.pageLost (s : State) (p : Nat) : State :=
  let r := s.page p
  if r.lost then s
  else (((s.setPage p { r with lost := true }).bump R.MG_REGION_REKEYS_LOST_PAGES).raise 247).rekeyFor p

/-! ### Failing lines -/

/-- MEM_POISON_LIST takes a line (R562): one entry a line, at most 1,024, else OVERFLOW. -/
def State.listLine (s : State) (line kind ch : Nat) : State :=
  let m := s.mem
  let e : PoisonLine := ⟨line, kind, ch, s.tb.turn⟩
  if m.plist.any (fun x => x.line == line) then
    { s with mem := { m with plist := m.plist.map (fun x => if x.line = line then e else x) } }
  else if 1024 ≤ m.plist.length then { s with mem := { m with overflow := true } }
  else { s with mem := { m with plist := m.plist ++ [e] } }

/-- R543: a failed read counts, shows, and is listed. -/
def State.lineFailed (s : State) (line kind : Nat) : State :=
  let ch := s.channelOf (64 * line)
  let f := if kind ≤ 2 then R.SM_CH_ERR_UNCORR ch else R.SM_CH_ERR_TAG_FAIL ch
  (((s.bump f).put (R.SM_CH_FLAGS_INT_SEEN ch) 1).raise 241).listLine line kind ch

/-- R547: a line is poisoned. -/
def State.poisonLine (s : State) (line : Nat) : State :=
  let ch := s.channelOf (64 * line)
  let m := s.mem
  let s := { s with mem := { m with poisoned := tblPut line true m.poisoned, upsets := tblDel line m.upsets } }
  ((s.put (R.SM_CH_FLAGS_POISON_SEEN ch) 1).raise 242).listLine line 1 ch

/-- A channel's STATE changes (R531, R532, R561). -/
def State.setChannelState (s : State) (ch st : Nat) : State :=
  if s.get (R.SM_CH_STATUS_STATE ch) = st then s
  else ((s.put (R.SM_CH_STATUS_STATE ch) st).put (R.SM_CH_FLAGS_STATE_SEEN ch) 1).raise 244

/-- R530-R532: one symbol was corrected at a pin. 256 corrections of one pin within 1 s mark it dead; of a second pin,
the channel goes OFFLINE. -/
def State.symbolCorrected (s : State) (ch pin : Nat) : State :=
  let s := ((s.bump (R.SM_CH_CORR_COUNT ch)).put (R.SM_CH_FLAGS_CORR_SEEN ch) 1).raise 240
  let k := ch * 72 + pin
  let recent := (s.tb.now :: tblGet (fun _ => []) s.mem.pinHits k).filter (fun t => decide (s.tb.now < 1250000000 + t))
  let s := { s with mem := { s.mem with pinHits := tblSet (fun _ => []) s.mem.pinHits k (recent.take 256) } }
  if 256 ≤ recent.length then
    if s.has (R.SM_CH_STATUS_PIN_DEAD ch) then
      if s.get (R.SM_CH_STATUS_DEAD_PIN ch) = pin then s else s.setChannelState ch 3
    else (((s.put (R.SM_CH_STATUS_PIN_DEAD ch) 1).put (R.SM_CH_STATUS_DEAD_PIN ch) pin).setChannelState ch 2).log 3 0x08 ch pin 0
  else s

/-- R531: the dead pin of a channel. -/
def State.deadPin (s : State) (ch : Nat) : Option Nat :=
  if s.has (R.SM_CH_STATUS_PIN_DEAD ch) then some (s.get (R.SM_CH_STATUS_DEAD_PIN ch)) else none

/-! ### Reading a line (R543) -/

/-- The 64 bytes that a line holds. -/
def State.lineData (s : State) (line : Nat) : List Byte := cellsGet 0 s.mem.data (64 * line) 64

/-- The outcome of a line read: what remains of the state, whether it succeeded, the bytes (zero on failure). -/
structure LineRead where
  next : State
  ok : Bool
  data : List Byte

/-- R530, R543: the checks of a line whose page has been swept if a sweep runs: the code, the key, the tag, LOST. A
codeword that decodes although it was changed fails its tag with probability 1 - 2^-28: a free value decides. -/
def readCore (s : State) (line : Nat) : LineRead :=
  let ch := s.channelOf (64 * line)
  let p := line / 64
  let raw := tblGet (fun _ => []) s.mem.upsets line
  let pattern := if tblGet (fun _ => false) s.mem.poisoned line then addPattern poisonPattern raw else raw
  let dead := s.deadPin ch
  let fail (t : State) (kind : Nat) : LineRead := ⟨t.lineFailed line kind, false, zeros 64⟩
  let finish (t : State) (rest : List (Nat × Nat)) : LineRead :=
    let dataRest := rest.filter (fun e => decide (e.1 < 64))
    let keyBad := rest.any (fun e => e.1 == 64 && e.2 % 16 != 0)
    let tagBad := rest.any (fun e => (e.1 == 64 && e.2 / 16 != 0) || (decide (65 ≤ e.1) && decide (e.1 < 68)))
    if keyBad ∨ t.get (R.MG_SLOT_STATE (t.pageKey p)) = 0 then fail t 3
    else if (t.page p).lost then fail t 4
    else if dataRest.isEmpty then (if tagBad then fail t 3 else ⟨t, true, t.lineData line⟩)
    else
      let v := t.peekFree
      let t := t.drawn
      if v % 2 ^ 28 = 0 then
        ⟨t, true, (List.range 64).map (fun i => ((t.lineData line).getD i 0)
          ^^^ BitVec.ofNat 8 (dataRest.foldl (fun x e => if e.1 = i then e.2 else x) 0))⟩
      else fail t 3
  let left (q : List (Nat × Nat)) : List (Nat × Nat) :=
    match dead with
    | some d => q.filter (fun e => e.1 != d)
    | none => q
  match decodeLine dead pattern with
  | .clean => finish s (left pattern)
  | .corrected i v => finish (s.symbolCorrected ch i) (left (addPattern pattern [(i, v)]))
  | .poisoned => fail s 1
  | .uncorrectable => fail s 2

/-! ### Sweeping (R551) -/

/-- A line fails R543 while its page is re-encrypted or swept: it is poisoned (R544; log entry 33). -/
def carryLine (s : State) (line : Nat) : State :=
  let r := readCore s line
  if r.ok then { r.next with mem := { r.next.mem with upsets := tblDel line r.next.mem.upsets } }
  else r.next.poisonLine line

/-- The lines of a page that may fail. -/
def State.suspectLines (s : State) (p : Nat) : List Nat :=
  ((s.mem.upsets.map Prod.fst ++ s.mem.poisoned.map Prod.fst).filter (fun l => l / 64 == p)).eraseDups

/-- A channel that is OFFLINE fails every access, which only counts (R532). -/
def State.offline (s : State) (line : Nat) : Bool := s.get (R.SM_CH_STATUS_STATE (s.channelOf (64 * line))) == 3

/-- R551, R548: one page is read and written under the new key with fresh counters; a LOST page's lines are poisoned. On an OFFLINE
channel every line of it fails (R532). -/
def State.sweepPage (s : State) (p : Nat) : State :=
  let lost := (s.page p).lost
  let s := if s.offline (64 * p) then s.bumpBy (R.SM_CH_ERR_UNCORR (s.channelOf (4096 * p))) 64
    else if lost then iterate 64 (fun i t => t.poisonLine (64 * p + i)) s
    else forEach (s.suspectLines p) (fun l t => carryLine t l) s
  s.setPage p {}

/-- R551: the last page is swept: OLD_KEY is released; a further rekey that is due starts. MEM_REKEY ends with the last
sweep (R562). -/
def State.endSweep (s : State) (g : Nat) : State :=
  let s := ((s.put (R.MG_SEG_SWEEP g) 0).put (R.MG_SEG_OLD_KEY g) 0).bump R.MG_REGION_REKEYS_REKEYS
  let due := s.mem.again.contains g
  let s := { s with mem := { s.mem with sweepPos := tblDel g s.mem.sweepPos, sweptOut := tblDel g s.mem.sweptOut,
                                        again := s.mem.again.filter (· != g) } }
  let s := (s.showSlots.showSweeps).raise 245
  let s := if due then s.startRekey g else s
  if s.has R.MG_STATUS_FULL_REKEY then
    let left := ((List.range s.segments).filter (fun h => s.has (R.MG_SEG_SWEEP h))).length + s.mem.waiting.length
    if left = 0 then (s.put R.MG_STATUS_FULL_REKEY 0).endOps 0x0805 stDone 0
    else { s with gaf := { s.gaf with ops := s.gaf.ops.map (fun o =>
      if o.command = 0x0805 then { o with progress := 100 * (s.segments - left) / s.segments } else o) } }
  else s
where stDone : Nat := 0

/-- A page of a segment under sweep is recorded as swept; the sweep ends with its last page. -/
def State.markSwept (s : State) (p : Nat) : State :=
  let g := p / 65536
  let pos := tblGet (fun _ => 0) s.mem.sweepPos g
  let outs := tblGet (fun _ => []) s.mem.sweptOut g
  let pos_outs := if p % 65536 = pos then advance 65536 (pos + 1) outs else (pos, p :: outs)
  let pos := pos_outs.1
  let outs := pos_outs.2
  let s := { s with mem := { s.mem with sweepPos := tblSet (fun _ => 0) s.mem.sweepPos g pos,
                                        sweptOut := tblSet (fun _ => []) s.mem.sweptOut g outs } }
  if 65536 ≤ pos then s.endSweep g else s.showSweeps
where
  advance (fuel pos : Nat) (outs : List Nat) : Nat × List Nat :=
    match fuel with
    | 0 => (pos, outs)
    | f + 1 =>
      match outs.find? (fun p => p % 65536 == pos) with
      | some p => advance f (pos + 1) (outs.erase p)
      | none => (pos, outs)

/-- R551: an access to a page not yet swept sweeps it first, out of order. -/
def State.sweepFirst (s : State) (p : Nat) : State := if s.pageSwept p then s else (s.sweepPage p).markSwept p

/-- R543: a line read. -/
def readLine (s : State) (line : Nat) : LineRead :=
  if s.offline line then ⟨s.bump (R.SM_CH_ERR_UNCORR (s.channelOf (64 * line))), false, zeros 64⟩
  else readCore (s.sweepFirst (line / 64)) line

/-! ### Writing a line (R544, R545) -/

/-- R544: the page is re-encrypted under MAJOR + 1; lines that fail are poisoned; MAJOR 0xFFFF_FFFF starts a rekey. -/
def State.reencrypt (s : State) (p : Nat) : State :=
  let s := forEach (s.suspectLines p) (fun l t => carryLine t l) s
  let r := s.page p
  let s := (s.setPage p { r with major := r.major + 1, minors := [] }).wrapInc R.MG_PAGE_REENC_COUNT
  if r.major + 1 = 0xFFFFFFFF then s.rekeyFor p else s

/-- R544: a line's MINOR moves on for a write. -/
def State.bumpMinor (s : State) (line : Nat) : State :=
  let p := line / 64
  let i := line % 64
  let s := if 127 ≤ tblGet (fun _ => 0) (s.page p).minors i then s.reencrypt p else s
  let r := s.page p
  s.setPage p { r with minors := tblSet (fun _ => 0) r.minors i (tblGet (fun _ => 0) r.minors i + 1) }

/-- R550: must a write wait, because it would take MAJOR past 0xFFFF_FFFF while the rekey waits for a slot? -/
def State.majorStuck (s : State) (line : Nat) : Bool :=
  let r := s.page (line / 64)
  r.major == 0xFFFFFFFF && decide (127 ≤ tblGet (fun _ => 0) r.minors (line % 64))

/-- The outcome of a line write: performed, INTEGRITY, or it waits (R550). -/
inductive LineWrite where
  | done
  | integrity
  | waits
  deriving DecidableEq, Repr

/-- R545, R557: bytes of a line are written; `full` when all 64 are. -/
def writeLine (s : State) (line off : Nat) (bytes : List Byte) : State × LineWrite :=
  if s.offline line then (s.bump (R.SM_CH_ERR_UNCORR (s.channelOf (64 * line))), .integrity)
  else if (List.range 16).all (fun n => s.get (R.MG_SLOT_STATE n) == 0) then (s, .integrity)
  else
    let p := line / 64
    let s := s.sweepFirst p
    if (s.page p).lost then (s, .integrity)
    else if s.majorStuck line then (s, .waits)
    else
      let full := bytes.length == 64
      let r : LineRead := if full then ⟨s, true, []⟩ else readCore s line
      if r.ok then
        let s := r.next.bumpMinor line
        let m := s.mem
        let base := if full then m.data else cellsSet 0 m.data (64 * line) r.data
        let m := { m with data := cellsSet 0 base (64 * line + off) bytes, upsets := tblDel line m.upsets,
                          poisoned := tblDel line m.poisoned }
        ({ s with mem := if full then { m with plist := m.plist.filter (fun e => e.line != line) } else m }, .done)
      else (r.next.poisonLine line, .integrity)

/-! ### Requests to stack memory -/

/-- R575: response codes. -/
def rOk : Nat := 0
def rDenied : Nat := 1
def rIntegrity : Nat := 2
def rWindowEmpty : Nat := 3
def rWindowFull : Nat := 4
def rWindowOp : Nat := 5
def rUnmapped : Nat := 6
def rIsolated : Nat := 7
def rTimeout : Nat := 8
def rMalformed : Nat := 9

/-- R794: are `n` bytes at `a` within the staging area, the last 16 MiB of stack memory, while it is reserved? -/
def State.inStaging (s : State) (a n : Nat) : Bool :=
  s.sec.staged && decide (0x10000000 * s.segments ≤ 0x1000000 + a) && decide (a + n ≤ 0x10000000 * s.segments)

/-- R11, R42, R187, R188, R536, R555: why a request of `ident` to `n` bytes at `a` is not performed. -/
def stackGate (s : State) (ident a n : Nat) : Option Nat :=
  if 0x10000000 * s.segments < a + n then some rUnmapped
  else if s.mode = mSafeHold ∧ s.cause = 0x0E then some rDenied
  else if s.mode = mLehr then some rIsolated
  else if s.mode = mZeroized then some rIntegrity
  else if !s.mem.ready then some rIsolated
  else if ident ≠ 0xF0 ∧ ident ≠ 0xF3 ∧ !s.inStaging a n ∧
      (s.has (R.SM_SEG_MAP_PRIV (a / 0x10000000)) || s.has (R.SM_SEG_MAP_PRIV ((a + n - 1) / 0x10000000))) then
    some rDenied
  else none

/-- The lines that `n` bytes at `a` touch. -/
def linesOf (a n : Nat) : List Nat :=
  if n = 0 then [] else (List.range ((a + n - 1) / 64 - a / 64 + 1)).map (fun i => a / 64 + i)

/-- Read `n` bytes: zero with an error as soon as one line fails. -/
def stackRead (s : State) (ident a n : Nat) : State × Nat × List Byte :=
  match stackGate s ident a n with
  | some e => (s, e, zeros n)
  | none =>
    let s_ok_l := (linesOf a n).foldl (fun (acc : State × Bool × List Byte) line =>
      let r := readLine acc.1 line
      (r.next, acc.2.1 && r.ok, acc.2.2 ++ r.data)) (s, true, [])
    let s := s_ok_l.1
    let ok := s_ok_l.2.1
    let l := s_ok_l.2.2
    if ok then (s, rOk, (l.drop (a % 64)).take n) else (s, rIntegrity, zeros n)

end Sys2Proof.Machine
end

