-- ==== Sys2Proof/Machine/Coherence.lean ====
section
/-!
DEFINITION. Machine/Coherence.lean: coherent windows, the line caches of the units that cache, and writes of stack memory, which invalidate the
copies of their lines (R545, R596-R599, R660, R661).
-/

namespace Sys2Proof.Machine

open Sys2Proof

/-! ### Coherent windows and line caches (R596-R599, R660, R661) -/

/-- The coherent window of this device that holds a local address. -/
def State.ownWindow (s : State) (l : Nat) : Option Nat :=
  (List.range 8).find? (fun w => s.has (R.NC_COH_BASE_EN w) && decide (2 ^ 20 * s.get (R.NC_COH_BASE_BASE_MIB w) ≤ l)
    && decide (l < 2 ^ 20 * (s.get (R.NC_COH_BASE_BASE_MIB w) + s.get (R.NC_COH_SIZE_SIZE_MIB w))))

/-- Does a global address lie in a window of any member? -/
def State.inWindow (s : State) (a : Nat) : Bool :=
  let dev := a / 2 ^ 40
  let l := a % 2 ^ 40
  if dev = s.devId then (s.ownWindow l).isSome
  else s.arr.windows.any (fun e => e.1 / 8 == dev && decide (2 ^ 20 * e.2.1 ≤ l) && decide (l < 2 ^ 20 * (e.2.1 + e.2.2)))

/-- NC_EP_CACHE.LINES of a caching unit (0-47 regions, 48 the gaffer) shows its cache. -/
def State.showCache (s : State) (unit : Nat) : State :=
  s.put (R.NC_EP_CACHE_LINES (if unit < 48 then regionEndpoint unit else gafferEndpoint))
    ((s.noc.caches.filter (fun c => c.unit == unit)).length)

/-- The line that a caching unit holds. -/
def State.cached (s : State) (unit line : Nat) : Option CacheLine := s.noc.caches.find? (fun c => c.unit == unit && c.line == line)

/-- The caches become `l`; the line counts of a unit show it. -/
def State.setCaches (s : State) (unit : Nat) (l : List CacheLine) : State := ({ s with noc := { s.noc with caches := l } }).showCache unit

/-- R596: a unit takes a line: 8 ways of 128 sets, the least recently used one gives way. The newest stands first. -/
def State.insertLine (s : State) (c : CacheLine) : State :=
  let l := s.noc.caches.filter (fun x => !(x.unit == c.unit && x.line == c.line))
  let same := l.filter (fun x => x.unit == c.unit && x.line % 128 == c.line % 128)
  let l := if 8 ≤ same.length then same.getLast?.elim l (fun old => l.erase old) else l
  s.setCaches c.unit (c :: l)

/-- A caching unit drops lines. -/
def State.dropLines (s : State) (unit : Nat) (p : CacheLine → Bool) : State :=
  s.setCaches unit (s.noc.caches.filter (fun c => !(c.unit == unit && p c)))

/-- The global line numbers of `n` bytes at a global address. -/
def globalLines (a n : Nat) : List Nat := linesOf a n

/-- The global address of a local one. -/
def State.globalOf (s : State) (a : Nat) : Nat := 2 ^ 40 * s.devId + a

/-- R597: a read that hits in every line: the bytes, and the lines become the most recent. -/
def State.cacheHit (s : State) (unit a n : Nat) : Option (State × List Byte) :=
  let ls := globalLines a n
  if ls.all (fun x => (s.cached unit x).isSome) then
    let cs := ls.filterMap (fun x => s.cached unit x)
    some (forEach cs (fun c t => t.insertLine c) s, ((cs.flatMap (·.data)).drop (a % 64)).take n)
  else none

/-- R597, R598: a read of lines of this device's window has succeeded: its unit stores them, and its sharer bit is set. -/
def State.shareLines (s : State) (sharer a n : Nat) : State :=
  forEach (globalLines a n) (fun x t =>
    match t.ownWindow (64 * x % 2 ^ 40) with
    | none => t
    | some w =>
      let l := 64 * x % 2 ^ 40
      let k := w * 64 + t.channelOf l
      let m := tblGet (fun _ => 0) t.noc.sharers k
      let t := { t with noc := { t.noc with sharers := tblSet (fun _ => 0) t.noc.sharers k (setBit m sharer) } }
      if sharer ≤ 48 then t.insertLine ⟨sharer, x, t.pageKey (l / 4096), t.lineData (l / 64)⟩ else t) s

/-- R597, R598: a line of this device's window has been written: the writer's copy is updated, the line is locked, and every other
sharer receives INV. -/
def State.shareWrite (s : State) (writer : Option Nat) (line : Nat) (write : Option (Nat × Nat × Nat)) : State :=
  let l := 64 * line % 2 ^ 40
  match s.ownWindow l with
  | none => s
  | some w =>
    let s := match writer with
      | some u => if (s.cached u line).isSome then s.insertLine ⟨u, line, s.pageKey (l / 4096), s.lineData (l / 64)⟩ else s
      | none => s
    let others := (bitsOf 64 (tblGet (fun _ => 0) s.noc.sharers (w * 64 + s.channelOf l))).filter (fun b => writer != some b)
    if others.isEmpty then s
    else
      let noc := { s.noc with locked := s.noc.locked ++ [⟨line, others, write⟩], snoops := s.noc.snoops ++ others.map (fun b => (b, line, none)) }
      forEach (others.filter (fun b => decide (56 ≤ b))) (fun b t => t.snoopDevice (b - 56) line none) ({ s with noc := noc } : State)

/-- R598: is a line of an access locked? R550: would a write take MAJOR past its end? Such an access waits. -/
def State.mustWait (s : State) (a n : Nat) (write : Bool) : Bool :=
  (globalLines a n).any (fun x => s.noc.locked.any (fun e => e.line == x) || (write && x / 2 ^ 34 == s.devId && s.majorStuck (x % 2 ^ 34)))

/-- R545, R598: bytes at a local address of stack memory are written, line by line; INTEGRITY when a line was not. The copies that others
hold of a window's lines are invalidated: `sharer` is the writer's own bit, `write` the request whose response waits for them. -/
def stackWrite (s : State) (ident : Nat) (sharer : Option Nat) (a : Nat) (b : List Byte) (write : Option (Nat × Nat × Nat)) :
    State × Nat :=
  match stackGate s ident a b.length with
  | some e => (s, e)
  | none =>
    (linesOf a b.length).foldl (fun (acc : State × Nat) line =>
      let lo := max a (64 * line)
      let hi := min (a + b.length) (64 * line + 64)
      let x := writeLine acc.1 line (lo - 64 * line) ((b.drop (lo - a)).take (hi - lo))
      if x.2 = .done then (x.1.shareWrite sharer (2 ^ 34 * s.devId + line) write, acc.2) else (x.1, rIntegrity)) (s, rOk)

end Sys2Proof.Machine
end

