-- ==== Sys2Proof/Machine/Flags.lean ====
section
/-!
DEFINITION. Machine/Flags.lean: the event sources by name (R196, R66, R168, R738, R760, R637, R250, R293, R327, R561,
R527, R495, R604, R421, R457, R697, R379, R799, R820, R670), and the check codes CRC-32 and CRC-32C.
-/

namespace Sys2Proof.Machine

open Sys2Proof

/-! ### CRC-32 (R219, R228, R261) -/

/-- One bit of a reflected CRC with polynomial `p`. -/
def crcBit (p x : Nat) : Nat := if x % 2 = 1 then (x / 2) ^^^ p else x / 2

/-- One byte of a reflected CRC. -/
def crcByte (p x : Nat) (b : Byte) : Nat :=
  let y := x ^^^ b.toNat
  crcBit p (crcBit p (crcBit p (crcBit p (crcBit p (crcBit p (crcBit p (crcBit p y)))))))

/-- A reflected CRC with an initial value and a final XOR of all ones. -/
def crcWith (p init : Nat) (l : List Byte) : Nat := (l.foldl (crcByte p) init) ^^^ 0xFFFFFFFF

/-- CRC-32C (Castagnoli). -/
def crc32c (l : List Byte) : Nat := crcWith 0x82F63B78 0xFFFFFFFF l

/-- CRC-32 (IEEE 802.3). -/
def crc32 (l : List Byte) : Nat := crcWith 0xEDB88320 0xFFFFFFFF l

/-- R261: h1, CRC-32C with CL_HASH_SEED as its initial value. -/
def crc32cSeed (seed : Nat) (l : List Byte) : Nat := crcWith 0x82F63B78 seed l

end Sys2Proof.Machine
end

