-- ==== Sys2Proof/Machine/Symbols.lean ====
section
/-!
DEFINITION. Machine/Symbols.lean: the 8b/10b code of a lane's receiver (R613, R615, R618). The spec names IEEE 802.3 Clause 36 for the code
and does not print its table (log entry 106).
-/

namespace Sys2Proof.Machine

open Sys2Proof

/-- The six-bit blocks of D.0 to D.31 at negative running disparity, bit a lowest. -/
def sixBits : List Nat :=
  [57, 46, 45, 35, 43, 37, 38, 7, 39, 41, 42, 11, 44, 13, 14, 58, 54, 49, 50, 19, 52, 21, 22, 23, 51, 25, 26, 27, 28, 29, 30, 53]

/-- The four-bit blocks .0 to .7 at negative running disparity, of data and of K28, bit f lowest. -/
def fourBits : List Nat := [13, 9, 10, 3, 11, 5, 6, 7]
def fourBitsK28 : List Nat := [13, 6, 5, 3, 11, 10, 9, 14]

/-- Ones in the low `n` bits. -/
def onesOf (n x : Nat) : Nat := ((List.range n).filter (bit x)).length

/-- The symbol of a character (bit a lowest) at a running disparity (true: positive), and the running disparity after it. -/
def encodeSymbol (k : Bool) (byte : Nat) (rd : Bool) : Nat × Bool :=
  let x := byte % 32
  let y := byte / 32 % 8
  let six := if k && x == 28 then 60 else sixBits.getD x 0
  let flips := onesOf 6 six != 3
  let mid := rd != flips
  let alternate := k || (if mid then [11, 13, 14].contains x else [17, 18, 20].contains x)
  let four := if k && x == 28 then fourBitsK28.getD y 0 else if y == 7 && alternate then 14 else fourBits.getD y 0
  let turns := onesOf 4 four != 2
  let a := if rd && (flips || six == 7) then 63 - six else six
  let b := if mid && (turns || y == 3 || (k && x == 28)) then 15 - four else four
  (a + 64 * b, mid != turns)

/-- The 256 data characters and the twelve K characters (R613). -/
def lineCharacters : List (Bool × Nat) :=
  (List.range 256).map (fun b => (false, b))
    ++ [28, 60, 92, 124, 156, 188, 220, 252, 247, 251, 253, 254].map (fun b => (true, b))

/-- The character whose symbol at a running disparity is `w`. -/
def symbolAt (w : Nat) (rd : Bool) : Option (Bool × Nat) := lineCharacters.find? (fun c => (encodeSymbol c.1 c.2 rd).1 == w)

/-- R615: a symbol at the decoder's running disparity: the character, and the running disparity after it. -/
def decodeSymbol (rd : Bool) (w : Nat) : RxChar × Bool :=
  match symbolAt w rd with
  | some c => ({ k := c.1, byte := BitVec.ofNat 8 c.2 }, (encodeSymbol c.1 c.2 rd).2)
  | none => match symbolAt w !rd with
    | some c => ({ k := c.1, byte := BitVec.ofNat 8 c.2, dispErr := true }, (encodeSymbol c.1 c.2 !rd).2)
    | none => ({ byte := 0, codeViol := true }, rd)

/-- R28, R613, R617, R618: what a lane makes of `w` at its balls: in 8b/10b mode a symbol of 10 bits, in raw mode a byte; RX_POL inverts
every bit. -/
def State.lineChar (s : State) (n : Nat) (rd : Bool) (w : Nat) : RxChar × Bool :=
  let w := if s.has (R.LN_CTRL_RX_POL n) then 1023 - w % 1024 else w % 1024
  if s.has (R.LN_CTRL_MODE n) then ({ byte := BitVec.ofNat 8 w }, rd) else decodeSymbol rd w

/-- The characters of a lane's line words in order, and the running disparity after them. -/
def State.lineChars (s : State) (n : Nat) (rd : Bool) : List (BitVec 10 × Timestamp) → List (RxChar × Timestamp) × Bool
  | [] => ([], rd)
  | e :: l =>
    let c := s.lineChar n rd e.1.toNat
    let r := s.lineChars n c.2 l
    ((c.1, e.2) :: r.1, r.2)

end Sys2Proof.Machine
end

