-- ==== Sys2Proof/Machine/Cells.lean ====
section
/-!
DEFINITION. Machine/Cells.lean: the logic of a region as its active plane sets it: cells, carry chains, flip-flops, wires, borders,
risers, seam ports, region clock lines and the registers of the user I/O cells (R329-R353, R374, R375, R389, R390, R393).
Where the frames hold a setting, and what a multiplexer can take, is opaque (log entry 92).
-/

namespace Sys2Proof.Machine

open Sys2Proof

/-! ### Tiles and regions (R329, R330) -/

/-- R329: the tiles of a tier, and of a region. -/
def tierWidth : Nat := 240
def tierHeight : Nat := 160
def regionTiles : Nat := 1600

/-- R329: the x and y at which region r of a tier begins (regions 24-47 are those of LL). -/
def regionX (r : Nat) : Nat := 40 * (r % 24 % 6)
def regionY (r : Nat) : Nat := 40 * (r % 24 / 6)

/-- The coordinates in its tier of tile `t` of region `r` (tiles in region order, y * 40 + x: R684). -/
def tileX (r t : Nat) : Nat := regionX r + t % 40
def tileY (r t : Nat) : Nat := regionY r + t / 40

/-- The region of a tier (0 LU, 1 LL) that holds the tile at (x, y). -/
def regionAt (tier x y : Nat) : Nat := 24 * tier + x / 40 + 6 * (y / 40)

def sideOpposite : Side → Side
  | .n => .s
  | .s => .n
  | .e => .w
  | .w => .e

def sideIndex : Side → Nat
  | .n => 0
  | .e => 1
  | .s => 2
  | .w => 3

/-- The neighbour of a region on a side; none on a tier edge. -/
def neighbour (r : Nat) : Side → Option Nat
  | .n => if r % 24 / 6 < 3 then some (r + 6) else none
  | .s => if 0 < r % 24 / 6 then some (r - 6) else none
  | .e => if r % 6 < 5 then some (r + 1) else none
  | .w => if 0 < r % 6 then some (r - 1) else none

/-- R347: the position of a tile on a side, in increasing x or y. -/
def sidePos (t : Nat) : Side → Nat
  | .n => t % 40
  | .s => t % 40
  | .e => t / 40
  | .w => t / 40

/-- The tile next to tile `t` of region `r` towards a side: in the region, over its border, or none. -/
inductive Beyond | inside (t : Nat) | over_ (r t : Nat) | edge

def towards (r t : Nat) (d : Side) : Beyond :=
  let across (t' : Nat) : Beyond := match neighbour r d with
    | some r' => .over_ r' t'
    | none => .edge
  match d with
  | .n => if t / 40 < 39 then .inside (t + 40) else across (t % 40)
  | .s => if 0 < t / 40 then .inside (t - 40) else across (1560 + t % 40)
  | .e => if t % 40 < 39 then .inside (t + 1) else across (t - t % 40)
  | .w => if 0 < t % 40 then .inside (t - 1) else across (t + 39)

/-- R337: how many tiles from its origin a wire is at its tap `n`. -/
def tapHops (k : WireKind) (n : Nat) : Nat :=
  match k with
  | .single => 1
  | .quad => 2 * (n % 2 + 1)
  | .long => 4 * (n % 4 + 1)

/-! ### Planes (R380, R383) -/

/-- The frames `lo` to `hi - 1` of an image; one that is not listed is all zero. -/
def Image.group (im : Image) (lo hi : Nat) : List (Nat × List Byte) :=
  im.frames.filter (fun e => decide (lo ≤ e.1) && decide (e.1 < hi))

/-- R383: the eight cell frames of a tile; the edge frames; the region frames. -/
def Image.tileFrames (im : Image) (t : Nat) : List (Nat × List Byte) := im.group (8 * t) (8 * t + 8)
def Image.edgeFrames (im : Image) : List (Nat × List Byte) := im.group 12800 14000
def Image.regionFrames (im : Image) : List (Nat × List Byte) := im.group 14000 14208

/-- R380: what the active plane of a region holds. -/
def State.activeImage (s : State) (r : Nat) : Option Image :=
  tblFind (8 * r + s.get (R.CF_CTX_STATE_ACTIVE r)) s.fab.images

/-- R386: a region in RUNNING or SWITCHING runs from its active plane. -/
def State.runs (s : State) (r : Nat) : Bool :=
  let st := s.get (R.CF_CTX_STATE_STATE r)
  decide (st = 1) || decide (st = 2)

/-- R389: is a region in the dead cycle of a switch? -/
def State.inDead (s : State) (r : Nat) : Bool := (tblFind r s.fab.dead).isSome

/-- R362, R389, R407: a region runs, its clocks are not gated, and it is in no dead cycle: its flip-flops change, and its hard ports
take beats, requests and accesses from it. -/
def State.regionLive (s : State) (r : Nat) : Bool := s.runs r && !s.inDead r && s.regionClocked && !s.forceGated r

/-! ### Region clock lines (R351-R353, R745-R747) -/

/-- R605: the quad of a lane. -/
def laneQuad (n : Nat) : Nat := if n < 96 then n / 4 else 24 + (n - 96) / 6

/-- The lane rate in kbit/s, of any lane (R606). -/
def State.rateOf (s : State) (n : Nat) : Nat := s.get (R.LN_Q_RATE_BASE_KBPS (laneQuad n)) / 2 ^ s.get (R.LN_CTRL_DIV n)

/-- Bits of a raw word (R617). -/
def rawWidth (w : Nat) : Nat := if w = 0 then 32 else if w = 1 then 40 else if w = 2 then 64 else 80

/-- Bits of a word in a mode and width (R354). -/
def wordBits (mode width : Nat) : Nat := if mode = 0 then 10 * (4 * 2 ^ width) else rawWidth width

/-- R354: the word clock RX_CLK of a lane, in kHz. -/
def State.wordClock (s : State) (n : Nat) : Nat :=
  s.rateOf n / wordBits (s.get (R.LN_CTRL_MODE n)) (s.get (R.LN_CTRL_WIDTH n))

/-- R713, R718: the output of an FPLL in kHz; 0 while it gives no edge. -/
def State.fpllOutput (s : State) (n : Nat) : Nat :=
  if s.has (R.CK_FPLL_CFG_EN n) && s.has (R.CK_FPLL_STATUS_LOCK n) && !s.has (R.CK_FPLL_STATUS_STOPPED n) then
    s.get (R.CK_FPLL_FREQ_KHZ n) else 0

/-- R712: the phase of an FPLL: FPLL0's, for one that shares its reference, has ALIGN set and is in an integer ratio to it. -/
def State.fpllPhase (s : State) (n : Nat) : Nat :=
  let f := s.fpllOutput n
  let g := s.fpllOutput 0
  if s.has (R.CK_FPLL_CFG_ALIGN n) && s.has (R.CK_FPLL_CFG_ALIGN 0)
      && s.get (R.CK_FPLL_CFG_REF n) == s.get (R.CK_FPLL_CFG_REF 0) && (f % g == 0 || g % f == 0) then Config.clockPhase 0
  else Config.clockPhase n

/-- Edges of a clock of `kHz` that have come by instant `now` (in pips of 0.8 ns), at a phase in 1/64 pips. -/
def edgesBy (kHz phase now : Nat) : Nat := (64 * now + phase) * kHz / 80000000

/-- R745: does edge `n` pass at a fabric throttle step? Which edges of a group are skipped is the model's choice (log entry 92). -/
def edgePasses (step n : Nat) : Bool :=
  if step = 0 then true
  else if step = 1 then n % 16 != 0
  else if step = 2 then n % 8 != 0
  else if step = 3 then n % 4 != 0
  else if step = 4 then n % 2 == 0
  else n % 4 == 0

/-- R739: does a zone cover a region? Regions 0-23 are U00-U23, 24-47 L00-L23. -/
def zoneCovers (z r : Nat) : Bool :=
  if z < 8 then
    let k := r % 24
    k / 6 == z / 2 && (decide (k % 6 < 3) == (z % 2 == 0))
  else true

def State.zoneStep (s : State) (z : Nat) : Nat := s.get (R.TH_ZONE_STATE_STEP z)

def State.powerLimit (s : State) (i : Nat) : PowerLimit := s.phys.power.getD i {}

/-- R746, R750, R859: a region's throttle step. -/
def State.regionStep (s : State) (r : Nat) : Nat :=
  let zones := ((List.range 20).filter (fun z => zoneCovers z r)).map s.zoneStep
  let tier := (s.powerLimit (if r < 24 then 2 else 1)).step
  (zones ++ [(s.powerLimit 0).step, tier]).foldl max 0

/-- R378, R704: the delay trims of a bank: measured tap and trim code are free values within R378. An update moves a tap by at most 3 fs, so
that no setting (up to 511 taps) moves by more than 2 ps (log entry 127). -/
def State.calibrate (s : State) (b : Nat) : State :=
  let v := s.peekFree
  let old := s.reg (R.IO_BANK_CAL b) % 65536
  let tap := if s.has (R.IO_BANK_STATUS_CAL_OK b) then max 4750 (min 5250 (old + v % 7 - 3)) else 4750 + v % 501
  ((s.setReg (R.IO_BANK_CAL b) (tap + 65536 * (v / 501 % 256))).put (R.IO_BANK_STATUS_CAL_OK b) 1).drawn

/-- R378: a calibration of every bank. -/
def State.calibrateAll (s : State) : State := iterate 12 (fun b t => t.calibrate b) s

/-- R369, R370: the owner region of a user I/O. -/
def State.ioOwner (s : State) (io : Nat) : Option Nat :=
  (tblFind io s.fab.ioStatic).map (fun v => io / 12 + 24 * bits v 10 1)

/-- The region clock lines that have edges at all (R351): not those of an FPLL or a lane that gives none, nor an I/O of another region. -/
def State.lineRuns (s : State) (r l : Nat) : Bool :=
  if !s.regionClocked || bit (s.reg (R.CK_GATED (r / 32))) (r % 32) then false
  else if l < 8 then decide (0 < s.fpllOutput l)
  else if l < 12 then decide (0 < s.wordClock (4 * (r % 24) + (l - 8)))
  else if l < 14 then s.ioOwner (12 * (r % 24) + (l - 12)) == some r
  else true

/-- The line of a hard port that the active plane of a region enables. -/
def State.portLine (s : State) (r : Nat) (p : HardPort) : Option Nat :=
  (s.activeImage r).bind (fun im => (im.ports.find? (fun e => e.1 == p)).map Prod.snd)

/-- R357, R361, R364, R462, R468, R499: a hard port of a region is enabled, and its clock has edges. -/
def State.portRuns (s : State) (r : Nat) (p : HardPort) : Bool := (s.portLine r p).any (s.lineRuns r)

/-- Does a clock of `kHz` have an edge in the present pip that passes at a throttle step? -/
def State.clockEdge (s : State) (kHz phase step : Nat) : Bool :=
  let n := edgesBy kHz phase s.tb.now
  decide (n < edgesBy kHz phase (s.tb.now + 1)) && edgePasses step n

/-! ### Signals (R333-R343, R347-R350) -/

/-- A signal of the fabric: what a multiplexer drives; a cell's output; the carry into cell `c`; a wire seen `hops` tiles from its
origin; wire `j` of an outbound seam port; a riser of a pair. -/
inductive Node
  | mux (r t : Nat) (m : Mux)
  | cell (r t c : Nat) (o : CellOut)
  | carry (r t c : Nat)
  | wire (r t : Nat) (k : WireKind) (d : Side) (hops i : Nat)
  | seam (r : Nat) (d : Side) (pos j : Nat)
  | riser (pair t : Nat) (upper : Bool) (i : Nat)

/-- R339: do the wires of a border position pass straight through? The active planes of both sides must set it, of regions that run
and hold the same piece. -/
def State.through (s : State) (r : Nat) (d : Side) (pos : Nat) : Bool :=
  match neighbour r d with
  | none => false
  | some q =>
    match s.activeImage r, s.activeImage q with
    | some a, some b =>
      s.runs r && s.runs q && a.handle == b.handle
        && decide (Config.borderMode a.edgeFrames d pos = .through)
        && decide (Config.borderMode b.edgeFrames (sideOpposite d) pos = .through)
    | _, _ => false

/-- The settings of a cell in an image. A cell of a binding is in L6 mode with a constant output (R438). -/
def Image.cell (im : Image) (t c : Nat) : CellSettings :=
  let x := Config.cellSettings (im.tileFrames t) c
  match tblFind (64 * t + c) im.bound with
  | some b => { x with mode := .l6, table := if b then BitVec.allOnes 64 else 0 }
  | none => x

/-- The settings of a cell in the active plane. -/
def State.cellOf (s : State) (r t c : Nat) : Option CellSettings := (s.activeImage r).map (fun im => im.cell t c)

/-- The key of a flip-flop (`b`: B, else A). -/
def flopKey (r t c : Nat) (b : Bool) : Nat := 2 * (64 * (regionTiles * r + t) + c) + b2n b

/-- The region of a flip-flop's key. -/
def flopRegion (k : Nat) : Nat := k / (128 * regionTiles)

/-- R335, R336: the INIT value of a flip-flop in an image. -/
def Image.initOf (im : Image) (t c : Nat) (b : Bool) : Bool :=
  let x := im.cell t c
  if b then x.initB else x.initA

/-- R336, R393, R394: the value of a flip-flop: what it captured, or the INIT value from which its region started; held in reset, the
INIT value of the plane that will become active. -/
def State.flop (s : State) (r t c : Nat) (b : Bool) : Bool :=
  let start := if s.runs r then tblFind r s.fab.flopStart else s.activeImage r
  match tblFind (flopKey r t c b) s.fab.flops with
  | some v => v
  | none => (start.map (fun im => im.initOf t c b)).getD false

/-! ### What the hard ports show the routing (R354-R359, R364, R368, R374, R376, R468) -/

/-- A lane's receive port. -/
def State.rxPort (s : State) (n : Nat) : RxPort := tblGet (fun _ => {}) s.cap.rx n

/-- R354, R356, R332: RX_VALID of a lane: it is there and locked, and within a word-clock cycle of a word's delivery (1 pip is 0.8 ns). -/
def State.rxValid (s : State) (n : Nat) : Bool :=
  let p := s.rxPort n
  decide (n < s.lanes) && s.has (R.LN_STATUS_LOCK n) && !p.word.isEmpty && decide ((s.tb.now - p.at_) * s.wordClock n < 1250000)

/-- R359: the region that drives the reinsertion port of a lane: the LL region of the pair before the LU one, where its active plane
enables the port; none while that region takes part in no transfer (R389, R407). -/
def State.reinsertDriver (s : State) (n : Nat) : Option Nat :=
  ([24 + n / 4, n / 4].find? (fun r => s.runs r && (s.portLine r (.reinsert (n % 4))).isSome)).filter
    (fun r => s.regionLive r && s.portRuns r (.reinsert (n % 4)))

/-- R212, R358: the gather unit of a lane takes beats, and its store has room. -/
def State.reinsertRoom (s : State) (n : Nat) : Bool :=
  decide (n < s.lanes) && s.has (R.GU_CTRL_ENABLE n) && s.get (R.GU_CTRL_FRAMING n) == 2 && s.gatherClocked
    && decide (tblGet (fun _ => 0) s.cap.stored n < 32)

/-- R364: MB4 + j is in DONE or holds a completion notice. -/
def State.mbpDone (s : State) (j : Nat) : Bool :=
  s.get (R.MB_STATUS_STATE (4 + j)) == 3 || s.has (R.MB_STATUS_CPL_COUNT (4 + j))

/-- What a hard port or block shows the routing of region `r`. -/
def State.portLevel (s : State) (r : Nat) (p : PortSignal) : Bool :=
  let lane (i : Nat) : Nat := 4 * (r % 24) + i % 4
  let char (i k : Nat) : RxChar := (s.rxPort (lane i)).word.getD k { byte := 0 }
  let coded (i : Nat) : Bool := !s.has (R.LN_CTRL_MODE (lane i))
  let io (i : Nat) : Nat := 12 * (r % 24) + i % 12
  let owns (i : Nat) : Bool := s.ioOwner (io i) == some r
  let engine (e : Nat) : TapEngine := tblGet (fun _ => {}) s.te.engines (32 * r + e % 32)
  match p with
  | .rxValid i => s.rxValid (lane i)
  | .rxData i j => (char i (j / 8)).byte.toNat.testBit (j % 8)
  | .rxK i j => coded i && (char i j).k
  | .rxErr i j => coded i && ((char i j).dispErr || (char i j).codeViol)
  | .rxWnum i j => bit (((s.rxPort (lane i)).wnum + 65535) % 65536) j
  | .rxLock i => decide (lane i < s.lanes) && s.has (R.LN_STATUS_LOCK (lane i))
  | .riReady i => s.reinsertRoom (lane i) && s.reinsertDriver (lane i) == some r
  | .event l => bit s.evLines (l % 32)
  | .ioIn i j => owns i && bit (tblGet (fun _ => ({} : IoCell)) s.fab.ioCells (io i)).inp j
  | .dlyCur i j => owns i && bit (tblGet (fun _ => 0) s.fab.taps (io i)) j
  | .mbpAck => r == 0 && s.fab.mbp.ack
  | .mbpData j => r == 0 && bit s.fab.mbp.data j
  | .mbpErr => r == 0 && s.fab.mbp.ack && s.fab.mbp.err
  | .mbpDone j => r == 0 && decide (j < 4) && s.mbpDone j
  | .tinReady e => decide ((engine e).in0.length < 16)
  | .toutValid e => !(engine e).out0.isEmpty
  | .toutData e j => bit ((((engine e).out0.head?).map (·.elems)).getD [] |>.getD (j / 24) 0) (j % 24)
  | .toutTag e j => bit ((((engine e).out0.head?).map (·.s)).getD 0) j
  | .toutFirst e => (((engine e).out0.head?).map (·.first)).getD false
  | .other n => Config.portSignal r n s.tb.now

/-- The table index that inputs I0 to I(n-1) of a cell make. -/
def tableIndex (f : Nat → Bool) (n : Nat) : Nat := ((List.range n).map (fun k => 2 ^ k * b2n (f k))).foldl (· + ·) 0

/-- R349: wire `j` of a port that shows its park value: the one declared when the port was last driven; 0 if it never was. -/
def parkedWire (p : Option SeamPort) (j : Nat) : Bool :=
  match p with
  | none => false
  | some x => match x.park with
    | .one => true
    | .hold => bit x.value j
    | _ => false

def seamPortKey (r : Nat) (d : Side) (pos : Nat) : Nat := 40 * (4 * r + sideIndex d) + pos

/-- R427, R348: a declared park value. -/
def parkOf (p : Nat) : Park := if p = 0 then .hold else if p = 1 then .zero else .one

/-- R437: the interface slot that a position of a side is joined to, and the park value of an outbound one. -/
def Image.slotAt (im : Image) (d : Side) (out : Bool) (pos : Nat) : Option (Nat × Park) :=
  match im.joins with
  | some l => (l.find? (fun j => j.side == sideIndex d && j.dir == b2n (!out) && decide (j.at_ ≤ pos) && decide (pos < j.at_ + j.count))).map
      (fun j => (j.slot + (pos - j.at_), parkOf j.park))
  | none => match Config.seamSlot im.regionFrames d pos with
    | some (slot, some p) => if out then some (slot, p) else none
    | some (slot, none) => if out then none else some (slot, .zero)
    | none => none

/-- R339: the mode that the active plane of a region gives a border position. -/
def State.throughHere (s : State) (r : Nat) (d : Side) (pos : Nat) : Bool :=
  ((s.activeImage r).map (fun im => decide (Config.borderMode im.edgeFrames d pos = .through))).getD false

/-- R437: the position of a side that an inbound interface slot of the active plane is joined to. -/
def State.inboundPos (s : State) (r : Nat) (d : Side) (slot : Nat) : Option Nat :=
  (s.activeImage r).bind (fun im => (List.range 40).find? (fun pos => (im.slotAt d false pos).any (fun x => x.1 == slot)))

/-- R339, R437: the position of a side whose port a border position reads: its own where the active plane sets THROUGH (the port then stands
in for the wires), else the one that the slot is joined to. -/
def State.readPos (s : State) (r : Nat) (d : Side) (pos : Nat) : Option Nat :=
  if s.throughHere r d pos then some pos else s.inboundPos r d pos

/-- R347, R349: the slot that drives an outbound seam port, and the park value that the active plane declares for it; none: it declares no
driver. -/
def State.seamDriver (s : State) (r : Nat) (d : Side) (pos : Nat) : Option (Nat × Park) :=
  if s.runs r && !s.throughHere r d pos then (s.activeImage r).bind (fun im => im.slotAt d true pos) else none

/-- R341: the ownership field of riser `i` of tile `t` in edge frames. -/
def riserOwner (e : List (Nat × List Byte)) (t i : Nat) : Nat :=
  let at_ := Config.riserPlace t i
  bits (le (((e.find? (fun x => x.1 == 12800 + at_.1 % 1200)).map Prod.snd).getD []) (at_.2 / 8) 2) (at_.2 % 8) 2

/-- A riser of a pair as a number. -/
def riserKey (pair t : Nat) (upper : Bool) (i : Nat) : Nat := ((pair * 2 + b2n upper) * 1600 + t) * 16 + i

/-- R341, R342: the tier whose driver a riser's ownership field enables: the field of the plane that is active in the LL region of the
pair. An illegal field enables none (R343), until the scrubber has corrected it (R344). -/
def State.riserDriver (s : State) (pair t : Nat) (upper : Bool) (i : Nat) : Option Nat :=
  let r := if upper then pair else 24 + pair
  if (tblFind (riserKey pair t upper i) s.fab.illegal).isSome then none
  else match tblFind (8 * r + s.get (R.CF_CTX_STATE_ACTIVE (24 + pair))) s.fab.images with
  | none => none
  | some im =>
    let e := im.edgeFrames
    let f := if e.isEmpty then 0 else riserOwner e t i
    if f = 1 then some pair else if f = 2 then some (24 + pair) else none

/-- The tile at the edge of a region's side, at a position. -/
def edgeTile (d : Side) (pos : Nat) : Nat :=
  match d with
  | .n => 1560 + pos
  | .s => pos
  | .e => 40 * pos + 39
  | .w => 40 * pos

/-- The value of a signal in the present pip, looked for to a depth; a loop of logic has a free value. -/
def State.signal (s : State) : Nat → Node → Bool
  | 0, _ => Config.loopSignal s.tb.now
  | fuel + 1, .mux r t m =>
    -- R338: a multiplexer whose select is unused drives 0; R337: there are so many of each
    match if m.there then (s.activeImage r).bind (fun im => Config.muxSelect (im.tileFrames t) m) else none with
    | none => false
    | some sel =>
      match Config.muxInput m sel with
      | .wire k d tap i => s.signal fuel (.wire r t k d (tapHops k tap) i)
      | .cell c o => s.signal fuel (.cell r t c o)
      | .riser upper i => s.signal fuel (.riser (r % 24) t upper i)
      | .port p => s.portLevel r p
      | .border d j =>
        match neighbour r d with
        | none => false
        | some q =>
          if s.through r d (sidePos t d) then false
          else match s.readPos r d (sidePos t d) with
            | some pos => s.signal fuel (.seam q (sideOpposite d) pos j)
            | none => false
  | fuel + 1, .cell r t c o =>
    match s.cellOf r t c with
    | none => false
    | some x =>
      let pin (k : Nat) : Bool := s.signal fuel (.mux r t (.cell c (.i k)))
      let ix := tableIndex pin 5
      let p := x.table.getLsbD ix
      let g := x.table.getLsbD (32 + ix)
      let flop (b : Bool) : Bool :=
        let q := s.flop r t c b
        -- R335, R389: an asynchronous set or reset acts at once, but for the dead cycle and a region that is held
        if !s.runs r || s.inDead r then q
        else match x.sr with
          | .asyncReset => q && !s.signal fuel (.mux r t (.cell c .sr))
          | .asyncSet => q || s.signal fuel (.mux r t (.cell c .sr))
          | _ => q
      match o with
      | .a => flop false
      | .b => flop true
      | .f => match x.mode with
        | .l6 => x.table.getLsbD (tableIndex pin 6)
        | .l5x2 => p
        | .arith => p != s.signal fuel (.carry r t c)
      | .h => match x.mode with
        | .l6 => false
        | .l5x2 => g
        | .arith => g || (p && s.signal fuel (.carry r t c))
  | fuel + 1, .carry r t c =>
    -- R334: the carry out of the cell below in the chain
    let out (r t c : Nat) : Bool := match s.cellOf r t c with
      | some x => if x.mode = .arith then s.signal fuel (.cell r t c .h) else s.signal fuel (.carry r t c)
      | none => false
    if 0 < c then out r t (c - 1)
    else match towards r t .s with
      | .inside t' => out r t' 63
      | .edge => ((s.activeImage r).map (fun im => Config.carryConstant (im.tileFrames t))).getD false
      | .over_ q t' =>
        if s.through r .s (t % 40) then out q t' 63
        else ((s.activeImage r).map (fun im => Config.carryConstant (im.tileFrames t))).getD false
  | fuel + 1, .wire r t k d hops i =>
    match hops with
    | 0 => s.signal fuel (.mux r t (.wire k d i))
    | h + 1 =>
      match towards r t (sideOpposite d) with
      | .inside t' => s.signal fuel (.wire r t' k d h i)
      | .edge => false
      | .over_ q t' =>
        if s.through r (sideOpposite d) (sidePos t d) then s.signal fuel (.wire q t' k d h i)
        else match s.readPos r (sideOpposite d) (sidePos t d) with
          | some pos => s.signal fuel (.seam q d pos (Config.borderWire k d (h + 1) i))
          | none => false
  | fuel + 1, .seam r d pos j =>
    let was := tblFind (seamPortKey r d pos) s.fab.seamPorts
    -- R350: over the dead cycle a port keeps what it showed before the switching edge
    if s.inDead r then (if was.any (fun x => !x.parked) then bit ((was.map SeamPort.value).getD 0) j else parkedWire was j)
    else match s.seamDriver r d pos with
      | some (slot, _) => s.signal fuel (.mux r (edgeTile d slot) (.border d j))
      | none => parkedWire was j
  | fuel + 1, .riser pair t upper i =>
    match s.riserDriver pair t upper i with
    | none => false
    | some r => s.signal fuel (.mux r t (.riser (16 * b2n upper + i)))

/-- More logic than a signal can pass without a loop. -/
def logicDepth : Nat := 2 ^ 40

/-- The value of a signal. -/
def State.level (s : State) (n : Node) : Bool := s.signal logicDepth n

/-! ### Clock edges of a region -/

/-- R351: the edges and level of region clock line 14 or 15, made by the region's own routing: twice its rising edges, and the level. -/
def State.lineNext (s : State) (r l : Nat) : Nat :=
  let c := tblGet (fun _ => 0) s.fab.lineCount (2 * r + (l - 14))
  if (c % 2 == 1) == s.level (.mux r 0 (.clock l)) then c else c + 1

/-- R351, R747: does a region clock line of region `r` have an edge in the present pip? Lines 8-13 are not throttled. -/
def State.lineEdge (s : State) (r l : Nat) : Bool :=
  if !s.regionClocked || bit (s.reg (R.CK_GATED (r / 32))) (r % 32) then false
  else if l < 8 then s.clockEdge (s.fpllOutput l) (s.fpllPhase l) (s.regionStep r)
  else if l < 12 then
    let n := 4 * (r % 24) + (l - 8)
    s.clockEdge (s.wordClock n) (Config.clockPhase (8 + n)) 0
  else if l < 14 then
    let io := 12 * (r % 24) + (l - 12)
    s.ioOwner io == some r && Config.ioRises io s.tb.now
  else
    let c := tblGet (fun _ => 0) s.fab.lineCount (2 * r + (l - 14))
    let c' := s.lineNext r l
    decide (c < c') && c' % 2 == 1 && edgePasses (s.regionStep r) (c / 2)

/-- R353: the PRIMARY line of a region's active plane. -/
def State.primaryLine (s : State) (r : Nat) : Nat :=
  ((s.activeImage r).map (fun im => im.primary % 16)).getD 0

/-- R388, R391: is this pip's edge one at which region `r` may switch to a plane: of its own PRIMARY line, or, where it does not run, of the
new plane's (R387)? -/
def State.switchEdge (s : State) (r plane : Nat) : Bool :=
  s.lineEdge r (if s.runs r then s.primaryLine r
    else ((tblFind (8 * r + plane) s.fab.images).map (fun im => im.primary % 16)).getD 0)

/-- R335: what a flip-flop holds after the present pip, with the edges that its region's clock lines have in it. -/
def State.flopNext (s : State) (edge : Nat → Bool) (r t c : Nat) (b : Bool) : Bool :=
  let q := s.flop r t c b
  match s.activeImage r with
  | none => q
  | some im =>
    let x := im.cell t c
    let pin (p : CellPin) : Bool := s.level (.mux r t (.cell c p))
    let on := edge (Config.tileClock im.edgeFrames t x.clock % 16)
    let d := match (if b then x.dB else x.dA) with
      | .f => s.level (.cell r t c .f)
      | .h => s.level (.cell r t c .h)
      | .bypass => pin (if b then .bb else .ba)
    match x.sr with
    | .asyncReset => if pin .sr then false else if on && pin .ce then d else q
    | .asyncSet => if pin .sr then true else if on && pin .ce then d else q
    | .syncReset => if on && pin .sr then false else if on && pin .ce then d else q
    | .syncSet => if on && pin .sr then true else if on && pin .ce then d else q
    | .none => if on && pin .ce then d else q

/-- The flip-flops of a region after the present pip. -/
def State.flopsAfter (s : State) (edge : Nat → Bool) (r : Nat) (fl : Tbl Bool) : Tbl Bool :=
  (List.range regionTiles).foldl (fun l t => (List.range 64).foldl (fun l c =>
    tblPut (flopKey r t c true) (s.flopNext edge r t c true)
      (tblPut (flopKey r t c false) (s.flopNext edge r t c false) l)) l) fl

/-- R348-R350: the outbound seam ports that a region drives, as they stand at an edge. -/
def State.seamsAfter (s : State) (r : Nat) (sp : Tbl SeamPort) : Tbl SeamPort :=
  [Side.n, .e, .s, .w].foldl (fun l d => (List.range 40).foldl (fun l pos =>
    match s.seamDriver r d pos with
    | none => l
    | some (_, p) => tblPut (seamPortKey r d pos) ⟨tableIndex (fun j => s.level (.seam r d pos j)) 64, p, false⟩ l) l) sp

/-- R350: at a switching edge each port of a region notes whether it showed its park value. -/
def State.seamsHeld (s : State) (r : Nat) (sp : Tbl SeamPort) : Tbl SeamPort :=
  [Side.n, .e, .s, .w].foldl (fun l d => (List.range 40).foldl (fun l pos =>
    match tblFind (seamPortKey r d pos) l with
    | none => l
    | some x => tblPut (seamPortKey r d pos) { x with parked := (s.seamDriver r d pos).isNone } l) l) sp

/-! ### Fabric trigger lines (R367) -/

/-- R367: what the registers of a region hold after the present pip: they take the levels of the lines that its active plane drives. -/
def State.trigNext (s : State) (r : Nat) : Nat :=
  let old := tblGet (fun _ => 0) s.fab.trigLines r
  match s.activeImage r with
  | none => old
  | some im =>
    if s.regionLive r && (s.portLine r .trigger).any (s.lineEdge r) then
      ((List.range 8).filter (fun l => bit im.trig l && s.level (.mux r 0 (.trigger l)))).foldl setBit 0
    else old

/-- R367, R389, R407, R691: what a region gives a trigger line. `late`: the matrix sees the line as this pip's edge leaves it. -/
def State.trigLine (s : State) (r l : Nat) (late : Bool) : Bool :=
  s.runs r && (s.inDead r || ((s.activeImage r).map (fun im => bit im.trig l)).getD false)
    && bit (if late then s.trigNext r else tblGet (fun _ => 0) s.fab.trigLines r) l

/-- R277, R367: the fabric lines as the matrix sees them: the OR of all regions. -/
def State.fabricLines (s : State) (late : Nat) : Nat :=
  if s.fab.images.isEmpty then 0
  else ((List.range 8).filter (fun l => (List.range 48).any (fun r => s.trigLine r l (bit late l)))).foldl setBit 0

/-! ### User I/O cells (R374, R375) -/

/-- R372: is a static setting one of a differential standard? -/
def isDifferential (v : Nat) : Bool := bits v 0 4 == 4 || bits v 0 4 == 5

/-- R369, R372: a differential pair is I/O 2m and 2m + 1 with one setting; the odd ball carries the complement (log entry 110). -/
def State.ioComplement (s : State) (io : Nat) : Bool := io % 2 == 1 && ((tblFind io s.fab.ioStatic).map isDifferential).getD false

/-- The I/O whose cell gives or takes the signal of a ball. -/
def State.ioPair (s : State) (io : Nat) : Nat := if s.ioComplement io then io - 1 else io

/-- R374: what the input register of an I/O takes. -/
def State.ioSample (s : State) (io w : Nat) : Nat :=
  let v := Config.ioSampled (s.ioPair io) s.tb.now % 2 ^ w
  if s.ioComplement io then 2 ^ w - 1 - v else v

/-- R374: a bank's clock multiplier accepts an FPLL output of 100-450 MHz. -/
def State.multiplierOk (s : State) (fpll : Nat) : Bool :=
  let f := s.fpllOutput (fpll % 8)
  decide (100000 ≤ f) && decide (f ≤ 450000)

/-- R351: the rate in kHz of a region clock line, where the line is an FPLL's or a lane's. -/
def State.lineRate (s : State) (r l : Nat) : Option Nat :=
  if l < 8 then some (s.fpllOutput l) else if l < 12 then some (s.wordClock (4 * (r % 24) + (l - 8))) else none

/-- R374: SER4: the FPLL runs at the word rate, which is the rate of the region clock, and the multiplier accepts it. -/
def State.serialOk (s : State) (r line fpll : Nat) : Bool :=
  s.multiplierOk fpll && ((s.lineRate r line).map (fun f => f == s.fpllOutput (fpll % 8))).getD true

/-- The registers of an I/O cell after the present pip, while its owner region runs: in BYPASS they follow the ball and the routing; else
they take a word at an edge of their clock line, in SER4 only with a bit clock. Only a driven cell takes its output and enable. -/
def State.ioAfter (s : State) (r io : Nat) (x : IoCell) : IoCell :=
  match (s.activeImage r).map (fun im => Config.ioSettings im.regionFrames (io % 12)) with
  | none => x
  | some c =>
    let go := match c.mode with
      | .bypass => true
      | .ser4 => s.lineEdge r (c.line % 16) && s.serialOk r (c.line % 16) c.fpll
      | _ => s.lineEdge r (c.line % 16)
    let x := if go then { x with inp := s.ioSample io c.mode.width } else x
    if c.driven && go then
      { x with out := tableIndex (fun j => s.level (.mux r 0 (.ioOut (io % 12) j))) c.mode.width,
               enable := s.level (.mux r 0 (.ioEnable (io % 12))), park := c.park, used := true }
    else x

/-- R692, R858: does a measured VCCIO suit a standard's I/O (R372)? Each of 1.2, 1.5 and 1.8 V within 5 %. -/
def suits (v mv : Nat) : Bool :=
  let near (t : Nat) : Bool := decide (95 * t ≤ 100 * mv) && decide (100 * mv ≤ 105 * t)
  let std := bits v 0 4
  if std = 1 then near 1800 else if std = 2 then near 1500 else if std = 3 then near 1200
  else if std = 4 ∧ bit v 11 then near 1200
  else if std = 5 ∧ bit v 11 then near 1800
  else near 1200 || near 1500 || near 1800

/-- R373, R692: the static standard of an I/O does not suit the VCCIO measured on its bank, now or when START-UP began: it stays at high
impedance. -/
def State.ioUnsuited (s : State) (io : Nat) : Bool :=
  s.fab.ioOff.contains io
    || ((tblFind io s.fab.ioStatic).map (fun v => !suits v (s.get (R.PW_RAIL_MEAS_MV (9 + io / 24))))).getD false

/-- R187: in LEHR the I/O of the regions that ran keep what they last drove. -/
def State.ioKept (s : State) (io : Nat) : Bool := s.mode == mLehr && ((s.ioOwner io).map s.phys.lehrRegions.contains).getD false

/-- The cell of an I/O. -/
def State.ioCell (s : State) (io : Nat) : IoCell := tblGet (fun _ => ({} : IoCell)) s.fab.ioCells io

/-- R375, R349: an I/O shows its park state: its owner region does not run, or its active plane does not drive it. In the dead cycle it
stays as it was. -/
def State.ioParked (s : State) (io : Nat) : Bool :=
  match s.ioOwner io with
  | none => true
  | some r =>
    if s.inDead r then (s.ioCell io).parked
    else !s.runs r
      || !((s.activeImage r).map (fun im => (Config.ioSettings im.regionFrames (io % 12)).driven)).getD false

/-- R375: does an I/O cell drive its ball? Parked it does so in every state but HIGHZ, once it has been driven. -/
def State.ioEnabled (s : State) (io : Nat) : Bool :=
  let x := s.ioCell io
  if s.ioUnsuited io then false
  else if s.ioParked io && !s.ioKept io then x.used && (match x.park with
    | .highz => false
    | .hold => x.enable
    | _ => true) else x.enable

/-- R375, R374: the level at a ball that its cell drives: the park state's, or a bit of the output word. -/
def State.ioLevel (s : State) (io : Nat) : Bool :=
  let x := s.ioCell (s.ioPair io)
  let held := bit x.out (if x.out < 2 then 0 else Config.ioBit (s.ioPair io) s.tb.now % 4)
  let v := if s.ioParked io && !s.ioKept io then (match x.park with
    | .zero => false
    | .one => true
    | _ => held) else held
  v != s.ioComplement io

/-! ### A pip of the fabric -/

/-- The regions whose flip-flops and ports change in this pip. -/
def State.liveRegions (s : State) : List Nat := (List.range 48).filter s.regionLive

/-- R389, R393, R387: at E1 the dead cycle of a region ends: with ENTRY_INIT of the plane entered every user flip-flop takes its INIT
value. -/
def State.endDead (s : State) (r : Nat) : State :=
  let p := s.get (R.CF_CTX_STATE_ACTIVE r)
  let f := { s.fab with dead := tblDel r s.fab.dead }
  let f := if bit (s.get (R.CF_CTX_PLANES_ENTRY_INIT r)) p then
      { f with flops := f.flops.filter (fun e => flopRegion e.1 != r),
               flopStart := (match s.activeImage r with
                 | some im => tblPut r im f.flopStart
                 | none => f.flopStart) }
    else f
  ({ s with fab := f }).put (R.CF_CTX_STATE_STATE r) 1

/-- What the fabric does in a pip: flip-flops, seam ports, clock lines and I/O registers of the regions that run; dead cycles whose E1
falls in it end (E1 is the first PRIMARY edge of the new plane after E0: R388, R391). -/
def State.fabricPip (s : State) : State :=
  if s.fab.images.isEmpty then s
  else
    let live := s.liveRegions
    let ends := (s.fab.dead.filter (fun e => decide (e.2 < s.tb.now) && s.lineEdge e.1 (s.primaryLine e.1))).map Prod.fst
    let f := { s.fab with
      flops := live.foldl (fun l r => s.flopsAfter (s.lineEdge r) r l) s.fab.flops
      seamPorts := (live.filter (fun r => s.lineEdge r (s.primaryLine r))).foldl (fun l r => s.seamsAfter r l) s.fab.seamPorts
      lineCount := live.foldl (fun l r => tblPut (2 * r + 1) (s.lineNext r 15) (tblPut (2 * r) (s.lineNext r 14) l))
        s.fab.lineCount
      ioCells := s.fab.ioStatic.foldl (fun l e =>
        let r := e.1 / 12 + 24 * bits e.2 10 1
        if live.contains r then tblPut e.1 (s.ioAfter r e.1 (s.ioCell e.1)) l else l)
        s.fab.ioCells
      trigLines := live.foldl (fun l r => tblPut r (s.trigNext r) l) s.fab.trigLines
      mbp := if s.fab.mbp.ack && (s.portLine 0 .mailbox).any (s.lineEdge 0) then { s.fab.mbp with ack := false } else s.fab.mbp }
    forEach ends (fun r t => t.endDead r) { s with fab := f }

/-- R388: at E0 the flip-flops and ports of a running region capture under the old plane; R350, R375: its ports and I/O note whether they
show their park values. -/
def State.captureE0 (s : State) (r : Nat) : State :=
  let p := s.primaryLine r
  let live := s.regionLive r
  let ports := s.seamsHeld r (if live then s.seamsAfter r s.fab.seamPorts else s.fab.seamPorts)
  let cells := s.fab.ioCells.map (fun e => if s.ioOwner e.1 == some r then (e.1, { e.2 with parked := s.ioParked e.1 }) else e)
  { s with fab := { s.fab with flops := if live then s.flopsAfter (fun l => l == p) r s.fab.flops else s.fab.flops
                               seamPorts := ports, ioCells := cells } }

/-- R336, R386, R407: the flip-flops of a region are held in reset, its trigger lines read 0; no dead cycle is left. -/
def State.holdFlops (s : State) (r : Nat) : State :=
  { s with fab := { s.fab with flops := s.fab.flops.filter (fun e => flopRegion e.1 != r)
                               flopStart := tblDel r s.fab.flopStart, dead := tblDel r s.fab.dead
                               trigLines := tblDel r s.fab.trigLines } }

/-- R336: a region's flip-flops are released, and start from the INIT values of the active plane. -/
def State.releaseFlops (s : State) (r : Nat) : State :=
  match s.activeImage r with
  | some im => { s with fab := { s.fab with flopStart := tblPut r im s.fab.flopStart } }
  | none => s

end Sys2Proof.Machine
end

