-- ==== Sys2Proof/Machine/Mailbox.lean ====
section
/-!
DEFINITION. Machine/Mailbox.lean: how the gaffer serves a mailbox request: the order of checks (R72, R73, R74, R75,
R885), the credential check (R768-R771), the response (R69, R63), ACCEPTED operations (R67, R81, R89) and forwarding
(R70, R658).
-/

namespace Sys2Proof.Machine

open Sys2Proof

/-- A check: the status and the DETAIL with which it fails, if it fails. -/
abbrev Chk := Option (Nat × Nat)

/-- Fail with a status and a DETAIL where a condition holds. -/
def failIf (b : Bool) (status detail : Nat) : Chk := if b then some (status, detail) else none

/-- The first check that fails (R72). -/
def firstFail : List Chk → Chk
  | [] => none
  | none :: t => firstFail t
  | some x :: _ => some x

/-! R71: the status codes. -/

def stOk : Nat := 0x0000
def stAccepted : Nat := 0x0001
def stBadCommand : Nat := 0x0100
def stBadLength : Nat := 0x0101
def stBadParam : Nat := 0x0102
def stNotOwner : Nat := 0x0200
def stBusy : Nat := 0x0201
def stRefusedState : Nat := 0x0300
def stRefusedArmed : Nat := 0x0301
def stRefusedSupply : Nat := 0x0302
def stRefusedLocked : Nat := 0x0303
def stNoResource : Nat := 0x0400
def stIntegrity : Nat := 0x0500
def stAuthFail : Nat := 0x0600
def stTimeout : Nat := 0x0700
def stInternal : Nat := 0x0F00

/-- What a command answers once its checks have passed: the next state, and the response; with ACCEPTED, the
operation that it starts. -/
structure Reply where
  next : State
  status : Nat := 0
  detail : Nat := 0
  payload : List Byte := []
  op : Option Op := none

/-- A mailbox command: its code, the payload lengths it takes, the credential slots that satisfy it (none: no
credential), whether it is marked ACCEPTED, checks 5 to 9 of R72 in order, and what it does. -/
structure Cmd where
  code : Nat
  long : Bool := false
  lenOk : Request → Bool
  lenReq : Nat
  creds : State → Nat → Request → List Nat := fun _ _ _ => []
  checks : State → Nat → Request → List Chk
  act : State → Nat → Request → Reply
  /-- What CHECK_ONLY answers beside OK (R458). -/
  dry : State → Nat → Request → List Byte := fun _ _ _ => []

/-- The command answers OK with a payload and no further effect. -/
def replyOk (s : State) (payload : List Byte) : Reply := { next := s, payload := payload }

/-- The command starts an operation (R89). -/
def accept (s : State) (mb : Nat) (r : Request) (holds args : List Nat) : Reply :=
  { next := s, status := stAccepted,
    op := some { mb := mb, tag := r.tag.toNat, command := r.command.toNat, holds := holds, args := args } }

/-! ### The checks -/

/-- Check 2: LENGTH at most 4,064, a multiple of 4, and what the command requires. -/
def checkLen (c : Cmd) (r : Request) : Chk :=
  failIf (decide (4064 < r.length.toNat) || r.length.toNat % 4 != 0 || !c.lenOk r) stBadLength c.lenReq

/-- Check 3: reserved header fields, FLAGS, TAG and DEST. FORWARDED is set only by a peer's gaffer (R657). -/
def checkHeader (s : State) (mb : Nat) (r : Request) : Chk :=
  failIf (bits r.flags.toNat 2 6 != 0 || (bit r.flags.toNat 1 && decide (mb < 10)) || r.reserved.toNat != 0
    || bits r.dest.toNat 3 4 != 0 || r.tag.toNat == 0xFFFF || (s.opOf mb r.tag.toNat).isSome
    || s.gaf.peerOps.any (fun o => o.mb == mb && o.tag == r.tag.toNat)) stBadParam 0xFFFF

/-- The key of a credential slot, where the slot exists in the present lifecycle state (R768). -/
def State.credKey (s : State) (slot : Nat) : Option (BitVec 256) :=
  if slot = 1 then some s.sec.ralKey
  else if slot = 2 then (if s.life = 2 ∨ s.life = 3 then tblFind 2 s.sec.keys else none)
  else if s.life = 2 then tblFind slot s.sec.keys else none

/-- R769: the AUTH that a request must carry under a key. -/
def expectedAuth (s : State) (mb : Nat) (r : Request) (key : BitVec 256) : BitVec 128 :=
  let nonce := toLE 4 (s.reg (R.SC_NONCE_LO mb)) ++ toLE 4 (s.reg (R.SC_NONCE_HI mb))
  BitVec.ofNat 128 ((hmac (toLE 32 key.toNat) (nonce ++ requestHeader r ++ r.payload)).toNat)

/-- R770: the operator slots whose permission mask admits the commands of a group. -/
def State.operators (s : State) (group : Nat) : List Nat :=
  ((List.range 12).map (· + 4)).filter (fun k => bit (tblGet (fun _ => 0) s.sec.masks k) group)

/-- Does the request carry a credential of one of the allowed slots (R768-R770)? -/
def credOk (s : State) (mb : Nat) (r : Request) (allowed : List Nat) : Bool :=
  let slot := r.credSlot.toNat
  allowed.contains slot
    && match s.credKey slot with
       | some k => decide (r.auth = expectedAuth s mb r k)
       | none => false

/-- R769: the mailbox's SC_NONCE takes a fresh random value: a free value. -/
def State.freshNonce (s : State) (mb : Nat) : State :=
  let v := s.peekFree
  ((s.setReg (R.SC_NONCE_LO mb) v).setReg (R.SC_NONCE_HI mb) (v / 2 ^ 32)).drawn

/-- R771, R194: a failed credential check is counted; on slot 3 also in CRED_FAILS, up to 3. -/
def State.authFailed (s : State) (slot : Nat) : State :=
  let s := (s.bump R.SC_AUTH_FAILS_COUNT).raise 281
  if slot = 3 then s.bump R.GAF_LIFECYCLE_CRED_FAILS else s

/-- R790: what the boot ROM serves in SAFE HOLD with CAUSE FW_FAIL. -/
def fwFailServes (mb code : Nat) : Bool := mb ≤ 3 && [0x0101, 0x0C00, 0x0C01, 0x0C02, 0x0C03].contains code

/-- Checks that stand before every command's own (R790; R657: MB15 takes gaffer-to-gaffer operations only). -/
def checkPlace (s : State) (mb code : Nat) : Chk :=
  failIf ((s.mode == mSafeHold && s.cause == 0x14 && !fwFailServes mb code)
    || (mb == 15 && !([0x0C00, 0x0C01, 0x0F04, 0x0F05].contains code))) stRefusedState 0

/-- Outstanding operations and waiting notices of a mailbox together (R67); operations that run on after a reset of the source (R96)
are outstanding. -/
def State.noticeLoad (s : State) (mb : Nat) : Nat :=
  (s.gaf.ops.filter (fun o => o.mb == mb)).length + (s.gaf.peerOps.filter (fun o => o.mb == mb)).length
    + (tblGet (fun _ => []) s.gaf.notices mb).length

/-- R67, R81: the limits on outstanding operations, at the end of check 9. -/
def checkLimits (s : State) (mb : Nat) : List Chk :=
  [failIf (decide (16 ≤ s.noticeLoad mb)) stBusy 0x00FD, failIf (decide (32 ≤ s.gaf.ops.length)) stBusy 0x00FF]

/-- Every check of R72 but the first (the code) and check 4, in order. -/
def checksAfterAuth (c : Cmd) (s : State) (mb : Nat) (r : Request) : List Chk :=
  checkPlace s mb c.code
    :: failIf (c.long && !opPermitted s.mode c.code) stRefusedState 0
    :: (c.checks s mb r ++ (if c.long then checkLimits s mb else []))

/-! ### The response (R63, R69) -/

/-- R91, R92: a response more than 1 s after its RING is late: guarantee 7 yields, at the mailbox, to the highest-ranked guarantee on
which the gaffer has spent time since; where the model holds none, which one it was is a free value (log entry 88). -/
def State.noteLateness (s : State) (mb : Nat) : State :=
  let rung := tblGet (fun _ => s.tb.now) s.gaf.rungAt mb
  if s.tb.now ≤ rung + 1250000000 then s
  else match [1, 2, 3, 4, 5, 6].find? (fun g => decide (rung < tblGet (fun _ => 0) s.gaf.worked g)) with
    | some g => s.yielded 7 g mb
    | none => (s.yielded 7 (1 + s.peekFree % 6) mb).drawn

/-- The response is written: the mailbox enters DONE and EV_016 + n is set. -/
def State.respond (s : State) (mb : Nat) (forwarded : Bool) (command tag status detail : Nat) (payload : List Byte) :
    State :=
  let b := responseBytes forwarded command tag status detail s.tb.turn s.tb.pip payload
  let s := { s with mbuf := cellsSet 0 s.mbuf (rspBuf mb) b }
  let s := s.bump (R.MB_STATS_REQUESTS mb)
  let s := if status = stBusy then s.bump (R.MB_STATS_BUSY mb) else s
  ((s.put (R.MB_STATUS_STATE mb) 3).raise (16 + mb)).noteLateness mb

/-- An operation is registered as outstanding. -/
def State.startOp (s : State) (o : Op) : State :=
  ({ s with gaf := { s.gaf with ops := s.gaf.ops ++ [o] } }).showOps

/-- Checks 2 to 9 and the execution of a command; CHECK_ONLY stops after the checks (R73). -/
def serveLocal (c : Cmd) (s : State) (mb : Nat) (r : Request) : State :=
  let code := r.command.toNat
  let tag := r.tag.toNat
  let finish (t : State) (x : Nat × Nat) : State := t.respond mb false code tag x.1 x.2 []
  let run (t : State) : State :=
    match firstFail (checksAfterAuth c t mb r) with
    | some x => finish t x
    | none =>
      if bit r.flags.toNat 0 then t.respond mb false code tag stOk 0 (c.dry t mb r)
      else
        let a := c.act t mb r
        let t := match a.op with
          | some o => a.next.startOp o
          | none => a.next
        t.respond mb false code tag a.status a.detail a.payload
  let need := c.creds s mb r
  if need.isEmpty then run s
  else if credOk s mb r need then run (s.freshNonce mb)
  else finish ((s.authFailed r.credSlot.toNat).freshNonce mb) (stAuthFail, 0)

/-- R70: does the request name a peer? -/
def forwardsTo (s : State) (r : Request) : Option Nat :=
  let d := bits r.dest.toNat 0 3
  if bit r.dest.toNat 7 && d != s.get R.NC_ARRAY_DEV_ID then some d else none

/-- R658: the request is passed to the peer, and its mailbox stays in RUNNING. -/
def forwardRequest (s : State) (mb : Nat) (r : Request) (d : Nat) : State :=
  { s with gaf := { s.gaf with forwards := s.gaf.forwards ++ [⟨mb, r.tag.toNat, r.command.toNat, d⟩] } }

/-- The gaffer serves a request of a mailbox in RUNNING whose command is `c`, or is in no index (none). -/
def serveRequest (c : Option Cmd) (s : State) (mb : Nat) (r : Request) : State :=
  let refuse (x : Nat × Nat) : State := s.respond mb false r.command.toNat r.tag.toNat x.1 x.2 []
  if !s.has (R.MB_CONFIG_ENABLED mb) then refuse (stRefusedState, 0)
  else if r.version ≠ 1 then refuse (stBadCommand, 0)
  else
    match c with
    | none => refuse (stBadCommand, 0)
    | some c =>
      match firstFail [checkLen c r, checkHeader s mb r] with
      | some x => refuse x
      | none =>
        match forwardsTo s r with
        | some d =>
          match firstFail (if c.long && !bit r.flags.toNat 0 then (checkLimits s mb).take 1 else []) with
          | some x => refuse x
          | none => forwardRequest s mb r d
        | none => serveLocal c s mb r

/-- The gaffer takes a mailbox's request: RUNNING, MB_ACTIVE, MB_RR_LAST (R60, R63). -/
def takeMailbox (s : State) (mb : Nat) (r : Request) : State :=
  (((s.put (R.MB_STATUS_STATE mb) 2).put (R.MB_ACTIVE_COMMAND mb) r.command.toNat).put
    (R.MB_ACTIVE_TAG mb) r.tag.toNat).put R.MB_RR_LAST_LAST mb

/-- Can the gaffer serve requests (R75)? In LEHR a rung request restarts the cores from retained SRAM (R732). -/
def State.serving (s : State) : Bool := s.has R.GAF_STATUS_READY && s.gaf.restarting.isNone

/-- A RING (R63-R65): IDLE becomes PENDING, and outside IDLE RING_LOST is set. In LEHR it restarts the cores
(R732). -/
def ring (s : State) (mb : Nat) : State :=
  if s.get (R.MB_STATUS_STATE mb) = 0 then
    ({ s with gaf := { s.gaf with rungAt := tblPut mb s.tb.now s.gaf.rungAt } } : State).put (R.MB_STATUS_STATE mb) 1
  else s.put (R.MB_STATUS_RING_LOST mb) 1

/-- A mailbox's source writes a request into the request buffer: in PENDING the write is discarded (R63). -/
def writeRequest (s : State) (mb : Nat) (r : Request) : State :=
  if s.get (R.MB_STATUS_STATE mb) = 1 then s.put (R.MB_STATUS_ACCESS_DENIED mb) 1
  else { s with mbuf := cellsSet 0 s.mbuf (reqBuf mb) (requestBytes r) }

/-- The request of a command's row: its COMMAND is the command's code, whatever the operand's field says, and its payload
is LENGTH bytes long. -/
def rowRequest (c : Cmd) (req : Request) : Request :=
  fittedRequest { req with command := BitVec.ofNat 16 c.code }

/-- R76: the mailbox that is served next: the first in PENDING after MB_RR_LAST. -/
def nextMailbox (s : State) : Option Nat :=
  ((List.range 16).map (fun i => (s.get R.MB_RR_LAST_LAST + 1 + i) % 16)).find? (fun n => s.get (R.MB_STATUS_STATE n) == 1)

/-- The row of a mailbox command: the mailbox's source writes the request and rings, and the gaffer takes and serves it. A mailbox
that is not IDLE loses the RING (R64); before READY, and behind a mailbox in PENDING that R76 serves first, the request stays
PENDING, for GAFFER_TAKE_REQUEST. -/
def commandRow (c : Cmd) (mb : Fin 16) (req : Request) (s : State) : Host.Outcome State Fault Refusal :=
  let n := mb.val
  let r := rowRequest c req
  let idle := s.get (R.MB_STATUS_STATE n) == 0
  let s := ring (writeRequest s n r) n
  if idle && s.serving && nextMailbox s == some n then .next (serveRequest (some c) (takeMailbox s n r) n r) else .next s

/-! ### Checks that several commands share -/

/-- Check 5: OPERATE and THROTTLED only. -/
def onlyRunning (s : State) : Chk := failIf (!s.running) stRefusedState 0

/-- Check 6: a mailbox restriction (DETAIL 0xFFFF). -/
def onlyMailboxes (mb : Nat) (l : List Nat) : Chk := failIf (!l.contains mb) stNotOwner 0xFFFF

/-- Check 6 for a list of resource keys, each with the DETAIL of its entry: the first that is not held. -/
def owned (s : State) (mb : Nat) (keys : List (Nat × Nat)) : Chk :=
  match keys.find? (fun k => !s.holds mb k.2) with
  | some k => some (stNotOwner, k.1)
  | none => none

/-- R80: BUSY where an outstanding operation holds one of the resources (DETAIL: entry, and the operation's mailbox). -/
def notInOperation (s : State) (keys : List (Nat × Nat)) : Chk :=
  (keys.filterMap (fun k => (s.gaf.ops.find? (fun o => o.holds.contains k.2)).map (fun o =>
    (stBusy, 256 * (k.1 % 256) + o.mb)))).head?

/-- Check 7: a byte range of the payload that must be 0; DETAIL is its offset. -/
def reserved0 (p : List Byte) (i n : Nat) : Chk := failIf (!zeroAt p i n) stBadParam i

/-- Check 7: a field at `i` must satisfy a condition. -/
def param (i : Nat) (ok : Bool) : Chk := failIf (!ok) stBadParam i

end Sys2Proof.Machine
end

