-- ==== Sys2Proof/Machine/Sram.lean ====
section
/-!
DEFINITION. Machine/Sram.lean: SRAM banks, their owners, circular windows and the register ports of the queue
controllers (R496-R527).
-/

namespace Sys2Proof.Machine

open Sys2Proof

/-- The identity that a requester carries (R505, R567). The management SPI and the debug port carry none of R505's
(log entry 39). -/
def requesterIdent (w : Requester) : Nat :=
  match w with
  | .host => 0xF2
  | .gaffer => 0xF0
  | .spi => 0xFE
  | .debug => 0xFE
  | .noc i => i.toNat

/-- R17: the access path whose snapshots a requester uses. -/
def requesterPath (w : Requester) : Nat :=
  match w with
  | .host => 0
  | .gaffer => 1
  | .spi => 2
  | .debug => 3
  | .noc _ => 4

/-- The last answer on an access path. -/
def State.answer (s : State) (path status : Nat) (data : List Byte) : State :=
  { s with answers := tblPut path ⟨status, data⟩ s.answers }

/-- The answer path of an SRAM master port. -/
def smPath (c port : Nat) : Nat := 512 + 4 * c + port

/-! ### Words, banks and owners (R496-R498, R505-R508) -/

/-- R498: the bank (of the cluster) and row of a cluster word. -/
def State.wordPlace (s : State) (c w : Nat) : Nat × Nat :=
  let nominal := w / 8192
  let k := 2 ^ s.get (R.SB_CFG_ILV (16 * c + nominal))
  let f := nominal / k * k
  (f + (w - 8192 * f) % k, (w - 8192 * f) / k)

/-- The physical word: (bank number, row). -/
def State.physWord (s : State) (c w : Nat) : Nat :=
  let b_row := s.wordPlace c w
  let b := b_row.1
  let row := b_row.2
  8192 * (16 * c + b) + row

/-- R507: a denied access is counted and recorded; a denied write raises EV_SB_DENIED. -/
def State.sbDenied (s : State) (c bank ident port : Nat) (write : Bool) : State :=
  let s := s.bump (if write then R.SB_CL_DENIED_WRITES c else R.SB_CL_DENIED_READS c)
  let s := ((((s.put (R.SB_CL_LAST_DENIED_BANK c) bank).put (R.SB_CL_LAST_DENIED_IDENT c) ident).put
    (R.SB_CL_LAST_DENIED_WRITE c) (b2n write)).put (R.SB_CL_LAST_DENIED_PORT c) port).put (R.SB_CL_FLAGS_DENIED_SEEN c) 1
  if write then s.raise 248 else s

/-- R505, R506: does a bank's owner admit a requester with these identities? -/
def State.bankAdmits (s : State) (bank ident ident2 : Nat) : Bool :=
  let o := s.get (R.SB_OWNER_OWNER bank)
  o == ident || (ident2 != 0xFF && o == ident2)

/-- R507: the bank of the first word that a requester may not access. -/
def State.deniedBank (s : State) (c : Nat) (words : List Nat) (ident ident2 : Nat) : Option Nat :=
  (words.find? (fun w => !s.bankAdmits (16 * c + (s.wordPlace c w).1) ident ident2)).map (fun w => (s.wordPlace c w).1)

/-! ### One word (R497, R510, R511) -/

/-- What a word access answers. -/
structure WordOut where
  next : State
  code : Nat
  data : Nat

/-- Bad symbols that show at an access are added to a word's (log entry 38). -/
def State.wordUpset (s : State) (phys : Nat) (n : Nat) : State :=
  let old := tblGet (fun _ => 0) s.sram.bad phys
  { s with sram := { s.sram with bad := tblSet (fun _ => 0) s.sram.bad phys (min 2 (old + n)) } }

/-- R510: the checks of a read. -/
def State.readCheck (s : State) (phys : Nat) : State × Nat :=
  let bank := phys / 8192
  let c := bank / 16
  let b := tblGet (fun _ => 0) s.sram.bad phys
  if b = 0 then (s, rOk)
  else if b = 1 then (((s.bump (R.SB_ERR_CORR bank)).put (R.SB_CL_FLAGS_CORR_SEEN c) 1).raise 249, rOk)
  else (((s.bump (R.SB_ERR_UNCORR bank)).put (R.SB_CL_FLAGS_UNCORR_SEEN c) 1).raise 250, rIntegrity)

/-- A word is read. -/
def readWord (s : State) (c w : Nat) : WordOut :=
  let p := s.physWord c w
  let t_code := s.readCheck p
  let t := t_code.1
  let code := t_code.2
  ⟨t, code, if code = rOk then le (cellsGet 0 s.sram.data (8 * p) 8) 0 8 else 0⟩

/-- The bytes of a word under byte enables. -/
def mergeWord (old new be : Nat) : List Byte :=
  (List.range 8).map (fun i => BitVec.ofNat 8 (bits (if bit be i then new else old) (8 * i) 8))

/-- A word is written; with any byte enable at 0, by read-modify-write, which poisons an uncorrectable word (R511). -/
def writeWord (s : State) (c w data be : Nat) : WordOut :=
  let p := s.physWord c w
  let bank := p / 8192
  let old := le (cellsGet 0 s.sram.data (8 * p) 8) 0 8
  let store (t : State) : State :=
    { t with sram := { t.sram with data := cellsSet 0 t.sram.data (8 * p) (mergeWord old data be),
                                   bad := tblDel p t.sram.bad } }
  if be % 256 = 255 then ⟨store s, rOk, 0⟩
  else if tblGet (fun _ => 0) s.sram.bad p = 2 then
    ⟨((s.bump (R.SB_ERR_UNCORR bank)).put (R.SB_CL_FLAGS_POISON_SEEN c) 1).raise 251, rIntegrity, 0⟩
  else ⟨store (s.readCheck p).1, rOk, 0⟩

/-! ### Requests of ports and of the network (R501, R503, R507) -/

/-- Cluster words that `n` bytes at cluster byte offset `a` touch. -/
def wordsOf (a n : Nat) : List Nat :=
  if n = 0 then [] else (List.range ((a + n - 1) / 8 - a / 8 + 1)).map (fun i => a / 8 + i)

/-- A read of `n` bytes of a cluster by a requester through a port. -/
def sramRead (s : State) (c a n ident ident2 port : Nat) : State × Nat × List Byte :=
  match s.deniedBank c (wordsOf a n) ident ident2 with
  | some b => (s.sbDenied c b ident port false, rDenied, zeros n)
  | none =>
    let t_code_l := (wordsOf a n).foldl (fun (acc : State × Nat × List Byte) w =>
      let r := readWord acc.1 c w
      (r.next, if acc.2.1 = rOk then r.code else acc.2.1, acc.2.2 ++ toLE 8 r.data)) (s, rOk, [])
    let t := t_code_l.1
    let code := t_code_l.2.1
    let l := t_code_l.2.2
    if code = rOk then (t, rOk, (l.drop (a % 8)).take n) else (t, code, zeros n)

/-- The byte enables of a word within a write of `n` bytes at `a`. -/
def enables (a n w : Nat) : Nat := maskOf ((List.range 8).filter (fun i => decide (a ≤ 8 * w + i) && decide (8 * w + i < a + n)))

/-- A write of bytes to a cluster. -/
def sramWrite (s : State) (c a : Nat) (b : List Byte) (ident ident2 port : Nat) : State × Nat :=
  match s.deniedBank c (wordsOf a b.length) ident ident2 with
  | some k => (s.sbDenied c k ident port true, rDenied)
  | none =>
    (wordsOf a b.length).foldl (fun (acc : State × Nat) w =>
      let v := (List.range 8).foldl (fun x i =>
        if a ≤ 8 * w + i then x + (b.getD (8 * w + i - a) 0).toNat * 2 ^ (8 * i) else x) 0
      let r := writeWord acc.1 c w v (enables a b.length w)
      (r.next, if acc.2 = rOk then r.code else acc.2)) (s, rOk)

/-- R502, R515: cycles that a master port lost count in SB_CL_STALL. -/
def State.stalled (s : State) (c port n : Nat) : State :=
  if port = 0 then s else s.put (R.SB_CL_STALL_CYCLES c (port - 1)) (s.get (R.SB_CL_STALL_CYCLES c (port - 1)) + n)

/-- The banks of a cluster are accessible, and its clock runs (R184, R500). -/
def State.clusterReady (s : State) (c : Nat) : Bool := s.has (R.SB_CL_STATUS_READY c) && s.clustersClocked

/-- R389, R499, R500, R504: a master port 1-3 takes requests from a region that runs, on the line that its active plane enables for it,
when the banks are accessible. -/
def State.portReady (s : State) (c port : Nat) : Bool :=
  s.clusterReady c && s.regionLive (c / 2) && s.portRuns (c / 2) (.sram (c % 2) port)

/-- SM_READ (R501). `stale`: the region has switched meanwhile to a plane that does not enable the port (R504). -/
def execSmRead (c : Fin 96) (port : Fin 3) (addr : BitVec 17) (upset : Fin 3) (stale : Bool) (stalls : BitVec 16)
    (s : State) : Host.Outcome State Fault Refusal :=
  let k := c.val
  if !s.portReady k (port.val + 1) then .next s
  else
    let s := (s.stalled k (port.val + 1) stalls.toNat).wordUpset (s.physWord k addr.toNat) upset.val
    let t_code_d := sramRead s k (8 * addr.toNat) 8 (k / 2) 0xFF (port.val + 1)
    let t := t_code_d.1
    let code := t_code_d.2.1
    let d := t_code_d.2.2
    .next (if stale then t.bump (R.SB_CL_DISCARDS_COUNT k) else t.answer (smPath k (port.val + 1)) code d)

/-- SM_WRITE (R501). -/
def execSmWrite (c : Fin 96) (port : Fin 3) (addr : BitVec 17) (data : BitVec 64) (be : Byte) (upset : Fin 3)
    (stalls : BitVec 16) (s : State) : Host.Outcome State Fault Refusal :=
  let k := c.val
  if !s.portReady k (port.val + 1) then .next s
  else
    let s := (s.stalled k (port.val + 1) stalls.toNat).wordUpset (s.physWord k addr.toNat) upset.val
    match s.deniedBank k [addr.toNat] (k / 2) 0xFF with
    | some b => .next ((s.sbDenied k b (k / 2) (port.val + 1) true).answer (smPath k (port.val + 1)) rDenied [])
    | none =>
      let r := writeWord s k addr.toNat data.toNat be.toNat
      .next (r.next.answer (smPath k (port.val + 1)) r.code [])

/-! ### Circular windows (R513-R518) -/

/-- A window operation: PUSH 0, POP 1, PEEK 2, POKE 3. -/
def windowOp (s : State) (q w op o data be ident ident2 port : Nat) : WordOut :=
  let en := s.has (R.QC_WIN_CFG_EN q w)
  let modulo := s.has (R.QC_WIN_CFG_MODE q w)
  let overwrite := s.has (R.QC_WIN_CFG_POLICY q w)
  let len := s.get (R.QC_WIN_LEN_LEN q w)
  let head := s.get (R.QC_WIN_HEAD_PTR q w)
  let tail := s.get (R.QC_WIN_TAIL_PTR q w)
  let fill := s.get (R.QC_WIN_FILL_FILL q w)
  let base := s.get (R.QC_WIN_BASE_BASE q w)
  let writes := op == 0 || op == 3
  let admitted := s.get (if writes then R.QC_WIN_CFG_PRODUCER q w else R.QC_WIN_CFG_CONSUMER q w)
  let bankOf (t : State) (pos : Nat) : Nat := (t.wordPlace q (base + pos)).1
  let owned (pos : Nat) : Bool := s.bankAdmits (16 * q + bankOf s pos) 0xE0 0xFF
  let done (t : State) : State := t.inc64 (R.QC_OPS_LO q) (R.QC_OPS_HI q) 1
  let deniedAt (pos : Nat) : WordOut := ⟨s.sbDenied q (bankOf s pos) 0xE0 port writes, rDenied, 0⟩
  let empty : WordOut := ⟨s.put (R.QC_WIN_STATUS_EMPTY_SEEN q w) 1, rWindowEmpty, 0⟩
  if !en ∨ (op = 1 ∧ modulo) ∨ len = 0 then ⟨s, rWindowOp, 0⟩
  else if !(admitted == 0xFF || admitted == ident || (ident2 != 0xFF && admitted == ident2)) then
    ⟨s.sbDenied q (bankOf s 0) ident port writes, rDenied, 0⟩
  else if op = 0 then
    if !modulo ∧ fill = len ∧ !overwrite then
      ⟨(s.put (R.QC_WIN_STATUS_FULL_SEEN q w) 1).raise 253, rWindowFull, 0⟩
    else if !owned head then deniedAt head
    else
      let full := !modulo && fill == len
      let r := writeWord s q (base + head) data 255
      let t := (r.next.put (R.QC_WIN_HEAD_PTR q w) ((head + 1) % len)).put (R.QC_WIN_FILL_FILL q w) (min (fill + 1) len)
      let t := if full then ((t.put (R.QC_WIN_TAIL_PTR q w) ((tail + 1) % len)).put (R.QC_WIN_STATUS_OVERWRITE q w) 1).raise 253
        else t
      ⟨done t, rOk, 0⟩
  else if op = 1 then
    if fill = 0 then empty
    else if !owned tail then deniedAt tail
    else
      let r := readWord s q (base + tail)
      ⟨done ((r.next.put (R.QC_WIN_TAIL_PTR q w) ((tail + 1) % len)).put (R.QC_WIN_FILL_FILL q w) (fill - 1)), r.code, r.data⟩
  else
    let pos := if modulo then (head + 2 * len - 1 - o) % len else (tail + o) % len
    if fill ≤ o then empty
    else if !owned pos then deniedAt pos
    else
      let r := if op = 2 then readWord s q (base + pos) else writeWord s q (base + pos) data be
      ⟨if r.code = rOk ∨ op = 2 then done r.next else r.next, r.code, r.data⟩

/-- The physical word that a POP, PEEK or POKE reaches, where bad symbols may show. -/
def State.windowWord (s : State) (q w op o : Nat) : Nat :=
  let len := max 1 (s.get (R.QC_WIN_LEN_LEN q w))
  let head := s.get (R.QC_WIN_HEAD_PTR q w)
  let tail := s.get (R.QC_WIN_TAIL_PTR q w)
  let pos := if op = 1 then tail else if s.has (R.QC_WIN_CFG_MODE q w) then (head + 2 * len - 1 - o % len) % len
    else (tail + o) % len
  s.physWord q (s.get (R.QC_WIN_BASE_BASE q w) + pos)

/-- A window operation from a master port. -/
def smWindow (c port w op o data be upset stalls : Nat) (s : State) : Host.Outcome State Fault Refusal :=
  if !s.portReady c (port + 1) then .next s
  else
    let s := s.stalled c (port + 1) stalls
    let s := if op = 0 then s else s.wordUpset (s.windowWord c w op o) upset
    let r := windowOp s c w op o data be (c / 2) 0xFF (port + 1)
    .next (r.next.answer (smPath c (port + 1)) r.code (if op = 1 ∨ op = 2 then toLE 8 r.data else []))

/-- SM_PUSH (R514). -/
def execSmPush (c : Fin 96) (port : Fin 3) (win : Fin 8) (data : BitVec 64) (stalls : BitVec 16) (s : State) :
    Host.Outcome State Fault Refusal := smWindow c.val port.val win.val 0 0 data.toNat 255 0 stalls.toNat s

/-- SM_POP (R514). -/
def execSmPop (c : Fin 96) (port : Fin 3) (win : Fin 8) (upset : Fin 3) (stalls : BitVec 16) (s : State) :
    Host.Outcome State Fault Refusal := smWindow c.val port.val win.val 1 0 0 255 upset.val stalls.toNat s

/-- SM_PEEK (R514). -/
def execSmPeek (c : Fin 96) (port : Fin 3) (win : Fin 8) (o : BitVec 17) (upset : Fin 3) (stalls : BitVec 16) (s : State) :
    Host.Outcome State Fault Refusal := smWindow c.val port.val win.val 2 o.toNat 0 255 upset.val stalls.toNat s

/-- SM_POKE (R514). -/
def execSmPoke (c : Fin 96) (port : Fin 3) (win : Fin 8) (o : BitVec 17) (data : BitVec 64) (be : Byte) (upset : Fin 3)
    (stalls : BitVec 16) (s : State) : Host.Outcome State Fault Refusal :=
  smWindow c.val port.val win.val 3 o.toNat data.toNat be.toNat upset.val stalls.toNat s

/-- SM_INVALID_OP (R500): SM_OP 3 is answered WINDOW_OP. -/
def execSmInvalidOp (c : Fin 96) (port : Fin 3) (s : State) : Host.Outcome State Fault Refusal :=
  .next (if s.portReady c.val (port.val + 1) then s.answer (smPath c.val (port.val + 1)) rWindowOp [] else s)

/-- R507, R516: of `n` window operations from offset `o` on, the bank of the first word that is not owned for window storage. -/
def State.windowUnowned (s : State) (q w op o n : Nat) : Option Nat :=
  let len := max 1 (s.get (R.QC_WIN_LEN_LEN q w))
  let head := s.get (R.QC_WIN_HEAD_PTR q w)
  let tail := s.get (R.QC_WIN_TAIL_PTR q w)
  let fill := s.get (R.QC_WIN_FILL_FILL q w)
  let pos (i : Nat) : Nat :=
    if op = 0 then (head + i) % len else if op = 1 then (tail + i) % len
    else if s.has (R.QC_WIN_CFG_MODE q w) then (head + 2 * len - 1 - (o + i) % len) % len else (tail + o + i) % len
  let reached := if op = 0 then n else if op = 1 then min n fill else min n (fill - o)
  ((List.range reached).map (fun i => (s.wordPlace q (s.get (R.QC_WIN_BASE_BASE q w) + pos i)).1)).find?
    (fun b => !s.bankAdmits (16 * q + b) 0xE0 0xFF)

/-- R515: a window request of n words over the network, whole or not at all where room or FILL does not cover it, or a bank is not owned
(R507). -/
def windowMulti (s : State) (q w op o : Nat) (words : List Nat) (ident ident2 : Nat) : State × Nat × List Nat :=
  let n := words.length
  let fill := s.get (R.QC_WIN_FILL_FILL q w)
  let len := s.get (R.QC_WIN_LEN_LEN q w)
  let fifo := !s.has (R.QC_WIN_CFG_MODE q w)
  let writes := op == 0 || op == 3
  let unowned := if 1 < n ∧ s.has (R.QC_WIN_CFG_EN q w) ∧ (op ≠ 1 ∨ fifo) then s.windowUnowned q w op o n else none
  let tooBig := decide (1 < n) && s.has (R.QC_WIN_CFG_EN q w) && fifo
  let who := s.get (if writes then R.QC_WIN_CFG_PRODUCER q w else R.QC_WIN_CFG_CONSUMER q w)
  let may := who == 0xFF || who == ident || (ident2 != 0xFF && who == ident2)
  if tooBig && may && op == 0 && !s.has (R.QC_WIN_CFG_POLICY q w) && decide (len < fill + n) then
    ((s.put (R.QC_WIN_STATUS_FULL_SEEN q w) 1).raise 253, rWindowFull, [])
  else if tooBig && may && op == 1 && decide (fill < n) then (s.put (R.QC_WIN_STATUS_EMPTY_SEEN q w) 1, rWindowEmpty, [])
  else match (if may then unowned else none) with
  | some b => (s.sbDenied q b 0xE0 0 writes, rDenied, [])
  | none =>
    (numbered words).foldl (fun (acc : State × Nat × List Nat) iw =>
      if acc.2.1 ≠ rOk ∧ !(acc.2.1 = rIntegrity ∧ op = 1) then acc
      else
        let r := windowOp acc.1 q w op (o + iw.1) iw.2 255 ident ident2 0
        (r.next, if acc.2.1 = rOk then r.code else acc.2.1, acc.2.2 ++ [r.data])) (s, rOk, [])

/-! ### Handovers (R508) -/

/-- The interleave set that holds a bank. -/
def State.bankSet (s : State) (bank : Nat) : List Nat :=
  let k := 2 ^ s.get (R.SB_CFG_ILV bank)
  (List.range k).map (fun i => bank / k * k + i)

/-- Does an edit hand over a bank of a set? -/
def handsOf (set : List Nat) : Edit → Bool
  | .bankOwner b _ => set.contains b
  | _ => false

/-- R508: a handover takes effect on every bank of the set. PENDING stays while a shadow of the gaffer waits for the set. -/
def State.handBank (s : State) (bank owner : Nat) : State :=
  let waits := b2n ((s.gaf.shadow ++ s.gaf.held).any (handsOf (s.bankSet bank)))
  let s := forEach (s.bankSet bank) (fun b t => (t.put (R.SB_OWNER_OWNER b) owner).put (R.SB_OWNER_PENDING b) waits) s
  (s.put (R.SB_CL_FLAGS_HANDOVER_SEEN (bank / 16)) 1).raise 254

/-- R508: a handover is pending on the banks of a set. -/
def State.bankPending (s : State) (bank : Nat) : State := forEach (s.bankSet bank) (fun b t => t.put (R.SB_OWNER_PENDING b) 1) s

/-- R508: the gaffer's handover waits for the next turn. -/
def State.handBankAtTurn (s : State) (bank owner : Nat) : State :=
  let s := s.bankPending bank
  { s with gaf := { s.gaf with shadow := s.gaf.shadow ++ [.bankOwner bank owner] } }

/-- R150, R508: a handover that a command brings, in its burst. -/
def State.handBankLatched (s : State) (bank owner : Nat) : State := (s.bankPending bank).latch [.bankOwner bank owner]

/-- R449, R508: a bank set that nothing holds any more returns to the gaffer: at pip 0 where `now`, else with the shadows. A handover that
waits for it is dropped. -/
def State.handFreed (s : State) (bank : Nat) (now : Bool) : State :=
  let mine := handsOf (s.bankSet bank)
  let s := { s with gaf := { s.gaf with shadow := s.gaf.shadow.filter (fun e => !mine e), held := s.gaf.held.filter (fun e => !mine e) } }
  if s.get (R.SB_OWNER_OWNER bank) = 0xF0 then forEach (s.bankSet bank) (fun b t => t.put (R.SB_OWNER_PENDING b) 0) s
  else if now then s.handBank bank 0xF0 else s.handBankAtTurn bank 0xF0

/-- R498: the first banks of the interleave sets that hold banks. -/
def State.setHeads (s : State) (banks : List Nat) : List Nat :=
  (banks.map (fun b => (s.bankSet b).headD b)).eraseDups

/-- R508: every set of a cluster is handed over. -/
def State.handCluster (s : State) (c owner : Nat) : State :=
  forEach (s.setHeads ((List.range 16).map (16 * c + ·))) (fun b t => t.handBank b owner) s

/-- R509: the Tap Engine columns, which the gaffer alone hands banks to. -/
def columnOwner (v : Nat) : Bool := decide (0x40 ≤ v) && decide (v < 0xA0)

/-- R505: the identities that may own a bank. -/
def ownerValue (v : Nat) : Bool := decide (v < 0x30) || columnOwner v || [0xE0, 0xF0, 0xF1, 0xF2].contains v

/-- A write of SB_OWNER by a requester (R508, R509); a value that R505 does not list is never written. A bank handed to a Tap Engine column
by another than the gaffer is dropped as a denied write (log entry 114). -/
def writeOwner (s : State) (bank owner : Nat) (who : Requester) : State :=
  let id := requesterIdent who
  if id ≠ 0xF0 ∧ (s.get (R.SB_OWNER_OWNER bank) ≠ id ∨ columnOwner owner) then s.sbDenied (bank / 16) (bank % 16) id 0 true
  else if !ownerValue owner then s
  else if id = 0xF0 then s.handBankAtTurn bank owner
  else s.handBank bank owner

/-- SB_OWNER_WRITE (R508). -/
def execSbOwnerWrite (bank : Fin 1536) (owner : Byte) (who : Requester) (s : State) : Host.Outcome State Fault Refusal :=
  .next (writeOwner s bank.val owner.toNat who)

/-! ### Window settings (R517, R518) and the register port (R519) -/

/-- R518: the window settings accept writes only from the gaffer and from the cluster's region. -/
def windowWriter (q : Nat) (who : Requester) : Bool := requesterIdent who == 0xF0 || requesterIdent who == q / 2

/-- R518: a window setting written by another requester is a denied write. -/
def State.windowWriteDenied (s : State) (q w : Nat) (who : Requester) : State :=
  s.sbDenied q (s.get (R.QC_WIN_BASE_BASE q w) / 8192) (requesterIdent who) 0 true

/-- R518: a write of QC_WIN_CFG. The settings change only while EN is 0 (a write that repeats them is not one of them; log
entry 40); setting EN zeroes the pointers. -/
def writeWinCfg (s : State) (q w v : Nat) (who : Requester) : State :=
  if 96 ≤ q then s
  else if !windowWriter q who then s.windowWriteDenied q w who
  else
    let old := s.reg (R.QC_WIN_CFG q w)
    let v := v % 2 ^ 24 - bits v 3 5 * 8
    if bit old 0 then
      let s := if v / 2 = old / 2 then s else s.put (R.QC_WIN_STATUS_CFG_ERR q w) 1
      s.put (R.QC_WIN_CFG_EN q w) (v % 2)
    else
      let s := s.setReg (R.QC_WIN_CFG q w) v
      if bit v 0 then ((s.setReg (R.QC_WIN_HEAD q w) 0).setReg (R.QC_WIN_TAIL q w) 0).setReg (R.QC_WIN_FILL q w) 0 else s

/-- QC_WIN_CFG_WRITE (R518). -/
def execQcWinCfgWrite (q : Fin 128) (win : Fin 8) (v : BitVec 32) (who : Requester) (s : State) :
    Host.Outcome State Fault Refusal := .next (writeWinCfg s q.val win.val v.toNat who)

/-- R513, R518: a write of QC_WIN_BASE. One with which the window would pass the cluster's words is not applied (log entry 114). -/
def writeWinBase (s : State) (q w v : Nat) (who : Requester) : State :=
  if 96 ≤ q then s
  else if !windowWriter q who then s.windowWriteDenied q w who
  else if s.has (R.QC_WIN_CFG_EN q w) then
    (if s.get (R.QC_WIN_BASE_BASE q w) = v % 2 ^ 17 then s else s.put (R.QC_WIN_STATUS_CFG_ERR q w) 1)
  else if 131072 < v % 2 ^ 17 + s.get (R.QC_WIN_LEN_LEN q w) then s.put (R.QC_WIN_STATUS_CFG_ERR q w) 1
  else s.put (R.QC_WIN_BASE_BASE q w) v

/-- Is an edit the length of a window? -/
def lengthOf (k : Nat) : Edit → Bool
  | .windowLen j _ => j == k
  | _ => false

/-- R517: a write of QC_WIN_LEN lands in its shadow, in place of an earlier one of the turn. -/
def writeWinLen (s : State) (q w v : Nat) (who : Requester) : State :=
  if 96 ≤ q then s
  else if !windowWriter q who then s.windowWriteDenied q w who
  else
    { s with gaf := { s.gaf with shadow := s.gaf.shadow.filter (fun e => !lengthOf (8 * q + w) e) ++ [.windowLen (8 * q + w) (v % 2 ^ 18)] } }

/-- R517: a new LEN is applied at pip 0. -/
def State.applyWindowLen (s : State) (q w len : Nat) : State :=
  if len = 0 ∨ 131072 < s.get (R.QC_WIN_BASE_BASE q w) + len then s.put (R.QC_WIN_STATUS_CFG_ERR q w) 1
  else
    let head := s.get (R.QC_WIN_HEAD_PTR q w)
    let tail := s.get (R.QC_WIN_TAIL_PTR q w)
    let fill := s.get (R.QC_WIN_FILL_FILL q w)
    let h := head % len
    let t := tail % len
    let f := (h + len - t) % len
    let f := if f = 0 ∧ len ≤ fill then len else f
    let s := (((s.put (R.QC_WIN_LEN_LEN q w) len).put (R.QC_WIN_HEAD_PTR q w) h).put (R.QC_WIN_TAIL_PTR q w) t).put
      (R.QC_WIN_FILL_FILL q w) f
    if len ≤ head ∨ len ≤ tail then (s.put (R.QC_WIN_STATUS_REWRAP q w) 1).raise 252 else s

/-- R519: a write of QC_PORT_DATA_HI performs a selected PUSH or POKE. -/
def writePortHi (s : State) (q v : Nat) (who : Requester) : State :=
  let s := s.setReg (R.QC_PORT_DATA_HI q) v
  let op := s.get (R.QC_PORT_SEL_OP q)
  if 96 ≤ q ∨ op = 1 ∨ op = 2 then s
  else
    let r := windowOp s q (s.get (R.QC_PORT_SEL_WIN q)) op (s.get (R.QC_PORT_SEL_OFFSET q))
      (s.reg (R.QC_PORT_DATA_LO q) + 2 ^ 32 * (v % 2 ^ 32)) 255 (requesterIdent who) 0xFF 0
    r.next.put (R.QC_PORT_RESULT_CODE q) r.code

/-- QC_PORT_DATA_HI_WRITE (R519). -/
def execQcPortDataHiWrite (q : Fin 128) (v : BitVec 32) (who : Requester) (s : State) : Host.Outcome State Fault Refusal :=
  .next (writePortHi s q.val v.toNat who)

/-- R519: a read of QC_PORT_DATA_LO performs a selected POP or PEEK; the upper half is the snapshot that QC_PORT_DATA_HI
returns. -/
def readPortLo (s : State) (q : Nat) (who : Requester) : State :=
  let op := s.get (R.QC_PORT_SEL_OP q)
  if 96 ≤ q ∨ op = 0 ∨ op = 3 then s
  else
    let r := windowOp s q (s.get (R.QC_PORT_SEL_WIN q)) op (s.get (R.QC_PORT_SEL_OFFSET q)) 0 255 (requesterIdent who) 0xFF 0
    let s := (r.next.put (R.QC_PORT_RESULT_CODE q) r.code).setReg (R.QC_PORT_DATA_LO q) (r.data % 2 ^ 32)
    { s with snaps := tblPut (2 ^ 24 * requesterPath who + R.QC_PORT_DATA_HI q) (BitVec.ofNat 32 (r.data / 2 ^ 32)) s.snaps }

/-- QC_PORT_DATA_LO_READ (R519). -/
def execQcPortDataLoRead (q : Fin 128) (who : Requester) (upset : Fin 3) (s : State) : Host.Outcome State Fault Refusal :=
  let k := q.val
  let op := s.get (R.QC_PORT_SEL_OP k)
  let s := if 96 ≤ k ∨ op = 0 ∨ op = 3 then s
    else s.wordUpset (s.windowWord k (s.get (R.QC_PORT_SEL_WIN k)) op (s.get (R.QC_PORT_SEL_OFFSET k))) upset.val
  let t := readPortLo s k who
  .next (t.answer (requesterPath who) rOk (toLE 4 (t.reg (R.QC_PORT_DATA_LO k))))

/-! ### Scrubbing (R512), zeroing (R509), reset (R522) -/

/-- SRAM_SCRUB_WORD (R512): the bank's next word. SCRUB_PASSES follows the cluster's slowest bank. -/
def execSramScrubWord (bank : Fin 1536) (upset : Fin 3) (s : State) : Host.Outcome State Fault Refusal :=
  let b := bank.val
  let c := b / 16
  if !s.clusterReady c then .next s
  else
    let n := tblGet (fun _ => 0) s.sram.scrubbed b
    let p := 8192 * b + n % 8192
    let s := s.wordUpset p upset.val
    let one := tblGet (fun _ => 0) s.sram.bad p == 1
    let s := (s.readCheck p).1
    let s := { s with sram := { s.sram with bad := if one then tblDel p s.sram.bad else s.sram.bad,
                                            scrubbed := tblPut b (n + 1) s.sram.scrubbed } }
    let slow := (leastPass ((List.range 16).map (fun i => tblGet (fun _ => 0) s.sram.scrubbed (16 * c + i)))) / 8192
    .next (s.put (R.SB_CL_STATUS_SCRUB_PASSES c) slow)
where
  leastPass : List Nat → Nat
    | [] => 0
    | [a] => a
    | a :: t => min a (leastPass t)

/-- R509: banks are zeroed. -/
def State.zeroBanks (s : State) (banks : List Nat) : State :=
  { s with sram := { s.sram with data := s.sram.data.filter (fun e => !banks.contains (e.1 / 65536)),
                                 bad := s.sram.bad.filter (fun e => !banks.contains (e.1 / 8192)) } }

/-- R522: banks and windows return to their states of power-on reset, contents cleared. -/
def State.resetSram (s : State) : State :=
  let s := { s with sram := {} }
  (s.resetRegs 0x280000 0x290000).resetRegs 0x290000 0x2A0000

end Sys2Proof.Machine
end

