-- ==== Sys2Proof/Machine/TapEngine.lean ====
section
/-!
DEFINITION. Machine/TapEngine.lean: the Tap Engines: their instructions, streams, rings, faults and event queue
(R461-R495). An instruction's row is one issue of that instruction by an engine that is RUNNING (R472).
-/

namespace Sys2Proof.Machine

open Sys2Proof

/-! ### Engines, elements, numbers -/

/-- An engine beside its registers. -/
def State.teOf (s : State) (e : Nat) : TapEngine := tblGet (fun _ => {}) s.te.engines e

def State.setTe (s : State) (e : Nat) (t : TapEngine) : State :=
  { s with te := { s.te with engines := tblSet (fun _ => {}) s.te.engines e t } }

/-- A number of `w` bits read as two's complement. -/
def toSigned (w n : Nat) : Int := if n % 2 ^ w < 2 ^ (w - 1) then (n % 2 ^ w : Nat) else (n % 2 ^ w : Nat) - (2 ^ w : Nat)

/-- The `w` low bits of an integer. -/
def ofSigned (w : Nat) (i : Int) : Nat := (i % (2 ^ w : Nat)).toNat

/-- Saturate an integer to `w` bits, two's complement. -/
def saturate (w : Nat) (i : Int) : Int :=
  let m : Int := (2 ^ (w - 1) : Nat)
  if m ≤ i then m - 1 else if i < -m then -m else i

/-- Element i of a RAM (24 bits). -/
def ramGet (m : Tbl Nat) (i : Nat) : Nat := tblGet (fun _ => 0) m i

def ramSet (m : Tbl Nat) (i v : Nat) : Tbl Nat := tblSet (fun _ => 0) m i (v % 2 ^ 24)

/-- Quad q of a RAM. -/
def ramQuad (m : Tbl Nat) (q : Nat) : List Nat := (List.range 4).map (fun i => ramGet m (4 * q + i))

/-- A quad is written whole. -/
def ramSetQuad (m : Tbl Nat) (q : Nat) (l : List Nat) : Tbl Nat :=
  (List.range 4).foldl (fun m i => ramSet m (4 * q + i) (l.getD i 0)) m

/-- R468: the elements of a 96-bit quad. -/
def quadOf (v : Nat) : List Nat := (List.range 4).map (fun i => bits v (24 * i) 24)

/-! ### Address generators (R466) -/

def TapEngine.ag (t : TapEngine) (g : Nat) : AddrGen := t.ags.getD g {}

/-- R466: the quad address that a generator forms. -/
def TapEngine.quad (t : TapEngine) (g : Nat) : Nat := ((t.ag g).base + (t.ag g).ptr) % 128

/-- R466: post-modify: PTR steps modulo LEN. -/
def TapEngine.stepAg (t : TapEngine) (g : Nat) : TapEngine :=
  let a := t.ag g
  let ptr := ((a.ptr : Int) + toSigned 7 a.step) % (a.lenM1 + 1 : Nat)
  { t with ags := t.ags.set g { a with ptr := ptr.toNat } }

/-- Step the generators whose post-modify bits are set; the same generator once (R466). -/
def TapEngine.stepAgs (t : TapEngine) (c : Nat) (cpm : Bool) (d : Nat) (dpm : Bool) : TapEngine :=
  if cpm && dpm && c == d then t.stepAg c
  else
    let t := if cpm then t.stepAg c else t
    if dpm then t.stepAg d else t

/-! ### The event queue (R493, R494) -/

/-- TE_EVQ_HEAD and TE_EVQ_COUNT show the queue. -/
def State.showEvq (s : State) : State :=
  let q := s.te.evq
  let s := s.put R.TE_EVQ_COUNT_COUNT q.length
  match q with
  | [] => s.setReg R.TE_EVQ_HEAD 0
  | v :: _ =>
    (((((s.put R.TE_EVQ_HEAD_ENGINE v.engine).put R.TE_EVQ_HEAD_PC v.pc).put R.TE_EVQ_HEAD_PAGE v.page).put
      R.TE_EVQ_HEAD_KIND v.kind).put R.TE_EVQ_HEAD_OVERRUN (b2n v.overrun)).put R.TE_EVQ_HEAD_VALID 1

/-- R494: an entry for engine e (KIND 0 MATCH, 1 ACC_OVF, 2 MOV_SAT, 3 FAULT) at PC; with 64 held it is lost. -/
def State.teEvent (s : State) (e pc kind : Nat) : State :=
  let s := s.raise (256 + kind)
  if 64 ≤ s.te.evq.length then ({ s with te := { s.te with lost := true } }).raise 260
  else
    let v : TeEvent := ⟨e, pc, s.get (R.TE_STATUS_PAGE e), kind, s.te.lost⟩
    ({ s with te := { s.te with evq := s.te.evq ++ [v], lost := false } }).showEvq

/-- TE_EVQ_POP (R493). -/
def popEvq (s : State) : State := ({ s with te := { s.te with evq := s.te.evq.drop 1 } }).showEvq

def execTeEvqPop (s : State) : Host.Outcome State Fault Refusal := .next (popEvq s)

/-! ### States, pages and faults (R472-R474, R490) -/

def teIdle : Nat := 0
def teRunning : Nat := 1
def teStalled : Nat := 2
def teHalted : Nat := 3
def teFault : Nat := 4

def State.teState (s : State) (e : Nat) : Nat := s.get (R.TE_STATUS_STATE e)
def State.setTeState (s : State) (e v : Nat) : State := s.put (R.TE_STATUS_STATE e) v

/-- An engine runs: work for its column opens a clock that was gated automatically (R721). Unit 48 + column of CK_GATED. -/
def State.teRuns (s : State) (e : Nat) : State :=
  (s.setTeState e teRunning).openClock (48 + e / 16)
def State.tePc (s : State) (e : Nat) : Nat := s.get (R.TE_STATUS_PC e)

/-- R490: a fault: the faulting instruction has no effect. -/
def State.teFaults (s : State) (e cause : Nat) : State :=
  let pc := s.tePc e
  let s := ((s.setTeState e teFault).put (R.TE_FAULT_PC e) pc).put (R.TE_FAULT_CAUSE e) cause
  let s := s.setTe e { s.teOf e with wait := none, stopping := false }
  s.teEvent e pc 3

/-- R474, R684: the instruction word at a PC of the page that an engine runs, when State holds its region's image. -/
def State.teWord (s : State) (e pc : Nat) : Option Nat :=
  match tblFind (e / 32 * 8 + s.get (R.TE_STATUS_PAGE e)) s.fab.images with
  | none => none
  | some im =>
    let at_ (b : Nat) : Byte :=
      (tblGet (fun _ => ([] : List Byte)) im.frames (14208 + 6 * (e % 32) + b / 256)).getD (b % 256) 0
    some (le ((List.range 6).map (fun i => at_ (6 * pc + i))) 0 6)

/-- TE_STATUS.DEPTH shows the loop stack. -/
def State.setLoops (s : State) (e : Nat) (l : List TeLoop) : State :=
  (s.setTe e { s.teOf e with loops := l }).put (R.TE_STATUS_DEPTH e) l.length

/-- R488: the smallest s in 0..31 with M < 2^(23 + s), or 31. -/
def blockScale (m : Nat) : Nat := ((List.range 32).find? (fun k => decide (m < 2 ^ (23 + k)))).getD 31

/-- R488, R489: a block ends. -/
def State.endBlock (s : State) (e : Nat) : State :=
  let t := s.teOf e
  let s := if s.has (R.TE_STATUS_AUTO e) && t.moved then s.put (R.TE_STATUS_S e) (blockScale t.bmax) else s
  s.setTe e { t with bmax := 0, moved := false, first0 := true, first1 := true }

/-- R483: is an ENDLOOP at `pc`? Where State does not hold the page, the top entry's END is one. -/
def State.endloopAt (s : State) (e pc : Nat) : Option Nat :=
  match s.teWord e pc with
  | some w => if bits w 44 4 = 7 then some (bits w 0 44) else none
  | none => match (s.teOf e).loops with
    | l :: _ => if l.stop = pc then some 0 else none
    | [] => none

/-- R483: the ENDLOOPs that the PC has reached act, innermost first (at most `fuel`). -/
def settle (fuel : Nat) (s : State) (e : Nat) : State :=
  match fuel with
  | 0 => s
  | fuel + 1 =>
    let pc := s.tePc e
    match s.endloopAt e pc with
    | none => s
    | some field =>
      if field ≠ 0 then s.teFaults e 2
      else
        match (s.teOf e).loops with
        | [] => s.teFaults e 4
        | l :: rest =>
          if l.stop ≠ pc then s.teFaults e 4
          else
            let s := if rest.isEmpty then s.endBlock e else s
            if l.count ≤ 1 then settle fuel ((s.setLoops e rest).put (R.TE_STATUS_PC e) (pc + 1)) e
            else settle fuel ((s.setLoops e ({ l with count := l.count - 1 } :: rest)).put (R.TE_STATUS_PC e) l.start) e

/-- R473: a page entry of engine e. -/
def enterPage (s : State) (e : Nat) : State :=
  let page := s.get (R.CF_CTX_STATE_ACTIVE (e / 32))
  let t := { s.teOf e with loops := [], wrap := false, conv := false, bmax := 0, moved := false, wait := none, restart := false }
  let s := s.setTe e
    { t with stage0 := [0, 0, 0, 0], stage1 := [0, 0, 0, 0], first0 := true, first1 := true, stopping := false }
  let s := ((((s.put (R.TE_STATUS_PC e) 0).put (R.TE_STATUS_DEPTH e) 0).put (R.TE_STATUS_AUTO e) 0).put
    (R.TE_STATUS_S e) 0).put (R.TE_STATUS_CMP e) 0
  let s := ((s.put (R.TE_FAULT_CAUSE e) 0).put (R.TE_STATUS_PAGE e) page).teRuns e
  settle 8 s e

/-- The engines of a region. -/
def regionEngines (r : Nat) : List Nat := (List.range 32).map (32 * r + ·)

/-- R472: an engine becomes IDLE. -/
def State.idleTe (s : State) (e : Nat) : State :=
  (s.setTeState e teIdle).setTe e { s.teOf e with wait := none, stopping := false, restart := false }

/-- R472: the engines of a region that does not run are IDLE. -/
def State.idleEngines (s : State) (r : Nat) : State :=
  forEach (regionEngines r) (fun e t => if t.teState e = teIdle then t else t.idleTe e) s

/-- R472: is an engine handed to self-test? Its column is unit 144 + column. -/
def State.engineTested (s : State) (e : Nat) : Bool := s.bist.slice.any (fun sl => sl.handed && sl.unit == 144 + e / 16)

/-- R473, R387: the engines of a region enter their pages; those handed to self-test stay IDLE. -/
def State.enterPages (s : State) (r : Nat) : State :=
  forEach ((regionEngines r).filter (fun e => !s.engineTested e)) (fun e t => enterPage t e) s

/-- R491: the gaffer zeroes an engine and disables its rings. -/
def State.zeroEngine (s : State) (e : Nat) : State :=
  let s := ({ s with te := { s.te with engines := tblDel e s.te.engines } }).put (R.TE_STATUS_ACC_OVF e) 0
  let s := ((s.put (R.TE_STATUS_MOV_SAT e) 0).put (R.TE_STATUS_CMP e) 0).put (R.TE_NIN_CTRL_EN e) 0
  s.setReg (R.TE_NOUT_CTRL e) (bits (s.reg (R.TE_NOUT_CTRL e)) 0 31)

/-- R491: in LEHR the C RAM and the D RAM are retained; all other engine state is lost. -/
def State.lehrEngines (s : State) : State :=
  let keep := (s.te.engines.map (fun (e, t) => (e, ({ c := t.c, d := t.d } : TapEngine)))).filter
    (fun e => decide (e.2 ≠ ({} : TapEngine)))
  let s := { s with te := { s.te with engines := keep, evq := [], lost := false } }
  (s.resetRegs 0x300000 0x318000).showEvq

/-! ### Issue -/

/-- R395, R462, R184, R720, R731: an engine issues only while its column's line has edges and its region is in no dead cycle. -/
def State.engineClocked (s : State) (e : Nat) : Bool :=
  s.regionClocked && !s.inDead (e / 32) && !s.forceGated (48 + e / 16) && s.portRuns (e / 32) (.engines (e % 32 / 16))

/-- R395, R473: an engine enters its page at the next edge of its clock. -/
def State.enterAtEdge (s : State) (e : Nat) : State :=
  if s.engineClocked e then enterPage s e else s.setTe e { s.teOf e with restart := true }

/-- R395: the engines of a region enter their pages at their first edges after a switch. -/
def State.enterPagesAtEdge (s : State) (r : Nat) : State :=
  forEach ((regionEngines r).filter (fun e => !s.engineTested e)) (fun e t => t.enterAtEdge e) s

/-- The page entries that wait take place where the engine's clock has edges again. -/
def State.entriesDue (s : State) : State :=
  forEach ((s.te.engines.filter (fun x => x.2.restart && s.engineClocked x.1)).map Prod.fst) (fun e t => enterPage t e) s

/-- An instruction is complete: it is counted, the PC goes on to `pc`, ENDLOOPs act, a waiting STOP acts. -/
def issued (s : State) (e pc : Nat) : State :=
  let s := settle 8 ((s.wrapInc (R.TE_ISSUED_COUNT e)).put (R.TE_STATUS_PC e) pc) e
  if (s.teOf e).stopping ∧ s.teState e = teRunning then
    (s.setTe e { s.teOf e with stopping := false }).setTeState e teHalted
  else s

/-- The engine waits: a stream condition (port 0 IN0, 1 IN1, 2 OUT0, 3 OUT1; quads that must be held, or free) is not met
(R467, R482). -/
def stall (s : State) (e port n : Nat) : State :=
  (s.setTe e { s.teOf e with wait := some (port, n) }).setTeState e teStalled

/-- R482: is a stream condition met? -/
def TapEngine.streamMet (t : TapEngine) (port n : Nat) : Bool :=
  if port = 0 then decide (n ≤ t.in0.length) else if port = 1 then decide (n ≤ t.in1.length)
  else if port = 2 then decide (t.out0.length + n ≤ 16) else decide (t.out1.length + n ≤ 16)

/-- The quads that the fabric has accepted from OUT0 (R468) leave its FIFO. A region that does not run takes none (R389), nor one whose
port's line stands. -/
def State.taken (s : State) (e n : Nat) : State :=
  if s.regionLive (e / 32) && s.portRuns (e / 32) (.streamOut (e % 32)) then s.setTe e { s.teOf e with out0 := (s.teOf e).out0.drop n } else s

/-- An instruction as it is decoded: defective (R476), the stream it waits on, whether it reads a RAM, what it does. -/
structure TeOp where
  bad : Bool
  needs : Option (Nat × Nat) := none
  readsRam : Bool := false
  act : State → State

/-- R472, R476, R465, R467: engine e issues an instruction with word `op * 2^44 + w`. The row has an effect only where the
engine is RUNNING, its clock runs and, where State holds its page, that word is the next. -/
def issue (e op w : Nat) (cond : IssueCond) (o : State → TeOp) (s : State) : Host.Outcome State Fault Refusal :=
  if s.teState e ≠ teRunning ∨ !s.engineClocked e then .next s
  else if (s.teWord e (s.tePc e)).any (fun x => decide (x ≠ 2 ^ 44 * op + w)) then .next s
  else
    let s := s.taken e cond.taken.toNat
    let i := o s
    if i.bad then .next (s.teFaults e 2)
    else
      match i.needs with
      | some (port, n) =>
        if !(s.teOf e).streamMet port n then .next (stall s e port n)
        else if i.readsRam && cond.ramUe then .next (s.teFaults e 6)
        else .next (i.act s)
      | none => if i.readsRam && cond.ramUe then .next (s.teFaults e 6) else .next (i.act s)

/-- The next PC, modulo 256 (R474). -/
def State.nextPc (s : State) (e : Nat) : Nat := (s.tePc e + 1) % 256

/-! ### Accumulators (R486) -/

def TapEngine.accOf (t : TapEngine) (i : Nat) : Int := toSigned 64 (t.acc.getD i 0)

/-- An ACC_OVF bit is set; its 0-to-1 change raises EV_TE_ACC_OVF (R486). -/
def State.accOvf (s : State) (e i : Nat) : State :=
  let f := s.get (R.TE_STATUS_ACC_OVF e)
  if bit f i then s else (s.put (R.TE_STATUS_ACC_OVF e) (setBit f i)).teEvent e (s.tePc e) 1

/-- R486: accumulator i takes an exact result. -/
def State.setAcc (s : State) (e i : Nat) (v : Int) : State :=
  let t := s.teOf e
  let x := if t.wrap then v else saturate 64 v
  let s := s.setTe e { t with acc := t.acc.set i (ofSigned 64 x) }
  if saturate 64 v = v then s else s.accOvf e i

/-! ### HALT, NOP and the opcodes 0xC-0xF -/

/-- HALT (R475): the engine enters HALTED. -/
def halt (s : State) (e : Nat) : State :=
  ((s.wrapInc (R.TE_ISSUED_COUNT e)).put (R.TE_STATUS_PC e) (s.nextPc e)).setTeState e teHalted

def execHalt (e : Fin 1536) (w : BitVec 44) (cond : IssueCond) (s : State) : Host.Outcome State Fault Refusal :=
  issue e.val 0 w.toNat cond (fun _ => { bad := w.toNat != 0, act := fun s => halt s e.val }) s

/-- NOP (R475). -/
def execNop (e : Fin 1536) (w : BitVec 44) (cond : IssueCond) (s : State) : Host.Outcome State Fault Refusal :=
  issue e.val 11 w.toNat cond (fun _ => { bad := w.toNat != 0, act := fun s => issued s e.val (s.nextPc e.val) }) s

/-- R475, R490: opcodes 0xC-0xF fault ILLEGAL. -/
def execIllegalOpcode (e : Fin 1536) (op : Fin 4) (w : BitVec 44) (s : State) : Host.Outcome State Fault Refusal :=
  if s.teState e.val ≠ teRunning ∨ !s.engineClocked e.val then .next s
  else if (s.teWord e.val (s.tePc e.val)).any (fun x => decide (x ≠ 2 ^ 44 * (12 + op.val) + w.toNat)) then .next s
  else .next (s.teFaults e.val 1)

/-! ### MAC and TAPMV (R477, R478) -/

/-- R477: the products, and the accumulator updates. -/
def accumulate (s : State) (e w : Nat) (c x : List Nat) : State :=
  let p := (List.range 4).map (fun i => toSigned 24 (c.getD i 0) * toSigned 24 (x.getD i 0))
  let sign : Int := if bit w 39 then -1 else 1
  let base (i : Nat) : Int := if bit w 40 then 0 else (s.teOf e).accOf i
  if bit w 41 then
    let a := bits w 42 2
    s.setAcc e a (base a + sign * p.foldl (· + ·) 0)
  else
    let v := (List.range 4).map (fun i => base i + sign * p.getD i 0)
    iterate 4 (fun i t => t.setAcc e i (v.getD i 0)) s

/-- R477: reserved bits, and ACC where DOT is 0. -/
def macBad (w : Nat) : Bool := bits w 0 31 != 0 || (!bit w 41 && bits w 42 2 != 0)

/-- MAC (R477). -/
def mac (s : State) (e w : Nat) : State :=
  let t := s.teOf e
  let c := ramQuad t.c (t.quad (bits w 37 2))
  let src := bits w 31 2
  let x := if src = 0 then ramQuad t.d (t.quad (bits w 35 2)) else if src = 1 then t.in0.headD [] else if src = 2 then t.in1.headD []
    else List.replicate 4 t.tapc
  let t := if src = 1 then { t with in0 := t.in0.drop 1 } else if src = 2 then { t with in1 := t.in1.drop 1 } else t
  let s := s.setTe e (t.stepAgs (bits w 37 2) (bit w 34) (bits w 35 2) (bit w 33))
  issued (accumulate s e w c x) e (s.nextPc e)

def execMac (e : Fin 1536) (w : BitVec 44) (cond : IssueCond) (s : State) : Host.Outcome State Fault Refusal :=
  let n := w.toNat
  issue e.val 1 n cond (fun _ => {
    bad := macBad n, readsRam := true,
    needs := if bits n 31 2 = 1 then some (0, 1) else if bits n 31 2 = 2 then some (1, 1) else none,
    act := fun s => mac s e.val n }) s

/-- TAPMV (R478). -/
def tapmv (s : State) (e w : Nat) : State :=
  let t := s.teOf e
  let c := ramQuad t.c (t.quad (bits w 37 2))
  let q := t.quad (bits w 35 2)
  let d := ramQuad t.d q
  let x := t.tapc :: d.take 3
  let t := { t with d := ramSetQuad t.d q x, tapc := d.getD 3 0 }
  let s := s.setTe e (t.stepAgs (bits w 37 2) (bit w 34) (bits w 35 2) (bit w 33))
  issued (accumulate s e w c x) e (s.nextPc e)

def execTapmv (e : Fin 1536) (w : BitVec 44) (cond : IssueCond) (s : State) : Host.Outcome State Fault Refusal :=
  let n := w.toNat
  issue e.val 2 n cond (fun _ => { bad := macBad n || bits n 31 2 != 0, readsRam := true, act := fun s => tapmv s e.val n }) s

/-! ### MOV (R479, R487-R489) -/

/-- R487: v shifted right by S under RND. -/
def shiftRound (conv : Bool) (v : Int) (k : Nat) : Int :=
  let d : Int := (2 ^ k : Nat)
  let q := v.fdiv d
  let r := v - q * d
  if !conv ∨ k = 0 then q
  else if 2 * r < d then q else if d < 2 * r then q + 1 else if q % 2 = 0 then q else q + 1

/-- MOV_SAT is set; its 0-to-1 change raises EV_TE_MOV_SAT (R487). -/
def State.movSat (s : State) (e : Nat) : State :=
  if s.has (R.TE_STATUS_MOV_SAT e) then s else (s.put (R.TE_STATUS_MOV_SAT e) 1).teEvent e (s.tePc e) 2

/-- R479, R489: the staging quad of output `port` is pushed and cleared. -/
def pushStage (s : State) (e port : Nat) : State :=
  let t := s.teOf e
  let k := s.get (R.TE_STATUS_S e)
  if port = 0 then
    s.setTe e { t with out0 := t.out0 ++ [⟨t.stage0, k, t.first0⟩], stage0 := [0, 0, 0, 0], first0 := false }
  else s.setTe e { t with out1 := t.out1 ++ [⟨t.stage1, k, t.first1⟩], stage1 := [0, 0, 0, 0], first1 := false }

/-- MOV (R479, R487, R488). -/
def mov (s : State) (e w : Nat) : State :=
  let t := s.teOf e
  let src := bits w 42 2
  let dst := bits w 39 3
  let g := bits w 37 2
  let lane := bits w 34 2
  let raw := bit w 31
  let v := t.accOf src
  let r := if raw then v else shiftRound t.conv v (s.get (R.TE_STATUS_S e))
  let x := ofSigned 24 (saturate 24 r)
  let i := 4 * t.quad g + lane
  let t := if dst = 0 then { t with stage0 := t.stage0.set lane x } else if dst = 1 then { t with stage1 := t.stage1.set lane x }
    else if dst = 2 then { t with c := ramSet t.c i x } else if dst = 3 then { t with d := ramSet t.d i x } else { t with tapc := x }
  let t := if (dst = 2 ∨ dst = 3) ∧ bit w 36 then t.stepAg g else t
  let t := if bit w 32 then { t with acc := t.acc.set src 0 } else t
  let m := if 0 ≤ v then v.toNat else (-1 - v).toNat
  let t := if !raw then { t with bmax := max t.bmax m, moved := true } else t
  let s := s.setTe e t
  let s := if bit w 33 then pushStage s e dst else s
  let s := if saturate 24 r = r then s else s.movSat e
  issued s e (s.nextPc e)

def execMov (e : Fin 1536) (w : BitVec 44) (cond : IssueCond) (s : State) : Host.Outcome State Fault Refusal :=
  let n := w.toNat
  let dst := bits n 39 3
  issue e.val 3 n cond (fun _ => {
    bad := bits n 0 31 != 0 || decide (4 < dst) || (bit n 33 && decide (1 < dst)),
    needs := if bit n 33 then some (2 + dst, 1) else none,
    act := fun s => mov s e.val n }) s

/-! ### LD and ST (R480, R481) -/

/-- R480, R476: the defects of an LD word. -/
def ldBad (t : TapEngine) (w : Nat) : Bool :=
  let tgt := bits w 40 4
  let src := bits w 37 3
  let imm := bits w 0 32
  decide (14 < tgt) || decide (4 < src) || (src != 0 && imm != 0) || (decide (4 < tgt) && src != 0)
    || (decide (5 ≤ tgt) && decide (tgt ≤ 8) && decide ((t.ag (tgt - 5)).lenM1 < imm % 128))
    || (decide (9 ≤ tgt) && decide (tgt ≤ 12) && bits imm 21 11 != 0)
    || (tgt == 13 && bits imm 8 24 != 0) || (tgt == 14 && bits imm 6 26 != 0)

/-- The source of an LD as a signed number and its generator or stream after the read. -/
def ldSource (t : TapEngine) (w : Nat) : Int × TapEngine :=
  let src := bits w 37 3
  let g := bits w 35 2
  let el := bits w 32 2
  let i := 4 * t.quad g + el
  if src = 0 then (toSigned 32 (bits w 0 32), t)
  else if src = 1 then (toSigned 24 (ramGet t.c i), if bit w 34 then t.stepAg g else t)
  else if src = 2 then (toSigned 24 (ramGet t.d i), if bit w 34 then t.stepAg g else t)
  else if src = 3 then (toSigned 24 ((t.in0.headD []).getD el 0), if bit w 34 then { t with in0 := t.in0.drop 1 } else t)
  else (toSigned 24 ((t.in1.headD []).getD el 0), if bit w 34 then { t with in1 := t.in1.drop 1 } else t)

/-- LD (R480). -/
def ld (s : State) (e w : Nat) : State :=
  let tgt := bits w 40 4
  let imm := bits w 0 32
  let v_t := ldSource (s.teOf e) w
  let v := v_t.1
  let t := v_t.2
  let s :=
    if tgt < 4 then s.setTe e { t with acc := t.acc.set tgt (ofSigned 64 v) }
    else if tgt = 4 then s.setTe e { t with tapc := ofSigned 24 v }
    else if tgt ≤ 8 then s.setTe e { t with ags := t.ags.set (tgt - 5) { t.ag (tgt - 5) with ptr := imm % 128 } }
    else if tgt ≤ 12 then
      s.setTe e { t with ags := t.ags.set (tgt - 9) ⟨bits imm 0 7, bits imm 7 7, bits imm 14 7, 0⟩ }
    else if tgt = 13 then
      let s := s.setTe e { t with wrap := bit imm 0, conv := bit imm 1 }
      (s.put (R.TE_STATUS_AUTO e) (bits imm 2 1)).put (R.TE_STATUS_S e) (bits imm 3 5)
    else
      let s := (s.setTe e t).put (R.TE_STATUS_ACC_OVF e)
        (maskOf ((List.range 4).filter (fun i => bit (s.get (R.TE_STATUS_ACC_OVF e)) i && !bit imm i)))
      let s := if bit imm 4 then s.put (R.TE_STATUS_MOV_SAT e) 0 else s
      if bit imm 5 then s.put (R.TE_STATUS_CMP e) 0 else s
  issued s e (s.nextPc e)

def execLd (e : Fin 1536) (w : BitVec 44) (cond : IssueCond) (s : State) : Host.Outcome State Fault Refusal :=
  let n := w.toNat
  let src := bits n 37 3
  issue e.val 4 n cond (fun s => {
    bad := ldBad (s.teOf e.val) n, readsRam := src == 1 || src == 2,
    needs := if src = 3 then some (0, 1) else if src = 4 then some (1, 1) else none,
    act := fun s => ld s e.val n }) s

/-- ST (R481). -/
def st (s : State) (e w : Nat) : State :=
  let t := s.teOf e
  let g := bits w 41 2
  let src := bits w 37 3
  let q := t.quad g
  let i := 4 * q + bits w 35 2
  let write (m : Tbl Nat) : Tbl Nat :=
    if src = 0 then ramSetQuad m q (t.in0.headD []) else if src = 1 then ramSetQuad m q (t.in1.headD [])
    else if src = 2 then ramSet m i t.tapc else if src = 3 then ramSet m i (bits w 0 24) else ramSetQuad m q []
  let t := if bit w 43 then { t with d := write t.d } else { t with c := write t.c }
  let t := if src = 0 then { t with in0 := t.in0.drop 1 } else if src = 1 then { t with in1 := t.in1.drop 1 } else t
  let s := s.setTe e (if bit w 40 then t.stepAg g else t)
  issued s e (s.nextPc e)

def execSt (e : Fin 1536) (w : BitVec 44) (cond : IssueCond) (s : State) : Host.Outcome State Fault Refusal :=
  let n := w.toNat
  let src := bits n 37 3
  issue e.val 5 n cond (fun _ => {
    bad := decide (4 < src) || bits n 24 11 != 0 || (src != 3 && bits n 0 24 != 0),
    needs := if src = 0 then some (0, 1) else if src = 1 then some (1, 1) else none,
    act := fun s => st s e.val n }) s

/-! ### LOOP, BR, SYNC, EV (R482-R484) -/

/-- LOOP (R482, R483). -/
def execLoop (e : Fin 1536) (w : BitVec 44) (cond : IssueCond) (s : State) : Host.Outcome State Fault Refusal :=
  let n := w.toNat
  let count := bits n 28 16
  let stop := bits n 20 8
  issue e.val 6 n cond (fun s => {
    bad := bits n 0 20 != 0 || count == 0 || decide (stop ≤ s.tePc e.val + 1),
    act := fun s =>
      let t := s.teOf e.val
      if 3 ≤ t.loops.length then s.teFaults e.val 3
      else issued (s.setLoops e.val (⟨s.nextPc e.val, stop, count⟩ :: t.loops)) e.val (s.nextPc e.val) }) s

/-- R482: is a branch taken? -/
def branchTaken (s : State) (e w : Nat) : Bool :=
  let t := s.teOf e
  let a := t.accOf (bits w 30 2)
  match bits w 40 4 with
  | 0 => true
  | 1 => decide (a < 0)
  | 2 => decide (0 ≤ a)
  | 3 => decide (a = 0)
  | 4 => decide (a ≠ 0)
  | 5 => t.in0.isEmpty
  | 6 => !t.in0.isEmpty
  | 7 => t.in1.isEmpty
  | 8 => !t.in1.isEmpty
  | 9 => decide (16 ≤ t.out0.length)
  | 10 => decide (16 ≤ t.out1.length)
  | 11 => s.has (R.TE_STATUS_CMP e)
  | 12 => !s.has (R.TE_STATUS_CMP e)
  | _ => bit (s.get (R.TE_STATUS_ACC_OVF e)) (bits w 30 2)

/-- BR (R482, R484): loop entries whose body does not contain the target are removed. -/
def execBr (e : Fin 1536) (w : BitVec 44) (cond : IssueCond) (s : State) : Host.Outcome State Fault Refusal :=
  let n := w.toNat
  let target := bits n 32 8
  issue e.val 8 n cond (fun _ => {
    bad := bits n 0 30 != 0 || decide (13 < bits n 40 4),
    act := fun s =>
      if branchTaken s e.val n then
        let keep := (s.teOf e.val).loops.filter (fun l => decide (l.start ≤ target) && decide (target ≤ l.stop))
        issued (s.setLoops e.val keep) e.val target
      else issued s e.val (s.nextPc e.val) }) s

/-- SYNC (R482). -/
def execSync (e : Fin 1536) (w : BitVec 44) (cond : IssueCond) (s : State) : Host.Outcome State Fault Refusal :=
  let n := w.toNat
  let port := bits n 41 3
  issue e.val 9 n cond (fun _ => {
    bad := bits n 0 37 != 0 || decide (3 < port),
    needs := some (port, bits n 37 4 + 1),
    act := fun s => issued s e.val (s.nextPc e.val) }) s

/-- R482: the comparison of EV. -/
def evTrue (a : Int) (w : Nat) : Bool :=
  let t := toSigned 32 (bits w 0 32) * (2 ^ bits w 32 5 : Nat)
  match bits w 39 3 with
  | 0 => decide (t < a)
  | 1 => decide (a < t)
  | 2 => decide (t < (a.natAbs : Int))
  | 3 => decide (a = t)
  | _ => decide (a ≠ t)

/-- EV (R482). -/
def execEv (e : Fin 1536) (w : BitVec 44) (cond : IssueCond) (s : State) : Host.Outcome State Fault Refusal :=
  let n := w.toNat
  issue e.val 10 n cond (fun _ => {
    bad := decide (4 < bits n 39 3),
    act := fun s =>
      let r := evTrue ((s.teOf e.val).accOf (bits n 42 2)) n
      let s := if bit n 37 then s.put (R.TE_STATUS_CMP e.val) (b2n r) else s
      let s := if r && bit n 38 then s.teEvent e.val (s.tePc e.val) 0 else s
      issued s e.val (s.nextPc e.val) }) s

/-! ### Streams and rings (R467-R471) -/

/-- TE_STREAM_QUAD_IN (R468): a quad is accepted into IN0, where its FIFO has room, its region runs (R389, R691) and the port's line has
edges. -/
def execTeStreamQuadIn (e : Fin 1536) (quad : BitVec 96) (s : State) : Host.Outcome State Fault Refusal :=
  let t := s.teOf e.val
  if s.regionLive (e.val / 32) ∧ s.portRuns (e.val / 32) (.streamIn (e.val % 32)) ∧ t.in0.length < 16 then
    .next (s.setTe e.val { t with in0 := t.in0 ++ [quadOf quad.toNat] })
  else .next s

/-- TE_STALL_RELEASE (R472): the condition that a STALLED engine waits for is met once the fabric has accepted `taken` quads
from OUT0; the cycles waited count in TE_STALLS (R485). -/
def execTeStallRelease (e : Fin 1536) (taken : BitVec 5) (cycles : BitVec 32) (s : State) : Host.Outcome State Fault Refusal :=
  let k := e.val
  if s.teState k ≠ teStalled ∨ !s.engineClocked k then .next s
  else
    let s := (s.taken k taken.toNat).put (R.TE_STALLS_COUNT k) (s.get (R.TE_STALLS_COUNT k) + cycles.toNat)
    let t := s.teOf k
    if t.wait.all (fun c => t.streamMet c.1 c.2) then
      .next ((s.setTe k { t with wait := none }).teRuns k)
    else .next s

/-- R471: a failed ring access makes the engine fault; an engine that is IDLE or in FAULT already stays so. -/
def streamErr (s : State) (e : Nat) : State :=
  if s.teState e = teIdle ∨ s.teState e = teFault then s else s.teFaults e 5

/-- R471, R590: does the region's NoC endpoint carry ring traffic of an engine? -/
def State.ringOpen (s : State) (e : Nat) : Bool :=
  let st := s.get (R.NC_EP_STATUS_STATE (regionEndpoint (e / 32)))
  st == 1 || st == 2

/-- R469, R526: a ring lies in stack memory or in an SRAM cluster: the endpoint of a ring address, if it has one. -/
def State.ringEndpoint (s : State) (a : Nat) : Option Nat :=
  if a + 16 ≤ 0x10000000 * s.segments then some (channelEndpoint (s.channelOf a))
  else if 0x4000000000 ≤ a ∧ a < 0x4000000000 + 96 * 0x100000 then some (clusterEndpoint ((a - 0x4000000000) / 0x100000))
  else none

/-- R471, R567: the identity of an engine's column. -/
def columnIdent (e : Nat) : Nat := 0x40 + 2 * (e / 32) + e % 32 / 16

/-- R471, R584: the packet of a ring access: it goes under the region's reservations with the region's identity and, as its second, that
of its column. PRI up to PRI_MAX, and the tag, are free values (log entry 115). -/
def State.ringPacket (s : State) (e dst a : Nat) (kind : PacketKind) (data : List Byte) : Packet :=
  let src := regionEndpoint (e / 32)
  { kind := kind, pri := s.priOf src (s.peekFree % 4), rsv := s.reserved src dst 16, src := src, dst := dst, dev := s.devId,
    plane := s.get (R.CF_CTX_STATE_ACTIVE (e / 32)), tag := s.peekFree / 4 % 2048, ident := e / 32, ident2 := columnIdent e, len := 16,
    addr := 2 ^ 40 * s.devId + a, data := data }

/-- R471, R590, R591: a ring access goes out; the code with which it fails before its target performs it, or none. -/
def State.ringSend (s : State) (e a : Nat) (kind : PacketKind) (data : List Byte) : State × Option Nat :=
  match s.ringEndpoint a with
  | none => (s, some rUnmapped)
  | some dst =>
    let st := s.get (R.NC_EP_STATUS_STATE dst)
    if st = 0 then (s, some rUnmapped)
    else
      let t := (s.inject (s.ringPacket e dst a kind data)).drawn
      if st = 1 then (t, none) else (t.bump (R.NC_EP_SUNK_REQUESTS dst), some rIsolated)

/-- R469, R471, R597, R598: a ring read. It goes through the line cache of the region's NoC port. -/
def ringRead (s : State) (e a : Nat) : State × Nat × List Byte :=
  match (if s.inWindow (s.globalOf a) then s.cacheHit (e / 32) (s.globalOf a) 16 else none) with
  | some x => (x.1, rOk, x.2)
  | none =>
    match s.ringSend e a .read [] with
    | (s, some code) => (s, code, [])
    | (s, none) =>
      if a < 0x4000000000 then
        let x := stackRead s (e / 32) a 16
        (if x.2.1 = rOk then x.1.shareLines (e / 32) (s.globalOf a) 16 else x.1, x.2)
      else sramRead s ((a - 0x4000000000) / 0x100000) (a % 0x100000) 16 (e / 32) (columnIdent e) 0

/-- R469, R471, R598: a ring write. -/
def ringWrite (s : State) (e a : Nat) (b : List Byte) : State × Nat :=
  match s.ringSend e a .write b with
  | (s, some code) => (s, code)
  | (s, none) =>
    if a < 0x4000000000 then stackWrite s (e / 32) (some (e / 32)) a b none
    else sramWrite s ((a - 0x4000000000) / 0x100000) (a % 0x100000) b (e / 32) (columnIdent e) 0

/-- R470: the local address of the quad that an engine reads next, and of the one that it writes next. -/
def State.ringInAt (s : State) (e : Nat) : Nat :=
  4096 * s.get (R.TE_NIN_BASE_BASE e) + s.get (R.TE_NIN_CONS_INDEX e) % 2 ^ s.get (R.TE_NIN_CTRL_LOG2SIZE e) * 16

def State.ringOutAt (s : State) (e : Nat) : Nat :=
  4096 * bits (s.reg (R.TE_NOUT_BASE e)) 0 28 + s.get (R.TE_NOUT_PROD_INDEX e) % 2 ^ bits (s.reg (R.TE_NOUT_CTRL e)) 0 4 * 16

/-- TE_RING_READ_RESPONSE (R470, R471): the quad at CONS enters IN1 and CONS advances, or the engine faults. An access to a line that is
locked waits (R598). -/
def execTeRingReadResponse (e : Fin 1536) (fail : Bool) (s : State) : Host.Outcome State Fault Refusal :=
  let k := e.val
  let cons := s.get (R.TE_NIN_CONS_INDEX k)
  if !s.ringOpen k ∨ !s.has (R.TE_NIN_CTRL_EN k) ∨ s.get (R.TE_NIN_PROD_INDEX k) = cons ∨ 16 ≤ (s.teOf k).in1.length
      ∨ s.mustWait (s.globalOf (s.ringInAt k)) 16 false then .next s
  else
    let s_code_data := if fail then (s, rIsolated, []) else ringRead s k (s.ringInAt k)
    let s := s_code_data.1
    let code := s_code_data.2.1
    let data := s_code_data.2.2
    if code ≠ rOk then .next (streamErr s k)
    else
      let q := (List.range 4).map (fun i => le data (4 * i) 3)
      .next ((s.setTe k { s.teOf k with in1 := (s.teOf k).in1 ++ [q] }).put (R.TE_NIN_CONS_INDEX k) (cons + 1))

/-- R469: the 16 bytes of an output quad. -/
def outBytes (q : OutQuad) : List Byte :=
  (List.range 4).flatMap (fun i => toLE 4 (q.elems.getD i 0 + 2 ^ 24 * q.s + 2 ^ 29 * b2n q.first))

/-- TE_RING_WRITE_RESPONSE (R470, R471): the oldest quad of OUT1 is written at PROD, which advances, or the engine faults. A write to a line
that is locked, or whose page's MAJOR is at its end, waits (R550, R598). -/
def execTeRingWriteResponse (e : Fin 1536) (fail : Bool) (s : State) : Host.Outcome State Fault Refusal :=
  let k := e.val
  let ctrl := s.reg (R.TE_NOUT_CTRL k)
  let prod := s.get (R.TE_NOUT_PROD_INDEX k)
  let size := 2 ^ bits ctrl 0 4
  match (s.teOf k).out1 with
  | [] => .next s
  | q :: rest =>
    if !s.ringOpen k ∨ !bit ctrl 31 ∨ (65536 + prod - s.get (R.TE_NOUT_CONS_INDEX k)) % 65536 = size
        ∨ s.mustWait (s.globalOf (s.ringOutAt k)) 16 true then .next s
    else
      let s_code := if fail then (s, rIsolated) else ringWrite s k (s.ringOutAt k) (outBytes q)
      let s := s_code.1
      let code := s_code.2
      if code ≠ rOk then .next (streamErr s k)
      else .next ((s.setTe k { s.teOf k with out1 := rest }).put (R.TE_NOUT_PROD_INDEX k) (prod + 1))

/-! ### The TE_ registers that are written (R492) -/

/-- R492: a write of TE_NIN_CTRL (`out` false) or TE_NOUT_CTRL. -/
def writeRingCtrl (s : State) (e : Nat) (out : Bool) (v : Nat) : State :=
  let off := if out then R.TE_NOUT_CTRL e else R.TE_NIN_CTRL e
  let old := s.reg off
  let lg := if bit old 31 then bits old 0 4 else bits v 0 4
  let en := bit v 31 && (bit old 31 || decide (4 ≤ lg))
  let s := s.setReg off (lg + 2 ^ 31 * b2n en)
  if en && !bit old 31 then
    if out then (s.put (R.TE_NOUT_PROD_INDEX e) 0).put (R.TE_NOUT_CONS_INDEX e) 0
    else (s.put (R.TE_NIN_PROD_INDEX e) 0).put (R.TE_NIN_CONS_INDEX e) 0
  else s

/-- R492: a write of TE_NIN_BASE or TE_NOUT_BASE: only while EN is 0. -/
def writeRingBase (s : State) (e : Nat) (out : Bool) (v : Nat) : State :=
  if out then (if bit (s.reg (R.TE_NOUT_CTRL e)) 31 then s else s.setReg (R.TE_NOUT_BASE e) (v % 2 ^ 28))
  else if s.has (R.TE_NIN_CTRL_EN e) then s else s.setReg (R.TE_NIN_BASE e) (v % 2 ^ 28)

/-- TE_RING_ENABLE (R492): a write of TE_NIN_CTRL, or of TE_NOUT_CTRL. -/
def execTeRingEnable (e : Fin 1536) (out : Bool) (v : BitVec 32) (s : State) : Host.Outcome State Fault Refusal :=
  .next (writeRingCtrl s e.val out v.toNat)

/-- TE_NIN_PROD_WRITE (R470). -/
def execTeNinProdWrite (e : Fin 1536) (v : BitVec 16) (s : State) : Host.Outcome State Fault Refusal :=
  .next (s.put (R.TE_NIN_PROD_INDEX e.val) v.toNat)

/-- TE_NOUT_CONS_WRITE (R470). -/
def execTeNoutConsWrite (e : Fin 1536) (v : BitVec 16) (s : State) : Host.Outcome State Fault Refusal :=
  .next (s.put (R.TE_NOUT_CONS_INDEX e.val) v.toNat)

/-- TE_CTRL.RESTART (R473): a page entry from HALTED or FAULT, at the next edge of the engine's clock. -/
def restartEngine (s : State) (e : Nat) : State :=
  if s.teState e = teHalted ∨ s.teState e = teFault then s.enterAtEdge e else s

def execTeCtrlRestart (e : Fin 1536) (s : State) : Host.Outcome State Fault Refusal := .next (restartEngine s e.val)

/-- TE_CTRL.STOP (R472): HALTED at the next instruction boundary; an engine that waits in an instruction reaches it once that
instruction has completed. -/
def stopEngineAt (s : State) (e : Nat) : State :=
  if s.teState e = teRunning then s.setTeState e teHalted
  else if s.teState e = teStalled then s.setTe e { s.teOf e with stopping := true }
  else s

def execTeCtrlStop (e : Fin 1536) (s : State) : Host.Outcome State Fault Refusal := .next (stopEngineAt s e.val)

/-- R492: may TE_RAMDATA be accessed: only in IDLE, HALTED or FAULT. -/
def State.teRamOpen (s : State) (e : Nat) : Bool := [teIdle, teHalted, teFault].contains (s.teState e)

/-- INDEX advances after an access (AUTOINC). -/
def stepRamIndex (s : State) (e : Nat) : State :=
  if s.has (R.TE_RAMADDR_AUTOINC e) then s.wrapInc (R.TE_RAMADDR_INDEX e) else s

/-- A read of TE_RAMDATA: the element, sign-extended. -/
def teRamRead (s : State) (e : Nat) : Nat :=
  let t := s.teOf e
  let i := s.get (R.TE_RAMADDR_INDEX e)
  ofSigned 32 (toSigned 24 (ramGet (if s.has (R.TE_RAMADDR_RAM e) then t.d else t.c) i))

/-- A write of TE_RAMDATA. -/
def teRamWrite (s : State) (e v : Nat) : State :=
  let t := s.teOf e
  let i := s.get (R.TE_RAMADDR_INDEX e)
  stepRamIndex (s.setTe e (if s.has (R.TE_RAMADDR_RAM e) then { t with d := ramSet t.d i v } else { t with c := ramSet t.c i v })) e

/-- TE_RAMDATA_ACCESS (R492): a read, or a write of a value, by a requester. -/
def execTeRamdataAccess (e : Fin 1536) (v : Option (BitVec 32)) (who : Requester) (s : State) :
    Host.Outcome State Fault Refusal :=
  let p := requesterPath who
  if !s.teRamOpen e.val then .next (s.answer p rDenied [])
  else
    match v with
    | some x => .next ((teRamWrite s e.val x.toNat).answer p rOk [])
    | none => .next ((stepRamIndex s e.val).answer p rOk (toLE 4 (teRamRead s e.val)))

end Sys2Proof.Machine
end

