-- ==== Sys2Proof/Machine/Bist.lean ====
section
/-!
DEFINITION. Machine/Bist.lean: the end of a self-test slice (R810-R813, R820) and its abandonment (R812).
-/

namespace Sys2Proof.Machine

open Sys2Proof

/-- R819, R820, R821: the result of a unit's test: 0 PASS, 1 FAIL, 2 ABANDONED; kept for BT_RESULTS where it is one of BT_RUN's
(R815). -/
def State.testResult (s : State) (unit result detail : Nat) (keep : Bool) : State :=
  let s := ((s.put R.BT_LAST_UNIT unit).put R.BT_LAST_RESULT result).put R.BT_LAST_DETAIL detail
  let s := if keep then { s with bist := { s.bist with results := tblPut unit ⟨result, s.tb.turn, detail⟩ s.bist.results } } else s
  let s := if result = 2 then s
    else { s with bist := { s.bist with lastTest := tblPut unit (s.tb.turn + 1) s.bist.lastTest,
                                        overdue := s.bist.overdue.filter (fun u => u != unit) } }
  if result = 0 then s.bump R.BT_COUNT_A_PASSED
  else if result = 1 then ((s.bump R.BT_COUNT_A_FAILED).put R.BT_STATUS_FAIL_SEEN 1).raise 285
  else s.bump R.BT_COUNT_B_ABANDONED

/-- R810, step 4: the unit is re-initialised. -/
def State.reinit (s : State) (u : Nat) : State :=
  if 48 ≤ u ∧ u < 144 then s.zeroBanks ((List.range 16).map (fun i => 16 * (u - 48) + i))
  else if 144 ≤ u ∧ u < 240 then iterate 16 (fun i t => t.zeroEngine (16 * (u - 144) + i)) s
  else s

/-- R812: the slice of `unit` is abandoned: its unit is re-initialised at once, and goes back at the next boundary. -/
def State.abandonSlice (s : State) (unit : Nat) : State :=
  match s.bist.slice with
  | some sl =>
    if sl.unit = unit ∧ !sl.back then
      let s := (if sl.handed then s.reinit unit else s).testResult unit 2 0 sl.user
      { s with bist := { s.bist with slice := some { sl with back := true } } }
    else s
  | none => s

/-- R812: a claim of a test lane or a replay engine abandons the slice that tests it. -/
def State.abandonSliceOf (s : State) (key : Nat) : State :=
  let cls := key / 65536
  let i := key % 65536
  if cls = 1 then s.abandonSlice (240 + i) else if cls = 3 then s.abandonSlice (356 + i) else s

end Sys2Proof.Machine
end

