-- ==== Sys2Proof/Machine/System.lean ====
section
/-!
DEFINITION. Machine/System.lean: the system and log commands (R98-R126, R878), but for those that release resources
(Machine/Release.lean).
-/

namespace Sys2Proof.Machine

open Sys2Proof

/-- A payload of exactly `n` bytes. -/
def lenIs (n : Nat) (r : Request) : Bool := r.length.toNat == n

/-- SYS_NOP (R99). -/
def cmdSysNop : Cmd where
  code := 0x0100
  lenOk := lenIs 0
  lenReq := 0
  checks := fun _ _ _ => []
  act := fun s _ _ => replyOk s []

def execSysNop (mb : Fin 16) (req : Request) (s : State) : Host.Outcome State Fault Refusal :=
  commandRow cmdSysNop mb req s

/-- R100: the payload of SYS_GET_INFO. -/
def infoPayload (s : State) (mb : Nat) : List Byte :=
  toLE 4 (s.reg R.ID_DEVICE) ++ toLE 4 (s.reg R.ID_VARIANT) ++ toLE 4 (s.reg R.ID_SERIAL_LO)
    ++ toLE 4 (s.reg R.ID_SERIAL_HI) ++ toLE 4 (s.reg R.ID_FW_VERSION) ++ toLE 4 (s.reg R.ID_ROM_VERSION)
    ++ toLE 1 s.mode ++ toLE 1 s.life ++ toLE 1 mb ++ toLE 1 (s.get R.NC_ARRAY_DEV_ID)
    ++ toLE 1 (s.get R.ID_SECURITY_VERSION_SVN) ++ zeros 3 ++ toLE 6 s.tb.turn ++ toLE 4 s.tb.pip
    ++ toLE 2 (16 - s.noticeLoad mb) ++ zeros 20

/-- SYS_GET_INFO (R100). MODE and LIFECYCLE are the MODE and the STATE fields (log entry 20). -/
def cmdSysGetInfo : Cmd where
  code := 0x0101
  lenOk := lenIs 0
  lenReq := 0
  checks := fun _ _ _ => []
  act := fun s mb _ => replyOk s (infoPayload s mb)

def execSysGetInfo (mb : Fin 16) (req : Request) (s : State) : Host.Outcome State Fault Refusal :=
  commandRow cmdSysGetInfo mb req s

/-! ### Claims -/

/-- R83: how many indexes a class has on LF96-96. -/
def classSize (cls : Nat) : Nat :=
  if cls = 1 then 96 else if cls = 2 then 1024 else if cls = 3 then 32 else if cls = 4 then 48
  else if cls = 5 ∨ cls = 6 ∨ cls = 7 then 1 else 0

/-- R803: is a unit in the unit map? -/
def State.unitMapped (s : State) (u : Nat) : Bool := bit (s.reg (R.BT_MAP (u / 32))) (u % 32) || s.sec.excluded.contains u

/-- R803: a test lane is in the unit map, itself or through its classifier pipe. -/
def State.laneMapped (s : State) (l : Nat) : Bool := s.unitMapped (240 + l) || s.unitMapped (340 + l / 6)

/-- A claim entry of R101: class, first index, count. -/
structure ClaimEntry where
  cls : Nat
  first : Nat
  count : Nat
  deriving DecidableEq, Repr

/-- The entries of a claim payload. -/
def claimEntries (p : List Byte) : List ClaimEntry :=
  (entriesOf p 4 8 (le p 0 2)).map (fun e => ⟨le e 0 1, le e 2 2, le e 4 2⟩)

/-- The resources of an entry. -/
def entryKeys (e : ClaimEntry) : List Nat := (List.range e.count).map (fun i => claimKey e.cls (e.first + i))

/-- R83, R885: is the resource a test lane that the variant lacks? -/
def State.laneAbsent (s : State) (key : Nat) : Bool := key / 65536 == 1 && decide (s.lanes ≤ key % 65536)

/-- Does the variant, or the unit map, lack a resource (R103)? -/
def State.resourceAbsent (s : State) (key : Nat) : Bool :=
  let cls := key / 65536
  let i := key % 65536
  s.laneAbsent key || (cls == 1 && s.laneMapped i) || (cls == 3 && s.unitMapped (356 + i))

/-- LENGTH is 4 + 8 × N (R101). -/
def claimLen (r : Request) : Bool := r.length.toNat == 4 + 8 * le r.payload 0 2

/-- Check 7 of SYS_CLAIM and SYS_RELEASE: N, the reserved bytes (byte 2 has `flagBits` of FORCE), each entry. -/
def claimParams (flagBits : Nat) (r : Request) : List Chk :=
  let p := r.payload
  param 0 (decide (1 ≤ le p 0 2) && decide (le p 0 2 ≤ 64))
    :: param 2 (decide (le p 2 1 < 2 ^ flagBits)) :: param 3 (zeroAt p 3 1)
    :: (numbered (entriesOf p 4 8 (le p 0 2))).flatMap (fun (i, e) =>
      let b := 4 + 8 * i
      [param b (decide (0 < classSize (le e 0 1))), reserved0 p (b + 1) 1,
       param (b + 2) (decide (le e 2 2 < classSize (le e 0 1))),
       param (b + 4) (decide (1 ≤ le e 4 2) && decide (le e 2 2 + le e 4 2 ≤ classSize (le e 0 1))),
       reserved0 p (b + 6) 2])

/-- Check 9 of SYS_CLAIM for one resource of entry `i`. -/
def claimAvailable (s : State) (mb i key : Nat) : Chk :=
  if s.resourceAbsent key then some (stNoResource, i)
  else
    match s.claimOf key with
    | some c => if c.releasing then some (stBusy, 256 * i + 0xFE)
                else if c.mb = mb then none else some (stBusy, 256 * i + c.mb)
    | none => none

/-- SYS_CLAIM (R101-R103, R86, R87). -/
def cmdSysClaim : Cmd where
  code := 0x0102
  lenOk := claimLen
  lenReq := 0xFFFF
  checks := fun s mb r =>
    onlyRunning s :: (claimParams 0 r
      ++ (numbered (claimEntries r.payload)).flatMap (fun (i, e) => (entryKeys e).map (claimAvailable s mb i)))
  act := fun s mb r =>
    replyOk (forEach ((claimEntries r.payload).flatMap entryKeys) (fun k t => (t.setClaim k { mb := mb }).abandonSliceOf k) s) []

def execSysClaim (mb : Fin 16) (req : Request) (s : State) : Host.Outcome State Fault Refusal :=
  commandRow cmdSysClaim mb req s

/-- R110: merge consecutive indexes of one class and one holder into ranges (class, first, count, holder). -/
def mergeClaims : List (Nat × Nat) → List (Nat × Nat × Nat)
  | [] => []
  | (k, h) :: t =>
    match mergeClaims t with
    | (f, n, h') :: rest => if f = k + 1 ∧ h' = h ∧ f / 65536 = k / 65536 then (k, n + 1, h) :: rest
                            else (k, 1, h) :: (f, n, h') :: rest
    | [] => [(k, 1, h)]

/-- The ranges of R109 that a class and a mailbox filter leave. A releasing resource that mailbox n held is listed under n (DESIGN
CHOICE, log entry 89). -/
def claimRanges (s : State) (cls mb : Nat) : List (Nat × Nat × Nat) :=
  mergeClaims ((s.gaf.claims.filter (fun e => (cls == 0 || e.1 / 65536 == cls) && (mb == 0xFF || e.2.mb == mb))).map
    (fun e => (e.1, if e.2.releasing then 0xFE else e.2.mb)))

/-- SYS_LIST_CLAIMS (R108-R110). -/
def cmdSysListClaims : Cmd where
  code := 0x0104
  lenOk := lenIs 4
  lenReq := 4
  checks := fun _ _ r =>
    let p := r.payload
    [param 0 (decide (le p 0 1 ≤ 7)), param 1 (decide (le p 1 1 < 16) || le p 1 1 == 0xFF)]
  act := fun s _ r =>
    let all := (claimRanges s (le r.payload 0 1) (le r.payload 1 1)).drop (le r.payload 2 2)
    let l := all.take 507
    replyOk s (toLE 2 l.length ++ toLE 1 (b2n (decide (507 < all.length))) ++ zeros 1
      ++ l.flatMap (fun (k, n, h) => toLE 1 (k / 65536) ++ toLE 1 h ++ toLE 2 (k % 65536) ++ toLE 2 n ++ zeros 2))

def execSysListClaims (mb : Fin 16) (req : Request) (s : State) : Host.Outcome State Fault Refusal :=
  commandRow cmdSysListClaims mb req s

/-! ### Operations and mailboxes -/

/-- R111: a value of PROGRESS that the device does not hold (an operation that runs at a peer): 0xFF where the operation's chapter defines
none, and otherwise a free value from 0 to 100. -/
def State.unknownProgress (s : State) (command : Nat) : Nat :=
  if progressCommands.contains command then s.peekFree % 101 else 255

/-- SYS_OP_STATUS (R111). Of an operation that runs at a peer the device knows that it runs. -/
def cmdSysOpStatus : Cmd where
  code := 0x0105
  lenOk := lenIs 4
  lenReq := 4
  checks := fun _ _ r => [reserved0 r.payload 2 2]
  act := fun s mb r =>
    let tag := le r.payload 0 2
    match s.opOf mb tag with
    | some o =>
      -- how far the check of a piece or of a stream has come is a free value (log entry 113)
      let part := o.command == 0x0300 || o.command == 0x030D
      replyOk (if part then s.drawn else s)
        (toLE 2 o.command ++ toLE 1 1 ++ toLE 1 (if part then s.unknownProgress o.command else o.progress) ++ zeros 12)
    | none =>
      match s.gaf.peerOps.find? (fun o => o.mb == mb && o.tag == tag) with
      | some o => replyOk s.drawn (toLE 2 o.command ++ toLE 1 1 ++ toLE 1 (s.unknownProgress o.command) ++ zeros 12)
      | none =>
      match s.gaf.done.find? (fun d => d.mb == mb && d.tag == tag) with
      | some d => replyOk s (toLE 2 d.command ++ toLE 1 2 ++ toLE 1 d.progress ++ toLE 2 d.status ++ toLE 2 d.detail
          ++ toLE 6 d.turn ++ zeros 2)
      | none => replyOk s (zeros 2 ++ zeros 1 ++ toLE 1 0xFF ++ zeros 12)

def execSysOpStatus (mb : Fin 16) (req : Request) (s : State) : Host.Outcome State Fault Refusal :=
  commandRow cmdSysOpStatus mb req s

/-- SYS_MAILBOX_ENABLE (R114, R115). -/
def cmdSysMailboxEnable : Cmd where
  code := 0x0107
  lenOk := lenIs 4
  lenReq := 4
  checks := fun _ mb r =>
    let p := r.payload
    [onlyMailboxes mb [0, 1, 2, 3, 8], param 0 (decide (le p 0 1 < 16) && le p 0 1 != mb),
     param 1 (decide (le p 1 1 ≤ 1)), reserved0 p 2 2]
  act := fun s _ r => replyOk (s.put (R.MB_CONFIG_ENABLED (le r.payload 0 1)) (le r.payload 1 1)) []

def execSysMailboxEnable (mb : Fin 16) (req : Request) (s : State) : Host.Outcome State Fault Refusal :=
  commandRow cmdSysMailboxEnable mb req s

/-! ### The log -/

/-- R118: an entry as LOG_READ returns it. -/
def logBytes (e : LogEntry) : List Byte :=
  toLE 4 e.seq ++ toLE 6 e.turn ++ toLE 4 e.pip ++ toLE 1 e.severity ++ toLE 1 e.group ++ toLE 2 e.code
    ++ toLE 2 e.mailbox ++ toLE 4 e.arg0 ++ toLE 4 e.arg1 ++ toLE 4 e.arg2

/-- Sequence number of the oldest entry held; NEXT with none held. -/
def State.logOldest (s : State) : Nat :=
  match s.gaf.log with
  | [] => s.gaf.logNext
  | e :: _ => e.seq

/-- R123: where reading begins (entries to skip; none: K is 0), and GAP. -/
def logStart (s : State) (start : Nat) : Option Nat × Bool :=
  let d := (2 ^ 32 + s.gaf.logNext - start) % 2 ^ 32
  let h := s.gaf.log.length
  if d = 0 then (none, false) else if d ≤ h then (some (h - d), false)
  else if d < 2 ^ 31 then (some 0, true) else (none, false)

/-- LOG_READ (R122, R123). -/
def cmdLogRead : Cmd where
  code := 0x0E00
  lenOk := lenIs 8
  lenReq := 8
  checks := fun _ _ r =>
    let p := r.payload
    [param 4 (decide (1 ≤ le p 4 2) && decide (le p 4 2 ≤ 126)), reserved0 p 6 2]
  act := fun s _ r =>
    let at_gap := logStart s (le r.payload 0 4)
    let at_ := at_gap.1
    let gap := at_gap.2
    let l := match at_ with
      | some n => (s.gaf.log.drop n).take (le r.payload 4 2)
      | none => []
    replyOk s (toLE 4 s.logOldest ++ toLE 4 s.gaf.logNext ++ toLE 2 l.length ++ toLE 1 (b2n gap) ++ zeros 21
      ++ l.flatMap logBytes)

def execLogRead (mb : Fin 16) (req : Request) (s : State) : Host.Outcome State Fault Refusal :=
  commandRow cmdLogRead mb req s

/-- LOG_CLEAR (R124, R878): numbering continues, and the clear is logged with its mailbox. -/
def cmdLogClear : Cmd where
  code := 0x0E01
  lenOk := lenIs 0
  lenReq := 0
  checks := fun _ mb _ => [onlyMailboxes mb [0, 1, 2, 3, 8, 9]]
  act := fun s mb _ =>
    let n := s.gaf.log.length
    let s := { s with gaf := { s.gaf with log := [] } }
    replyOk (if 2 < s.gaf.logLevels.getD 0x0E 1 then s else s.logAlways 2 0x0E 0x0004 (0x8000 + mb) n 0 0) []

def execLogClear (mb : Fin 16) (req : Request) (s : State) : Host.Outcome State Fault Refusal :=
  commandRow cmdLogClear mb req s

/-- LOG_SET_LEVEL (R125, R878). -/
def cmdLogSetLevel : Cmd where
  code := 0x0E02
  lenOk := lenIs 4
  lenReq := 4
  checks := fun _ mb r =>
    let p := r.payload
    [onlyMailboxes mb [0, 1, 2, 3, 8, 9], param 0 (decide (le p 0 1 ≤ 5)),
     param 1 (decide (le p 1 1 < 16) || le p 1 1 == 0xFF), reserved0 p 2 2]
  act := fun s _ r =>
    let lv := le r.payload 0 1
    let g := le r.payload 1 1
    let l := if g = 0xFF then List.replicate 16 lv else s.gaf.logLevels.set g lv
    replyOk { s with gaf := { s.gaf with logLevels := l } } []

def execLogSetLevel (mb : Fin 16) (req : Request) (s : State) : Host.Outcome State Fault Refusal :=
  commandRow cmdLogSetLevel mb req s

/-- LOG_GET_INFO (R126). -/
def cmdLogGetInfo : Cmd where
  code := 0x0E03
  lenOk := lenIs 0
  lenReq := 0
  checks := fun _ _ _ => []
  act := fun s _ _ =>
    replyOk s (toLE 2 4096 ++ zeros 2 ++ toLE 4 s.logOldest ++ toLE 4 s.gaf.logNext ++ zeros 4
      ++ s.gaf.logLevels.map (BitVec.ofNat 8))

def execLogGetInfo (mb : Fin 16) (req : Request) (s : State) : Host.Outcome State Fault Refusal :=
  commandRow cmdLogGetInfo mb req s

end Sys2Proof.Machine
end

