-- ==== Sys2Proof/Machine/Memory.lean ====
section
/-!
DEFINITION. Machine/Memory.lean: allocation of stack memory (R534, R535, R241, R441, R883), the start of the guard
(R555), the rows of the guard and the channels, and the memory commands (R562).
-/

namespace Sys2Proof.Machine

open Sys2Proof

/-! ### Bandwidth (R241, R537) -/

/-- R241: what capture, replay and NoC flows may reserve on a channel, in 1/32 of 100 MB/s: 40.175 GB/s, or 37.55 GB/s on
LF96-48. -/
def State.channelLimit (s : State) : Nat := if s.is48 then 12016 else 12856

/-- R404, R537: the standing library and sweep reservations of a channel, in 1/32 of 100 MB/s. -/
def State.standing (s : State) : Nat := if s.is48 then (40 * 64 + 25 * 32) / 2 else (20 * 64 + 25 * 16) / 2

/-- Reservations of a channel for capture, replay and NoC flows together. -/
def State.reservedOn (s : State) (k : Nat) : Nat :=
  tblGet (fun _ => 0) s.mem.resCapture k + tblGet (fun _ => 0) s.mem.resReplay k + tblGet (fun _ => 0) s.mem.resNoc k

/-- Is there room for `rate` on every channel of a set? -/
def State.bandwidthFits (s : State) (chs : List Nat) (rate : Nat) : Bool :=
  chs.all (fun k => decide (s.reservedOn k + rate ≤ s.channelLimit))

/-- SM_CH_RES_A and SM_CH_RES_B.NOC show the reservations in 100 MB/s, rounded down (R558; log entry 34). -/
def State.showReserved (s : State) : State :=
  iterate s.channels (fun k t =>
    ((t.put (R.SM_CH_RES_A_CAPTURE k) (tblGet (fun _ => 0) t.mem.resCapture k / 32)).put (R.SM_CH_RES_A_REPLAY k)
      (tblGet (fun _ => 0) t.mem.resReplay k / 32)).put (R.SM_CH_RES_B_NOC k)
      ((tblGet (fun _ => 0) t.mem.resNoc k + t.standing) / 32)) s

/-- Add to (or take from) a table of reservations on channels. -/
def addRates (t : Tbl Nat) (chs : List Nat) (rate : Nat) : Tbl Nat :=
  chs.foldl (fun t k => tblSet (fun _ => 0) t k (tblGet (fun _ => 0) t k + rate)) t

def subRates (t : Tbl Nat) (chs : List Nat) (rate : Nat) : Tbl Nat :=
  chs.foldl (fun t k => tblSet (fun _ => 0) t k (tblGet (fun _ => 0) t k - rate)) t

def State.reserveCapture (s : State) (chs : List Nat) (rate : Nat) : State :=
  ({ s with mem := { s.mem with resCapture := addRates s.mem.resCapture chs rate } }).showReserved

def State.releaseCapture (s : State) (chs : List Nat) (rate : Nat) : State :=
  ({ s with mem := { s.mem with resCapture := subRates s.mem.resCapture chs rate } }).showReserved

def State.reserveReplay (s : State) (chs : List Nat) (rate : Nat) : State :=
  ({ s with mem := { s.mem with resReplay := addRates s.mem.resReplay chs rate } }).showReserved

def State.releaseReplay (s : State) (chs : List Nat) (rate : Nat) : State :=
  ({ s with mem := { s.mem with resReplay := subRates s.mem.resReplay chs rate } }).showReserved

/-- R586: the flows from an endpoint to each channel of a set. -/
def flowsTo (src : Nat) (chs : List Nat) (rate : Nat) : List Flow := chs.map (fun k => ⟨src, channelEndpoint k, rate⟩)

/-- R586: NoC flows are reserved on links and channels. -/
def State.reserveNoc (s : State) (src : Nat) (chs : List Nat) (rate : Nat) : State :=
  if rate = 0 then s
  else
    let s := { s with mem := { s.mem with resNoc := addRates s.mem.resNoc chs rate } }
    (s.showReserved).setFlows (s.noc.flows ++ flowsTo src chs rate) [src]

def State.releaseNoc (s : State) (src : Nat) (chs : List Nat) (rate : Nat) : State :=
  if rate = 0 then s
  else
    let s := { s with mem := { s.mem with resNoc := subRates s.mem.resNoc chs rate } }
    (s.showReserved).setFlows (dropFlows s.noc.flows (flowsTo src chs rate)) [src]

/-! ### Allocation (R883) -/

/-- R535: a channel mask's set: 0 is the gaffer's choice; else an aligned group of a power of two. -/
def maskSet (mask : Nat) : Option (Nat × Nat) :=
  ((List.range 6).flatMap (fun lg => (List.range (32 / 2 ^ lg)).map (fun i => (i * 2 ^ lg, lg)))).find?
    (fun (f, lg) => (2 ^ 2 ^ lg - 1) * 2 ^ f == mask)

/-- R441: the channel with the least reserved bandwidth, the lowest of equals. -/
def State.leastReserved (s : State) : Nat :=
  (List.range s.channels).foldl (fun b k => if s.reservedOn k < s.reservedOn b then k else b) 0

/-- The channel set that a request takes (R441, R562): first channel and log2 of the width. -/
def State.chooseSet (s : State) (mask : Nat) (spread : Bool) : Nat × Nat :=
  if spread then (0, s.fullLog2)
  else if mask = 0 then (s.leastReserved, 0)
  else (maskSet mask).getD (0, 0)

/-- The channels of a set. -/
def setChannels (first log2 : Nat) : List Nat := (List.range (2 ^ log2)).map (· + first)

/-- The allocated runs of local memory, in MiB. -/
def State.usedRuns (s : State) : List (Nat × Nat) := s.mem.allocs.flatMap (·.extents)

/-- Are `n` MiB from `o` free of the runs? -/
def runFree (used : List (Nat × Nat)) (o n : Nat) : Bool :=
  used.all (fun r => decide (o + n ≤ r.1) || decide (r.1 + r.2 ≤ o))

/-- The least of a list. -/
def leastOf : List Nat → Option Nat
  | [] => none
  | a :: t => match leastOf t with
    | some b => some (min a b)
    | none => some a

/-- The lowest start of `n` free MiB in [lo, hi) that satisfies a condition (log entry 35: lowest offset first). -/
def lowestRun (used : List (Nat × Nat)) (starts : List Nat) (lo hi n : Nat) (ok : Nat → Bool) : Option Nat :=
  leastOf ((starts ++ used.map (fun r => r.1 + r.2)).filter (fun o =>
    decide (lo ≤ o) && decide (o + n ≤ hi) && runFree used o n && ok o))

/-- Is a segment mapped at a width and start, and not PRIV? -/
def State.segAt (s : State) (g log2 first : Nat) : Bool :=
  s.get (R.SM_SEG_MAP_CH_LOG2 g) == log2 && s.get (R.SM_SEG_MAP_CH_FIRST g) == first && !s.has (R.SM_SEG_MAP_PRIV g)

/-- Does a segment hold no allocation, and is it not PRIV? -/
def State.segEmpty (s : State) (used : List (Nat × Nat)) (g : Nat) : Bool :=
  runFree used (256 * g) 256 && !s.has (R.SM_SEG_MAP_PRIV g)

/-- R536: does a segment hold the context library or the gaffer's working area? -/
def State.segPrivate (s : State) (g : Nat) : Bool :=
  s.mem.allocs.any (fun a => (a.use == .library || a.use == .gaffer) && !runFree a.extents (256 * g) 256)

/-- May the context library lie in a segment: mapped over every fitted channel, it holds nothing but the library (log entry 37)? -/
def State.segForLibrary (s : State) (g : Nat) : Bool :=
  s.get (R.SM_SEG_MAP_CH_LOG2 g) == s.fullLog2 && s.mem.allocs.all (fun a => a.use == .library || runFree a.extents (256 * g) 256)

/-- R883: where an allocation of `n` MiB on a channel set lies, and the groups that are remapped for it. -/
def State.findRuns (s : State) (library : Bool) (first log2 n : Nat) : Option (List (Nat × Nat) × List Nat) :=
  let used := s.usedRuns
  let nseg := s.segments
  if log2 = s.fullLog2 then
    let plain (o : Nat) : Bool := (List.range ((o + n - 1) / 256 - o / 256 + 1)).all (fun i =>
      if library then s.segForLibrary (o / 256 + i) else s.segAt (o / 256 + i) log2 0)
    match lowestRun used ((List.range nseg).map (256 * ·)) 0 (256 * nseg) n plain with
    | some o => some ([(o, n)], [])
    | none => none
  else
    let k := 2 ^ (s.fullLog2 - log2)
    let j := first / 2 ^ log2
    let groups := (List.range (nseg / k)).map (k * ·)
    let mapped (g : Nat) : Bool := s.segAt (g + j) log2 first
    let whole (g : Nat) : Bool := (List.range k).all (fun i => s.segEmpty used (g + i) && s.segAt (g + i) s.fullLog2 0)
    let need := (n + 255) / 256
    let inGroup (g : Nat) : Option Nat :=
      let lo := 256 * (g + j)
      if mapped g then lowestRun used [lo] lo (lo + 256) n (fun _ => true) else none
    if need ≤ 1 then
      match groups.findSome? inGroup with
      | some o => some ([(o, n)], [])
      | none => match groups.find? whole with
        | some g => some ([(256 * (g + j), n)], [g])
        | none => none
    else
      let picks := (groups.filter (fun g => (mapped g && s.segEmpty used (g + j)) || whole g)).take need
      if picks.length < need then none
      else some ((numbered picks).map (fun (i, g) => (256 * (g + j), min 256 (n - 256 * i))), picks.filter whole)

/-- R883: a group of full-width segments is remapped to width 2^log2. -/
def State.remapGroup (s : State) (log2 g : Nat) : State :=
  let k := 2 ^ (s.fullLog2 - log2)
  iterate k (fun i t => t.mapSegment (g + i) log2 (i * 2 ^ log2) (32 / t.channels * g)) s

/-- R883: each remapped group whose segments all hold nothing again returns to full width. -/
def State.restoreGroups (s : State) : State :=
  let used := s.usedRuns
  iterate s.segments (fun g t =>
    let lg := t.get (R.SM_SEG_MAP_CH_LOG2 g)
    let k := 2 ^ (t.fullLog2 - lg)
    if lg < t.fullLog2 ∧ g % k = 0 ∧ (List.range k).all (fun i => t.segEmpty used (g + i)) then
      iterate k (fun i u => u.mapFull (g + i)) t
    else t) s

/-- SM_SEG_MAP.ALLOC and PRIV and SM_CH_RES_B.FREE_MIB follow the allocations (R536, R558, R559). -/
def State.showAllocs (s : State) : State :=
  let used := s.usedRuns
  let s := iterate s.segments (fun g t =>
    (t.put (R.SM_SEG_MAP_ALLOC g) (b2n (!runFree used (256 * g) 256))).put (R.SM_SEG_MAP_PRIV g) (b2n (t.segPrivate g))) s
  iterate s.channels (fun k t =>
    let taken := t.mem.allocs.foldl (fun n a =>
      if a.first ≤ k ∧ k < a.first + 2 ^ a.log2 then n + a.size / 2 ^ a.log2 else n) 0
    t.put (R.SM_CH_RES_B_FREE_MIB k) (2048 - taken)) s

/-- An allocation is made, if its memory can be found. -/
def State.allocate (s : State) (use : AllocUse) (mb first log2 n rate : Nat) : Option (State × Alloc) :=
  match s.findRuns (use == .library) first log2 n with
  | none => none
  | some (runs, groups) =>
    let a : Alloc := { handle := s.mem.nextHandle, use := use, mb := mb, first := first, log2 := log2, size := n,
                       rate := rate, extents := runs }
    let s := forEach groups (fun g t => t.remapGroup log2 g) s
    some (({ s with mem := { s.mem with allocs := s.mem.allocs ++ [a], nextHandle := s.mem.nextHandle + 1 } } : State).showAllocs, a)

/-- The local address of the first byte of an allocation. -/
def Alloc.base (a : Alloc) : Nat := 2 ^ 20 * ((a.extents.head?).getD (0, 0)).1

/-- The local address of offset `o` of an allocation. -/
def Alloc.addr (a : Alloc) (o : Nat) : Nat := go a.extents o
where
  go (l : List (Nat × Nat)) (o : Nat) : Nat :=
    match l with
    | [] => o
    | [(b, _)] => 2 ^ 20 * b + o
    | (b, n) :: t => if o < 2 ^ 20 * n then 2 ^ 20 * b + o else go t (o - 2 ^ 20 * n)

/-- The allocation with a handle. -/
def State.allocOf (s : State) (h : Nat) : Option Alloc := s.mem.allocs.find? (fun a => a.handle == h)

/-- Does a local address lie in an allocation? -/
def Alloc.covers (a : Alloc) (x : Nat) : Bool :=
  a.extents.any (fun r => decide (2 ^ 20 * r.1 ≤ x) && decide (x < 2 ^ 20 * (r.1 + r.2)))

/-- R829: window `w` is unmapped. -/
def State.unmapWindow (s : State) (w : Nat) : State :=
  ((s.setReg (R.HP_WIN_LOCAL w) 0).setReg (R.HP_WIN_SIZE w) 0).setReg (R.HP_WIN_OFFSET w) 0

/-- Does BAR2 window `w` touch an allocation? -/
def State.windowOver (s : State) (a : Alloc) (w : Nat) : Bool :=
  s.has (R.HP_WIN_LOCAL_EN w) &&
    !runFree a.extents (s.get (R.HP_WIN_LOCAL_BASE_MIB w)) (s.get (R.HP_WIN_SIZE_SIZE_MIB w))

/-- R671: coherent windows in an allocation that is freed are deleted, at the next boundary (R660). -/
def State.dropCoherent (s : State) (a : Alloc) : State :=
  iterate 8 (fun w t =>
    if t.has (R.NC_COH_BASE_EN w) && a.covers (2 ^ 20 * t.get (R.NC_COH_BASE_BASE_MIB w)) then
      t.latch [.cohWindow w 0 0 false]
    else t) s

/-- R562: an allocation is freed: BAR2 windows over it are unmapped and its lines are zeroed, which makes them sound
again (log entry 36); remapped groups are restored (R883). -/
def State.freeAlloc (s : State) (a : Alloc) : State :=
  let s := (iterate 8 (fun w t => if t.windowOver a w then t.unmapWindow w else t) s).dropCoherent a
  let m := s.mem
  let m := { m with
    allocs := m.allocs.filter (fun x => x.handle != a.handle),
    data := m.data.filter (fun e => !a.covers e.1),
    upsets := m.upsets.filter (fun e => !a.covers (64 * e.1)),
    poisoned := m.poisoned.filter (fun e => !a.covers (64 * e.1)),
    plist := m.plist.filter (fun e => !a.covers (64 * e.line)) }
  (({ s with mem := m } : State).restoreGroups).showAllocs

/-! ### The start of the guard (R555, R534, R536, R586) -/

/-- R555: the guard's segments are mapped at full width, its segment and slot words are fresh, and no BAR2 window is mapped. -/
def State.guardMaps (s : State) : State :=
  let s := iterate s.segments (fun g t => (t.setReg (R.SM_SEG_MAP g) 0).mapFull g) s
  let s := iterate 256 (fun g t => t.setReg (R.MG_SEG g) 0) s
  let s := iterate 16 (fun n t => t.setReg (R.MG_SLOT n) 0) s
  iterate 8 (fun w t => t.unmapWindow w) s

/-- The last segment is the gaffer's working area (PRIV; log entry 37). -/
def State.takeTop (s : State) : State :=
  let top := s.segments - 1
  let a : Alloc := ⟨0, .gaffer, 16, 0, s.fullLog2, 256, 0, [(256 * top, 256)]⟩
  { s with mem := { s.mem with allocs := [a] } }

/-- The standing flows of the configuration port and the guard's sweeps (R586). -/
def State.standingFlows (s : State) : State :=
  let chs := List.range s.channels
  let flows := flowsTo configEndpoint chs (64 * 32 * 10 / s.channels) ++ flowsTo sweepEndpoint chs (20 * 32 * 10 / s.channels)
  s.setFlows flows [configEndpoint, sweepEndpoint]

/-- R555: at the end of BOOT the guard loads a fresh key into slot 0, maps the segments, and writes every line as zero; the
standing flows of R586 are set. -/
def State.guardInit (s : State) : State :=
  let s := ({ s with mem := { ready := true, loads := s.mem.loads, nextHandle := s.mem.nextHandle } } : State).guardMaps
  let s := iterate s.channels (fun k t => if t.get (R.SM_CH_STATUS_STATE k) = 0 then t.setChannelState k 1 else t) s
  (((s.put R.MG_STATUS_FULL_REKEY 0).openSlot 0).takeTop.showAllocs.showReserved).showSweeps.standingFlows

/-! ### The rows of channels and guard -/

/-- Bad symbols of a line's stored codeword that show at an access are added to what the line holds (log entry 38). -/
def State.upset (s : State) (line : Nat) (errs : List (Fin 72 × Byte)) : State :=
  let old := tblGet (fun _ => []) s.mem.upsets line
  let now := addPattern old (errs.map (fun e => (e.1.val, e.2.toNat)))
  { s with mem := { s.mem with upsets := tblSet (fun _ => []) s.mem.upsets line now } }

/-- The lines that the variant has. -/
def State.lineExists (s : State) (line : Nat) : Bool := decide (line < 4194304 * s.segments)

/-- STACK_LINE_READ (R543): a line is read; `recordBad`: its page's counter record fails (R548). -/
def execStackLineRead (line : BitVec 30) (errs : List (Fin 72 × Byte)) (recordBad : Bool) (s : State) :
    Host.Outcome State Fault Refusal :=
  if !s.mem.ready ∨ !s.lineExists line.toNat then .next s
  else
    let s := s.upset line.toNat errs
    let s := if recordBad then s.pageLost (line.toNat / 64) else s
    .next (readLine s line.toNat).next

/-- STACK_LINE_WRITE (R545): bytes from `off` of a line are written; with 64 bytes the full line. -/
def execStackLineWrite (line : BitVec 30) (off : Fin 64) (bytes : List Byte) (errs : List (Fin 72 × Byte)) (s : State) :
    Host.Outcome State Fault Refusal :=
  if !s.mem.ready ∨ !s.lineExists line.toNat ∨ bytes.isEmpty then .next s
  else .next (writeLine (s.upset line.toNat errs) line.toNat off.val (bytes.take (64 - off.val))).1

/-- CHANNEL_RETRAIN_FAIL (R532). -/
def execChannelRetrainFail (ch : Fin 32) (s : State) : Host.Outcome State Fault Refusal :=
  if s.get (R.SM_CH_STATUS_STATE ch.val) = 0 then .next s else .next (s.setChannelState ch.val 3)

/-- R551: the segment whose page the sweep engine takes next: each segment in turn, in increasing number. -/
def State.nextSweep (s : State) : Option Nat :=
  let gs := (List.range s.segments).filter (fun g => s.has (R.MG_SEG_SWEEP g))
  match gs.find? (fun g => decide (s.mem.sweepNext ≤ g)) with
  | some g => some g
  | none => gs.head?

/-- SWEEP_PAGE (R551): the engine sweeps the next page; `recordBad`: its counter record fails. -/
def execSweepPage (recordBad : Bool) (s : State) : Host.Outcome State Fault Refusal :=
  match s.nextSweep with
  | none => .next s
  | some g =>
    let p := 65536 * g + tblGet (fun _ => 0) s.mem.sweepPos g
    let s := { s with mem := { s.mem with sweepNext := g + 1 } }
    let s := if recordBad then s.pageLost p else s
    .next ((s.sweepPage p).markSwept p)

/-- R550, R552: segments that wait for a slot start once one is EMPTY. -/
def State.startWaiting (s : State) : State :=
  if s.emptySlot.isNone then s
  else
    let l := s.mem.waiting
    (forEach l (fun g t => t.startRekey g) { s with mem := { s.mem with waiting := [] } }).showSweeps

/-- SLOT_ZEROISE (R552): a DRAINING slot with nothing in flight is zeroised. -/
def execSlotZeroise (slot : Fin 16) (s : State) : Host.Outcome State Fault Refusal :=
  let n := slot.val
  let s := s.put (R.MG_SLOT_INFLIGHT n) (min (s.slotInflight n) 65535)
  if s.get (R.MG_SLOT_STATE n) = 3 ∧ s.slotInflight n = 0 then
    .next ((((s.setReg (R.MG_SLOT n) 0)).raise 246).startWaiting)
  else .next s

/-- R553: one line is patrolled: a single bad symbol is rewritten as corrected; a failing line is counted and listed. -/
def patrolLine (s : State) (line : Nat) : State × Bool :=
  if s.offline line then (s, true)
  else
    let raw := tblGet (fun _ => []) s.mem.upsets line
    let s := s.sweepFirst (line / 64)
    let r := readCore s line
    if r.ok ∧ !raw.isEmpty then ({ r.next with mem := { r.next.mem with upsets := tblDel line r.next.mem.upsets } }, true)
    else (r.next, r.ok)

/-- PATROL_SCRUB_LINE (R553). -/
def execPatrolScrubLine (line : BitVec 30) (errs : List (Fin 72 × Byte)) (s : State) : Host.Outcome State Fault Refusal :=
  if !s.mem.ready ∨ !s.lineExists line.toNat ∨ s.mode = mLehr then .next s
  else .next (patrolLine (s.upset line.toNat errs) line.toNat).1

/-- The lines of a MEM_SCRUB range that may fail or be corrected: those with changed symbols, poisoned ones, and those
of LOST pages. -/
def State.scrubLines (s : State) (lo hi : Nat) : List Nat :=
  let lost := (s.mem.pages.filter (fun e => e.2.lost)).flatMap (fun e => (List.range 64).map (64 * e.1 + ·))
  ((s.mem.upsets.map Prod.fst ++ s.mem.poisoned.map Prod.fst ++ lost).filter
    (fun l => decide (lo ≤ l) && decide (l < hi))).eraseDups

/-- MEM_SCRUB_COMPLETE (R554, R562): the pass over the range ends; DETAIL counts the lines that failed. -/
def execMemScrubComplete (s : State) : Host.Outcome State Fault Refusal :=
  match s.gaf.ops.find? (fun o => o.command == 0x0806) with
  | none => .next s
  | some o =>
    if s.has R.MG_STATUS_SWEEPING then .next s
    else
      let s_n := (s.scrubLines (o.args.getD 0 0) (o.args.getD 1 0)).foldl (fun (acc : State × Nat) l =>
        let t_ok := patrolLine acc.1 l
        let t := t_ok.1
        let ok := t_ok.2
        (t, if ok then acc.2 else acc.2 + 1)) (s, 0)
      let s := s_n.1
      let n := s_n.2
      .next (s.endOp o stOk (min n 0xFFFF))

/-! ### The memory commands (R562) -/

/-- R586: the source of an allocation's flows. -/
def allocSource (mb : Nat) : Nat := if mb < 4 then hostEndpoint else if mb < 8 then regionEndpoint 0 else gafferEndpoint

/-- The set and the rate of each channel that a MEM_ALLOC payload asks for. -/
def allocWants (s : State) (p : List Byte) : Nat × Nat × Nat :=
  let f_lg := s.chooseSet (le p 4 4) (bit (le p 10 1) 0)
  let f := f_lg.1
  let lg := f_lg.2
  (f, lg, le p 8 2 * 32 / 2 ^ lg)

/-- MEM_ALLOC (R562, R535, R883). -/
def cmdMemAlloc : Cmd where
  code := 0x0800
  lenOk := lenIs 12
  lenReq := 12
  checks := fun s mb r =>
    let p := r.payload
    let spread := bit (le p 10 1) 0
    let mask := le p 4 4
    let f_lg_rate := allocWants s p
    let f := f_lg_rate.1
    let lg := f_lg_rate.2.1
    let rate := f_lg_rate.2.2
    let chs := setChannels f lg
    [onlyRunning s, param 0 (decide (1 ≤ le p 0 4)), param 4 (spread || mask == 0 || (maskSet mask).isSome),
     param 10 (decide (le p 10 1 ≤ 1)), reserved0 p 11 1,
     failIf (!spread && chs.any (fun k => decide (s.channels ≤ k))) stNoResource 3,
     failIf ((s.findRuns false f lg (le p 0 4)).isNone) stNoResource 1,
     failIf (decide (0 < le p 8 2) && (!s.bandwidthFits chs rate
       || !flowsFit s.noc.flows (flowsTo (allocSource mb) chs rate))) stNoResource 2]
  act := fun s mb r =>
    let p := r.payload
    let f_lg_rate := allocWants s p
    let f := f_lg_rate.1
    let lg := f_lg_rate.2.1
    let rate := f_lg_rate.2.2
    match s.allocate .handle mb f lg (le p 0 4) rate with
    | none => { next := s, status := stNoResource, detail := 1 }
    | some (t, a) =>
      replyOk (t.reserveNoc (allocSource mb) (setChannels f lg) rate) (toLE 4 a.handle ++ zeros 4 ++ toLE 8 a.base)

def execMemAlloc (mb : Fin 16) (req : Request) (s : State) : Host.Outcome State Fault Refusal :=
  commandRow cmdMemAlloc mb req s

/-- The MEM_ALLOC allocation with a handle. -/
def State.handleOf (s : State) (h : Nat) : Option Alloc :=
  s.mem.allocs.find? (fun a => a.handle == h && a.use == .handle)

/-- MEM_FREE (R562). -/
def cmdMemFree : Cmd where
  code := 0x0801
  lenOk := lenIs 8
  lenReq := 8
  checks := fun s mb r =>
    let p := r.payload
    [onlyRunning s,
     (match s.handleOf (le p 0 4) with
      | some a => failIf (a.mb != mb) stNotOwner 0
      | none => none),
     param 0 (s.handleOf (le p 0 4)).isSome, reserved0 p 4 4]
  act := fun s mb r =>
    match s.handleOf (le r.payload 0 4) with
    | some a => replyOk ((s.freeAlloc a).releaseNoc (allocSource mb) (setChannels a.first a.log2) a.rate) []
    | none => replyOk s []

def execMemFree (mb : Fin 16) (req : Request) (s : State) : Host.Outcome State Fault Refusal :=
  commandRow cmdMemFree mb req s

/-- R829: the BAR2 offset, in MiB, for a window of `n` MiB. -/
def State.windowPlace (s : State) (w n : Nat) : Option Nat :=
  let unit := 2 ^ (if n ≤ 1 then 0 else (n - 1).log2 + 1)
  let bar := 2 ^ (s.get R.HP_BAR2_SIZE_LOG2 - 20)
  let others := ((List.range 8).filter (fun v => v != w && s.has (R.HP_WIN_LOCAL_EN v))).map
    (fun v => (s.get (R.HP_WIN_OFFSET_OFFSET_MIB v), s.get (R.HP_WIN_SIZE_SIZE_MIB v)))
  let ends := others.map (fun r => (r.1 + r.2 + unit - 1) / unit * unit)
  leastOf ((0 :: ends).filter (fun o => decide (o + n ≤ bar) && runFree others o n))

/-- MEM_MAP_BAR2 (R562, R829). -/
def cmdMemMapBar2 : Cmd where
  code := 0x0802
  lenOk := lenIs 16
  lenReq := 16
  checks := fun s mb r =>
    let p := r.payload
    let w := le p 0 1
    let unmap := bit (le p 1 1) 1
    let base := le p 4 8
    let n := le p 12 4
    let g := base / 0x10000000
    let privHit := (List.range s.segments).any (fun i =>
      decide (g ≤ i) && decide (256 * i < base / 0x100000 + n) && s.has (R.SM_SEG_MAP_PRIV i))
    [onlyRunning s, onlyMailboxes mb [0, 1, 2, 3], param 0 (decide (w < 8)), param 1 (decide (le p 1 1 < 4)),
     reserved0 p 2 2,
     param 4 (unmap || (base % 0x100000 == 0 && decide (base + 0x100000 * n ≤ 0x10000000 * s.segments) && !privHit)),
     param 12 (unmap || decide (1 ≤ n)),
     failIf (!unmap && s.has (R.HP_WIN_LOCAL_EN w)) stBusy (256 * w + 0xFF),
     failIf (!unmap && (s.windowPlace w n).isNone) stNoResource 1]
  act := fun s _ r =>
    let p := r.payload
    let w := le p 0 1
    if bit (le p 1 1) 1 then
      replyOk (s.unmapWindow w) (toLE 8 (2 ^ 20 * s.get (R.HP_WIN_OFFSET_OFFSET_MIB w)))
    else
      let o := (s.windowPlace w (le p 12 4)).getD 0
      let s := (((s.put (R.HP_WIN_LOCAL_BASE_MIB w) (le p 4 8 / 2 ^ 20)).put (R.HP_WIN_LOCAL_READ_ONLY w)
        (bits (le p 1 1) 0 1)).put (R.HP_WIN_LOCAL_EN w) 1).put (R.HP_WIN_SIZE_SIZE_MIB w) (le p 12 4)
      replyOk (s.put (R.HP_WIN_OFFSET_OFFSET_MIB w) o) (toLE 8 (2 ^ 20 * o))

def execMemMapBar2 (mb : Fin 16) (req : Request) (s : State) : Host.Outcome State Fault Refusal :=
  commandRow cmdMemMapBar2 mb req s

/-- Percentages measured by the hardware, in each of `n` bytes of a word (log entry 1). -/
def percents (n v : Nat) : Nat := le ((List.range n).map (fun i => BitVec.ofNat 8 (bits v (8 * i) 8 % 101))) 0 n

/-- The words SM_CH_STATUS to SM_CH_BUSY of the fitted channels as they read now, with 0 in the last 4 bytes of each channel: the measured
loads are free values (log entry 1). -/
def State.channelWords (s : State) : State × List Byte :=
  (List.range s.channels).foldl (fun (acc : State × List Byte) k =>
    (acc.1.drawn, acc.2 ++ [R.SM_CH_STATUS k, R.SM_CH_FLAGS k, R.SM_CH_CORR k, R.SM_CH_ERR k, R.SM_CH_RES_A k, R.SM_CH_RES_B k].flatMap
      (fun o => toLE 4 (s.reg o)) ++ toLE 4 (percents 1 acc.1.peekFree) ++ zeros 4)) (s, [])

/-- MEM_STATUS (R562). -/
def cmdMemStatus : Cmd where
  code := 0x0803
  lenOk := lenIs 0
  lenReq := 0
  checks := fun _ _ _ => []
  act := fun s _ _ =>
    let x := s.channelWords
    replyOk x.1 (toLE 4 s.channels ++ toLE 4 (s.reg R.MG_STATUS) ++ toLE 4 (s.reg R.MG_REGION_REKEYS)
      ++ toLE 4 (s.reg R.MG_PAGE_REENC) ++ zeros 16 ++ x.2)

def execMemStatus (mb : Fin 16) (req : Request) (s : State) : Host.Outcome State Fault Refusal :=
  commandRow cmdMemStatus mb req s

/-- MEM_POISON_LIST (R562). -/
def cmdMemPoisonList : Cmd where
  code := 0x0804
  lenOk := lenIs 4
  lenReq := 4
  checks := fun _ _ r => [param 2 (decide (le r.payload 2 1 ≤ 1)), reserved0 r.payload 3 1]
  act := fun s _ r =>
    let p := r.payload
    let l := (s.mem.plist.drop (le p 0 2)).take 253
    let out := toLE 2 l.length ++ toLE 2 s.mem.plist.length ++ toLE 1 (b2n s.mem.overflow) ++ zeros 3
      ++ l.flatMap (fun e => toLE 8 (64 * e.line) ++ toLE 1 e.kind ++ toLE 1 e.channel ++ toLE 6 e.turn)
    replyOk (if bit (le p 2 1) 0 then { s with mem := { s.mem with plist := [], overflow := false } } else s) out

def execMemPoisonList (mb : Fin 16) (req : Request) (s : State) : Host.Outcome State Fault Refusal :=
  commandRow cmdMemPoisonList mb req s

/-- Does a MEM_REKEY or a MEM_SCRUB run? -/
def State.guardBusy (s : State) : Bool := s.gaf.ops.any (fun o => o.command == 0x0805 || o.command == 0x0806)

/-- R550, R551, R562: every segment moves into one fresh slot; a segment whose sweep has another target gets a further
rekey. -/
def State.rekeyAll (s : State) : State :=
  match s.emptySlot with
  | none => s
  | some n =>
    let s := (s.put R.MG_STATUS_FULL_REKEY 1).openSlot n
    (iterate s.segments (fun g t =>
      if t.has (R.MG_SEG_SWEEP g) then
        (if t.mem.again.contains g then t else { t with mem := { t.mem with again := t.mem.again ++ [g] } })
      else t.beginSweep g) s).showSweeps

/-- MEM_REKEY (R562). -/
def cmdMemRekey : Cmd where
  code := 0x0805
  long := true
  lenOk := lenIs 0
  lenReq := 0
  checks := fun s _ _ =>
    [onlyRunning s, failIf s.guardBusy stBusy 0x00FF, failIf s.emptySlot.isNone stNoResource 0]
  act := fun s mb r =>
    { next := s.rekeyAll, status := stAccepted,
      op := some { mb := mb, tag := r.tag.toNat, command := 0x0805, progress := 0 } }

def execMemRekey (mb : Fin 16) (req : Request) (s : State) : Host.Outcome State Fault Refusal :=
  commandRow cmdMemRekey mb req s

/-- MEM_SCRUB (R562, R554). The operation's arguments are the range of lines. -/
def cmdMemScrub : Cmd where
  code := 0x0806
  long := true
  lenOk := lenIs 16
  lenReq := 16
  checks := fun s _ r =>
    let p := r.payload
    let top := 0x10000000 * s.segments
    [failIf (!(s.running || s.mode == mStop)) stRefusedState 0,
     param 0 (le p 0 8 % 64 == 0 && decide (le p 0 8 < top)),
     param 8 (le p 8 8 % 64 == 0 && decide (le p 0 8 + le p 8 8 ≤ top)),
     failIf s.guardBusy stBusy 0x00FF]
  act := fun s mb r =>
    let p := r.payload
    let top := 0x10000000 * s.segments
    accept s mb r [] [le p 0 8 / 64, (if le p 8 8 = 0 then top else le p 0 8 + le p 8 8) / 64]

def execMemScrub (mb : Fin 16) (req : Request) (s : State) : Host.Outcome State Fault Refusal :=
  commandRow cmdMemScrub mb req s

end Sys2Proof.Machine
end

