-- ==== Sys2Proof/Machine/Capture.lean ====
section
/-!
DEFINITION. Machine/Capture.lean: capture queues: records, drop markers, pad records, index, triggers, stopping and
sealing (R227-R245), and the queue commands (R251-R253).
-/

namespace Sys2Proof.Machine

open Sys2Proof

/-! ### Timestamps (R145, R146) -/

/-- The 96 bits of a timestamp. -/
def stampNat (t : Timestamp) : Nat := 2 ^ 48 * t.turn.toNat + 2 ^ 16 * t.pip.toNat + 2 ^ 10 * t.fine.toNat

/-- The start of the present pip. -/
def State.nowStamp (s : State) : Timestamp := ⟨BitVec.ofNat 48 s.tb.turn, BitVec.ofNat 32 s.tb.pip, 0⟩

/-! ### A queue and its memory -/

/-- The state of a queue beside its registers. -/
def State.queue (s : State) (q : Nat) : Queue := tblGet (fun _ => {}) s.cap.queues q

def State.setQueue (s : State) (q : Nat) (x : Queue) : State :=
  { s with cap := { s.cap with queues := tblPut q x s.cap.queues } }

/-- R234: the states. -/
def qFree : Nat := 0
def qIdle : Nat := 1
def qArmed : Nat := 2
def qRunning : Nat := 3
def qPost : Nat := 4
def qStopped : Nat := 5
def qSealed : Nat := 6

def State.queueState (s : State) (q : Nat) : Nat := s.get (R.CQ_STATE_STATE q)

/-- Bytes of a queue's data. -/
def State.queueBytes (s : State) (q : Nat) : Nat := 2 ^ 20 * s.get (R.CQ_SIZE_SIZE_MIB q)

/-- The queue's allocation. -/
def State.queueAlloc (s : State) (q : Nat) : Alloc :=
  (s.allocOf (s.queue q).alloc).getD ⟨0, .gaffer, 0, 0, 0, 0, 0, []⟩

/-- R249: the queue's bit in CQ_NOTIFY is set. -/
def State.notifyQueue (s : State) (q : Nat) : State :=
  s.setReg (R.CQ_NOTIFY (q / 32)) (setBit (s.reg (R.CQ_NOTIFY (q / 32))) (q % 32))

/-- R520: the home controller of a queue. -/
def State.homeOf (s : State) (q : Nat) : Nat := 96 + (s.queueAlloc q).first

/-! ### Drops (R243-R245) -/

/-- A frame of a lane is lost from a queue: it will be counted in the lane's next drop marker. -/
def State.countDrop (s : State) (lane q : Nat) (ts : Timestamp) : State :=
  let k := 1024 * lane + q
  let d := (tblFind k s.cap.drops).getD ⟨0, ts⟩
  ({ s with cap := { s.cap with drops := tblPut k ⟨satAdd 32 d.count 1, d.first⟩ s.cap.drops } }).bump
    (R.CQ_DROPPED_COUNT q)

/-- R245: a line write of a queue received INTEGRITY. -/
def State.captureFailed (s : State) (q : Nat) : State :=
  ((s.put (R.CQ_STATE_INT_ERR q) 1).bump (R.QC_INT_FAILS_COUNT (s.homeOf q))).raise 209

/-! ### The index (R231, R232) -/

/-- The 64 bytes of an index entry. -/
def indexBytes (a : IndexAcc) (part : Bool) (gen : Nat) : List Byte :=
  let b := toLE 12 a.firstTs ++ toLE 4 a.firstOff ++ toLE 4 a.firstSeq ++ toLE 4 a.count ++ toLE 12 a.lastTs
    ++ toLE 4 (b2n a.trigger + 2 * b2n a.drop + 4 * b2n a.synth + 8 * b2n part + 16 * b2n a.integrity)
    ++ toLE 4 (if a.trigger then a.trigOff else 0) ++ toLE 4 gen ++ zeros 12
  b ++ toLE 4 (crc32c b)

/-- An index line of a queue is written; one that has to wait (R551) is kept. A failed one flags no MiB (log entry 109). -/
def State.writeIndexLine (s : State) (q line : Nat) (b : List Byte) : State :=
  let t_o := writeLine s line 0 b
  let t := t_o.1
  match t_o.2 with
  | .done => t
  | .integrity => t.captureFailed q
  | .waits => t.setQueue q { t.queue q with indexWaits := (t.queue q).indexWaits ++ [(line, b)] }

/-- R232: the entry of the MiB with absolute number `m` is written. A failed write of its line counts and flags no MiB (log entry 109). -/
def State.writeIndex (s : State) (q m : Nat) (a : IndexAcc) (part : Bool) : State :=
  let size := s.get (R.CQ_SIZE_SIZE_MIB q)
  if size = 0 then s
  else
    let addr := (s.queueAlloc q).addr (2 ^ 20 * size + 64 * (m % size))
    let t := s.writeIndexLine q (addr / 64) (indexBytes a part (m / size))
    t.setQueue q { t.queue q with indexed := max (t.queue q).indexed (min size (m + 1)) }

/-- R245: a data line write of a queue, in the MiB with absolute number `mib`, received INTEGRITY; `l` names the frames whose records
started in it. A lossless lane's guarantee yields to data integrity (R197). A record is at most one MiB past its start; a line of the
MiB left last has that MiB's entry written again (log entry 120). -/
def State.lineIntegrity (s : State) (q mib : Nat) (l : List (Nat × Timestamp)) : State :=
  let s := forEach l (fun e t =>
    let t := t.countDrop e.1 q e.2
    if t.has (R.GU_CTRL_LOSSLESS e.1) then t.yielded 4 3 e.1 else t) s
  let x := s.queue q
  let cur := x.total / 2 ^ 20
  let s :=
    if mib = cur then s.setQueue q { x with acc := { x.acc with integrity := true } }
    else if cur < mib then s.setQueue q { x with nextBad := true }
    else
      let a := { x.prev with integrity := true }
      (s.setQueue q { x with prev := a }).writeIndex q mib a false
  s.captureFailed q

/-! ### Stopping and sealing (R234, R235) -/

/-- R228, R230: CQ_WPTR passes a record once all of it is in memory. -/
def State.showPointer (s : State) (q : Nat) : State :=
  let x := s.queue q
  let at_ := ((x.held.head?).map (·.at_)).getD x.total
  let size := s.queueBytes q
  let o := if size = 0 then 0 else if s.get (R.CQ_CFG_MODE q) = 0 then at_ else at_ % size
  s.put (R.CQ_WPTR_PTR q) (o / 32)

/-- The frames whose records start in the line at absolute offset `base`. -/
def startsIn (recs : List HeldRec) (base : Nat) : List (Nat × Timestamp) :=
  (recs.filter (fun x => decide (base ≤ x.at_) && decide (x.at_ < base + 64))).filterMap (·.frame)

/-- The records of `recs`, the last of which ends at `total`, that end after `from_`. -/
def stillHeld (recs : List HeldRec) (total from_ : Nat) : List HeldRec :=
  ((recs.zip ((recs.drop 1).map (·.at_) ++ [total])).filter (fun e => decide (from_ < e.2))).map Prod.fst

/-- Whole lines of `bytes`, in which the records `recs` lie, are written from absolute offset `base`. A line that has to wait (R551) keeps
those behind it waiting. -/
def writeLines (fuel : Nat) (q base : Nat) (recs : List HeldRec) (bytes : List Byte) (s : State) : State × List Byte :=
  match fuel with
  | 0 => (s, bytes)
  | fuel + 1 =>
    if bytes.length < 64 then (s, bytes)
    else
      let size := max 1 (s.queueBytes q)
      let addr := (s.queueAlloc q).addr (base % size)
      let t_o := writeLine s (addr / 64) 0 (bytes.take 64)
      let t := t_o.1
      let o := t_o.2
      if o = .waits then (t, bytes)
      else
        let t := t.inc64 (R.QC_OPS_LO (96 + t.channelOf addr)) (R.QC_OPS_HI (96 + t.channelOf addr)) 1
        let t := if o = .integrity then t.lineIntegrity q (base / 2 ^ 20) (startsIn recs base) else t
        writeLines fuel q (base + 64) recs (bytes.drop 64) t

/-- The write pointer may have left a MiB (R232) and wrapped (R233). -/
def State.leaveMib (s : State) (q old : Nat) : State :=
  let x := s.queue q
  let size := s.get (R.CQ_SIZE_SIZE_MIB q)
  let linear := s.get (R.CQ_CFG_MODE q) == 0
  if x.total / 2 ^ 20 = old / 2 ^ 20 ∨ (linear ∧ 2 ^ 20 * size ≤ x.total) then s
  else
    let s := s.writeIndex q (old / 2 ^ 20) x.acc false
    let y := s.queue q
    let s := s.setQueue q { y with prev := y.acc, acc := { integrity := y.nextBad }, nextBad := false }
    if !linear ∧ 0 < size ∧ x.total / 2 ^ 20 % size = 0 ∧ !s.has (R.CQ_STATE_WRAPPED q) then
      (s.put (R.CQ_STATE_WRAPPED q) 1).raise 205
    else s

/-- What a queue holds once lines have been written: the rest of the bytes, and the records `recs` that are not wholly in memory. -/
def State.keepRest (s : State) (q : Nat) (recs : List HeldRec) (total : Nat) (rest : List Byte) : State :=
  s.setQueue q { s.queue q with half := rest, held := stillHeld recs total (total - rest.length), total := total }

/-- The half line that a queue still holds is completed with zeros (R235; log entry 41). -/
def State.flushHalf (s : State) (q : Nat) : State :=
  let x := s.queue q
  if x.half.isEmpty then s
  else
    let pad := (64 - x.half.length % 64) % 64
    let t_rest := writeLines (x.half.length / 64 + 1) q (x.total - x.half.length) x.held (x.half ++ zeros pad) s
    t_rest.1.keepRest q x.held x.total (t_rest.2.take (t_rest.2.length - pad))

/-- R227: the header of a record; `flags` bits as the table gives them. -/
def recordHeader (ts source len classRes flags seq : Nat) : List Byte :=
  let b := toLE 12 ts ++ toLE 2 source ++ toLE 2 len ++ toLE 4 classRes ++ toLE 4 flags ++ toLE 4 seq
  b ++ toLE 4 (crc32c b)

/-- What a record is, beside its bytes. -/
structure Rec where
  lane : Nat
  ts : Timestamp
  source : Nat
  len : Nat
  classRes : Nat
  flags : Nat
  payload : List Byte := []

/-- R227: is a flag of a record set? -/
def Rec.flag (r : Rec) (i : Nat) : Bool := bit r.flags i

/-- R227-R232: a record is appended to its queue. -/
def appendRecord (s : State) (q : Nat) (r : Rec) : State :=
  let x := s.queue q
  let seq := s.reg (R.CQ_SEQ q)
  let pad := (32 - r.payload.length % 32) % 32
  let bytes := recordHeader (stampNat r.ts) r.source r.len r.classRes r.flags seq ++ r.payload ++ zeros pad
  let a := x.acc
  let off := x.total % 2 ^ 20
  let firstHere := a.count == 0
  let a := { a with
    firstTs := if firstHere then stampNat r.ts else a.firstTs,
    firstOff := if firstHere then off else a.firstOff,
    firstSeq := if firstHere then seq else a.firstSeq,
    count := a.count + 1, lastTs := max a.lastTs (stampNat r.ts),
    drop := a.drop || r.flag 4, synth := a.synth || r.flag 5,
    trigger := a.trigger || x.waitTrig, trigOff := if x.waitTrig then off else a.trigOff }
  let recs := x.held ++ [⟨x.total, if r.flag 4 ∨ r.flag 12 then none else some (r.lane, r.ts)⟩]
  -- R240: what is written while the gate is closed (markers and pad records) does not count towards POST
  let closed := if (r.flag 4 ∨ r.flag 12) ∧ !s.has (R.CQ_STATE_GATE q) then x.closed + bytes.length else x.closed
  let s := s.setQueue q { x with acc := a, waitTrig := false, closed := closed }
  let s := (s.wrapInc (R.CQ_SEQ_SEQ q)).inc64 (R.CQ_RECORDS_LO q) (R.CQ_RECORDS_HI q) 1
  let bytes := x.half ++ bytes
  let s_rest := writeLines (bytes.length / 64 + 1) q (x.total - x.half.length) recs bytes s
  let s := s_rest.1.keepRest q recs (x.total - x.half.length + bytes.length) s_rest.2
  (s.leaveMib q x.total).showPointer q

/-- R551: lines of a queue, and of its index, that had to wait are written once they can be. -/
def State.retryQueue (s : State) (q : Nat) : State :=
  let x := s.queue q
  let s := if s.queueState q = qSealed then s.flushHalf q
    else
      let s_rest := writeLines (x.half.length / 64 + 1) q (x.total - x.half.length) x.held x.half s
      s_rest.1.keepRest q x.held x.total s_rest.2
  let w := (s.queue q).indexWaits
  let s := forEach w (fun e t => t.writeIndexLine q e.1 e.2) (s.setQueue q { s.queue q with indexWaits := [] })
  s.showPointer q

/-- R551: each queue with a line that waits tries again. -/
def State.retryLines (s : State) : State :=
  let waits (e : Nat × Queue) : Bool :=
    decide (64 ≤ e.2.half.length) || !e.2.indexWaits.isEmpty || (s.queueState e.1 == qSealed && !e.2.half.isEmpty)
  forEach ((s.cap.queues.filter waits).map Prod.fst) (fun q t => t.retryQueue q) s

/-- R223, R129: the flag that a record made at this instant carries in a synthetic turn, or with the pip PLL unlocked. -/
def State.synthNow (s : State) : Nat := 32 * b2n (s.synthStamp s.nowStamp)

/-- R235: the end marker, a drop marker. -/
def endMarker (s : State) (q : Nat) : Rec :=
  { lane := 127, ts := s.nowStamp, source := 0x7F + 0x300, len := 0, classRes := min (s.queue q).refusedFull (2 ^ 32 - 1),
    flags := 16 + s.synthNow }

/-- R228: a pad record. Its timestamp is the start of the present pip (log entry 93). -/
def padRecord (s : State) : Rec :=
  { lane := 127, ts := s.nowStamp, source := 0x7F + 0x300, len := 0, classRes := 0x30000, flags := 4096 + s.synthNow }

/-- R233: does a LINEAR queue have no room for `n` bytes more? -/
def State.linearFull (s : State) (q n : Nat) : Bool :=
  s.get (R.CQ_CFG_MODE q) == 0 && decide (s.queueBytes q < (s.queue q).total + n + 32)

/-- R223: the plane that was active in a region at an instant in pips: what its later switches left. -/
def State.planeAt (s : State) (r i : Nat) : Nat :=
  let later := (tblGet (fun _ => []) s.fab.planesBefore r).takeWhile (fun e => decide (i < e.1))
  (later.getLast?.map Prod.snd).getD (s.get (R.CF_CTX_STATE_ACTIVE r))

/-- R223: CONTEXT and CTX_VALID of a timestamp: the plane active in the region that the lane names. -/
def contextFlags (s : State) (n : Nat) (ts : Timestamp) : Nat :=
  let r := s.get (R.GU_CTRL_REGION n)
  if 48 ≤ r then 0
  else 2048 + 256 * s.planeAt r ((s.instantOf ts.turn.toNat ts.pip.toNat).getD s.tb.now)

/-- R244: the drop marker that a lane owes to a queue is written, for `d`. Its ORIGIN and flags: log entry 95. -/
def State.writeMarker (s : State) (lane q : Nat) (d : Drops) : State :=
  let s := { s with cap := { s.cap with drops := tblDel (1024 * lane + q) s.cap.drops } }
  let r : Rec := { lane := lane, ts := d.first, source := lane + 256 * ((s.get (R.GU_CTRL_FRAMING lane)) - 1),
                   len := 0, classRes := d.count, flags := 16 + 32 * b2n (s.synthStamp d.first) + contextFlags s lane d.first }
  ((appendRecord s q r).raise 200).notifyQueue q

/-- R244: the markers that are owed to a queue are written; a full LINEAR queue has no room for one. -/
def State.writeOwed (s : State) (q : Nat) : State :=
  forEach (s.cap.drops.filter (fun e => e.1 % 1024 == q)) (fun e t =>
    if t.linearFull q 32 then { t with cap := { t.cap with drops := tblDel e.1 t.cap.drops } }
    else t.writeMarker (e.1 / 1024) q e.2) s

/-- R228: a queue's half line is completed with a pad record. -/
def State.padHalf (s : State) (q : Nat) : State :=
  if (s.queue q).half.length % 64 = 0 ∨ s.linearFull q 32 then s else appendRecord s q (padRecord s)

/-- R234, R232, R235: a STOPPED queue is sealed: end marker, held half line, markers owed for lines that failed, PARTIAL entry,
SEALED. -/
def State.sealQueue (s : State) (q : Nat) : State :=
  if s.queueState q ≠ qStopped then s
  else
    let s := if s.has (R.CQ_STATE_FULL q) then ((appendRecord s q (endMarker s q)).raise 200).flushHalf q
      else ((s.padHalf q).writeOwed q).padHalf q
    let s := s.flushHalf q
    let x := s.queue q
    let m := min x.total (max 1 (if s.get (R.CQ_CFG_MODE q) = 0 then s.queueBytes q else x.total + 1) - 1) / 2 ^ 20
    let s := s.writeIndex q m x.acc true
    ((s.showPointer q).put (R.CQ_STATE_STATE q) qSealed).raise 204 |>.notifyQueue q

/-- R234, R240: has a queue in POST written POST MiB since its trigger point with its gate open? -/
def State.postDone (s : State) (q : Nat) : Bool :=
  let x := s.queue q
  s.queueState q == qPost && decide (2 ^ 20 * s.get (R.CQ_WINDOW_POST_MIB q) + x.closed ≤ x.total - x.trigTotal)

/-- R234: a queue enters STOPPED, and GATE becomes 0 whatever the cause (log entry 94); with AUTOSEAL it is sealed. A thermal trip seals no
queue (R186, R880). The markers that it is owed are written first, but for a thermal trip, which has gated the gather units. The end of
POST wins over a cause that comes with it (R240). -/
def State.stopQueue (s : State) (q cause : Nat) : State :=
  let st := s.queueState q
  if st = qArmed ∨ st = qRunning ∨ st = qPost then
    let s := if cause = 6 ∨ st = qArmed then s else s.writeOwed q
    let over_ := cause != 3 && s.postDone q
    let s := if over_ then s.raise 203 else s
    let s := ((s.put (R.CQ_STATE_STATE q) qStopped).put (R.CQ_STATE_GATE q) 0).put (R.CQ_STATE_STOP_CAUSE q) (if over_ then 3 else cause)
    let s := s.notifyQueue q
    if s.has (R.CQ_CFG_AUTOSEAL q) && cause != 6 then s.sealQueue q else s
  else s

/-- Every live queue stops (R184, R186, R201, R187); `sealing` when the orderly stop seals it. -/
def State.stopAllQueues (s : State) (cause : Nat) (sealing : Bool) : State :=
  forEach (s.cap.queues.map Prod.fst) (fun q t =>
    let t := t.stopQueue q cause
    if sealing then t.sealQueue q else t) s

/-! ### Writing records (R233, R234, R236, R244) -/

/-- R235: a LINEAR queue is full and stops. -/
def State.queueFull (s : State) (q : Nat) : State :=
  ((s.put (R.CQ_STATE_FULL q) 1).raise 201).stopQueue q 2

/-- R234: a queue leaves POST at the end of its window. -/
def State.checkPost (s : State) (q : Nat) : State := if s.postDone q then (s.raise 203).stopQueue q 3 else s

/-- Bytes of a record with `n` payload bytes. -/
def recordSize (n : Nat) : Nat := 32 + (n + 31) / 32 * 32

/-- A queue that takes records: RUNNING or POST. -/
def State.queueLive (s : State) (q : Nat) : Bool := s.queueState q == qRunning || s.queueState q == qPost

/-- R244: the drop marker that a lane owes to a queue is written. -/
def State.dropMarker (s : State) (lane q : Nat) : State :=
  let k := 1024 * lane + q
  match tblFind k s.cap.drops with
  | none => s
  | some d =>
    if !s.queueLive q then s
    else if s.linearFull q 32 then s.queueFull q
    else (s.writeMarker lane q d).checkPost q

/-- DROP_MARKER_WRITE (R244): buffer space has returned; the marker that is owed is written. -/
def execDropMarkerWrite (lane : Fin 96) (q : Fin 1024) (s : State) : Host.Outcome State Fault Refusal :=
  .next (s.dropMarker lane.val q.val)

/-- PAD_RECORD_TIMER (R228): half a line has been held for 1 µs: a pad record completes it, also in a queue that has stopped and is not
sealed. A LINEAR queue in which it does not fit is full (R233). -/
def execPadRecordTimer (q : Fin 1024) (s : State) : Host.Outcome State Fault Refusal :=
  let k := q.val
  if (s.queue k).half.length % 64 = 0 ∨ !(s.queueLive k || s.queueState k == qStopped) then .next s
  else if s.linearFull k 32 then .next (if s.queueLive k then s.queueFull k else s)
  else .next ((appendRecord s k (padRecord s)).checkPost k)

/-- CAPTURE_LINE_INTEGRITY (R245): a data line write of a queue received INTEGRITY, in the MiB of the write pointer or in the one before
it; `line` names the frames whose records started in it, each with the timestamp that a drop marker takes (log entry 120). -/
def execCaptureLineIntegrity (q : Fin 1024) (line : LineFail) (s : State) : Host.Outcome State Fault Refusal :=
  if s.queueLive q.val ∨ s.queueState q.val = qStopped then
    .next (s.lineIntegrity q.val ((s.queue q.val).total / 2 ^ 20 - b2n line.before) (line.frames.map (fun f => (f.1.val, f.2))))
  else .next s

/-- R236: a frame routed to a queue that does not take it; EV_210 at the first of a turn. -/
def State.refuseFrame (s : State) (q : Nat) : State :=
  let s := s.bump (R.CQ_REFUSED_COUNT q)
  if s.cap.refusedTurn = s.tb.turn + 1 then s
  else ({ s with cap := { s.cap with refusedTurn := s.tb.turn + 1 } }).raise 210

/-- R235: a frame that a full LINEAR queue refuses. -/
def State.refuseFull (s : State) (q : Nat) : State :=
  (s.setQueue q { s.queue q with refusedFull := (s.queue q).refusedFull + 1 }).bump (R.CQ_REFUSED_COUNT q)

/-- The records of a frame are written in order (R226, R229); their offsets are answered. A LINEAR queue that cannot fit the next
record stops (R233). -/
def writeRecords (s : State) (q : Nat) : List Rec → State × List Nat
  | [] => (s, [])
  | r :: rest =>
    if !s.queueLive q then (s, [])
    else if s.linearFull q (recordSize r.payload.length) then ((s.queueFull q).refuseFull q, [])
    else
      let at_ := (s.queue q).total
      let t_out := writeRecords ((appendRecord s q r).checkPost q) q rest
      (t_out.1, at_ :: t_out.2)

/-! ### Triggers (R237-R240) -/

/-- Patch bytes of a queue's record that starts at an absolute offset, in memory or in the held half line: what the
gather unit holds back until the trigger is known (R284). -/
def State.patchQueue (s : State) (q at_ : Nat) (bytes : List Byte) : State :=
  let x := s.queue q
  let held := x.total - x.half.length
  let size := max 1 (s.queueBytes q)
  (numbered bytes).foldl (fun t e =>
    let b := e.2
    let o := at_ + e.1
    if held ≤ o then
      let y := t.queue q
      t.setQueue q { y with half := y.half.set (o - held) b }
    else
      { t with mem := { t.mem with data := tblSet (fun _ => 0) t.mem.data ((t.queueAlloc q).addr (o % size)) b } }) s

/-- The bytes of a queue from an absolute offset. -/
def State.peekQueue (s : State) (q at_ n : Nat) : List Byte :=
  let x := s.queue q
  let held := x.total - x.half.length
  let size := max 1 (s.queueBytes q)
  (List.range n).map (fun i =>
    let o := at_ + i
    if held ≤ o then x.half.getD (o - held) 0 else cellGet 0 s.mem.data ((s.queueAlloc q).addr (o % size)))

/-- R284: a record carries TRIG_MARK. -/
def State.markRecord (s : State) (q at_ : Nat) : State :=
  let h := s.peekQueue q at_ 28
  let h := h.set 20 (h.getD 20 0 ||| 0x80)
  s.patchQueue q at_ (h ++ toLE 4 (crc32c h))

/-- R231: the trigger point lies at an absolute offset: its MiB's index entry says so. -/
def State.markIndex (s : State) (q at_ : Nat) : State :=
  let x := s.queue q
  if at_ / 2 ^ 20 = x.total / 2 ^ 20 then
    s.setQueue q { x with acc := { x.acc with trigger := true, trigOff := at_ % 2 ^ 20 } }
  else
    let a := { x.prev with trigger := true, trigOff := at_ % 2 ^ 20 }
    (s.setQueue q { x with prev := a }).writeIndex q (at_ / 2 ^ 20) a false

/-- R237-R240: the queue's trigger line fires at an instant; `record` is the offset of the record of the frame that fired
it, when a frame on a lane that writes to this queue did. -/
def State.triggerQueue (s : State) (q : Nat) (instant : Nat) (record : Option Nat) : State :=
  let x := s.queue q
  let windowMode := s.get (R.CQ_CFG_MODE q) == 2
  if !s.queueLive q ∨ x.fired ∨
      (windowMode ∧ s.has (R.CQ_CFG_PREFILL q) ∧ x.total < 2 ^ 20 * s.get (R.CQ_WINDOW_PRE_MIB q)) then s
  else
    let at_ := record.getD x.total
    let size := max 1 (s.queueBytes q)
    let off := if s.get (R.CQ_CFG_MODE q) = 0 then at_ else at_ % size
    let s := s.setQueue q { x with fired := true, waitTrig := record.isNone, trigTotal := at_, closed := 0 }
    let s := if record.isSome then s.markIndex q at_ else s
    let s := (s.put (R.CQ_STATE_TRIGGERED q) 1).put (R.CQ_TRIG_PTR_PTR q) (off / 32)
    let s := ((s.setReg (R.CQ_TRIG_TS0 q) instant).setReg (R.CQ_TRIG_TS1 q) (instant / 2 ^ 32)).setReg (R.CQ_TRIG_TS2 q)
      (instant / 2 ^ 64)
    let s := s.raise 202
    if windowMode then (s.put (R.CQ_STATE_STATE q) qPost).checkPost q else s

/-! ### Arming and gates (R234) -/

/-- R234: CQ_ARM takes effect. -/
def State.armQueue (s : State) (q : Nat) (openNow : Bool) : State :=
  let st := s.queueState q
  if st = qIdle ∨ st = qSealed then
    let s := s.setQueue q { alloc := (s.queue q).alloc }
    let s := { s with cap := { s.cap with drops := s.cap.drops.filter (fun e => e.1 % 1024 != q) } }
    let s := forEach [R.CQ_STATE q, R.CQ_WPTR q, R.CQ_SEQ q, R.CQ_TRIG_PTR q, R.CQ_TRIG_TS0 q, R.CQ_TRIG_TS1 q, R.CQ_TRIG_TS2 q,
      R.CQ_RECORDS_LO q, R.CQ_RECORDS_HI q, R.CQ_DROPPED q, R.CQ_REFUSED q] (fun o t => t.setReg o 0) s
    if openNow then (s.put (R.CQ_STATE_STATE q) qRunning).put (R.CQ_STATE_GATE q) 1 else s.put (R.CQ_STATE_STATE q) qArmed
  else s

/-- R161: the gate of a queue changes at the start of the present pip. -/
def State.setGate (s : State) (q : Nat) (b : Bool) : State :=
  let x := s.queue q
  (s.setQueue q { x with gates := (s.tb.now, s.has (R.CQ_STATE_GATE q)) :: x.gates }).put (R.CQ_STATE_GATE q) (b2n b)

/-- R234, R161: GATE_OPEN. -/
def State.openGate (s : State) (q : Nat) : State :=
  let s := if s.queueState q = qArmed then s.put (R.CQ_STATE_STATE q) qRunning else s
  if s.queueLive q then s.setGate q true else s

/-- R234: GATE_CLOSE: the queue stays in its state. -/
def State.closeGate (s : State) (q : Nat) : State := if s.queueLive q then s.setGate q false else s

/-- R161: the gate state under which a frame with a timestamp is treated. -/
def State.gateAt (s : State) (q : Nat) (ts : Timestamp) : Bool :=
  match s.instantOf ts.turn.toNat ts.pip.toNat with
  | none => s.has (R.CQ_STATE_GATE q)
  | some i => ((((s.queue q).gates.takeWhile (fun e => decide (i < e.1))).getLast?).map Prod.snd).getD (s.has (R.CQ_STATE_GATE q))

/-! ### Commands on queues (R251-R253) -/

/-- A queue or lane list: N, FLAGS, entries (R252). -/
def listLen (r : Request) : Bool := r.length.toNat == 4 + 4 * le r.payload 0 2

/-- The numbers of a list. -/
def listItems (p : List Byte) : List (Nat × Nat) := (entriesOf p 4 4 (le p 0 2)).map (fun e => (le e 0 2, le e 2 2))

/-- Check 6 for queues. -/
def ownsQueues (s : State) (mb : Nat) (p : List Byte) : Chk :=
  owned s mb (((numbered (listItems p)).filter (fun x => decide (x.2.1 < 1024))).map (fun (i, e) => (i, claimKey 2 e.1)))

/-- Check 9: queues that an outstanding operation holds (R80). -/
def queuesIdle (s : State) (p : List Byte) : Chk :=
  notInOperation s ((numbered (listItems p)).map (fun (i, e) => (i, claimKey 2 e.1)))

/-- Check 7 of a queue list: N, FLAGS below `2 ^ fb`, numbers, zero bytes. -/
def queueList (nMax fb : Nat) (p : List Byte) : List Chk :=
  param 0 (decide (1 ≤ le p 0 2) && decide (le p 0 2 ≤ nMax)) :: param 2 (decide (le p 2 1 < 2 ^ fb)) :: param 3 (zeroAt p 3 1)
    :: (numbered (listItems p)).flatMap (fun (i, e) => [param (4 + 4 * i) (decide (e.1 < 1024)), param (6 + 4 * i) (e.2 == 0)])

/-- R231: MiB that a queue of `n` MiB needs: its data and its index. -/
def queueMib (n : Nat) : Nat := n + (2 ^ 20 + 64 * n - 1) / 2 ^ 20

/-- The set and the rate of each channel for CQ_CREATE. -/
def createWants (s : State) (p : List Byte) : Nat × Nat × Nat :=
  let f_lg := s.chooseSet (le p 16 4) false
  let f := f_lg.1
  let lg := f_lg.2
  (f, lg, le p 12 2 * 32 / 2 ^ lg)

/-- R520: HOMED of a controller counts the queues whose home it is. -/
def State.countHomed (s : State) (q : Nat) (add : Bool) : State :=
  let f := R.QC_STATUS_HOMED (s.homeOf q)
  s.put f (if add then s.get f + 1 else s.get f - 1)

/-- CQ_CREATE (R253, R883). DETAIL of NOT_OWNER and of a PRE + POST above SIZE: log entry 121. -/
def cmdCqCreate : Cmd where
  code := 0x0400
  lenOk := lenIs 24
  lenReq := 24
  checks := fun s mb r =>
    let p := r.payload
    let q := le p 0 2
    let f_lg_rate := createWants s p
    let f := f_lg_rate.1
    let lg := f_lg_rate.2.1
    let rate := f_lg_rate.2.2
    let chs := setChannels f lg
    let wm := le p 2 1 == 2
    [onlyRunning s, failIf (decide (q < 1024) && !s.holds mb (claimKey 2 q)) stNotOwner 0,
     param 0 (decide (q < 1024)), param 2 (decide (le p 2 1 ≤ 2)), param 3 (decide (le p 3 1 ≤ 3)),
     param 4 (decide (1 ≤ le p 4 4)),
     param 8 (!wm || decide (le p 8 2 + le p 10 2 ≤ le p 4 4)), param 10 (!wm || decide (1 ≤ le p 10 2)),
     reserved0 p 14 2, param 16 (le p 16 4 == 0 || (maskSet (le p 16 4)).isSome),
     param 20 (decide (le p 20 1 < 16) || le p 20 1 == 0xFF), reserved0 p 21 3,
     failIf (s.queueState q != qFree) stBusy 0x00FF, notInOperation s [(0, claimKey 2 q)],
     failIf (chs.any (fun k => decide (s.channels ≤ k))) stNoResource 3,
     failIf ((s.findRuns false f lg (queueMib (le p 4 4))).isNone) stNoResource 1,
     failIf (decide (0 < le p 12 2) && !s.bandwidthFits chs rate) stNoResource 2]
  act := fun s mb r =>
    let p := r.payload
    let q := le p 0 2
    let f_lg_rate := createWants s p
    let f := f_lg_rate.1
    let lg := f_lg_rate.2.1
    let rate := f_lg_rate.2.2
    let size := le p 4 4
    match s.allocate (.queue q) mb f lg (queueMib size) rate with
    | none => { next := s, status := stNoResource, detail := 1 }
    | some (t, a) =>
      let t := (t.reserveCapture (setChannels f lg) rate).setQueue q { alloc := a.handle }
      let t := t.setReg (R.CQ_CFG q) (le p 2 1 + 4 * bits (le p 3 1) 0 2 + 256 * le p 20 1)
      let t := ((t.setReg (R.CQ_BASE q) (a.base / 2 ^ 20)).setReg (R.CQ_SIZE q) size).setReg (R.CQ_WINDOW q)
        (le p 8 2 + 65536 * le p 10 2)
      let t := (t.setReg (R.CQ_RESERVE q) (le p 12 2)).setReg (R.CQ_STATE q) qIdle
      replyOk (t.countHomed q true) (toLE 8 a.base ++ toLE 8 (a.addr (2 ^ 20 * size)))

def execCqCreate (mb : Fin 16) (req : Request) (s : State) : Host.Outcome State Fault Refusal :=
  commandRow cmdCqCreate mb req s

/-- R234, R253: a queue is deleted: its memory and reservation are free. -/
def State.deleteQueue (s : State) (q : Nat) : State :=
  let a := s.queueAlloc q
  let s := s.countHomed q false
  let s := (s.freeAlloc a).releaseCapture (setChannels a.first a.log2) a.rate
  let s := { s with cap := { s.cap with queues := tblDel q s.cap.queues,
                                        drops := s.cap.drops.filter (fun e => e.1 % 1024 != q) } }
  s.resetRegs (R.CQ_CFG q) (R.CQ_CFG q + 0x40)

/-- CQ_DELETE (R253). N other than 1, and DETAIL of a wrong LENGTH: log entry 121. -/
def cmdCqDelete : Cmd where
  code := 0x0401
  lenOk := listLen
  lenReq := 0xFFFF
  checks := fun s mb r =>
    let p := r.payload
    let st := s.queueState (le p 4 2)
    onlyRunning s :: ownsQueues s mb p :: (queueList 1 0 p ++ [failIf (st != qIdle && st != qSealed) stRefusedArmed 0, queuesIdle s p])
  act := fun s _ r => replyOk (s.deleteQueue (le r.payload 4 2)) []

def execCqDelete (mb : Fin 16) (req : Request) (s : State) : Host.Outcome State Fault Refusal :=
  commandRow cmdCqDelete mb req s

/-- The 8 bytes that name the turn at which a command takes effect. -/
def turnBytes (t : Nat) : List Byte := toLE 6 t ++ zeros 2

/-- CQ_ARM (R253, R234). -/
def cmdCqArm : Cmd where
  code := 0x0402
  lenOk := listLen
  lenReq := 0xFFFF
  checks := fun s mb r =>
    let p := r.payload
    onlyRunning s :: ownsQueues s mb p :: (queueList 1015 1 p
      ++ (numbered (listItems p)).map (fun (i, e) =>
        failIf (s.queueState e.1 != qIdle && s.queueState e.1 != qSealed) stRefusedArmed i) ++ [queuesIdle s p])
  act := fun s _ r =>
    let p := r.payload
    { next := s.latch ((listItems p).map (fun e => .queueArm e.1 (bit (le p 2 1) 0))), payload := turnBytes s.effectTurn }

def execCqArm (mb : Fin 16) (req : Request) (s : State) : Host.Outcome State Fault Refusal :=
  commandRow cmdCqArm mb req s

/-- CQ_STOP (R253). A FREE queue is left unchanged (log entry 97). -/
def cmdCqStop : Cmd where
  code := 0x0403
  lenOk := listLen
  lenReq := 0xFFFF
  checks := fun s mb r => onlyRunning s :: ownsQueues s mb r.payload :: (queueList 1015 0 r.payload
    ++ [queuesIdle s r.payload])
  act := fun s _ r =>
    { next := s.latch ((listItems r.payload).map (fun e => .queueStop e.1 1 false)), payload := turnBytes s.effectTurn }

def execCqStop (mb : Fin 16) (req : Request) (s : State) : Host.Outcome State Fault Refusal :=
  commandRow cmdCqStop mb req s

/-- CQ_SEAL (R253): the operation's arguments are the queues. A FREE queue is left unchanged; the place of the IDLE refusal among the
checks of R72 is the model's choice (log entry 97). -/
def cmdCqSeal : Cmd where
  code := 0x0404
  long := true
  lenOk := listLen
  lenReq := 0xFFFF
  checks := fun s mb r =>
    let p := r.payload
    onlyRunning s :: (numbered (listItems p)).foldr (fun (i, e) acc =>
        failIf (s.queueState e.1 == qIdle && s.holds mb (claimKey 2 e.1)) stRefusedState i :: acc) []
      ++ (ownsQueues s mb p :: (queueList 1015 0 p ++ [queuesIdle s p]))
  act := fun s mb r =>
    let qs := (listItems r.payload).map Prod.fst
    accept (s.latch (qs.map (fun q => .queueStop q 1 true))) mb r (qs.map (claimKey 2)) qs

def execCqSeal (mb : Fin 16) (req : Request) (s : State) : Host.Outcome State Fault Refusal :=
  commandRow cmdCqSeal mb req s

/-- Is a stop for sealing still pending for a queue? -/
def State.sealPending (s : State) (q : Nat) : Bool :=
  (s.gaf.shadow ++ s.gaf.held).any (fun e =>
    match e with
    | .queueStop j _ true => j == q
    | _ => false)

/-- CQ_SEAL_COMPLETE (R253): every listed queue has stopped; each is sealed and the notice is pushed. -/
def execCqSealComplete (mb : Fin 16) (tag : BitVec 16) (s : State) : Host.Outcome State Fault Refusal :=
  match s.opOf mb.val tag.toNat with
  | some o =>
    if o.command = 0x0404 ∧ o.args.all (fun q => !s.sealPending q) then
      .next ((forEach o.args (fun q t => t.sealQueue q) s).endOp o stOk 0)
    else .next s
  | none => .next s

/-- CQ_STATUS (R253). -/
def cmdCqStatus : Cmd where
  code := 0x0405
  lenOk := lenIs 4
  lenReq := 4
  checks := fun _ _ r => [param 0 (decide (le r.payload 0 2 < 1024)), reserved0 r.payload 2 2]
  act := fun s _ r =>
    let q := le r.payload 0 2
    replyOk s ((List.range 16).flatMap (fun i => toLE 4 (s.reg (R.CQ_CFG q + 4 * i))))

def execCqStatus (mb : Fin 16) (req : Request) (s : State) : Host.Outcome State Fault Refusal :=
  commandRow cmdCqStatus mb req s

/-- CQ_READ_INDEX (R253): the gaffer reads the entries from stack memory. A failed read, and what counts as written: log entry 121. -/
def cmdCqReadIndex : Cmd where
  code := 0x0406
  lenOk := lenIs 12
  lenReq := 12
  checks := fun s _ r =>
    let p := r.payload
    let q := le p 0 2
    [param 0 (decide (q < 1024)), reserved0 p 2 2, param 4 (decide (le p 4 4 < max 1 (s.queue q).indexed)),
     param 8 (decide (1 ≤ le p 8 2) && decide (le p 8 2 ≤ 63)), reserved0 p 10 2]
  act := fun s _ r =>
    let p := r.payload
    let q := le p 0 2
    let n := (s.queue q).indexed
    let k := min (le p 8 2) (n - le p 4 4)
    let base := s.queueBytes q + 64 * le p 4 4
    let t_st_data := (List.range k).foldl (fun (acc : State × Nat × List Byte) i =>
      let u_e_d := stackRead acc.1 0xF0 ((acc.1.queueAlloc q).addr (base + 64 * i)) 64
      let u := u_e_d.1
      let e := u_e_d.2.1
      let d := u_e_d.2.2
      (u, if acc.2.1 = 0 then e else acc.2.1, acc.2.2 ++ d)) (s, 0, [])
    let t := t_st_data.1
    let st := t_st_data.2.1
    let data := t_st_data.2.2
    { next := t, status := if st = 0 then stOk else stIntegrity,
      payload := if st = 0 then toLE 4 k ++ toLE 4 n ++ zeros 24 ++ data else [] }

def execCqReadIndex (mb : Fin 16) (req : Request) (s : State) : Host.Outcome State Fault Refusal :=
  commandRow cmdCqReadIndex mb req s

end Sys2Proof.Machine
end

