-- ==== Sys2Proof/Machine/Classifier.lean ====
section
/-!
DEFINITION. Machine/Classifier.lean: key profiles, the exact table, the ternary table, hit counters and their commands
(R255-R276, R294, R295).
-/

namespace Sys2Proof.Machine

open Sys2Proof

/-! ### The tables -/

/-- Is an edit one of the classifier? -/
def classifierEdit (e : Edit) : Bool :=
  match e with
  | .exact _ _ => true
  | .tern _ _ => true
  | .profile _ _ => true
  | _ => false

/-- R291: CL_STATUS shows the entries in use and whether edits wait; EV_217 when the exact table rises above 28,672. -/
def State.showTables (s : State) : State :=
  let n := s.cap.exact.length
  let up := decide (s.get R.CL_STATUS_EXACT_USED ≤ 28672) && decide (28672 < n)
  let s := (s.put R.CL_STATUS_EXACT_USED n).put R.CL_STATUS_TERN_USED s.cap.tern.length
  let s := s.put R.CL_STATUS_PENDING (b2n ((s.gaf.shadow ++ s.gaf.held).any classifierEdit))
  if up then s.raise 217 else s

/-- An entry of the exact table is set or removed. -/
def putExact (t : Tbl ExactEntry) (i : Nat) (e : Option ExactEntry) : Tbl ExactEntry :=
  match e with
  | some x => tblPut i x t
  | none => tblDel i t

/-- An entry of the ternary table is set or removed. -/
def putTern (t : Tbl TernEntry) (i : Nat) (e : Option TernEntry) : Tbl TernEntry :=
  match e with
  | some x => tblPut i x t
  | none => tblDel i t

/-- One shadow becomes active (R148). -/
def State.applyShadow (s : State) (e : Edit) : State :=
  match e with
  | .reg off mask v => s.setReg off (s.reg off - (s.reg off &&& mask) + v)
  | _ => s

/-- R274: an edit becomes active, in the table and in the gaffer's copy (R273). -/
def State.applyClassifier (s : State) (e : Edit) : State :=
  match e with
  | .exact i x => { s with cap := { s.cap with exact := putExact s.cap.exact i x, exactCopy := putExact s.cap.exactCopy i x } }
  | .tern i x => { s with cap := { s.cap with tern := putTern s.cap.tern i x, ternCopy := putTern s.cap.ternCopy i x } }
  | .profile off v => s.setReg off v
  | _ => s

/-- An edit that assigns lanes to profiles (R295). -/
def profileEdit (e : Edit) : Bool :=
  match e with
  | .reg off _ _ => decide (R.CL_LANE_PROFILE 0 ≤ off) && decide (off ≤ R.CL_LANE_PROFILE 11)
  | _ => false

/-- R274, R275: the edits of the boundary become active together, before any lookup of the new turn, with EV_216. -/
def State.applyClassifierEdits (s : State) (es : List Edit) : State :=
  let s := forEach (es.filter profileEdit) (fun e t => t.applyShadow e) s
  let l := es.filter classifierEdit
  if l.isEmpty then s else (((forEach l (fun e t => t.applyClassifier e) s)).raise 216).showTables

/-- The exact table as the pending edits will leave it. -/
def State.futureExact (s : State) : Tbl ExactEntry :=
  (s.gaf.shadow ++ s.gaf.held).foldl (fun t e =>
    match e with
    | .exact i x => putExact t i x
    | _ => t) s.cap.exactCopy

/-- R261: the candidate buckets of a key, h0's first. -/
def candidates (seed : Nat) (key : BitVec 320) : List Nat :=
  let l := toLE 40 key.toNat
  let h0 := crc32c l % 8192
  let h1 := crc32cSeed seed l % 8192
  if h0 = h1 then [h0] else [h0, h1]

/-- R262: the slots that a key may be held in, in the order of R263. -/
def candidateSlots (seed : Nat) (key : BitVec 320) : List Nat :=
  (candidates seed key).flatMap (fun b => (List.range 4).map (fun i => 4 * b + i))

/-- R262: the index at which a table holds a key. -/
def findExact (seed : Nat) (t : Tbl ExactEntry) (key : BitVec 320) : Option Nat :=
  (candidateSlots seed key).find? (fun i => match tblFind i t with
    | some e => e.key == key
    | none => false)

/-- R265: the lowest valid ternary entry that a key matches. -/
def findTern (t : Tbl TernEntry) (key : BitVec 320) : Option (Nat × TernEntry) :=
  t.find? (fun e => key &&& e.2.mask == e.2.value &&& e.2.mask)

/-- R263: the free slot to which the resident of slot `i` can move: the lowest of its other candidate bucket, or the
slots of that bucket to search further. -/
def otherSlots (seed : Nat) (t : Tbl ExactEntry) (i : Nat) : List Nat :=
  match tblFind i t with
  | none => []
  | some e => ((candidates seed e.key).filter (fun b => b != i / 4)).flatMap (fun b => (List.range 4).map (fun k => 4 * b + k))

/-- R263: a breadth-first search for a chain of at most 64 moves. `todo` holds the paths still to try, each with its
last slot first; the answer is a path whose first element is a free slot. -/
def searchChain (fuel seed : Nat) (t : Tbl ExactEntry) (seen : List Nat) (todo : List (List Nat)) : Option (List Nat) :=
  match fuel, todo with
  | 0, _ => none
  | _ + 1, [] => none
  | fuel + 1, p :: rest =>
    let next := (otherSlots seed t (p.headD 0)).filter (fun i => !seen.contains i)
    match next.find? (fun i => (tblFind i t).isNone) with
    | some i => some (i :: p)
    | none =>
      if 64 ≤ p.length then searchChain fuel seed t seen rest
      else searchChain fuel seed t (next ++ seen) (rest ++ next.map (fun i => i :: p))

/-- R264: the moves of a chain, the last first: each resident is written into its new slot, which its old one loses. -/
def chainMoves (t : Tbl ExactEntry) : List Nat → List (Nat × Option ExactEntry)
  | a :: b :: rest => (a, tblFind b t) :: (b, none) :: chainMoves t (b :: rest)
  | _ => []

/-- R263: where a key is inserted and with which writes before it; the moves of the chain. -/
def insertPlan (seed : Nat) (t : Tbl ExactEntry) (key : BitVec 320) : Option (Nat × List (Nat × Option ExactEntry) × Nat) :=
  let slots := candidateSlots seed key
  match slots.find? (fun i => (tblFind i t).isNone) with
  | some i => some (i, [], 0)
  | none =>
    match searchChain 40000 seed t slots (slots.map (fun i => [i])) with
    | some path => some (path.getLastD 0, chainMoves t path, path.length - 1)
    | none => none

/-! ### Keys (R255-R259) -/

/-- What a closed frame shows to the key extractor. -/
structure FrameView where
  lane : Nat
  payload : List (Bool × Byte)
  disp : Bool
  viol : Bool
  crcFail : Bool
  trunc : Bool
  kset : Bool
  fabricKey : Option (BitVec 320) := none

/-- R255: the profile of a lane. -/
def State.profileOf (s : State) (lane : Nat) : Nat := bits (s.reg (R.CL_LANE_PROFILE (lane / 8))) (4 * (lane % 8)) 4

/-- R256: frame metadata byte `o`. -/
def metaByte (f : FrameView) (profile o : Nat) : Nat :=
  if o = 0 then f.lane
  else if o = 1 then profile
  else if o = 2 then min f.payload.length 0xFFFF % 256
  else if o = 3 then min f.payload.length 0xFFFF / 256
  else if o = 4 then b2n f.disp + 2 * b2n f.viol + 4 * b2n f.crcFail + 8 * b2n f.trunc
  else if o = 5 then (if f.kset then maskOf ((List.range 8).filter (fun i => (f.payload.getD i (false, 0)).1)) else 0)
  else 0

/-- R256: key byte `i`. -/
def keyByte (s : State) (f : FrameView) (p i : Nat) : Nat :=
  let o := s.get (R.CL_SEL_OFFSET p i)
  let src := s.get (R.CL_SEL_SOURCE p i)
  let n := f.payload.length
  let b := if src = 0 then (f.payload.getD o (false, 0)).2.toNat
    else if src = 1 then (if o < n then (f.payload.getD (n - 1 - o) (false, 0)).2.toNat else 0)
    else if src = 2 then metaByte f p o
    else 0
  b &&& s.get (R.CL_SEL_MASK p i)

/-- R256, R257: the key of a frame: the fabric's with KEY_SRC 1, otherwise the extractor's. -/
def frameKey (s : State) (f : FrameView) (p : Nat) : BitVec 320 :=
  match f.fabricKey with
  | some k => k
  | none => BitVec.ofNat 320 ((List.range 40).foldr (fun i acc => keyByte s f p i + 256 * acc) 0)

/-- The miss action of a profile. -/
def State.missAction (s : State) (p : Nat) : BitVec 64 :=
  BitVec.ofNat 64 (s.reg (R.CL_MISS_LO p) + 2 ^ 32 * s.reg (R.CL_MISS_HI p))

/-- R266: HIT, ENTRY and action of a frame's lookup, with R258, R271, R272; the last says whether the trigger bits count. -/
structure Lookup where
  hit : Nat
  entry : Nat
  action : BitVec 64
  trig : Bool := true

/-- R272: the entry that a lookup would read. -/
def State.lookup (s : State) (f : FrameView) : Lookup :=
  let p := s.profileOf f.lane
  let key := frameKey s f p
  match findExact (s.reg R.CL_HASH_SEED) s.cap.exact key with
  | some i => ⟨1, i, ((tblFind i s.cap.exact).getD ⟨0, 0⟩).action, true⟩
  | none =>
    match findTern s.cap.tern key with
    | some (i, e) => ⟨2, i, e.action, true⟩
    | none => ⟨0, p, s.missAction p, true⟩

/-- R258, R266, R271, R272: a frame is classified; `tooLong`: its pipe's queue is full; `bad`: an entry read is
uncorrectable. -/
def State.classify (s : State) (f : FrameView) (tooLong : Bool) (bad : Option (Bool × Nat)) : State × Lookup :=
  let p := s.profileOf f.lane
  let miss := s.missAction p
  if s.has (R.CL_PCTRL_BYPASS p) then (s, ⟨3, p, miss, true⟩)
  else if tooLong then ((s.bump R.CL_ERRORS_PIPE_OVER).raise 219, ⟨3, 0xFFFD, miss, true⟩)
  else
    match bad with
    | some (tern, i) =>
      let s := if tern then { s with cap := { s.cap with tern := tblDel i s.cap.tern } }
        else { s with cap := { s.cap with exact := tblDel i s.cap.exact } }
      (((s.bump R.CL_ERRORS_TABLE_ERR).raise 218).showTables, ⟨3, 0xFFFE, miss, false⟩)
    | none => (s, s.lookup f)

/-- R268: the frame adds to the hit counter that its action names. -/
def State.countHit (s : State) (action : Nat) (bytes : Nat) : State :=
  if bit action 60 then
    let k := bits action 48 12
    let c := tblGet (fun _ => (0, 0)) s.cap.counters k
    let v := ((c.1 + 1) % 2 ^ 64, (c.2 + bytes) % 2 ^ 64)
    { s with cap := { s.cap with counters := tblSet (fun _ => (0, 0)) s.cap.counters k v } }
  else s

/-! ### CLASSIFIER_ENTRY_REWRITE (R272) -/

/-- R272: the gaffer rewrites an invalidated entry from its copy. -/
def execClassifierEntryRewrite (ternary : Bool) (idx : BitVec 15) (s : State) : Host.Outcome State Fault Refusal :=
  let i := idx.toNat
  if ternary then
    match tblFind i s.cap.tern, tblFind i s.cap.ternCopy with
    | none, some e => .next ({ s with cap := { s.cap with tern := tblPut i e s.cap.tern } }).showTables
    | _, _ => .next s
  else
    match tblFind i s.cap.exact, tblFind i s.cap.exactCopy with
    | none, some e => .next ({ s with cap := { s.cap with exact := tblPut i e s.cap.exact } }).showTables
    | _, _ => .next s

/-! ### Commands (R294, R295) -/

/-- Check 6: the classifier's claim. -/
def ownsClassifier (s : State) (mb : Nat) : Chk := failIf (!s.holds mb (claimKey 7 0)) stNotOwner 0

/-- R267: an action word at an offset of a payload: reserved bits 0 and SLICE at most 16,384. -/
def actionOk (p : List Byte) (i : Nat) : Chk :=
  let a := le p i 8
  param i (!bit a 13 && bits a 29 3 == 0 && bits a 61 3 == 0 && decide (bits a 14 15 ≤ 16384))

/-- The selectors of CL_KEY_SET: OFFSET, SOURCE, MASK. -/
def selectorOf (p : List Byte) (i : Nat) : Nat × Nat × Nat :=
  let w := le p (4 + 3 * i) 2
  (bits w 0 11, bits w 11 3, le p (6 + 3 * i) 1)

/-- R259, R291: END_DEP and LAST_OFF of a profile's selectors; a selector with MASK 0 counts as ZERO. -/
def keyDepends (bypass : Bool) (sels : List (Nat × Nat × Nat)) : Bool × Nat :=
  let l := sels.filter (fun x => x.2.2 != 0)
  (!bypass && l.any (fun x => x.2.1 == 1 || (x.2.1 == 2 && decide (2 ≤ x.1) && decide (x.1 ≤ 4))),
   (l.filter (fun x => x.2.1 == 0)).foldl (fun m x => max m x.1) 0)

/-- The lanes of CL_KEY_SET's mask. -/
def keyLanes (p : List Byte) : List Nat := bitsOf 96 (le p 136 12)

/-- CL_KEY_SET. -/
def cmdClKeySet : Cmd where
  code := 0x0500
  lenOk := lenIs 148
  lenReq := 148
  checks := fun s mb r =>
    let p := r.payload
    let lanes := keyLanes p
    [onlyRunning s, ownsClassifier s mb,
     owned s mb ((lanes.filter (fun l => decide (l < s.lanes))).map (fun l => (l, claimKey 1 l))),
     param 0 (decide (le p 0 1 < 16)), param 1 (decide (le p 1 1 < 2)), reserved0 p 2 2]
    ++ (List.range 40).map (fun i => param (4 + 3 * i) (decide (bits (le p (4 + 3 * i) 2) 11 5 ≤ 3)))
    ++ [actionOk p 124, reserved0 p 132 4, firstFail (lanes.map (fun l => failIf (decide (s.lanes ≤ l)) stNoResource l))]
  act := fun s _ r =>
    let p := r.payload
    let k := le p 0 1
    let sels := (List.range 40).map (selectorOf p)
    let dep := keyDepends (bit (le p 1 1) 0) sels
    let sel := (numbered sels).map (fun (i, x) => Edit.profile (R.CL_SEL k i) (x.1 + 2 ^ 11 * x.2.1 + 2 ^ 16 * x.2.2))
    let rest := [Edit.profile (R.CL_MISS_LO k) (le p 124 4), .profile (R.CL_MISS_HI k) (le p 128 4),
      .profile (R.CL_PCTRL k) (le p 1 1 % 2 + 2 * b2n dep.1 + 2 ^ 16 * dep.2)]
    let assign := (keyLanes p).map (fun l => Edit.reg (R.CL_LANE_PROFILE (l / 8)) (15 * 2 ^ (4 * (l % 8))) (k * 2 ^ (4 * (l % 8))))
    replyOk ((s.latch (sel ++ rest ++ assign)).showTables) []

def execClKeySet (mb : Fin 16) (req : Request) (s : State) : Host.Outcome State Fault Refusal :=
  commandRow cmdClKeySet mb req s

/-- The keys and actions of CL_EXACT_INSERT. -/
def insertEntries (p : List Byte) : List (BitVec 320 × BitVec 64) :=
  (entriesOf p 4 48 (le p 0 2)).map (fun e => (BitVec.ofNat 320 (le e 0 40), BitVec.ofNat 64 (le e 40 8)))

/-- R263, R295: the entries are placed in order in a working table; what fails, the edits, the indexes, the longest
chain. -/
def placeExact (seed : Nat) (replace : Bool) : Nat → List (BitVec 320 × BitVec 64) → Tbl ExactEntry → List Edit → List Nat →
    Nat → Chk × List Edit × List Nat × Nat
  | _, [], _, es, idx, chain => (none, es, idx, chain)
  | i, (key, action) :: rest, t, es, idx, chain =>
    match findExact seed t key with
    | some k =>
      if replace then
        placeExact seed replace (i + 1) rest (tblPut k ⟨key, action⟩ t) (es ++ [.exact k (some ⟨key, action⟩)]) (idx ++ [k]) chain
      else (some (stBadParam, 4 + 48 * i), es, idx, chain)
    | none =>
      match insertPlan seed t key with
      | none => (some (stNoResource, i), es, idx, chain)
      | some (k, moves, n) =>
        let moves := moves ++ [(k, some ⟨key, action⟩)]
        placeExact seed replace (i + 1) rest (moves.foldl (fun u m => putExact u m.1 m.2) t)
          (es ++ moves.map (fun m => .exact m.1 m.2)) (idx ++ [k]) (max chain n)

/-- The plan of a CL_EXACT_INSERT. -/
def insertAll (s : State) (p : List Byte) : Chk × List Edit × List Nat × Nat :=
  placeExact (s.reg R.CL_HASH_SEED) (bit (le p 2 1) 0) 0 (insertEntries p) s.futureExact [] [] s.cap.chain

/-- R71, R295: the fields of the entries, in order: a key present before the command, or listed twice, without REPLACE; the action. -/
def insertFields (s : State) (p : List Byte) : List Chk :=
  let keys := (insertEntries p).map Prod.fst
  (numbered keys).flatMap (fun (i, k) =>
    [param (4 + 48 * i) (bit (le p 2 1) 0 || ((findExact (s.reg R.CL_HASH_SEED) s.futureExact k).isNone && !(keys.take i).contains k)),
     actionOk p (44 + 48 * i)])

/-- CL_EXACT_INSERT. A failed insert counts in CL_INSERT_FAILS (R263); with CHECK_ONLY it is only reported. -/
def cmdClExactInsert : Cmd where
  code := 0x0501
  lenOk := fun r => r.length.toNat == 4 + 48 * le r.payload 0 2
  lenReq := 0xFFFF
  checks := fun s mb r =>
    let p := r.payload
    let n := le p 0 2
    [onlyRunning s, ownsClassifier s mb, param 0 (decide (1 ≤ n) && decide (n ≤ 16)), param 2 (decide (le p 2 1 < 2)),
     param 3 (zeroAt p 3 1)]
    ++ insertFields s p
    ++ (if bit r.flags.toNat 0 then [(insertAll s p).1] else [])
  act := fun s _ r =>
    let p := r.payload
    let plan := insertAll s p
    match plan.1 with
    | some x => { next := s.bump R.CL_INSERT_FAILS_COUNT, status := x.1, detail := x.2 }
    | none =>
      let s := ({ s with cap := { s.cap with chain := plan.2.2.2 } }).latch plan.2.1
      replyOk s.showTables (toLE 4 (le p 0 2) ++ plan.2.2.1.flatMap (fun i => toLE 4 i))

def execClExactInsert (mb : Fin 16) (req : Request) (s : State) : Host.Outcome State Fault Refusal :=
  commandRow cmdClExactInsert mb req s

/-- The keys of CL_EXACT_DELETE. -/
def deleteKeys (p : List Byte) : List (BitVec 320) := (entriesOf p 4 40 (le p 0 2)).map (fun e => BitVec.ofNat 320 (le e 0 40))

/-- CL_EXACT_DELETE. A key listed twice is not present the second time. -/
def cmdClExactDelete : Cmd where
  code := 0x0502
  lenOk := fun r => r.length.toNat == 4 + 40 * le r.payload 0 2
  lenReq := 0xFFFF
  checks := fun s mb r =>
    let p := r.payload
    let n := le p 0 2
    let keys := deleteKeys p
    [onlyRunning s, ownsClassifier s mb, param 0 (decide (1 ≤ n) && decide (n ≤ 101)), param 2 (zeroAt p 2 2)]
    ++ (numbered keys).map (fun (i, k) =>
      param (4 + 40 * i) ((findExact (s.reg R.CL_HASH_SEED) s.futureExact k).isSome && !(keys.take i).contains k))
  act := fun s _ r =>
    let es := (deleteKeys r.payload).filterMap (fun k =>
      (findExact (s.reg R.CL_HASH_SEED) s.futureExact k).map (fun i => Edit.exact i none))
    replyOk ((s.latch es).showTables) []

def execClExactDelete (mb : Fin 16) (req : Request) (s : State) : Host.Outcome State Fault Refusal :=
  commandRow cmdClExactDelete mb req s

/-- CL_TERNARY_WRITE: an entry is 40 bytes of value, 40 of mask, 8 of action, INDEX, FLAGS. -/
def cmdClTernaryWrite : Cmd where
  code := 0x0503
  lenOk := fun r => r.length.toNat == 4 + 92 * le r.payload 0 2
  lenReq := 0xFFFF
  checks := fun s mb r =>
    let p := r.payload
    let n := le p 0 2
    let idx := (entriesOf p 4 92 n).map (fun e => le e 88 2)
    [onlyRunning s, ownsClassifier s mb, param 0 (decide (1 ≤ n) && decide (n ≤ 44)), param 2 (zeroAt p 2 2)]
    ++ (numbered idx).flatMap (fun (i, k) =>
      [actionOk p (84 + 92 * i), param (92 + 92 * i) (decide (k ≤ 2047) && !(idx.take i).contains k),
       param (94 + 92 * i) (decide (le p (94 + 92 * i) 2 < 2))])
  act := fun s _ r =>
    let es := (entriesOf r.payload 4 92 (le r.payload 0 2)).map (fun e =>
      Edit.tern (le e 88 2) (if bit (le e 90 2) 0 then
        some ⟨BitVec.ofNat 320 (le e 0 40), BitVec.ofNat 320 (le e 40 40), BitVec.ofNat 64 (le e 80 8)⟩ else none))
    replyOk ((s.latch es).showTables) []

def execClTernaryWrite (mb : Fin 16) (req : Request) (s : State) : Host.Outcome State Fault Refusal :=
  commandRow cmdClTernaryWrite mb req s

/-- CL_COUNTERS_READ. -/
def cmdClCountersRead : Cmd where
  code := 0x0504
  lenOk := lenIs 8
  lenReq := 8
  checks := fun s mb r =>
    let p := r.payload
    let clear := bit (le p 4 1) 0
    [if clear then onlyRunning s else none, if clear then ownsClassifier s mb else none,
     param 0 (decide (le p 0 2 < 4096)), param 2 (decide (1 ≤ le p 2 2) && decide (le p 2 2 ≤ 252)),
     param 4 (decide (le p 4 1 < 2)), reserved0 p 5 3]
  act := fun s _ r =>
    let p := r.payload
    let first := le p 0 2
    let k := min (le p 2 2) (4096 - first)
    let data := (List.range k).flatMap (fun i =>
      let c := tblGet (fun _ => (0, 0)) s.cap.counters (first + i)
      toLE 8 c.1 ++ toLE 8 c.2)
    let s := if bit (le p 4 1) 0 then
        { s with cap := { s.cap with counters := s.cap.counters.filter (fun e => e.1 < first || first + k ≤ e.1) } } else s
    replyOk s (toLE 4 k ++ data)

def execClCountersRead (mb : Fin 16) (req : Request) (s : State) : Host.Outcome State Fault Refusal :=
  commandRow cmdClCountersRead mb req s

/-- CL_TABLE_STATUS. -/
def cmdClTableStatus : Cmd where
  code := 0x0505
  lenOk := lenIs 0
  lenReq := 0
  checks := fun _ _ _ => []
  act := fun s _ _ =>
    replyOk s (toLE 4 (s.get R.CL_STATUS_EXACT_USED) ++ toLE 4 (s.get R.CL_STATUS_TERN_USED) ++ toLE 4 (s.reg R.CL_INSERT_FAILS)
      ++ toLE 4 s.cap.chain ++ toLE 4 (s.reg R.CL_ERRORS) ++ toLE 4 (s.reg R.CL_HASH_SEED) ++ toLE 1 (s.get R.CL_STATUS_PENDING)
      ++ zeros 7)

def execClTableStatus (mb : Fin 16) (req : Request) (s : State) : Host.Outcome State Fault Refusal :=
  commandRow cmdClTableStatus mb req s

/-- R273: passage through BOOT and ZEROIZED clear profiles, tables, counters and the edits that are pending. -/
def State.clearClassifier (s : State) : State :=
  let used := s.reg R.CL_ERRORS
  let fails := s.reg R.CL_INSERT_FAILS
  let s := (s.resetRegs 0x140000 0x150000)
  let s := (s.setReg R.CL_ERRORS used).setReg R.CL_INSERT_FAILS fails
  let keep := fun (e : Edit) => !classifierEdit e && !profileEdit e
  { s with cap := { s.cap with exact := [], tern := [], exactCopy := [], ternCopy := [], counters := [], chain := 0 },
           gaf := { s.gaf with shadow := s.gaf.shadow.filter keep, held := s.gaf.held.filter keep } }

/-- R273: the tables are restored from the gaffer's copies. -/
def State.restoreTables (s : State) : State :=
  ({ s with cap := { s.cap with exact := s.cap.exactCopy, tern := s.cap.ternCopy } }).showTables

end Sys2Proof.Machine
end

