-- ==== Sys2Proof/Machine/Gather.lean ====
section
/-!
DEFINITION. Machine/Gather.lean: gather units: framing, the frames they close, and the records written for them
(R212-R230, R236, R243, R269, R289), with the gather unit commands (R253).
-/

namespace Sys2Proof.Machine

open Sys2Proof

/-! ### Framing (R212-R216) -/

/-- R213: does a character match the enabled code in the half `h` of a code register? -/
def codeMatches (s : State) (off h : Nat) (c : RxChar) : Bool :=
  let w := bits (s.reg off) (16 * h) 16
  bit w 15 && w % 512 == c.byte.toNat + 256 * b2n c.k

/-- R213: the start, end and idle codes of a lane. -/
def isStart (s : State) (n : Nat) (c : RxChar) : Bool :=
  [R.GU_START01 n, R.GU_START23 n].any (fun o => codeMatches s o 0 c || codeMatches s o 1 c)

def isEnd (s : State) (n : Nat) (c : RxChar) : Bool :=
  [R.GU_END01 n, R.GU_END23 n].any (fun o => codeMatches s o 0 c || codeMatches s o 1 c)

def isIdle (s : State) (n : Nat) (c : RxChar) : Bool := codeMatches s (R.GU_IDLE01 n) 0 c || codeMatches s (R.GU_IDLE01 n) 1 c

/-- A frame that a gather unit has closed. -/
structure ClosedFrame where
  frame : OpenFrame
  trunc : Bool := false
  oversize : Bool := false

/-- A character joins a frame: its errors are seen (R220), and its byte is kept. -/
def OpenFrame.take (f : OpenFrame) (c : RxChar) (keep : Bool) : OpenFrame :=
  { f with payload := if keep then f.payload ++ [(c.k, c.byte)] else f.payload, disp := f.disp || c.dispErr,
           viol := f.viol || c.codeViol }

/-- R214, R215: one character under K_SET: the frame in progress after it, and the frame that it closes. -/
def ksetChar (s : State) (n : Nat) (f : Option OpenFrame) (c : RxChar) (ts : Timestamp) :
    Option OpenFrame × Option ClosedFrame :=
  let keep := s.has (R.GU_CTRL_KEEP_DELIM n)
  let fresh : OpenFrame := OpenFrame.take { ts := ts } c keep
  match f with
  | none => if isStart s n c then (some fresh, none) else (none, none)
  | some f =>
    if isEnd s n c then
      let f := f.take c keep
      if s.get (R.GU_MAXLEN_LEN n) ≤ f.payload.length then (none, some ⟨f, true, true⟩) else (none, some ⟨f, false, false⟩)
    else if isStart s n c then (some fresh, some ⟨f, true, false⟩)
    else
      let f := f.take c (!isIdle s n c)
      if s.get (R.GU_MAXLEN_LEN n) ≤ f.payload.length then (none, some ⟨f, true, true⟩) else (some f, none)

/-- R212, R215: one byte under FIXED; after MAXLEN bytes the rest of the block is discarded. -/
def fixedChar (s : State) (n : Nat) (f : Option OpenFrame) (c : RxChar) (ts : Timestamp) :
    Option OpenFrame × Option ClosedFrame :=
  let f := f.getD { ts := ts, origin := 2, blockLeft := s.get (R.GU_BLOCK_LEN n) }
  let left := f.blockLeft - 1
  if f.skip then (if left = 0 then none else some { f with blockLeft := left }, none)
  else
    let f := { (f.take c true) with blockLeft := left }
    if s.get (R.GU_MAXLEN_LEN n) ≤ f.payload.length then (if left = 0 then none else some { f with skip := true }, some ⟨f, true, true⟩)
    else if left = 0 then (none, some ⟨f, false, false⟩)
    else (some f, none)

/-- R212: the characters of a lane in order: the frame in progress and the frames closed. -/
def frameChars (s : State) (n : Nat) (fixed : Bool) (f : Option OpenFrame) (l : List (RxChar × Timestamp)) :
    Option OpenFrame × List ClosedFrame :=
  l.foldl (fun acc e =>
    let g_c := if fixed then fixedChar s n acc.1 e.1 e.2 else ksetChar s n acc.1 e.1 e.2
    let g := g_c.1
    let c := g_c.2
    (g, acc.2 ++ c.toList)) (f, [])

/-! ### The receive port and the receive timestamps (R217, R221, R354, R356) -/

/-- The timestamp of instant `i`, in 1/64 pips of `now`: in the present turn, or in the one of the past that it falls in. -/
def State.stampOf (s : State) (i : Nat) : Timestamp :=
  let start_turn := if 64 * s.tb.turnStart ≤ i then (s.tb.turnStart, s.tb.turn)
    else match s.tb.past.find? (fun e => decide (64 * e.start ≤ i)) with
      | some e => (e.start, e.turn)
      | none => (i / 64, s.tb.turn)
  ⟨BitVec.ofNat 48 start_turn.2, BitVec.ofNat 32 (i / 64 - start_turn.1), BitVec.ofNat 6 (i % 64)⟩

/-- R221: the instant at the receiver balls of a bit that reaches the gather unit at `t`: GU_LAT earlier. -/
def State.atBalls (s : State) (n : Nat) (t : Timestamp) : Timestamp :=
  let lat := s.get (R.GU_LAT_LAT n)
  if lat = 0 then t
  else match s.instantOf t.turn.toNat t.pip.toNat with
    | some i => s.stampOf (64 * i + t.fine.toNat - lat)
    | none => t

/-- R354: the bytes of a word that the receive port delivers. -/
def State.wordBytes (s : State) (n : Nat) : Nat :=
  if s.has (R.LN_CTRL_MODE n) then rawWidth (s.get (R.LN_CTRL_WIDTH n)) / 8 else 4 * 2 ^ s.get (R.LN_CTRL_WIDTH n)

/-- R354, R356, R217: characters reach the receive port of a lane: each full word is delivered with its number, and the receive
timestamps of the last 4,096 words are kept. -/
def RxPort.deliver (bytes now : Nat) (p : RxPort) (c : RxChar × Timestamp) : RxPort :=
  let part := p.part ++ [c]
  if part.length < bytes then { p with part := part }
  else
    { p with wnum := (p.wnum + 1) % 65536, part := [], word := part.map Prod.fst, at_ := now,
             stamps := (part.map Prod.snd :: p.stamps).take 4096 }

def State.receive (s : State) (n : Nat) (l : List (RxChar × Timestamp)) : State :=
  { s with cap := { s.cap with rx := tblPut n (l.foldl (RxPort.deliver (s.wordBytes n) s.tb.now) (s.rxPort n)) s.cap.rx } }

/-- R356: lock falls: the word in progress is not delivered; RX_WNUM holds. -/
def State.dropPart (s : State) (n : Nat) : State :=
  { s with cap := { s.cap with rx := s.cap.rx.map (fun e => if e.1 = n then (e.1, { e.2 with part := [] }) else e) } }

/-- R217: the receive timestamp of byte `off` of word `w` of a lane, while the word is held. -/
def State.receivedAt (s : State) (n w off : Nat) : Option Timestamp :=
  let p := s.rxPort n
  (p.stamps[(p.wnum + 65535 - w) % 65536]?).bind (fun l => l[off]?)

/-! ### The frame in progress -/

/-- R246: the frame in progress of a lane, shown in IN_FRAME. -/
def State.setOpen (s : State) (n : Nat) (f : Option OpenFrame) : State :=
  let inFrame := match f with
    | some x => !x.skip
    | none => false
  let s := s.put (R.GU_STATUS_IN_FRAME n) (b2n inFrame)
  { s with cap := { s.cap with open_ := match f with
    | some x => tblPut n x s.cap.open_
    | none => tblDel n s.cap.open_ } }

/-! ### The record of a frame (R223, R224, R226, R227) -/

/-- R219: does the CRC check of a frame fail? -/
def crcFails (s : State) (n : Nat) (trunc : Bool) (payload : List Byte) : Bool :=
  let k := s.get (R.GU_CTRL_CRC_CHK n)
  if trunc ∨ k = 0 then false
  else
    let body := payload.take (payload.length - 4)
    let sent := le payload (payload.length - 4) 4
    decide (payload.length < 4) || sent != (if k = 1 then crc32 body else crc32c body)

/-- R226: a payload as a chain of records of at most 16,384 bytes; `flags` and `source` of each. -/
def chainOf (fuel : Nat) (r : Rec) (first : Bool) (payload : List Byte) : List Rec :=
  match fuel with
  | 0 => []
  | fuel + 1 =>
    let cont := if first then 0 else 1024
    if payload.length ≤ 16384 then
      [{ r with source := r.source + cont, len := payload.length, payload := payload }]
    else
      { r with source := r.source + cont + 2048, len := 16384, payload := payload.take 16384 }
        :: chainOf fuel r false (payload.drop 16384)

/-- R224: the records written for a frame under CAPTURE or TS_ONLY. -/
def frameRecords (r : Rec) (action : Nat) (payload : List Byte) : List Rec :=
  if bits action 0 2 = 1 then [{ r with len := min payload.length 16384, flags := r.flags ||| 64 }]
  else
    let slice := bits action 14 15
    if slice ≠ 0 ∧ slice < payload.length then
      [{ r with len := slice, payload := payload.take slice, flags := r.flags ||| 8 }]
    else chainOf (payload.length / 16384 + 1) r true payload

/-- R246, R250: the fill of the gather buffer at a frame: BUF_LEVEL, BUF_HIGH and EV_208 as it rises above half full. -/
def State.noteBuffer (s : State) (n fill : Nat) : State :=
  let old := tblGet (fun _ => 0) s.cap.fill n
  let s := { s with cap := { s.cap with fill := tblSet (fun _ => 0) s.cap.fill n fill } }
  let s := s.put (R.GU_STATUS_BUF_LEVEL n) (min (fill / 256) 255)
  if 32768 < fill then
    let s := s.put (R.GU_STATUS_BUF_HIGH n) 1
    if old ≤ 32768 then s.raise 208 else s
  else s

/-- R242, R198: capture of a lossless lane whose buffer is above half full takes bandwidth of a channel from replay or
from the NoC. -/
def State.noteYield (s : State) (n : Nat) (gu : GatherCond) : State :=
  if s.has (R.GU_CTRL_LOSSLESS n) ∧ 32768 < gu.buffered then
    let s := match gu.fromReplay with
      | some c => s.yielded 5 4 c.val
      | none => s
    match gu.fromNoc with
    | some c => s.yielded 6 4 c.val
    | none => s
  else s

/-- R246, R250: what the flags of a frame's record show in GU_STATUS. -/
def State.noteRecord (s : State) (n flags : Nat) : State :=
  let s := if bit flags 2 then s.put (R.GU_STATUS_CRC_SEEN n) 1 else s
  let s := if bit flags 0 || bit flags 1 then s.put (R.GU_STATUS_CODE_SEEN n) 1 else s
  if bit flags 13 then (s.put (R.GU_STATUS_LATE_SEEN n) 1).raise 207 else s

/-- R235, R236: a frame that its queue does not take. -/
def State.refuse (s : State) (q : Nat) : State := if s.has (R.CQ_STATE_FULL q) then s.refuseFull q else s.refuseFrame q

/-- R224-R244: the records of a frame go to its queue, or it is refused (R235, R236) or dropped whole (R243): the buffer must have room
for the longest of its records (log entry 96). The answer is the offsets of the records written. -/
def State.captureFrame (s : State) (n q : Nat) (ts : Timestamp) (fill : Nat) (recs : List Rec) (flags : Nat) : State × List Nat :=
  if s.has (R.CQ_STATE_FULL q) || !s.queueLive q || !s.gateAt q ts then (s.refuse q, [])
  else
    let size := (recs.map (fun r => recordSize r.payload.length)).foldl max 0
    if 65504 < fill + size then
      (((s.bump (R.GU_DROPPED_COUNT n)).put (R.GU_STATUS_DROP_SEEN n) 1).countDrop n q ts, [])
    else
      let s := s.dropMarker n q
      if !s.queueLive q then (s.refuse q, [])
      else
        let t_at := writeRecords s q recs
        (if t_at.2.isEmpty then t_at.1 else t_at.1.noteRecord n flags, t_at.2)

/-- R224, R266-R269: a closed frame is classified and acted on; `late`: LATE_REINSERT; `key`: the fabric's key. -/
def State.closeFrame (s : State) (n origin : Nat) (c : ClosedFrame) (late : Bool) (key : Option (BitVec 320))
    (gu : GatherCond) : State :=
  let f := c.frame
  let payload := f.payload.map Prod.snd
  let crc := crcFails s n c.trunc payload
  let s := s.inc64 (R.GU_FRAMES_LO n) (R.GU_FRAMES_HI n) 1
  let s := if c.oversize then (s.put (R.GU_STATUS_OVERSIZE n) 1).raise 206 else s
  let s := if f.disp || f.viol || crc then s.bump (R.GU_ERRFRAMES_COUNT n) else s
  let s := (s.noteBuffer n gu.buffered).noteYield n gu
  let view : FrameView := ⟨n, f.payload, f.disp, f.viol, crc, c.trunc, origin == 0, key⟩
  let s_l := s.classify view gu.pipeFull gu.badEntry
  let s := s_l.1
  let l := s_l.2
  let a := l.action.toNat
  let s := s.countHit a payload.length
  let trig := if l.trig then bits a 32 16 else 0
  let q := (bits a 3 10 + if bit a 2 then n else 0) % 1024
  let flags := b2n f.disp + 2 * b2n f.viol + 4 * b2n crc + 8 * b2n c.trunc + 32 * b2n (s.synthStamp f.ts)
    + contextFlags s n f.ts + 8192 * b2n late
  let r : Rec := { lane := n, ts := f.ts, source := n + 256 * origin + 4096 * b2n key.isSome, len := 0,
                   classRes := l.entry + 65536 * l.hit, flags := flags }
  let s_at :=
    if bits a 0 2 = 3 then (s.bump (R.GU_DISCARDED_COUNT n), [])
    else if bits a 0 2 = 2 then (s, [])
    else s.captureFrame n q f.ts gu.buffered (frameRecords r a payload) flags
  let s := s_at.1
  let at_ := s_at.2
  if trig = 0 then s
  else { s with cap := { s.cap with pulses := s.cap.pulses ||| trig,
                                    frames := s.cap.frames ++ [⟨n, trig, q, at_.head?, at_.drop 1, f.ts⟩] } }

/-! ### Pass-through (R319, R320, R324) -/

/-- An instant now, in 1/64 pips. -/
def State.nowFine (s : State) : Nat := 64 * s.tb.now

/-- Does a character of 8b/10b change the running disparity: is exactly one of its two parts unbalanced? -/
def flipsDisparity (k : Bool) (b : Byte) : Bool :=
  let x := b.toNat % 32
  let y := b.toNat / 32
  let six := [0, 1, 2, 4, 8, 15, 16, 23, 24, 27, 29, 30, 31].contains x || (k && x == 28)
  let four := y == 0 || y == 4 || y == 7
  six != four

/-- A timestamp as an instant in 1/64 pips of `now`. -/
def State.fineOf (s : State) (t : Timestamp) : Nat :=
  match s.instantOf t.turn.toNat t.pip.toNat with
  | some i => 64 * i + t.fine.toNat
  | none => s.nowFine

/-- R324: has a received character a valid alternate encoding of non-zero disparity? -/
def realigns (c : RxChar) : Bool := !c.codeViol && flipsDisparity c.k c.byte

/-- R319, R320: one received character of a lane in pass-through, as it was received, LAT after the balls; R322: one that a substituted
record replaces is not sent; R324: while the running disparity is to be realigned, the first that can be is sent in its alternate
encoding. -/
def State.forwardChar (s : State) (n : Nat) (c : RxChar × Timestamp) : State :=
  let left := tblGet (fun _ => 0) s.rep.replaced n
  if 0 < left then { s with rep := { s.rep with replaced := tblSet (fun _ => 0) s.rep.replaced n (left - 1) } }
  else
    let alt := s.rep.realign.contains n && realigns c.1
    let out := s.fineOf c.2 + s.get (R.RP_PT_STATUS_LAT n)
    let old := tblGet (fun _ => []) s.rep.forwarded n
    let s := { s with rep := { s.rep with forwarded := tblSet (fun _ => []) s.rep.forwarded n (old ++ [⟨c.1, alt, out⟩]) } }
    if alt then
      { s with rep := { s.rep with realign := s.rep.realign.filter (fun k => k != n), fixing := tblPut n out s.rep.fixing } }
    else s

/-- R319-R321: a lane in pass-through forwards what it receives; characters that have left its transmitter are forgotten. -/
def State.forward (s : State) (n : Nat) (l : List (RxChar × Timestamp)) : State :=
  if s.has (R.RP_PT_CTRL_EN n) && !s.rep.broken.contains n then
    let kept := (tblGet (fun _ => []) s.rep.forwarded n).filter (fun f => decide (s.nowFine ≤ f.out))
    forEach l (fun c t => t.forwardChar n c)
      { s with rep := { s.rep with forwarded := tblSet (fun _ => []) s.rep.forwarded n kept } }
  else s

/-! ### FRAME_RECEIVED and REINSERTED_FRAME -/

/-- Does the gather unit of a lane frame its stream by characters (K_SET, of 8b/10b lanes only, or FIXED: R212)? -/
def State.framesChars (s : State) (n : Nat) : Bool :=
  let framing := s.get (R.GU_CTRL_FRAMING n)
  s.has (R.GU_CTRL_ENABLE n) && ((framing == 1 && !s.has (R.LN_CTRL_MODE n)) || framing == 3)

/-- R212-R221: the gather unit frames characters of its lane. -/
def State.gatherChars (s : State) (n : Nat) (l : List (RxChar × Timestamp)) (gu : GatherCond) : State :=
  let framing := s.get (R.GU_CTRL_FRAMING n)
  let f_closed := frameChars s n (framing == 3) (tblFind n s.cap.open_) l
  (forEach f_closed.2 (fun c t => t.closeFrame n (framing - 1) c false none gu) s).setOpen n f_closed.1

/-- R28: the gather unit takes the characters of its lane. -/
def State.gather (s : State) (n : Nat) (l : List (RxChar × Timestamp)) (gu : GatherCond) : State :=
  let s := s.receive n l
  if s.framesChars n then s.gatherChars n l gu else s

/-- R615: the running disparity of a lane's decoder. -/
def State.setDisparity (s : State) (n : Nat) (rd : Bool) : State :=
  if (s.rxPort n).rd = rd then s else { s with cap := { s.cap with rx := tblPut n { s.rxPort n with rd := rd } s.cap.rx } }

/-- FRAME_RECEIVED: line words of a locked lane, each a symbol or a byte (R28), with the instant at which its first bit reaches the gather
unit, which subtracts GU_LAT (R221): the characters go to the lane's transmitter under pass-through (R319), to the receive port and to
framing. -/
def execFrameReceived (lane : Fin 96) (line : List (BitVec 10 × Timestamp)) (gu : GatherCond) (s : State) :
    Host.Outcome State Fault Refusal :=
  let n := lane.val
  if s.lanes ≤ n ∨ !s.has (R.LN_STATUS_LOCK n) then .next s
  else
    let chars := s.lineChars n (s.rxPort n).rd line
    let l := chars.1.map (fun c => (c.1, s.atBalls n c.2))
    let s := (s.setDisparity n chars.2).forward n l
    .next (if s.gatherClocked then s.gather n l gu else s)

/-- A frame in progress ends with TRUNCATED (R216, R357, R360): under K_SET and FIXED what a frame at MAXLEN leaves to discard is no
frame; a reinserted frame with KEY_SRC 1 has a zero key. The FIXED grid restarts at the next byte (log entry 98). -/
def State.endFrame (s : State) (n : Nat) (f : OpenFrame) (gu : GatherCond) : State :=
  if f.skip ∧ f.origin ≠ 1 then s
  else s.closeFrame n f.origin ⟨f, true, f.skip⟩ f.late
    (if f.origin = 1 ∧ s.has (R.GU_CTRL_KEY_SRC n) then some 0 else none) gu

/-- R216: a gather unit setting becomes active, or lock is lost (R612), while a frame is in progress. -/
def State.cutFrame (s : State) (n : Nat) : State :=
  match tblFind n s.cap.open_ with
  | none => s
  | some f => (s.endFrame n f { buffered := tblGet (fun _ => 0) s.cap.fill n }).setOpen n none

/-! ### Reinsertion (R217, R218, R357-R360) -/

/-- A data beat's bytes join the frame, up to MAXLEN (R215, R357). -/
def OpenFrame.join (f : OpenFrame) (b : Beat) (max : Nat) : OpenFrame :=
  let count := if b.eof then b.nb.toNat + 1 else 8
  let bytes := (toLE 8 b.data.toNat).take count
  if f.skip then f
  else
    let p := f.payload ++ (bytes.take (max - f.payload.length)).map (fun x => (false, x))
    { f with payload := p, skip := decide (max ≤ p.length) }

/-- A data beat of the frame in progress (R357): at RI_EOF it closes, or waits for its key; at MAXLEN a frame without a fabric key closes,
and what follows is discarded. -/
def State.dataBeat (s : State) (n : Nat) (f : OpenFrame) (b : Beat) (gu : GatherCond) : State :=
  let f := f.join b (s.get (R.GU_MAXLEN_LEN n))
  if s.has (R.GU_CTRL_KEY_SRC n) then s.setOpen n (some (if b.eof then { f with keys := some [] } else f))
  else if b.eof ∨ f.skip then (s.closeFrame n 1 ⟨f, f.skip, f.skip⟩ f.late none gu).setOpen n none
  else s.setOpen n (some f)

/-- A key beat (R357): the fifth closes the frame. -/
def State.keyBeat (s : State) (n : Nat) (f : OpenFrame) (ks : List (BitVec 64)) (b : Beat) (gu : GatherCond) : State :=
  let ks := ks ++ [b.data]
  if ks.length < 5 then s.setOpen n (some { f with keys := some ks })
  else
    let key := BitVec.ofNat 320 (ks.foldr (fun k acc => k.toNat + 2 ^ 64 * acc) 0)
    (s.closeFrame n 1 ⟨f, f.skip, f.skip⟩ f.late (some key) gu).setOpen n none

/-- R357: a beat is taken. One without RI_SOF is discarded until one with it comes (R360). -/
def State.takeBeat (s : State) (n region : Nat) (b : Beat) (gu : GatherCond) : State :=
  let f := tblFind n s.cap.open_
  if b.sof then
    let s := match f with
      | some f => s.endFrame n f gu
      | none => s
    let held := s.receivedAt n b.wnum.toNat b.off.toNat
    s.dataBeat n { ts := held.getD b.at_, origin := 1, late := held.isNone, region := region } b gu
  else match f with
    | none => s
    | some f => match f.keys with
      | none => if b.key then s else s.dataBeat n f b gu
      | some ks => if b.key then s.keyBeat n f ks b gu else s

/-- REINSERTED_FRAME: beats on the reinsertion port of a lane (R357), which the region that drives it offers (R359). They are accepted until
the store of 32 beats is full, when RI_READY is 0 (R358). -/
def execReinsertedFrame (lane : Fin 96) (frame : Reinserted) (gu : GatherCond) (s : State) : Host.Outcome State Fault Refusal :=
  let n := lane.val
  if s.lanes ≤ n ∨ !s.has (R.GU_CTRL_ENABLE n) ∨ s.get (R.GU_CTRL_FRAMING n) ≠ 2 ∨ !s.gatherClocked then .next s
  else
    match s.reinsertDriver n with
    | none => .next s
    | some r =>
      let beats := frame.beats.take (32 - tblGet (fun _ => 0) s.cap.stored n)
      let left := min frame.left.val (tblGet (fun _ => 0) s.cap.stored n + beats.length)
      let s := { s with cap := { s.cap with stored := tblSet (fun _ => 0) s.cap.stored n left } }
      .next (forEach beats (fun b t => t.takeBeat n r b gu) s)

/-- R360: a region switches context or enters reconfiguration: the frames open on the reinsertion ports that it drives end. -/
def State.cutReinserted (s : State) (r : Nat) : State :=
  forEach ((s.cap.open_.filter (fun e => e.2.origin == 1 && e.2.region == r)).map Prod.fst) (fun n t => t.cutFrame n) s

/-! ### Commands (R253) -/

/-- Check 6 for one lane of a payload field, where the lane exists. -/
def ownsLane (s : State) (mb lane detail : Nat) : Chk :=
  failIf (decide (lane < s.lanes) && !s.holds mb (claimKey 1 lane)) stNotOwner detail

/-- R212, R253: a lane that is absent on LF96-48. -/
def laneAbsent (s : State) (lane : Nat) : Chk := failIf (decide (s.lanes ≤ lane)) stNoResource lane

/-- R80: a lane that an outstanding LN_EYE_SCAN holds. -/
def laneHeld (s : State) (n detail : Nat) : Chk := notInOperation s [(detail, claimKey 1 n)]

/-- GU_CONFIGURE. -/
def cmdGuConfigure : Cmd where
  code := 0x0407
  lenOk := lenIs 16
  lenReq := 16
  checks := fun s mb r =>
    let p := r.payload
    let n := le p 0 2
    let bl := le p 12 4
    [onlyRunning s, ownsLane s mb n n, param 0 (decide (n < 96)), param 2 (decide (le p 2 1 < 2)),
     param 3 (decide (le p 3 1 ≤ 3) && !(le p 3 1 == 1 && s.pendingField (R.LN_CTRL_MODE n) != 0)),
     param 4 (decide (le p 4 1 < 2)), param 5 (decide (le p 5 1 ≤ 2)), param 6 (decide (le p 6 1 < 4)),
     param 7 (decide (le p 7 1 < 48) || le p 7 1 == 0x3F),
     param 8 (decide (64 ≤ le p 8 4) && decide (le p 8 4 ≤ 1048576)),
     param 12 (decide (32 ≤ bl) && decide (bl ≤ 16384) && bl % 8 == 0), laneAbsent s n, laneHeld s n n]
  act := fun s _ r =>
    let p := r.payload
    let n := le p 0 2
    let ctrl := le p 2 1 + 2 * le p 3 1 + 16 * le p 4 1 + 32 * le p 5 1 + 128 * (le p 6 1 % 2) + 65536 * le p 7 1
    let set := [Edit.reg (R.GU_CTRL n) 0x3F00FF ctrl, tl (R.GU_MAXLEN_LEN n) (le p 8 4), tl (R.GU_BLOCK_LEN n) (le p 12 4)]
    let clear := if bit (le p 6 1) 1 then
        [R.GU_FRAMES_LO n, R.GU_FRAMES_HI n, R.GU_DROPPED n, R.GU_ERRFRAMES n, R.GU_DISCARDED n].map (fun o =>
          Edit.reg o 0xFFFFFFFF 0)
      else []
    replyOk (s.latch (set ++ clear)) []

def execGuConfigure (mb : Fin 16) (req : Request) (s : State) : Host.Outcome State Fault Refusal :=
  commandRow cmdGuConfigure mb req s

/-- GU_SET_FRAMING. -/
def cmdGuSetFraming : Cmd where
  code := 0x0408
  lenOk := lenIs 24
  lenReq := 24
  checks := fun s mb r =>
    let p := r.payload
    let n := le p 0 2
    [onlyRunning s, ownsLane s mb n n, param 0 (decide (n < 96)), reserved0 p 2 2]
    ++ (List.range 10).map (fun i => param (4 + 2 * i) (bits (le p (4 + 2 * i) 2) 9 6 == 0))
    ++ [laneAbsent s n, laneHeld s n n]
  act := fun s _ r =>
    let p := r.payload
    let n := le p 0 2
    replyOk (s.latch ((List.range 5).map (fun i => Edit.reg (R.GU_START01 n + 4 * i) 0x81FF81FF (le p (4 + 4 * i) 4)))) []

def execGuSetFraming (mb : Fin 16) (req : Request) (s : State) : Host.Outcome State Fault Refusal :=
  commandRow cmdGuSetFraming mb req s

/-- GU_STATUS. -/
def cmdGuStatus : Cmd where
  code := 0x0409
  lenOk := lenIs 4
  lenReq := 4
  checks := fun s _ r => [param 0 (decide (le r.payload 0 2 < 96)), reserved0 r.payload 2 2, laneAbsent s (le r.payload 0 2)]
  act := fun s _ r =>
    let n := le r.payload 0 2
    replyOk s ((List.range 15).flatMap (fun i => toLE 4 (s.reg (R.GU_CTRL n + 4 * i))) ++ zeros 4)

def execGuStatus (mb : Fin 16) (req : Request) (s : State) : Host.Outcome State Fault Refusal :=
  commandRow cmdGuStatus mb req s

/-- Check 7 of a lane list: N, FLAGS 0, lanes, values below `top`. -/
def laneList (top : Nat) (p : List Byte) : List Chk :=
  param 0 (decide (1 ≤ le p 0 2) && decide (le p 0 2 ≤ 1015)) :: reserved0 p 2 1 :: reserved0 p 3 1
    :: (numbered (listItems p)).flatMap (fun (i, e) =>
      [param (4 + 4 * i) (decide (e.1 < 96)), param (6 + 4 * i) (decide (e.2 % 256 < top)), param (7 + 4 * i) (decide (e.2 < 256))])

/-- Check 6 for lanes. -/
def ownsLanes (s : State) (mb : Nat) (p : List Byte) : Chk :=
  owned s mb (((numbered (listItems p)).filter (fun x => decide (x.2.1 < s.lanes))).map (fun (i, e) => (i, claimKey 1 e.1)))

/-- Check 9 for lanes (R80, R885): the first listed lane that is absent on LF96-48, or that an outstanding operation holds. -/
def lanesFree (s : State) (p : List Byte) : Chk :=
  firstFail ((numbered (listItems p)).map (fun (i, e) => if s.lanes ≤ e.1 then some (stNoResource, i) else laneHeld s e.1 i))

/-- CQ_SET_LOSSLESS. -/
def cmdCqSetLossless : Cmd where
  code := 0x040A
  lenOk := listLen
  lenReq := 0xFFFF
  checks := fun s mb r => onlyRunning s :: ownsLanes s mb r.payload :: (laneList 2 r.payload ++ [lanesFree s r.payload])
  act := fun s _ r => replyOk (s.latch ((listItems r.payload).map (fun e => tl (R.GU_CTRL_LOSSLESS e.1) e.2))) []

def execCqSetLossless (mb : Fin 16) (req : Request) (s : State) : Host.Outcome State Fault Refusal :=
  commandRow cmdCqSetLossless mb req s

end Sys2Proof.Machine
end

