-- ==== Sys2Proof/Machine/Segments.lean ====
section
/-!
DEFINITION. Machine/Segments.lean: segment chains, their keys and body commands, and the checks of R687 that boot streams and
pieces share (R677-R687).
-/

namespace Sys2Proof.Machine

open Sys2Proof

/-! ### Error codes (R687) -/

def cfgMode : Nat := 1
def cfgFormat : Nat := 2
def cfgVariant : Nat := 3
def cfgSignature : Nat := 4
def cfgPolicy : Nat := 5
def cfgKey : Nat := 6
def cfgSegment : Nat := 7
def cfgAddress : Nat := 8
def cfgFootprint : Nat := 9
def cfgIncomplete : Nat := 10
def cfgRiser : Nat := 11
def cfgContent : Nat := 12
def cfgHash : Nat := 13
def cfgCrc : Nat := 14
def cfgTimeout : Nat := 15
def cfgNoStream : Nat := 16
def cfgSpace : Nat := 17
def cfgIntegrity : Nat := 18

/-- A failure: the code, the segment (0xFFFF: the header), the frame address where one applies. -/
structure CfgErr where
  code : Nat
  segment : Nat := 0xFFFF
  addr : Nat := 0
  deriving DecidableEq, Repr

/-! ### Segments (R680-R682) -/

/-- A slice of bytes. -/
def slice (l : List Byte) (i n : Nat) : List Byte := (l.drop i).take n

/-- A segment as stored: its header, body and tag. -/
structure Segment where
  header : List Byte
  body : List Byte
  tag : List Byte

def Segment.index (g : Segment) : Nat := le g.header 4 4
def Segment.last (g : Segment) : Bool := bit (le g.header 12 1) 0
def Segment.iv (g : Segment) : List Byte := slice g.header 16 12
def Segment.nextKey (g : Segment) : List Byte := slice g.header 64 64

/-- The segments of a chain and what follows them; a segment that is cut short ends the list. -/
def splitSegments (fuel : Nat) (l : List Byte) : List Segment × List Byte :=
  match fuel with
  | 0 => ([], l)
  | fuel + 1 =>
    let len := le l 8 4
    if l.length < 144 + len then ([], l)
    else
      let g : Segment := ⟨l.take 128, slice l 128 len, slice l (128 + len) 16⟩
      let rest := l.drop (144 + len)
      if g.last then ([g], rest)
      else
        let m_r := splitSegments fuel rest
        let m := m_r.1
        let r := m_r.2
        (g :: m, r)

/-- R681: is a segment header's format kept? -/
def Segment.formatOk (enc : Bool) (g : Segment) : Bool :=
  le g.header 0 4 == 0x47455353 && decide (le g.header 8 4 ≤ 1048544) && decide (le g.header 12 1 ≤ 1)
    && zeroAt g.header 13 3 && zeroAt g.header 28 36
    && (if enc then (if g.last then zeroAt g.header 64 64 else g.iv != slice g.nextKey 0 12)
        else zeroAt g.header 64 64 && zeroAt g.header 16 12 && zeroAt g.tag 0 16)

/-- R680: a key wrap is opened under a wrapping key, for segment `i` of a chain. -/
def unwrapKey (key : BitVec 256) (chainId : List Byte) (i : Nat) (w : List Byte) : Option (BitVec 256) :=
  if !zeroAt w 60 4 then none
  else (gcmOpen key (slice w 0 12) (chainId ++ toLE 4 i) (slice w 12 32) (slice w 44 16)).map (fun k =>
    BitVec.ofNat 256 (le k 0 32))

/-- The plaintext bodies of a chain in order, none where the tag fails, with the first key that fails to unwrap: its segment is the one
whose header holds the key wrap (R681, R682). `key`: that of segment `i`, none in a plaintext chain. -/
def openBodies (enc : Bool) (chainId : List Byte) : Nat → Option (BitVec 256) → List Segment → List (Option (List Byte)) × Option CfgErr
  | _, _, [] => ([], none)
  | i, key, g :: rest =>
    if !enc then
      let x := openBodies enc chainId (i + 1) none rest
      (some g.body :: x.1, x.2)
    else
      match key with
      | none => ([], some ⟨cfgKey, if i = 0 then 0xFFFF else i - 1, 0⟩)
      | some k =>
        let next := if g.last then none else unwrapKey k chainId (i + 1) g.nextKey
        let x := openBodies enc chainId (i + 1) next rest
        (gcmOpen k g.iv (chainId ++ g.header.take 64) g.body g.tag :: x.1, x.2)

/-! ### Body commands (R683, R684) -/

/-- A body command. -/
inductive BodyCmd where
  | frame (addr : Nat) (data : List Byte)
  | zeroRun (addr n : Nat)
  | ioStatic (io v : Nat)
  | start (period ref : Nat)
  | group (mask : Nat)
  | stop
  deriving DecidableEq, Repr

/-- R683: the commands of a body; the second part says that its format is kept. -/
def bodyCmds (fuel : Nat) (l : List Byte) : List BodyCmd × Bool :=
  match fuel with
  | 0 => ([], l.isEmpty)
  | fuel + 1 =>
    if l.isEmpty then ([], true)
    else
      let w := le l 0 4
      let op := bits w 0 4
      let arg := w / 16
      let more (c : BodyCmd) (n : Nat) (ok : Bool) : List BodyCmd × Bool :=
        if l.length < n ∨ l.length < 4 ∨ !ok then ([], false)
        else
          let m_k := bodyCmds fuel (l.drop n)
          let m := m_k.1
          let k := m_k.2
          (c :: m, k)
      if op = 1 then more (.frame (le l 4 4) (slice l 8 256)) 264 (arg == 0)
      else if op = 2 then more (.zeroRun (le l 4 4) arg) 8 (decide (1 ≤ arg) && decide (arg ≤ 14400))
      else if op = 3 then more (.ioStatic arg (le l 4 4)) 8 (decide (arg < 288))
      else if op = 4 then
        more (.start (le l 4 4) (le l 8 1)) 12 (arg == 0 && decide (1024 ≤ le l 4 4) && decide (le l 8 1 ≤ 1) && zeroAt l 9 3)
      else if op = 5 then more (.group (le l 4 6)) 12 (arg == 0 && zeroAt l 10 2)
      else if op = 15 then more .stop 4 (arg == 0)
      else ([], false)

/-- Is a command one of a kind? -/
def BodyCmd.isStop (c : BodyCmd) : Bool := c == .stop

def BodyCmd.bootOnly (c : BodyCmd) : Bool :=
  match c with
  | .ioStatic _ _ => true
  | .start _ _ => true
  | .group _ => true
  | _ => false

def BodyCmd.isStart (c : BodyCmd) : Bool :=
  match c with
  | .start _ _ => true
  | _ => false

def BodyCmd.isGroup (c : BodyCmd) : Bool :=
  match c with
  | .group _ => true
  | _ => false

/-- R683: END is the last command and the only one; boot-only commands, START and GROUP within their limits. -/
def cmdsOk (piece : Bool) (l : List BodyCmd) : Bool :=
  l.getLast? == some .stop && (l.filter (·.isStop)).length == 1 && !(piece && l.any (·.bootOnly))
    && decide ((l.filter (·.isStart)).length ≤ 1) && decide ((l.filter (·.isGroup)).length ≤ 64)

/-- The frame addresses that a command names: the first and how many. -/
def BodyCmd.frames (c : BodyCmd) : Option (Nat × Nat) :=
  match c with
  | .frame a _ => some (a, 1)
  | .zeroRun a n => some (a, n)
  | _ => none

/-- R684: fields of a frame address. -/
def addrFrame (a : Nat) : Nat := bits a 0 14
def addrRegion (a : Nat) : Nat := bits a 17 6

/-- R684: may `n` frames lie at an address? -/
def addrOk (piece : Bool) (a n : Nat) : Bool :=
  bits a 14 3 == 0 && decide (addrRegion a < 48) && bit a 23 == piece && a / 2 ^ 24 == 0 && decide (addrFrame a + n ≤ 14400)

/-- R684: the place in the list of the first address that is wrong, or does not rise; `k` is the place of the first. -/
def badAddress (piece : Bool) : Nat → Nat → List (Nat × Nat) → Option Nat
  | _, _, [] => none
  | k, next, (a, n) :: rest =>
    if !addrOk piece a n ∨ a < next then some k else badAddress piece (k + 1) (a + n) rest

/-- The frames that are written with data: by region (or position) * 16384 + frame; those all zero are not listed. -/
def listedFrames : List BodyCmd → Tbl (List Byte)
  | [] => []
  | .frame a d :: rest =>
    let t := listedFrames rest
    if d.all (· == 0) then t else tblPut (16384 * addrRegion a + addrFrame a) d t
  | _ :: rest => listedFrames rest

/-- The regions (or positions) that the frames address. -/
def addressed (l : List (Nat × Nat)) : List Nat := (List.range 48).filter (fun r => l.any (fun x => addrRegion x.1 == r))

/-- R684: has a region not all its 14,400 frames? -/
def incomplete (l : List (Nat × Nat)) (r : Nat) : Bool :=
  (l.filter (fun x => addrRegion x.1 == r)).foldl (fun n x => n + x.2) 0 != 14400

/-- The register of the CRC-32C over `n` zero bytes more. -/
def crcZeros (n x : Nat) : Nat := Nat.rec x (fun _ y => crcByte 0x82F63B78 y 0) n

/-- R678: CRC-32C over the frames in address order, zero frames included. -/
def framesCrc (l : List BodyCmd) : Nat :=
  (l.foldl (fun x c => match c with
    | .frame _ d => d.foldl (crcByte 0x82F63B78) x
    | .zeroRun _ n => crcZeros (256 * n) x
    | _ => x) 0xFFFFFFFF) ^^^ 0xFFFFFFFF

/-- R341, R345: what the riser fields of a listed frame hold: 0 all zero, 1 legal, 2 one is 0b11. -/
def riserClass (e : Nat × List Byte) : Nat :=
  let f := e.1 % 16384
  if f < 12800 ∨ 14000 ≤ f then 0
  else
    let owners := (List.range 1600).flatMap (fun t => (List.range 16).map (fun i =>
      if (Config.riserPlace t i).1 % 1200 = f - 12800 then riserOwner [(f, e.2)] t i else 0))
    if owners.contains 3 then 2 else if owners.any (· != 0) then 1 else 0

/-- Is a reserved field of a region frame set (CFG_E_CONTENT)? -/
def reservedSet (e : Nat × List Byte) : Bool :=
  let f := e.1 % 16384
  decide (14000 ≤ f) && decide (f < 14208) && Config.regionReserved (f - 14000) e.2

/-! ### I/O settings and groups (R685, R686, R372) -/

/-- R372, R685: is an IO_STATIC setting supported for an I/O? An output DRIVE applies to single-ended standards. -/
def ioStaticOk (v : Nat) : Bool :=
  let std := bits v 0 4
  let drive := bits v 4 2
  decide (std ≤ 5) && bits v 12 20 == 0 && drive != 3
    && (if std = 1 then true else if std = 2 then decide (drive ≤ 1) else drive == 0)
    && (if 1 ≤ std ∧ std ≤ 3 then true else bits v 6 1 == 0)
    && (if std = 4 ∨ std = 5 then !(bit v 7 && bit v 11) else !bit v 7 && !bit v 11)

/-- R686: do the GROUP masks overlap, or is a riser pair not wholly within one group? -/
def groupsBad (masks : List Nat) (riserPairs : List Nat) : Bool :=
  (List.range 48).any (fun r => decide (1 < (masks.filter (fun m => bit m r)).length))
    || riserPairs.any (fun k => !masks.any (fun m => bit m k && bit m (24 + k)))

/-! ### The chain (R687) -/

/-- What a chain that has passed every check gives. -/
structure Chain where
  frames : Tbl (List Byte)
  regions : List Nat
  io : List (Nat × Nat)
  start : Option (Nat × Nat)
  groups : List Nat

/-- What is to be checked: a piece or a boot stream, its chain identifier, whether it is encrypted, the key wrap of segment 0 and
the key that opens it, the segment bytes, SEGMENTS (0 where there is no such field), FRAME_COUNT, FRAME_CRC, the positions of a
piece's footprint, whether it has one tier. -/
structure ChainIn where
  piece : Bool
  chainId : List Byte
  enc : Bool
  firstKey : List Byte
  wrapKey : Option (BitVec 256)
  bytes : List Byte
  segments : Nat
  frameCount : Nat
  frameCrc : Nat
  positions : Nat
  oneTier : Bool

/-- The number of the first segment that fails a test. -/
def firstBad (ok : Segment → Bool) (l : List Segment) : Option Nat := l.findIdx? (fun g => !ok g)

/-- R687: the checks that concern the chain itself, each with its failure, by code. -/
def chainFailures (c : ChainIn) : List (Option CfgErr) × Chain :=
  let segs_rest := splitSegments c.bytes.length c.bytes
  let segs := segs_rest.1
  let rest := segs_rest.2
  let key0 := if c.enc then c.wrapKey.bind (fun k => unwrapKey k c.chainId 0 c.firstKey) else none
  let opened := openBodies c.enc c.chainId 0 key0 segs
  let bodies := (opened.1.takeWhile (·.isSome)).filterMap id
  let keyErr := opened.2
  let parsed := bodies.map (fun b => bodyCmds b.length b)
  let cmds := parsed.flatMap (·.1)
  let whole := segs.length == bodies.length
  let placed := (parsed.mapIdx (fun i x => x.1.filterMap (fun y => y.frames.map (fun z => (i, z))))).flatten
  let spans := placed.map (·.2)
  let listed := listedFrames cmds
  let regs := addressed spans
  let masks := cmds.filterMap (fun x => match x with
    | .group m => some m
    | _ => none)
  let ios := cmds.filterMap (fun x => match x with
    | .ioStatic i v => some (i, v)
    | _ => none)
  let start := cmds.findSome? (fun x => match x with
    | .start p r => some (p, r)
    | _ => none)
  let riserPairs := ((listed.filter (fun e => riserClass e == 1)).map (fun e => e.1 / 16384 % 24)).eraseDups
  -- a segment that is cut short still has its header checked
  let cut := if (segs.getLast?.any (·.last)) || rest.length < 128 then [] else [(⟨rest.take 128, [], []⟩ : Segment)]
  let fmt := match firstBad (·.formatOk c.enc) (segs ++ cut) with
    | some i => some (⟨cfgFormat, i, 0⟩ : CfgErr)
    | none => match parsed.findIdx? (fun x => !x.2) with
      | some i => some ⟨cfgFormat, i, 0⟩
      | none => if whole && !cmdsOk c.piece cmds then some ⟨cfgFormat, segs.length - 1, 0⟩ else none
  let seg := match (segs.mapIdx (fun i g => (i, g))).find? (fun x => x.2.index != x.1 || opened.1[x.1]? == some none) with
    | some x => some (⟨cfgSegment, x.1, 0⟩ : CfgErr)
    | none =>
      if segs.isEmpty || !(segs.getLast?.any (·.last)) || !rest.isEmpty || (c.segments != 0 && segs.length != c.segments) then
        some ⟨cfgSegment, segs.length - 1, 0⟩
      else none
  -- a failure of the chain as a whole names its last segment; one of a frame names its segment and its address
  let chainErr (code : Nat) (bad : Bool) : Option CfgErr := if bad then some ⟨code, segs.length - 1, 0⟩ else none
  let spanErr (code : Nat) (k : Option Nat) : Option CfgErr := (k.bind (placed[·]?)).map (fun x => ⟨code, x.1, x.2.1⟩)
  let frameErr (code : Nat) (p : Nat × List Byte → Bool) : Option CfgErr :=
    (listed.find? p).map (fun e =>
      let a := 2 ^ 17 * (e.1 / 16384) + e.1 % 16384 + (if c.piece then 2 ^ 23 else 0)
      ⟨code, ((placed.find? (fun x => x.2.1 == a)).map (·.1)).getD (segs.length - 1), a⟩)
  -- R369, R372: both I/O of a differential pair have one setting (log entry 110)
  let pairBad := ios.any (fun x => isDifferential x.2 && !ios.contains (if x.1 % 2 = 0 then x.1 + 1 else x.1 - 1, x.2))
  let ioBad := hasRepeat (ios.map (·.1)) || ios.any (fun x => !ioStaticOk x.2) || pairBad
  ([fmt, keyErr, seg,
    spanErr cfgAddress (badAddress c.piece 0 0 spans),
    (if c.piece then spanErr cfgFootprint (spans.findIdx? (fun x => decide (c.positions ≤ addrRegion x.1))) else none),
    chainErr cfgIncomplete (regs.any (incomplete spans) || spans.foldl (fun n x => n + x.2) 0 != c.frameCount),
    frameErr cfgRiser (fun e => riserClass e == 2 || (c.piece && c.oneTier && riserClass e != 0)),
    (frameErr cfgContent reservedSet).orElse (fun _ => chainErr cfgContent (ioBad || (!c.piece && groupsBad masks riserPairs))),
    chainErr cfgCrc (framesCrc cmds != c.frameCrc)],
   { frames := listed, regions := regs, io := ios, start := start, groups := masks })

end Sys2Proof.Machine
end

