-- ==== Sys2Proof/Machine/Manifest.lean ====
section
/-!
DEFINITION. Machine/Manifest.lean: the fields and entries of a piece's manifest (R424-R430).
-/

namespace Sys2Proof.Machine

open Sys2Proof

/-- Fields of a manifest that the checks and the placer use. -/
def mfCols (m : List Byte) : Nat := le m 20 1
def mfRows (m : List Byte) : Nat := le m 21 1
def mfTiers (m : List Byte) : Nat := le m 22 1
def mfPairs (m : List Byte) : Nat := mfCols m * mfRows m
def mfRegions (m : List Byte) : Nat := if mfTiers m = 3 then 2 * mfPairs m else mfPairs m
/-- R445: a piece is HOT. -/
def mfHot (m : List Byte) : Bool := decide (3000 ≤ le m 24 4)

def mfFlag (m : List Byte) (i : Nat) : Bool := bit (le m 23 1) i
def mfSeams (m : List Byte) : Nat := le m 76 1
def mfBanks (m : List Byte) : Nat := le m 77 1
def mfEngines (m : List Byte) : Nat := le m 78 1
def mfBuffers (m : List Byte) : Nat := le m 79 1

/-- R424: 128 + 16 × the entries. -/
def mfLength (m : List Byte) : Nat := 128 + 16 * (mfSeams m + mfBanks m + mfEngines m + mfBuffers m)

/-- The entries of a kind: the first index and how many, as (offset, bytes). -/
def mfEntries (m : List Byte) (first n : Nat) : List (Nat × List Byte) :=
  (List.range n).map (fun i => (128 + 16 * (first + i), slice m (128 + 16 * (first + i)) 16))

def mfSeamEntries (m : List Byte) : List (Nat × List Byte) := mfEntries m 0 (mfSeams m)
def mfBankEntries (m : List Byte) : List (Nat × List Byte) := mfEntries m (mfSeams m) (mfBanks m)
def mfEngineEntries (m : List Byte) : List (Nat × List Byte) := mfEntries m (mfSeams m + mfBanks m) (mfEngines m)
def mfBufferEntries (m : List Byte) : List (Nat × List Byte) :=
  mfEntries m (mfSeams m + mfBanks m + mfEngines m) (mfBuffers m)

end Sys2Proof.Machine
end

