-- ==== Sys2Proof/Machine/Store.lean ====
section
/-!
DEFINITION. Machine/Store.lean: the persistent store in the flash (R782-R786) and the fuses that are blown (R204).
-/

namespace Sys2Proof.Machine

open Sys2Proof

/-- R816: bytes 84-147 of the record: the unit map, the policy, the exponents. -/
def bistRecord (s : State) : List Byte :=
  ((List.range 14).flatMap (fun m => toLE 4 (s.reg (R.BT_MAP m)))).take 55 ++ [BitVec.ofNat 8 (s.get R.BT_STATUS_POLICY)]
    ++ toLE 4 (s.reg R.BT_SCHED0) ++ toLE 2 (s.reg R.BT_SCHED1) ++ zeros 2

/-- R783: the 252 bytes before the CRC of the record that holds the present persistent state. -/
def recordBody (s : State) (seq : Nat) : List Byte :=
  toLE 4 seq ++ toLE 2 1 ++ zeros 2
    ++ toLE 1 s.gaf.pfailAction ++ toLE 1 s.gaf.pfailFilter ++ toLE 1 (b2n s.gaf.pfailAuto) ++ zeros 1
    ++ toLE 4 (s.reg R.SC_ALARM_POLICY) ++ zeros 4
    ++ toLE 1 (s.get R.SC_UPDATE_ACTIVE) ++ toLE 1 (s.get R.SC_UPDATE_STATE) ++ toLE 1 (s.get R.SC_UPDATE_TRIAL_LEFT)
    ++ toLE 1 (b2n (s.sec.slotComplete.getD 0 false) + 2 * b2n (s.sec.slotComplete.getD 1 false)
        + 4 * s.get R.SC_UPDATE_REVERTED)
    ++ toLE 4 s.sec.imageLen ++ toLE 32 s.sec.imageSha.toNat ++ toLE 16 s.sec.chunks ++ zeros 8
    ++ bistRecord s ++ zeros 104

/-- R783: the whole record, with its CRC-32C. -/
def recordBytes (s : State) (seq : Nat) : List Byte :=
  let b := recordBody s seq
  b ++ toLE 4 (crc32c b)

/-- R782: flash address of a slot of a store bank. -/
def slotAddress (bank slot : Nat) : Nat := 0x01800000 + 0x10000 * bank + 256 * slot

/-- The bytes of a flash range return to 0xFF. -/
def eraseFlash (m : List Host.Cell) (lo n : Nat) : List Host.Cell := m.filter (fun e => e.1 < lo || lo + n ≤ e.1)

/-- R785: one record is written, to the first blank slot of the bank that does not hold the valid record, which is
erased first when it has none. R786: SEQ 0xFFFF_FFFE makes the store read-only. -/
def writeRecordNow (s : State) : State :=
  if s.has R.SC_STATUS_STORE_RO then s
  else
    let seq := if s.sec.storeValid then s.reg R.SC_STORE_SEQ + 1 else 0
    let bank := if s.sec.storeValid then 1 - s.sec.storeBank else 0
    let used := s.sec.storeUsed.getD bank 0
    let full := decide (256 ≤ used)
    let slot := if full then 0 else used
    let flash := if full then eraseFlash s.sec.flash (0x01800000 + 0x10000 * bank) 0x10000 else s.sec.flash
    let flash := cellsSet 0xFF flash (slotAddress bank slot) (recordBytes s seq)
    let s := { s with sec := { s.sec with flash := flash, storeValid := true, storeBank := bank,
                                          storeUsed := s.sec.storeUsed.set bank (slot + 1) } }
    let s := (s.setReg R.SC_STORE_SEQ seq).put R.SC_STATUS_STORE_BANK bank
    if seq = 0xFFFFFFFE then (s.put R.SC_STATUS_STORE_RO 1).raise 282 else s

/-- A change of persistent state writes a record; none is begun while PFAIL_N is low (R202): it is written when
PFAIL_N is high again. -/
def writeRecord (s : State) : State :=
  if s.pins.pfailLow then { s with sec := { s.sec with recordDue := true } } else writeRecordNow s

/-- R786: commands that would write a record are refused while the store is read-only. -/
def storeRefused (s : State) : Bool := s.has R.SC_STATUS_STORE_RO

/-- R204: a fuse write is begun only with PFAIL_N high and SUPPLY_OK high. -/
def fusesAllowed (s : State) : Bool := !s.pins.pfailLow && s.has R.PW_STATUS_SUPPLY_OK_PIN

end Sys2Proof.Machine
end

