-- ==== Sys2Proof/Machine/Timebase.lean ====
section
/-!
DEFINITION. Machine/Timebase.lean: the timebase commands and the firing rule of schedule entries (R153-R177).
-/

namespace Sys2Proof.Machine

open Sys2Proof

/-! ### Schedule entries (R154, R155, R157) -/

/-- R155: the last valid target of an action. -/
def targetMax (action : Nat) : Nat :=
  if action = 2 then 63 else if action = 3 ∨ action = 4 then 1023 else if action = 6 then 31
  else if action = 7 then 7 else 0

/-- The regions of a switch group (R419). -/
def State.groupMembers (s : State) (g : Nat) : List Nat :=
  bitsOf 48 (s.get (R.CF_CTX_GROUP_LO_MEMBERS g) + 2 ^ 32 * s.get (R.CF_CTX_GROUP_HI_MEMBERS g))

/-- R155: the claims that writing an entry requires. -/
def actionClaims (s : State) (action target : Nat) : List Nat :=
  if action = 2 then (s.groupMembers target).map (claimKey 4)
  else if action = 3 ∨ action = 4 then [claimKey 2 target]
  else if action = 5 ∨ action = 7 then [claimKey 5 0]
  else if action = 6 then [claimKey 3 target]
  else []

/-- R155: is ARG what the action takes? -/
def argOk (action arg : Nat) : Bool :=
  if action = 2 then arg ≤ 7 else if action = 7 then 1 ≤ arg && arg ≤ 65535 else if action = 8 then arg < 65536
  else arg == 0

/-- R157: does an active entry fire in turn `t`? -/
def entryFires (e : SchedEntry) (t : Nat) : Bool :=
  let d := (2 ^ 48 + t - e.first) % 2 ^ 48
  if e.count ≠ 0 ∧ e.left = 0 then false
  else if e.period = 0 then d == 0
  else decide (d < 2 ^ 47) && d % e.period == 0

/-- R157: has an entry with PERIOD 0 passed, so that it is freed without firing? -/
def entryPassed (e : SchedEntry) (t : Nat) : Bool :=
  let d := (2 ^ 48 + t - e.first) % 2 ^ 48
  e.period == 0 && decide (1 ≤ d) && decide (d < 2 ^ 47)

/-- The entry that 32 bytes of a TB_SCHED_WRITE payload spell, owned by a mailbox. -/
def parseEntry (b : List Byte) (owner : Nat) : SchedEntry :=
  { pip := le b 0 4, action := le b 4 1, rel := bit (le b 5 1) 0, target := le b 6 2, start := le b 8 6,
    period := le b 14 2, count := le b 16 4, arg := le b 20 4, owner := owner, first := le b 8 6, left := le b 16 4 }

/-- The 32 bytes of an entry in the layout of R154, VALID set. COUNT reads the firings left (log entry 21). -/
def entryBytes (idx : Nat) (e : SchedEntry) : List Byte :=
  toLE 4 e.pip ++ toLE 1 e.action ++ toLE 1 (0x80 + b2n e.rel) ++ toLE 2 e.target ++ toLE 6 e.start
    ++ toLE 2 e.period ++ toLE 4 (if e.count = 0 then 0 else e.left) ++ toLE 4 e.arg ++ toLE 2 idx ++ toLE 1 e.owner
    ++ zeros 5

/-- R153: entry 0, TL_SWAP at pip 0 of every turn. -/
def entryZero : SchedEntry :=
  { pip := 0, action := 1, rel := false, target := 0, start := 0, period := 1, count := 0, arg := 0, owner := 0xFF }

/-- The active entry at an index. -/
def State.entryAt (s : State) (i : Nat) : Option SchedEntry := if i = 0 then some entryZero else tblFind i s.tb.sched

/-- The pending edit of an index, the last one written (R175). -/
def State.pendingEntry (s : State) (i : Nat) : Option (Option SchedEntry) :=
  (s.gaf.shadow ++ s.gaf.held).foldl (fun x e =>
    match e with
    | .sched j v => if j = i then some v else x
    | _ => x) none

/-- The schedule as edits will leave it. -/
def State.schedAfter (s : State) (es : List Edit) : Tbl SchedEntry :=
  es.foldl (fun t e =>
    match e with
    | .sched j (some v) => tblPut j v t
    | .sched j none => tblDel j t
    | _ => t) s.tb.sched

/-- The schedule as the pending edits will leave it. -/
def State.futureSched (s : State) : Tbl SchedEntry := s.schedAfter (s.gaf.shadow ++ s.gaf.held)

/-- The schedule of the next turn: edits that are held for the turn after it (R150) do not count yet. -/
def State.nextSched (s : State) : Tbl SchedEntry := s.schedAfter s.gaf.shadow

/-- TS_SCHED_USED counts the active entries, entry 0 included (R166, R175). -/
def State.showSched (s : State) : State := s.put R.TS_SCHED_USED_USED (1 + s.tb.sched.length)

/-- R175: may a write take an index? It is neither active nor reserved by a pending write. -/
def indexFree (s : State) (taken : List Nat) (i : Nat) : Bool :=
  (s.entryAt i).isNone && !taken.contains i && match s.pendingEntry i with
    | some (some _) => false
    | _ => true

/-- The lowest index from 256 that a write may take (R174). -/
def lowestFree (s : State) (taken : List Nat) : Option Nat :=
  ((List.range 3840).map (fun k => k + 256)).find? (indexFree s taken)

/-- R174: the indexes that the entries take, in payload order, and the check that fails, if one does. For R159 an active entry whose
clear is pending does not count, since it is gone when the write becomes active, while one that ends this turn by its own count or
PERIOD still counts; and an entry that both conflicts and would be the 17th at its PIP is answered BUSY (DESIGN CHOICE, log entry 90). -/
def placeEntries (s : State) (fut : Tbl SchedEntry) :
    List (Nat × Nat × SchedEntry) → List (Nat × SchedEntry) → Chk × List (Nat × SchedEntry)
  | [], done => (none, done)
  | (i, want, e) :: rest, done =>
    let taken := done.map Prod.fst
    let all := fut.map Prod.snd ++ done.map Prod.snd
    let slot : Option Nat := if want = 0xFFFF then lowestFree s taken else some want
    match slot with
    | none => (some (stNoResource, i), done)
    | some k =>
      let busyOwner : Option Nat :=
        if want ≠ 0xFFFF ∧ !indexFree s taken want then
          match s.entryAt want with
          | some x => some x.owner
          | none => match s.pendingEntry want with
            | some (some x) => some x.owner
            | _ => some e.owner
        else (all.find? (fun x => x.pip == e.pip && x.action == e.action && x.target == e.target)).map (·.owner)
      match busyOwner with
      | some o => (some (stBusy, 256 * i + o), done)
      | none =>
        if 16 ≤ (all.filter (fun x => x.pip == e.pip)).length + b2n (e.pip == 0) then (some (stNoResource, i), done)
        else placeEntries s fut rest (done ++ [(k, e)])

/-- Is `start` later than turn `t`, modulo 2^48 (R157)? -/
def laterThan (t start : Nat) : Bool :=
  let d := (2 ^ 48 + start - t) % 2 ^ 48
  decide (1 ≤ d) && decide (d < 2 ^ 47)

/-- Check 7 for the entry at payload offset `o` (R174). -/
def entryParams (s : State) (o : Nat) (b : List Byte) : List Chk :=
  let act := le b 4 1
  [param o (decide (le b 0 4 ≤ 0xFFFFFFFE)), param (o + 4) (decide (2 ≤ act) && decide (act ≤ 8)),
   param (o + 5) (decide (le b 5 1 ≤ 1)),
   param (o + 6) (decide (le b 6 2 ≤ targetMax act) && (act != 2 || s.has (R.CF_CTX_GROUP_HI_DEFINED (le b 6 2)))),
   param (o + 8) (bit (le b 5 1) 0 || laterThan s.checkTurn (le b 8 6)),
   param (o + 20) (argOk act (le b 20 4)),
   param (o + 24) (le b 24 2 == 0xFFFF || (decide (256 ≤ le b 24 2) && decide (le b 24 2 ≤ 4095))),
   reserved0 b 26 1 |>.map (fun x => (x.1, o + 26)), reserved0 b 27 5 |>.map (fun x => (x.1, o + 27))]

/-- The entries of a TB_SCHED_WRITE payload with the indexes that they want. -/
def wantedEntries (mb : Nat) (p : List Byte) : List (Nat × Nat × SchedEntry) :=
  (numbered (entriesOf p 4 32 (le p 0 2))).map (fun (i, b) => (i, le b 24 2, parseEntry b mb))

/-- TB_SCHED_WRITE (R174, R156, R159). -/
def cmdTbSchedWrite : Cmd where
  code := 0x0703
  lenOk := fun r => r.length.toNat == 4 + 32 * le r.payload 0 2
  lenReq := 0xFFFF
  checks := fun s mb r =>
    let p := r.payload
    onlyRunning s
      :: owned s mb ((wantedEntries mb p).flatMap (fun (i, _, e) =>
          if e.target ≤ targetMax e.action then (actionClaims s e.action e.target).map (fun k => (i, k)) else []))
      :: param 0 (decide (1 ≤ le p 0 2) && decide (le p 0 2 ≤ 126)) :: reserved0 p 2 2
      :: ((numbered (entriesOf p 4 32 (le p 0 2))).flatMap (fun (i, b) => entryParams s (4 + 32 * i) b)
        ++ [(placeEntries s s.futureSched (wantedEntries mb p) []).1])
  act := fun s mb r =>
    let l := (placeEntries s s.futureSched (wantedEntries mb r.payload) []).2
    replyOk (s.latch (l.map (fun (k, e) => .sched k (some e))))
      (toLE 2 l.length ++ zeros 2 ++ l.flatMap (fun (k, _) => toLE 2 k ++ zeros 2))

def execTbSchedWrite (mb : Fin 16) (req : Request) (s : State) : Host.Outcome State Fault Refusal :=
  commandRow cmdTbSchedWrite mb req s

/-- TB_SCHED_READ (R175): the active schedule only. -/
def cmdTbSchedRead : Cmd where
  code := 0x0704
  lenOk := lenIs 4
  lenReq := 4
  checks := fun _ _ r =>
    let p := r.payload
    [param 0 (decide (le p 0 2 ≤ 4095)), param 2 (decide (1 ≤ le p 2 2) && decide (le p 2 2 ≤ 126))]
  act := fun s _ r =>
    let first := le r.payload 0 2
    let k := min (le r.payload 2 2) (4096 - first)
    replyOk s (toLE 2 k ++ zeros 2 ++ (List.range k).flatMap (fun i =>
      match s.entryAt (first + i) with
      | some e => entryBytes (first + i) e
      | none => zeros 24 ++ toLE 2 (first + i) ++ zeros 6))

def execTbSchedRead (mb : Fin 16) (req : Request) (s : State) : Host.Outcome State Fault Refusal :=
  commandRow cmdTbSchedRead mb req s

/-- The owner of an index, by its pending write or its active entry; an active entry whose clear is pending is still its owner's (R175). -/
def State.indexOwner (s : State) (i : Nat) : Option Nat :=
  match s.pendingEntry i with
  | some (some e) => some e.owner
  | _ => (s.entryAt i).map (·.owner)

/-- Is an edit a pending write of one of these indexes? -/
def isWriteOf (l : List Nat) (e : Edit) : Bool :=
  match e with
  | .sched j (some _) => l.contains j
  | _ => false

/-- An index is cleared (R175, R176): a pending write is withdrawn, an active entry is cleared under R156. -/
def State.clearIndexes (s : State) (l : List Nat) : State :=
  let act := (l.filter (fun i => (s.entryAt i).isSome)).map (fun i => Edit.sched i none)
  let g := { s.gaf with shadow := s.gaf.shadow.filter (fun e => !isWriteOf l e),
                        held := s.gaf.held.filter (fun e => !isWriteOf l e) }
  ({ s with gaf := g } : State).latch act

/-- Every index of a mailbox, active or pending. -/
def State.indexesOf (s : State) (mb : Nat) : List Nat :=
  (s.futureSched.filter (fun e => e.2.owner == mb)).map Prod.fst

/-- TB_SCHED_CLEAR (R176). -/
def cmdTbSchedClear : Cmd where
  code := 0x0705
  lenOk := fun r => r.length.toNat == 4 + 4 * le r.payload 2 2
  lenReq := 0xFFFF
  checks := fun s mb r =>
    let p := r.payload
    let l := numbered (entriesOf p 4 4 (le p 2 2))
    onlyRunning s
      :: (match l.find? (fun (_, b) => decide (256 ≤ le b 0 2) && decide (le b 0 2 ≤ 4095)
              && s.indexOwner (le b 0 2) != some mb) with
          | some (i, _) => some (stNotOwner, i)
          | none => none)
      :: param 0 (decide (le p 0 1 ≤ 1)) :: reserved0 p 1 1
      :: param 2 (decide (le p 2 2 ≤ 1015) && (le p 0 1 == 0 || le p 2 2 == 0))
      :: l.flatMap (fun (i, b) => [param (4 + 4 * i) (decide (256 ≤ le b 0 2) && decide (le b 0 2 ≤ 4095)),
                                   param (6 + 4 * i) (zeroAt b 2 2)])
  act := fun s mb r =>
    let p := r.payload
    let l := if le p 0 1 = 1 then s.indexesOf mb else (entriesOf p 4 4 (le p 2 2)).map (fun b => le b 0 2)
    replyOk (s.clearIndexes l) []

def execTbSchedClear (mb : Fin 16) (req : Request) (s : State) : Host.Outcome State Fault Refusal :=
  commandRow cmdTbSchedClear mb req s

/-- R165: when a resource is released, the entries whose writing requires its claim are cleared. -/
def State.clearSchedFor (s : State) (key : Nat) : State :=
  s.clearIndexes ((s.futureSched.filter (fun e => (actionClaims s e.2.action e.2.target).contains key)).map Prod.fst)

/-! ### The other timebase commands -/

/-- R136: may K divide the PPS period? -/
def ppsDivOk (k : Nat) : Bool :=
  decide (1 ≤ k) && decide (k ≤ 1000000) && 1250000000 % k == 0 && decide (1024 ≤ 1250000000 / k)

/-- The first capture queue that is armed or running (R234). -/
def State.armedQueue (s : State) : Option Nat :=
  (s.cap.queues.map Prod.fst).find? (fun q => decide (2 ≤ s.get (R.CQ_STATE_STATE q)) && decide (s.get (R.CQ_STATE_STATE q) ≤ 4))

/-- The first replay engine that is running (R316). -/
def State.runningEngine (s : State) : Option Nat := (List.range 32).find? (fun e => s.get (R.RP_STATE_STATE e) == 2)

/-- TB_SET_SOURCE (R170, R171, R138). "PIP_REF changes" is judged against the active TS_CTRL.PIP_REF, not one that a command latched
earlier in the turn (DESIGN CHOICE, log entry 91). Without LOAD_TURN it leaves a load that an earlier one asked for (log entry 119). -/
def cmdTbSetSource : Cmd where
  code := 0x0700
  lenOk := lenIs 24
  lenReq := 24
  checks := fun s mb r =>
    let p := r.payload
    let src := le p 0 1
    let lane := le p 2 1
    [onlyRunning s, failIf (!s.holds mb (claimKey 6 0)) stNotOwner 0,
     failIf (src == 2 && decide (lane < s.lanes) && !s.holds mb (claimKey 1 lane)) stNotOwner 1,
     param 0 (decide (src ≤ 3)), param 1 (decide (le p 1 1 ≤ 1) && (src != 3 || le p 1 1 == 1)),
     param 2 (decide (lane ≤ 95)), param 3 (bits (le p 3 1) 2 2 == 0),
     param 4 (if src = 0 then decide (1024 ≤ le p 4 4) else if src = 3 then ppsDivOk (le p 4 4) else le p 4 4 == 0),
     reserved0 p 14 2,
     (if le p 1 1 ≠ s.get R.TS_CTRL_PIP_REF then
        match s.armedQueue with
        | some q => some (stRefusedArmed, q)
        | none => s.runningEngine.map (fun e => (stRefusedArmed, e))
      else none),
     failIf (src == 2 && decide (s.lanes ≤ lane)) stNoResource lane]
  act := fun s _ r =>
    let p := r.payload
    let src := le p 0 1
    let flags := le p 3 1
    let common := [tl R.TS_CTRL_SOURCE src, tl R.TS_CTRL_PIP_REF (le p 1 1), tl R.TS_CTRL_SYNC_EDGE (bits flags 1 1),
      tl R.TS_CTRL_MARKER_K (bits flags 4 4)]
    let extra := if src = 0 then [tl R.TS_PERIOD_PERIOD (le p 4 4)]
      else if src = 3 then [tl R.TS_PPS_DIV_DIV (le p 4 4)]
      else if src = 2 then [tl R.TS_CTRL_MARKER_LANE (le p 2 1), tl R.TS_MARKER_PAT_PAT (le p 16 4),
        tl R.TS_MARKER_MASK_MASK (le p 20 4)]
      else []
    let load := if bit flags 0 then [Edit.turnLoad (le p 8 6)] else []
    replyOk (s.latch (common ++ extra ++ load)) []

def execTbSetSource (mb : Fin 16) (req : Request) (s : State) : Host.Outcome State Fault Refusal :=
  commandRow cmdTbSetSource mb req s

/-- TB_SET_FLYWHEEL (R172). -/
def cmdTbSetFlywheel : Cmd where
  code := 0x0701
  lenOk := lenIs 4
  lenReq := 4
  checks := fun s mb r =>
    let p := r.payload
    [onlyRunning s, failIf (!s.holds mb (claimKey 6 0)) stNotOwner 0, param 0 (decide (le p 0 1 ≤ 1)),
     param 1 (decide (le p 1 1 ≤ 1)), param 2 (decide (1 ≤ le p 2 2))]
  act := fun s _ r =>
    let p := r.payload
    replyOk (s.latch [tl R.TS_CTRL_FLY_EN (le p 0 1), tl R.TS_CTRL_RELOCK (le p 1 1), tl R.TS_FLY_WINDOW_W (le p 2 2)]) []

def execTbSetFlywheel (mb : Fin 16) (req : Request) (s : State) : Host.Outcome State Fault Refusal :=
  commandRow cmdTbSetFlywheel mb req s

/-- TB_GET_TIME (R173). -/
def cmdTbGetTime : Cmd where
  code := 0x0702
  lenOk := lenIs 0
  lenReq := 0
  checks := fun _ _ _ => []
  act := fun s _ _ =>
    replyOk s (toLE 6 s.tb.turn ++ toLE 4 s.tb.pip
      ++ toLE 1 (s.get R.TS_STATUS_TURN_SYNTH + 2 * s.get R.TS_STATUS_PIP_LOCK) ++ zeros 1 ++ toLE 4 (s.reg R.TS_LAST_LEN))

def execTbGetTime (mb : Fin 16) (req : Request) (s : State) : Host.Outcome State Fault Refusal :=
  commandRow cmdTbGetTime mb req s

/-- TB_STATUS (R177). -/
def cmdTbStatus : Cmd where
  code := 0x0706
  lenOk := lenIs 0
  lenReq := 0
  checks := fun _ _ _ => []
  act := fun s _ _ =>
    replyOk s (toLE 1 (s.get R.TS_CTRL_SOURCE) ++ toLE 1 (s.get R.TS_CTRL_PIP_REF) ++ toLE 1 (s.get R.TS_STATUS_FLY_STATE)
      ++ toLE 1 (s.reg R.TS_STATUS) ++ toLE 4 (s.reg R.TS_MEAN_LEN) ++ toLE 4 (s.reg R.TS_COUNT_A)
      ++ toLE 4 (s.reg R.TS_COUNT_B) ++ (List.range 16).flatMap (fun i => toLE 4 (s.tb.history.getD i 0)))

def execTbStatus (mb : Fin 16) (req : Request) (s : State) : Host.Outcome State Fault Refusal :=
  commandRow cmdTbStatus mb req s

end Sys2Proof.Machine
end

