-- ==== Sys2Proof/Machine/Contexts.lean ====
section
/-!
DEFINITION. Machine/Contexts.lean: regions and their planes, switches, switch groups, loads, scrubbing, I/O delay lines, and
the context commands (R380-R422, R376, R377, R344, R411).
-/

namespace Sys2Proof.Machine

open Sys2Proof

/-! ### Planes and regions (R385, R386) -/

def rgIdle : Nat := 0
def rgRunning : Nat := 1
def rgSwitching : Nat := 2
def rgLoading : Nat := 3
def rgHeld : Nat := 4

def State.rgState (s : State) (r : Nat) : Nat := s.get (R.CF_CTX_STATE_STATE r)
def State.activeOf (s : State) (r : Nat) : Nat := s.get (R.CF_CTX_STATE_ACTIVE r)

/-- R385: the states of a plane. -/
def plEmpty : Nat := 0
def plLoading : Nat := 1
def plValid : Nat := 2
def plInvalid : Nat := 3

/-- R385: the state of plane p of region r. -/
def State.planeState (s : State) (r p : Nat) : Nat :=
  if bit (s.get (R.CF_CTX_PLANES_VALID r)) p then plValid
  else if bit (s.get (R.CF_CTX_PLANES_LOADING r)) p then plLoading
  else if bit (s.get (R.CF_CTX_PLANES_INVALID r)) p then plInvalid else plEmpty

/-- Bit p of a mask becomes b. -/
def putBit (m p : Nat) (b : Bool) : Nat := if b then setBit m p else clearBit m p

/-- Plane p of region r enters a state; an EMPTY plane holds no image, and one that is written anew no riser that decodes 0b11. -/
def State.setPlane (s : State) (r p st : Nat) : State :=
  let s := ((s.put (R.CF_CTX_PLANES_VALID r) (putBit (s.get (R.CF_CTX_PLANES_VALID r)) p (st == plValid))).put
    (R.CF_CTX_PLANES_LOADING r) (putBit (s.get (R.CF_CTX_PLANES_LOADING r)) p (st == plLoading))).put
    (R.CF_CTX_PLANES_INVALID r) (putBit (s.get (R.CF_CTX_PLANES_INVALID r)) p (st == plInvalid))
  let mine := fun (k : Nat) => k / 16384 == 8 * r + p
  let s := if st = plEmpty ∨ st = plLoading then
      { s with fab := { s.fab with scrubFirst := s.fab.scrubFirst.filter (fun k => !mine k),
                                   illegal := s.fab.illegal.filter (fun e => !mine e.2) } }
    else s
  if st = plEmpty then { s with fab := { s.fab with images := tblDel (8 * r + p) s.fab.images } } else s

/-! ### Endpoints (R590, R594, R595) -/

def epOpen : Nat := 1
def epClosing : Nat := 2
def epIsolated : Nat := 3
def epDead : Nat := 4

/-- The endpoint whose NC_EP_CTRL a shadow writes. -/
def endpointOf (e : Edit) : Option Nat :=
  match e with
  | .reg off _ _ =>
    if R.NC_EP_CTRL 0 ≤ off ∧ off < R.NC_EP_CTRL 240 ∧ (off - R.NC_EP_CTRL 0) % 0x20 = 0 then
      some ((off - R.NC_EP_CTRL 0) / 0x20)
    else none
  | _ => none

/-- R599: a caching unit's whole cache is emptied. -/
def State.emptyCache (s : State) (unit : Nat) : State :=
  ({ s with noc := { s.noc with caches := s.noc.caches.filter (fun c => c.unit != unit) } }).showCache unit

/-- R590, R594: an OPEN endpoint closes: CLOSING, or ISOLATED once nothing is outstanding (EV_NOC_CLOSED). -/
def State.closeEndpoint (s : State) (e : Nat) : State :=
  let s := s.put (R.NC_EP_CTRL_OPEN e) 0
  if s.get (R.NC_EP_STATUS_STATE e) = epOpen then s.put (R.NC_EP_STATUS_STATE e) epClosing else s

/-- R595: OPEN becomes 1: the endpoint is OPEN. -/
def State.openEndpoint (s : State) (e : Nat) : State :=
  if s.get (R.NC_EP_STATUS_STATE e) = 0 then s
  else (s.put (R.NC_EP_CTRL_OPEN e) 1).put (R.NC_EP_STATUS_STATE e) epOpen

/-- R362, R407, R449: the NoC endpoint of a region closes and its cache is emptied. -/
def State.closeRegion (s : State) (r : Nat) : State := (s.closeEndpoint (regionEndpoint r)).emptyCache r

/-- A region stops: its flip-flops are held, its engines are IDLE and its endpoint closes (R386, R472, R590). -/
def State.stopRegion (s : State) (r st : Nat) : State :=
  ((((s.cutReinserted r).put (R.CF_CTX_STATE_STATE r) st).holdFlops r).idleEngines r).closeRegion r

/-- R377: the initial taps of the new plane of the I/O that a region owns (R369, R370). -/
def State.reloadTaps (s : State) (r : Nat) : State :=
  let k := r % 24
  match tblFind (8 * r + s.activeOf r) s.fab.images with
  | none => s
  | some im =>
    iterate 12 (fun i t =>
      let io := 12 * k + i
      match tblFind io t.fab.ioStatic with
      | some v =>
        if bits v 10 1 = r / 24 then
          { t with fab := { t.fab with taps := tblSet (fun _ => 0) t.fab.taps io (Config.initialTap im.handle im.pos i % 512) } }
        else t
      | none => t) s

/-- R387, R473, R595, R693: a region is released into RUNNING; its clock tree runs. -/
def State.releaseRegion (s : State) (r : Nat) : State :=
  if s.planeState r (s.activeOf r) = plValid ∧ s.rgState r ≠ rgRunning ∧ !s.inDead r then
    (((((s.put (R.CF_CTX_STATE_STATE r) rgRunning).openClock r).releaseFlops r).reloadTaps r).openEndpoint (regionEndpoint r)).enterPages r
  else s

/-! ### Switch groups (R396, R419) -/

/-- The group of a region. -/
def State.groupOf (s : State) (r : Nat) : Option Nat :=
  let g := s.get (R.CF_CTX_STATE_GROUP r)
  if g < 64 then some g else none

def State.groupDefined (s : State) (g : Nat) : Bool := decide (g < 64) && s.has (R.CF_CTX_GROUP_HI_DEFINED g)

/-- The owner of a group. -/
def State.groupOwner (s : State) (g : Nat) : Nat := s.get (R.CF_CTX_GROUP_HI_OWNER g)

/-- Group g takes members and an owner; with no members it is deleted. -/
def State.setGroup (s : State) (g : Nat) (members : List Nat) (owner : Nat) : State :=
  let s := forEach (s.groupMembers g) (fun r t => t.put (R.CF_CTX_STATE_GROUP r) 0x7F) s
  let s := forEach members (fun r t => t.put (R.CF_CTX_STATE_GROUP r) g) s
  let m := maskOf members
  let on := !members.isEmpty
  let s := (s.put (R.CF_CTX_GROUP_LO_MEMBERS g) m).put (R.CF_CTX_GROUP_HI_MEMBERS g) (m / 2 ^ 32)
  (s.put (R.CF_CTX_GROUP_HI_OWNER g) (if on then owner else 0)).put (R.CF_CTX_GROUP_HI_DEFINED g) (b2n on)

/-- R156, R422, R446: schedule entries that name a group are cleared. -/
def State.clearGroupSched (s : State) (g : Nat) : State :=
  s.clearIndexes ((s.futureSched.filter (fun e => e.2.action == 2 && e.2.target == g)).map Prod.fst)

/-! ### Switch requests (R400-R402) -/

/-- The operation with a mailbox and tag ends. -/
def State.endOpAt (s : State) (op : Option (Nat × Nat)) (status detail : Nat) : State :=
  match op with
  | none => s
  | some (mb, tag) => match s.opOf mb tag with
    | some o => s.endOp o status detail
    | none => s

/-- CF_CTX_STATE.PEND and PEND_PLANE of regions. -/
def State.showPend (s : State) (rs : List Nat) (p : Option Nat) : State :=
  forEach rs (fun r t =>
    (t.put (R.CF_CTX_STATE_PEND r) (b2n p.isSome)).put (R.CF_CTX_STATE_PEND_PLANE r) (p.getD 0)) s

/-- R398: a switch is refused in every member. -/
def State.refuseSwitch (s : State) (members : List Nat) : State :=
  (forEach members (fun r t => t.bump (R.CF_CTX_REFUSED_REFUSED r)) s).raise 273

/-- A pending request goes away. -/
def State.dropPend (s : State) (key : Nat) : State :=
  match tblFind key s.fab.pend with
  | none => s
  | some p => ({ s with fab := { s.fab with pend := tblDel key s.fab.pend } }).showPend p.members none

/-- What a request for group g switches; 128 + r stands for region r alone (R447: a placement without a switch group). -/
def State.switchMembers (s : State) (g : Nat) : List Nat := if g < 128 then s.groupMembers g else [g - 128]

/-- R401: does a pending request stand against another one of a rank? A pending gaffer entry stands against every other; else the higher
rank does (log entry 103). -/
def PendSwitch.stands (p : PendSwitch) (rank : Nat) : Bool := p.rank == 0 || decide (p.rank < rank)

/-- A request for group g is pending (R401). While members are between their switching edges it waits behind them. Of two requests of one
pip the one that is not taken counts nowhere. -/
def requestSwitch (s : State) (g plane rank : Nat) (op : Option (Nat × Nat)) : State :=
  let members := s.switchMembers g
  let began := (tblFind g s.fab.pend).any (·.began)
  let key := if began then g + 64 else g
  if members.isEmpty then s.endOpAt op stOk 0
  else
    match tblFind key s.fab.pend with
    | some p =>
      if p.stands rank then
        (if p.rank ≠ 0 ∧ p.at_ = s.tb.now then s else s.refuseSwitch members).endOpAt op stOk 0
      else
        let s := (s.dropPend key).endOpAt p.op stOk 0
        ({ s with fab := { s.fab with pend := tblPut key ⟨plane, rank, members, false, op, s.tb.now⟩ s.fab.pend } }).showPend
          members (some plane)
    | none =>
      ({ s with fab := { s.fab with pend := tblPut key ⟨plane, rank, members, false, op, s.tb.now⟩ s.fab.pend } }).showPend
        members (some plane)

/-- R398, R402: may a group switch to a plane? -/
def State.switchAllowed (s : State) (members : List Nat) (plane : Nat) : Bool :=
  members.all (fun r => s.planeState r plane == plValid && s.rgState r != rgLoading && s.rgState r != rgHeld)

/-- A pending request is done: what waits behind it takes its place. -/
def State.endPend (s : State) (g : Nat) : State :=
  let op := (tblFind g s.fab.pend).bind (·.op)
  let s := s.dropPend g
  let s := match tblFind (g + 64) s.fab.pend with
    | some q =>
      ({ s with fab := { s.fab with pend := tblPut g q (tblDel (g + 64) s.fab.pend) } }).showPend q.members (some q.plane)
    | none => s
  s.endOpAt op stOk 0

/-- R223: the planes that were active before a region's switches. -/
def State.planesOf (s : State) (r : Nat) : List (Nat × Nat) := tblGet (fun _ => []) s.fab.planesBefore r

/-- R388: region r takes the new plane at its E0, which begins its dead cycle (`endDead` is its E1). A region that does not run yet takes
no edge before it: its flip-flops start from the new plane's INIT values, and it is IDLE until E1 (R387). -/
def State.takePlane (s : State) (r plane : Nat) : State :=
  let ran := s.runs r
  let s := (s.captureE0 r).cutReinserted r
  let f := s.fab
  let s := { s with fab := { f with planesBefore := tblPut r ((s.tb.now, s.activeOf r) :: s.planesOf r) f.planesBefore
                                    dead := tblPut r s.tb.now f.dead } }
  let s := ((s.put (R.CF_CTX_STATE_ACTIVE r) plane).bump (R.CF_CTX_SWITCHES_COUNT r)).put (R.CF_CTX_LAST_TURN_TURN r) s.tb.turn
  let s := (s.put (R.CF_CTX_LAST_PIP_PIP r) s.tb.pip).put (R.CF_CTX_STATE_PEND r) 0
  let s := s.put (R.CF_CTX_STATE_PEND_PLANE r) 0
  let s := if ran then s.put (R.CF_CTX_STATE_STATE r) rgSwitching else s.releaseFlops r
  s.reloadTaps r

/-- R595: an IDLE region that a switch makes run, and a DEAD endpoint, open at the next boundary. -/
def State.openLater (s : State) (r : Nat) : State :=
  if s.get (R.NC_EP_STATUS_STATE (regionEndpoint r)) = epOpen then s
  else { s with fab := { s.fab with reopen := r :: s.fab.reopen } }

/-- The pending request of a group. -/
def State.setPend (s : State) (g : Nat) (p : PendSwitch) : State := { s with fab := { s.fab with pend := tblPut g p s.fab.pend } }

/-- R388: a pending request begins in the regions that it names. -/
def State.beginSwitch (s : State) (p : PendSwitch) (todo : List Nat) : State :=
  if p.began then s
  else
    let t := forEach todo (fun m t => if t.rgState m = rgRunning then t.put (R.CF_CTX_STATE_STATE m) rgSwitching else t)
      (s.showPend p.members none)
    t.showPend todo (some p.plane)

/-- R401: the request that waits behind a group's switch stays pending in a region that has switched. -/
def State.showBehind (s : State) (g r : Nat) : State :=
  match tblFind (g + 64) s.fab.pend with
  | some q => if q.members.contains r then s.showPend [r] (some q.plane) else s
  | none => s

/-- R388: region `r` of a request's `todo` switches; with the last of them the request ends. -/
def State.switchRegion (s : State) (g r : Nat) (p : PendSwitch) (todo : List Nat) : State :=
  let left := todo.filter (· != r)
  let s := (((s.takePlane r p.plane).openLater r).showBehind g r).setPend g { p with members := left, began := true }
  if left.isEmpty then (s.raise 272).endPend g else s

/-- CONTEXT_SWITCH (R388, R391, R398, R399): an edge of the PRIMARY line of a region whose group has a pending request is its switching edge,
4 pips or more after the start of the pip of the request, and not before a dead cycle has ended (R401). -/
def contextSwitch (s : State) (r : Nat) : State :=
  let named := (s.groupOf r).getD (128 + r)
  let g := if (tblFind named s.fab.pend).isSome then named else 128 + r
  match tblFind g s.fab.pend with
    | none => s
    | some p =>
      if !p.members.contains r ∨ s.tb.now < p.at_ + 4 ∨ s.inDead r ∨ !s.switchEdge r p.plane then s
      else if !p.began && !s.switchAllowed p.members p.plane then (s.refuseSwitch p.members).endPend g
      else
        let todo := if p.began then p.members else p.members.filter (fun m => s.activeOf m != p.plane)
        if todo.isEmpty then s.endPend g
        else if !todo.contains r then (s.beginSwitch p todo).setPend g { p with members := todo, began := true }
        else (s.beginSwitch p todo).switchRegion g r p todo

def execContextSwitch (r : Fin 48) (s : State) : Host.Outcome State Fault Refusal := .next (contextSwitch s r.val)

/-- R388: the switching edges that fall in the present pip. -/
def State.fabricEdges (s : State) : State :=
  forEach (s.fab.pend.flatMap (fun e => e.2.members)).eraseDups (fun r t => contextSwitch t r) s

/-- A pip of the fabric, with the engines of the regions whose dead cycle ends in it, which enter their pages (R395, R473). -/
def State.fabricTick (s : State) : State :=
  let t := s.fabricPip
  (forEach ((s.fab.dead.map Prod.fst).filter (fun r => !t.inDead r)) (fun r u => u.enterPagesAtEdge r) t).entriesDue

/-! ### Placements: the parts that loads and removals share (R446, R449) -/

/-- The placement in plane p of region r. -/
def State.placementAt (s : State) (r p : Nat) : Option Placement :=
  (s.fab.placements.find? (fun e => e.2.plane == p && e.2.regions.contains r)).map Prod.snd

/-- Does a region hold a placement? -/
def State.regionPlaced (s : State) (r : Nat) : Bool :=
  s.fab.placements.any (fun e => e.2.regions.contains r) || s.fab.migrations.any (fun m => m.next.regions.contains r)

/-- CF_PLC_STATUS and CF_LIB_USED show placements and the library (R456). -/
def State.showPlaced (s : State) : State :=
  let mib := s.fab.pieces.foldl (fun n e => n + ((s.allocOf e.2.alloc).map (·.size)).getD 0) 0
  ((s.put R.CF_PLC_STATUS_PLACED s.fab.placements.length).put R.CF_PLC_STATUS_PIECES
    (s.fab.pieces.filter (fun e => !e.2.adding)).length).put R.CF_LIB_USED_MIB mib

/-- The mailbox a placement counts as placed by: one that holds every region of the boot placement counts so (R688). -/
def State.placementOwner (s : State) (p : Placement) (mb : Nat) : Nat :=
  if p.mb = 0xFF ∧ p.regions.all (fun r => s.holds mb (claimKey 4 r)) then mb else p.mb

/-- Every placement, and every form that a migration will give one. -/
def State.allPlacements (s : State) : List Placement := s.fab.placements.map Prod.snd ++ s.fab.migrations.map (·.next)

/-- R442: is what a placement holds also held by another, or taken for one that migrates? -/
def State.sharedByOther (s : State) (id : Nat) (h : Holding) : Bool :=
  h.share != 0 && s.allPlacements.any (fun q => q.id != id && q.holds.any (fun k =>
    k.kind == h.kind && k.share == h.share && k.units == h.units && k.alloc == h.alloc))

/-- R449: what a placement held is freed: banks return to the gaffer (at pip 0 where `now`), engines are freed, buffers go. -/
def State.freeHolding (s : State) (h : Holding) (now : Bool) : State :=
  if h.kind = 1 then
    let s := forEach (s.setHeads h.units) (fun b t => t.handFreed b now) s
    { s with fab := { s.fab with dirtyBanks := h.units ++ s.fab.dirtyBanks } }
  else if h.kind = 2 then
    let s := forEach h.units (fun e t => t.idleTe e) s
    { s with te := { s.te with dirty := h.units ++ s.te.dirty } }
  else
    match s.allocOf h.alloc with
    | some a => s.freeAlloc a
    | none => s

/-- R586: the flow of a buffer goes. -/
def State.releaseHolding (s : State) (h : Holding) : State :=
  if h.kind = 3 then s.releaseNoc (regionEndpoint h.region) h.channels h.rate else s

/-- R446: a region without a placement leaves its placer group; an empty group is deleted. -/
def State.leaveGroup (s : State) (r : Nat) : State :=
  match s.groupOf r with
  | some g =>
    if s.groupOwner g = 0xFF ∧ !s.regionPlaced r then
      let rest := (s.groupMembers g).filter (· != r)
      let s := s.setGroup g rest 0xFF
      if rest.isEmpty then s.clearGroupSched g else s
    else s
  | none => s

/-- The planes of a placement become EMPTY, and each region whose active plane it was goes IDLE (R449). -/
def State.emptyPlanes (s : State) (rs : List Nat) (plane : Nat) : State :=
  forEach rs (fun r t =>
    let t := t.setPlane r plane plEmpty
    if t.activeOf r = plane then t.stopRegion r rgIdle else t) s

/-- A migration of a placement is dropped: what it had taken for the target is freed, and its planes are EMPTY (R452). -/
def State.dropMigration (s : State) (id : Nat) (now : Bool) : State :=
  match s.fab.migrations.find? (fun m => m.id == id) with
  | none => s
  | some m =>
    let kept := ((tblFind id s.fab.placements).map (·.holds)).getD []
    let fresh := m.next.holds.filter (fun h => h.kind != 3 && !kept.any (fun k => k.kind == h.kind && k.units == h.units)
      && !s.sharedByOther id h)
    let s := { s with fab := { s.fab with migrations := s.fab.migrations.filter (fun x => x.id != id) } }
    let s := forEach m.next.regions (fun r t => t.setPlane r m.next.plane plEmpty) s
    let s := forEach fresh (fun h t => t.freeHolding h now) s
    forEach m.next.regions (fun r t => t.leaveGroup r) s

/-- R452, R82: a migration that has not moved ends, and the source stays as it was. -/
def State.cancelMigration (s : State) (id : Nat) : State :=
  let s := s.dropMigration id false
  match tblFind id s.fab.placements with
  | some p => { s with fab := { s.fab with placements := tblPut id { p with migrating := false } s.fab.placements } }
  | none => s

/-- R449: a placement is removed, at a turn boundary where `now`. -/
def State.dropPlacement (s : State) (id : Nat) (now : Bool) : State :=
  match tblFind id s.fab.placements with
  | none => s
  | some p =>
    let s := s.dropMigration id now
    let gone := p.holds.filter (fun h => !s.sharedByOther id h)
    let s := { s with fab := { s.fab with placements := tblDel id s.fab.placements } }
    let s := s.emptyPlanes p.regions p.plane
    let s := forEach p.holds (fun h t => t.releaseHolding h) s
    let s := forEach gone (fun h t => t.freeHolding h now) s
    (forEach p.regions (fun r t => t.leaveGroup r) s).showPlaced

/-- R449: PLC_UNPLACE, and a forced release (R106), take effect at the boundary. -/
def State.unplaceNow (s : State) (id : Nat) : State :=
  let there := (tblFind id s.fab.placements).isSome
  let s := s.dropPlacement id true
  let s := if there then s.raise 276 else s
  forEach (s.gaf.ops.filter (fun o => o.command == 0x0304 && o.args == [id])) (fun o t => t.endOp o stOk 0) s

/-! ### Loads (R403-R407) -/

/-- The frames of a piece at a footprint position. -/
def Piece.framesAt (p : Piece) (pos : Nat) : Tbl (List Byte) :=
  (p.frames.filter (fun e => e.1 / 16384 == pos)).map (fun e => (e.1 % 16384, e.2))

/-- R403: a frame takes 5 pips: 14,400 frames 57.6 µs (log entry 124). The frames of the region being written that have been. -/
def Load.written (l : Load) : Nat := min 14400 (l.pips / 5)

/-- CF_LOAD_STATUS shows the load that runs (R420). -/
def State.showLoad (s : State) (busy : Bool) : State :=
  match s.fab.loads with
  | [] => s.setReg R.CF_LOAD_STATUS 0
  | l :: rest =>
    let s := s.put R.CF_LOAD_STATUS_QUEUED (min 32 (rest.length + b2n !busy))
    if !busy then s.setReg R.CF_LOAD_STATUS (withBits 0 10 6 (min 32 (rest.length + 1)))
    else (((s.put R.CF_LOAD_STATUS_BUSY 1).put R.CF_LOAD_STATUS_REGION ((l.regions.getD l.at_ (0, 0, 0)).1)).put
      R.CF_LOAD_STATUS_PLANE l.plane).put R.CF_LOAD_STATUS_FRAMES_LEFT (14400 - l.written)

def Load.isReload (l : Load) : Bool :=
  match l.kind with
  | .reload _ => true
  | _ => false

/-- R405: a load is queued: in the order accepted; a reload ahead of every other load that waits, and of those between two
regions. -/
def State.queueLoad (s : State) (l : Load) : State :=
  let q := s.fab.loads
  let busy := s.has R.CF_LOAD_STATUS_BUSY
  let q := if l.isReload then
      let first := if busy then q.take 1 else []
      let rest := if busy then q.drop 1 else q
      first ++ rest.takeWhile (·.isReload) ++ [l] ++ rest.dropWhile (·.isReload)
    else q ++ [l]
  ({ s with fab := { s.fab with loads := q } }).showLoad busy

/-- R406, R407: the load at the head begins to write frames: its planes are LOADING, and a region whose active plane is written
is under reconfiguration. -/
def State.beginLoad (s : State) : State :=
  match s.fab.loads with
  | [] => s
  | l :: _ =>
    let s := forEach l.regions (fun x t =>
      let r := x.1
      let t := t.setPlane r l.plane plLoading
      if t.activeOf r = l.plane ∧ t.rgState r = rgIdle then t.stopRegion r rgLoading else t) s
    s.showLoad true

/-- R422: PROGRESS of the operation that a load serves: the frames of the regions that it has written. -/
def State.loadProgress (s : State) (l : Load) : State :=
  match l.op with
  | none => s
  | some op => { s with gaf := { s.gaf with ops := s.gaf.ops.map (fun o =>
      if o.mb = op.1 ∧ o.tag = op.2 ∧ o.progress ≠ 255 then
        { o with progress := 100 * (14400 * l.at_ + l.written) / (14400 * max 1 l.regions.length) } else o) } }

/-- R405: the load in progress has written a region and has another to write: a reload that waits is taken before it. -/
def State.nextRegion (s : State) : State :=
  match s.fab.loads with
  | [] => s
  | l :: rest =>
    let l' := { l with at_ := l.at_ + 1, pips := 0 }
    match rest with
    | m :: more =>
      if m.isReload && !l.isReload then
        (({ s with fab := { s.fab with loads := m :: l' :: more } }).loadProgress l').beginLoad
      else (({ s with fab := { s.fab with loads := l' :: rest } }).loadProgress l').showLoad true
    | [] => (({ s with fab := { s.fab with loads := [l'] } }).loadProgress l').showLoad true

/-- CONFIG_LOAD_START (R405): the controller takes the next load, or, where a reload waits, ends the region that it writes and takes the
reload. -/
def configLoadStart (s : State) : State :=
  if !s.has R.CF_LOAD_STATUS_BUSY then s.beginLoad
  else
    match s.fab.loads with
    | l :: m :: _ => if m.isReload && !l.isReload && decide (l.at_ + 1 < l.regions.length) then s.nextRegion else s
    | _ => s

/-- R403, R405, R420, R422: a pip of the load in progress: frames are written, region after region; the end of the last one is
CONFIG_LOAD_COMPLETE's. -/
def State.loadPip (s : State) : State :=
  match s.fab.loads with
  | [] => s
  | l :: rest =>
    if !s.has R.CF_LOAD_STATUS_BUSY || decide (72000 ≤ l.pips) then s
    else
      let l' := { l with pips := l.pips + 1 }
      let s := { s with fab := { s.fab with loads := l' :: rest } }
      if l'.pips = 72000 ∧ l.at_ + 1 < l.regions.length then s.nextRegion
      else if l'.pips % 5 = 0 then (s.loadProgress l').showLoad true
      else s

def execConfigLoadStart (s : State) : Host.Outcome State Fault Refusal := .next (configLoadStart s)

/-- The lowest free gaffer schedule entry (1-255, R153). -/
def State.gafferEntry (s : State) : Option Nat := ((List.range 256).drop 1).find? (indexFree s [])

/-- A gaffer entry that switches a group to a plane at pip `p` of turn `t` (R422). -/
def gafferSwitch (g plane p t : Nat) : SchedEntry :=
  { pip := p, action := 2, rel := false, target := g, start := t, period := 0, count := 0, arg := plane, owner := 0xFF, first := t }

/-- R159: the entry of a schedule that shares its PIP, action and target with a gaffer switch; and is its PIP shared by 16? -/
def switchClash (sched : Tbl SchedEntry) (g p : Nat) : Option SchedEntry :=
  (sched.map Prod.snd).find? (fun x => x.pip == p && x.action == 2 && x.target == g)

def pipFull (sched : Tbl SchedEntry) (p : Nat) : Bool :=
  decide (16 ≤ (sched.filter (fun x => x.2.pip == p)).length + b2n (p == 0))

/-- R422, R153: the gaffer schedules the switch of a group at pip 0 of the next turn. Where no entry serves (a region without a group, R447;
none free, or R159) it requests the switch itself. -/
def State.switchAfter (s : State) (g plane : Nat) (op : Option (Nat × Nat)) : State :=
  let idx := if g < 64 ∧ (switchClash s.nextSched g 0).isNone ∧ !pipFull s.nextSched 0 then s.gafferEntry else none
  let s := { s with fab := { s.fab with after := s.fab.after ++ [⟨g, plane, op, idx⟩] } }
  match idx with
  | some i => { s with gaf := { s.gaf with shadow := s.gaf.shadow ++ [.sched i (some (gafferSwitch g plane 0 s.nextNumber))] } }
  | none => s

/-- R438: the 40 cells of a binding and the bits of the address that they give. -/
def bindCells (tile cell addr : Nat) : List (Nat × Bool) :=
  if tile = 0xFFFF then [] else (List.range 40).map (fun i => (64 * tile + cell + i, bit addr i))

/-- R438: the cells of a region that a placement binds to what its bank sets and buffers resolve to. -/
def Placement.bound (q : Placement) (m : List Byte) (r : Nat) : Tbl Bool :=
  let cells (kind i pos tile cell : Nat) : List (Nat × Bool) :=
    if q.regions.getD pos 48 = r then
      ((q.holds.find? (fun h => h.kind == kind && h.entry == i)).map (fun h => bindCells tile cell h.addr)).getD []
    else []
  let l := (numbered (mfBankEntries m)).flatMap (fun x => cells 1 x.1 (le x.2.2 0 1) (le x.2.2 8 2) (le x.2.2 10 1))
    ++ (numbered (mfBufferEntries m)).flatMap (fun x => cells 3 x.1 (le x.2.2 6 1) (le x.2.2 12 2) (le x.2.2 14 1))
  l.foldl (fun t e => tblPut e.1 e.2 t) []

/-- R436-R438: what the placer rewrites in the image of a region as it is loaded; the boot context's is not rewritten. -/
def State.rewritten (s : State) (im : Image) (m : List Byte) (r plane : Nat) : Image :=
  match s.allPlacements.find? (fun q => q.plane == plane && q.handle == im.handle && q.regions.contains r) with
  | some q => if q.mb = 0xFF then im else { im with joins := some (q.seams.filter (fun j => j.region == r)), bound := q.bound m r }
  | none => im

/-- A loaded plane is VALID and holds its piece's frames at the region's position. R330, R435: a frame of an LU region stands as it does in
the piece: the mirroring of the die is the image's place on it, and State holds no die (log entry 111). -/
def State.fillPlane (s : State) (r plane handle pos : Nat) : State :=
  match tblFind handle s.fab.pieces with
  | none => s
  | some p =>
    let s := s.setPlane r plane plValid
    let im : Image := { handle := handle, pos := pos, frames := p.framesAt pos }
    let im := { im with ports := hardPorts.filterMap (fun q => (Config.portLine im.regionFrames q).map (fun l => (q, l % 16))),
                        primary := Config.primaryLine im.regionFrames % 16,
                        trig := maskOf ((List.range 8).filter (fun l => (Config.muxSelect (im.tileFrames 0) (.trigger l)).isSome)),
                        completer := Config.completerEnabled im.regionFrames }
    { s with fab := { s.fab with images := tblPut (8 * r + plane) (s.rewritten im p.manifest r plane) s.fab.images } }

/-- Regions to be released at the next boundary (R387). -/
def State.releaseLater (s : State) (rs : List Nat) : State := { s with fab := { s.fab with releases := s.fab.releases ++ rs } }

/-- The other HELD members of a reloaded region's group are released with it (R412). -/
def Load.held (l : Load) : List Nat :=
  match l.kind with
  | .reload h => h
  | _ => []

/-- R407: is a region under reconfiguration by a load of a plane? -/
def State.reconfigured (s : State) (r plane : Nat) : Bool :=
  s.activeOf r == plane && (s.rgState r == rgLoading || s.rgState r == rgHeld)

/-- R412: does a reload that has not ended hold a region? -/
def State.reloadHolds (s : State) (r : Nat) : Bool :=
  s.fab.loads.any (fun m => m.isReload && (m.held.contains r || m.regions.any (fun x => x.1 == r)))

/-- A load has passed (R406): its planes become VALID together; regions under reconfiguration run from the next boundary, unless another
reload still holds them (R412). -/
def State.loadPassed (s : State) (l : Load) : State :=
  let s := forEach l.regions (fun x t => t.fillPlane x.1 l.plane x.2.1 x.2.2) s
  let rel := (l.regions.map (·.1)).filter (fun r => s.reconfigured r l.plane)
  let more := l.held.filter (fun r => s.rgState r == rgHeld && !rel.contains r)
  let s := if l.kind = .boot then s else s.releaseLater ((rel ++ more).filter (fun r => !s.reloadHolds r))
  match l.kind with
  | .boot | .migrate => s
  | .reload _ => s
  | _ =>
    let s := if l.kind = .rewrite then s else s.raise 276
    match l.switch with
    | some g => s.switchAfter g l.plane l.op
    | none => s.endOpAt l.op stOk 0

/-- A load has failed (R406, R387, R413); DETAIL is the region that was being written. -/
def State.loadFailed (s : State) (l : Load) : State :=
  let failed := (l.regions.getD l.at_ (((l.regions.head?).getD (0, 0, 0)))).1
  let st := if l.isReload then plInvalid else plEmpty
  let s := forEach l.regions (fun x t =>
    let r := x.1
    let t := t.setPlane r l.plane st
    if t.reconfigured r l.plane then t.stopRegion r rgIdle else t) s
  let s := s.releaseLater (l.held.filter (fun r => s.rgState r == rgHeld && !s.reloadHolds r))
  let s := if l.kind = .ctx ∨ l.kind = .place then s.dropPlacement l.placement false else s
  s.endOpAt l.op stIntegrity failed

/-- CONFIG_LOAD_COMPLETE (R406) for every kind but the boot context's: the last region of the load in progress is written and
its CRC passes, or fails (a library line that fails counts too); a load whose operation was stopped (R82) fails. -/
def loadComplete (s : State) (fail : Bool) : State :=
  match s.fab.loads with
  | [] => s
  | l :: rest =>
    if !s.has R.CF_LOAD_STATUS_BUSY then s
    else
      let gone := l.regions.any (fun (_, h, _) => ((tblFind h s.fab.pieces).map (fun (p : Piece) => !p.adding)) != some true)
      let stopped := l.op.any (fun (mb, tag) => (s.opOf mb tag).isNone)
      let s := ({ s with fab := { s.fab with loads := rest } }).showLoad false
      let s := if fail || gone || stopped then
          let s := if gone ∧ l.isReload then s.log 4 0x03 ((l.regions.head?).getD (0, 0, 0)).1 l.plane 0 else s
          s.loadFailed l
        else s.loadPassed l
      s

/-! ### Scrubbing (R408-R413, R344) -/

/-- CF_SCRUB_LAST shows the last error found. -/
def State.scrubLast (s : State) (r p frame : Nat) (uncorr : Bool) : State :=
  (((s.put R.CF_SCRUB_LAST_REGION r).put R.CF_SCRUB_LAST_PLANE p).put R.CF_SCRUB_LAST_FRAME frame).put
    R.CF_SCRUB_LAST_UNCORR (b2n uncorr)

/-- The regions that are held with a region (R412): those of its switch group. -/
def State.heldWith (s : State) (r : Nat) : List Nat :=
  match s.groupOf r with
  | some g => s.groupMembers g
  | none => [r]

/-- R416: does a region that LEHR stopped wait for its release turn? -/
def State.waitsLehr (s : State) (r : Nat) : Bool :=
  (s.phys.wakeAt.isSome || s.phys.resumeAt.isSome) && s.phys.lehrRegions.contains r

/-- R412: a region that runs from its active plane, or is about to: it runs, is held with its group, waits for the turn that releases it
(R387), or for the release of a wake (R416). -/
def State.inUseRegion (s : State) (r : Nat) : Bool :=
  s.runs r || s.rgState r == rgHeld || s.rgState r == rgLoading || s.waitsLehr r

/-- R412, R413: an uncorrectable frame in plane p of region r. -/
def uncorrectableFrame (s : State) (r p : Nat) : State :=
  if p = s.activeOf r ∧ s.inUseRegion r then
    let all := s.heldWith r
    let s := forEach all (fun m t => if t.inUseRegion m then t.stopRegion m rgHeld else t) s
    let s := { s with fab := { s.fab with releases := s.fab.releases.filter (fun m => !all.contains m) } }
    let keys := ((s.groupOf r).toList ++ all.map (128 + ·)).flatMap (fun g => [g + 64, g])
    let ops := keys.filterMap (fun g => (tblFind g s.fab.pend).bind (·.op))
    let s := forEach ops (fun o t => t.endOpAt (some o) stOk 0) (forEach keys (fun g t => t.dropPend g) s)
    match tblFind (8 * r + p) s.fab.images with
    | some im =>
      let l : Load := { kind := .reload all, regions := [(r, im.handle, im.pos)], plane := p }
      if ((tblFind im.handle s.fab.pieces).map (fun (q : Piece) => !q.adding)) = some true then
        (s.bump (R.CF_CTX_REFUSED_RELOADS r)).queueLoad l
      else (s.log 4 0x03 r p 0).loadFailed l
    | none => (s.log 4 0x03 r p 0).loadFailed { kind := .reload all, regions := [(r, 0, 0)], plane := p }
  else s.setPlane r p plInvalid

/-- The vertical pair of a frame's number. -/
def framePair (key : Nat) : Nat := key / 131072 % 24

/-- R411: the frame of a riser that decodes 0b11 is the next that the scrubber of its pair reads. -/
def State.scrubTurn (s : State) (key : Nat) : Bool :=
  match s.fab.scrubFirst.find? (fun k => framePair k == framePair key) with
  | some k => k == key
  | none => true

/-- R344: the scrubber has read a frame, and what its risers decode is correct again. -/
def State.riserRead (s : State) (key : Nat) : State :=
  { s with fab := { s.fab with scrubFirst := s.fab.scrubFirst.filter (· != key), illegal := s.fab.illegal.filter (fun e => e.2 != key) } }

/-- SCRUB_FRAME (R408): a scrubber reads a frame in which `bad` symbols of a codeword are bad (2: uncorrectable). `pass`: the
frame ends a pass of the slowest scrubber, which took so many µs (R420). Frames of planes in LOADING are skipped (R410). An upset shows
here only (log entry 125). The reads of a wake are such rows (R416, log entry 126). -/
def scrubFrame (s : State) (r p frame bad : Nat) (pass : Option Nat) : State :=
  let key := 16384 * (8 * r + p) + frame
  if s.mode = mLehr ∨ !s.scrubTurn key then s
  else
    let s := match pass with
      | some us => (s.wrapInc R.CF_SCRUB_STATUS_PASSES).setReg R.CF_SCRUB_PERIOD us
      | none => s
    let st := s.planeState r p
    let riser := s.fab.scrubFirst.contains key
    let s := s.riserRead key
    if st = plLoading then s
    else if bad = 0 then s
    else if bad = 1 then
      let s := ((s.bump R.CF_SCRUB_CORRECTED_COUNT).put R.CF_SCRUB_STATUS_CORR_SEEN 1).scrubLast r p frame false
      (if riser then s.put R.CF_SCRUB_STATUS_RISER_SEEN 1 else s).raise 274
    else
      let s := ((s.bump R.CF_SCRUB_UNCORR_COUNT).put R.CF_SCRUB_STATUS_UNCORR_SEEN 1).scrubLast r p frame true
      uncorrectableFrame (s.raise 275) r p

def execScrubFrame (r : Fin 48) (p : Fin 8) (frame : Fin 14400) (bad : Fin 3) (pass : Option (BitVec 32)) (s : State) :
    Host.Outcome State Fault Refusal :=
  .next (scrubFrame s r.val p.val frame.val bad.val (pass.map (·.toNat)))

/-- R342, R383: the frame that holds a riser's field, of the plane that is active in the LL region of the pair. -/
def State.riserFrame (s : State) (pair : Nat) (x : RiserSite) : Nat :=
  let r := if x.upper then pair else 24 + pair
  16384 * (8 * r + s.activeOf (24 + pair)) + 12800 + (Config.riserPlace x.tile.val x.riser.val).1 % 1200

/-- RISER_ILLEGAL_DECODE (R342, R344, R411): a riser of the plane that is active in the LL region of a pair decodes 0b11: it reads 0 until the
scrubber has corrected its edge frame, which it reads next. Only the first time is an event. -/
def execRiserIllegalDecode (pair : Fin 24) (riser : RiserSite) (s : State) : Host.Outcome State Fault Refusal :=
  let k := riserKey pair.val riser.tile.val riser.upper riser.riser.val
  let r := if riser.upper then pair.val else 24 + pair.val
  if s.planeState r (s.activeOf (24 + pair.val)) = plValid ∧ (tblFind k s.fab.illegal).isNone then
    let key := s.riserFrame pair.val riser
    let s := s.raise 279
    .next { s with fab := { s.fab with scrubFirst := s.fab.scrubFirst.filter (· != key) ++ [key],
                                       illegal := tblPut k key s.fab.illegal } }
  else .next s

/-! ### I/O delay lines (R376, R377) -/

/-- The region that owns an I/O runs, so that its delay port can be driven (R371, R691). -/
def State.ioDriven (s : State) (io : Nat) : Bool :=
  match tblFind io s.fab.ioStatic with
  | some v => s.regionLive (io / 12 + 24 * bits v 10 1)
  | none => false

def State.setTap (s : State) (io v : Nat) : State :=
  { s with fab := { s.fab with taps := tblSet (fun _ => 0) s.fab.taps io v } }

def State.tapOf (s : State) (io : Nat) : Nat := tblGet (fun _ => 0) s.fab.taps io

/-- IO_DELAY_LOAD (R376). -/
def execIoDelayLoad (io : Fin 288) (v : BitVec 9) (s : State) : Host.Outcome State Fault Refusal :=
  if s.ioDriven io.val then .next (s.setTap io.val v.toNat) else .next s

/-- IO_DELAY_INC (R376): one tap more; holds at 511. With DLY_DEC in the same cycle neither acts (R377). -/
def execIoDelayInc (io : Fin 288) (both : Bool) (s : State) : Host.Outcome State Fault Refusal :=
  if s.ioDriven io.val && !both then .next (s.setTap io.val (min 511 (s.tapOf io.val + 1))) else .next s

/-- IO_DELAY_DEC (R376): one tap less; holds at 0. -/
def execIoDelayDec (io : Fin 288) (both : Bool) (s : State) : Host.Outcome State Fault Refusal :=
  if s.ioDriven io.val && !both then .next (s.setTap io.val (s.tapOf io.val - 1)) else .next s

/-! ### The fabric at a turn boundary (R387, R422, R595) -/

/-- Released regions run and endpoints open; those of regions in a dead cycle at the boundary after it. In START-UP regions wait for the
release turn (R694). -/
def State.fabricReleases (s : State) : State :=
  if s.mode = mStartUp then s
  else
    let rel := s.fab.releases
    let op := s.fab.reopen
    let s := { s with fab := { s.fab with releases := [], reopen := op.filter s.inDead } }
    let s := forEach rel (fun r t => t.releaseRegion r) s
    forEach (op.filter (fun r => !s.inDead r)) (fun r t => if t.runs r then t.openEndpoint (regionEndpoint r) else t) s

/-- Switches that follow loads without an entry of the gaffer are requested at pip 0 (R422). -/
def State.fabricSwitches (s : State) : State :=
  let l := s.fab.after.filter (fun a => a.index.isNone)
  forEach l (fun a t => requestSwitch t a.group a.plane 0 a.op)
    { s with fab := { s.fab with after := s.fab.after.filter (fun a => a.index.isSome) } }

/-- R161, R422: a CTX_SWITCH entry fires: the operation that waits for the gaffer's entry at `idx` goes with the request. -/
def State.fireSwitch (s : State) (idx group plane : Nat) (gaffer : Bool) : State :=
  let mine := fun (a : SwitchAfter) => gaffer && a.index == some idx
  let op := (s.fab.after.find? mine).bind (·.op)
  requestSwitch { s with fab := { s.fab with after := s.fab.after.filter (fun a => !mine a) } } group plane (if gaffer then 0 else 1) op

/-- R417: every plane becomes EMPTY and every switch group is deleted; R415: every region is IDLE with ACTIVE 0. -/
def State.clearPlanes (s : State) : State :=
  let f := s.fab
  let f := { f with images := [], placements := [], loads := [], pend := [], releases := [], reopen := [], after := [],
                    migrations := [], setMoves := [], scrubFirst := [], illegal := [], taps := [], dead := [], flops := [], flopStart := [],
                    trigLines := [] }
  let s := iterate 48 (fun r t => (t.idleEngines r).closeRegion r) { s with fab := f }
  let s := iterate 48 (fun r t => ((t.setReg (R.CF_CTX_PLANES r) 0).put (R.CF_CTX_STATE_STATE r) rgIdle).put
    (R.CF_CTX_STATE_GROUP r) 0x7F) s
  let s := iterate 48 (fun r t => ((t.put (R.CF_CTX_STATE_ACTIVE r) 0).put (R.CF_CTX_STATE_PEND r) 0).put
    (R.CF_CTX_STATE_PEND_PLANE r) 0) s
  let s := iterate 64 (fun g t => (t.setReg (R.CF_CTX_GROUP_LO g) 0).setReg (R.CF_CTX_GROUP_HI g) 0) s
  (s.setReg R.CF_LOAD_STATUS 0).showPlaced

/-! ### Commands (R422) -/

/-- R424: a field of a manifest. -/
def Piece.field (p : Piece) (i n : Nat) : Nat := le p.manifest i n

/-- R425: the regions of a piece's footprint at an origin, in order of position; none where it does not fit. -/
def footprintOf (cols rows tiers origin : Nat) : Option (List Nat) :=
  let k := origin % 24
  if 48 ≤ origin ∨ (tiers = 3 ∧ 24 ≤ origin) ∨ 6 < k % 6 + cols ∨ 4 < k / 6 + rows then none
  else
    let one := (List.range rows).flatMap (fun y => (List.range cols).map (fun x => origin + 6 * y + x))
    some (if tiers = 3 then one ++ one.map (· + 24) else one)

def Piece.footprint (p : Piece) (origin : Nat) : Option (List Nat) :=
  footprintOf (p.field 20 1) (p.field 21 1) (p.field 22 1) origin

/-- A piece of the library by its handle. -/
def State.pieceOf (s : State) (h : Nat) : Option Piece := (tblFind h s.fab.pieces).filter (fun p => !p.adding)

/-- A list in increasing order without repeats (region numbers below 48). -/
def inOrder (l : List Nat) : List Nat := (List.range 48).filter (fun r => l.contains r)

/-- The regions that a CTX_LOAD names (R422): the footprint of its piece at ORIGIN; with RELOAD those of the placement that
holds ORIGIN in PLANE, or ORIGIN alone, each with the piece last loaded and its position. -/
def ctxRegions (s : State) (p : List Byte) : Option (List (Nat × Nat × Nat)) :=
  let origin := le p 5 1
  let plane := le p 4 1
  if 48 ≤ origin ∨ 8 ≤ plane then none
  else if bit (le p 6 1) 2 then
    let rs := match s.placementAt origin plane with
      | some q => q.regions
      | none => [origin]
    let l := rs.filterMap (fun r => (tblFind (8 * r + plane) s.fab.images).map (fun im => (r, im.handle, im.pos)))
    if l.isEmpty then none else some l
  else
    match s.pieceOf (le p 0 4) with
    | none => none
    | some q => (q.footprint origin).map (fun rs => (numbered rs).map (fun (i, r) => (r, q.handle, i)))

/-- R371: a region that a piece's position `i` takes owns the user I/O of its half-bank, where the piece uses them there. -/
def ioPlaceOk (s : State) (m : List Byte) (i r : Nat) : Bool :=
  !bit (le m 92 6) i || (List.range 12).all (fun k => (tblFind (12 * (r % 24) + k) s.fab.ioStatic).any (fun v => bits v 10 1 == r / 24))

/-- The lowest free placement ID (0 is the boot context's). -/
def State.freePlacement (s : State) : Nat := ((List.range 385).find? (fun i => i != 0 && (tblFind i s.fab.placements).isNone)).getD 384

/-- ENTRY_INIT of a plane (R418). -/
def State.setEntryInit (s : State) (rs : List Nat) (plane : Nat) (b : Bool) : State :=
  forEach rs (fun r t => t.put (R.CF_CTX_PLANES_ENTRY_INIT r) (putBit (t.get (R.CF_CTX_PLANES_ENTRY_INIT r)) plane b)) s

/-- CTX_LOAD (R422, R448). -/
def cmdCtxLoad : Cmd where
  code := 0x0308
  long := true
  lenOk := lenIs 16
  lenReq := 16
  checks := fun s mb r =>
    let p := r.payload
    let plane := le p 4 1
    let flags := le p 6 1
    let g := le p 7 1
    let named := ctxRegions s p
    let rs := (named.getD []).map (·.1)
    let members := if g < 64 then s.groupMembers g else []
    [onlyRunning s,
     owned s mb ((inOrder (rs ++ members)).map (fun x => (x, claimKey 4 x))),
     param 0 (bit flags 2 || match s.pieceOf (le p 0 4) with
       | some q => q.field 76 4 == 0
       | none => false),
     param 4 (decide (plane ≤ 7)),
     param 5 (named.any (fun l => bit flags 2 || (s.pieceOf (le p 0 4)).any (fun q => l.all (fun x => ioPlaceOk s q.manifest x.2.2 x.1)))),
     param 6 (decide (flags < 8)),
     param 7 ((g == 0xFF && !bit flags 0) || (decide (g < 64) && (!bit flags 0 || rs.all (fun x => members.contains x)))),
     reserved0 p 8 8,
     ((inOrder rs).find? (fun x => s.activeOf x == plane && (s.runs x || s.inDead x))).map (fun x => (stRefusedArmed, x)),
     (inOrder rs).findSome? (fun x =>
        if s.unitMapped x then some (stNoResource, x)
        else ((s.placementAt x plane).bind (fun q =>
            let o := s.placementOwner q mb
            if o = mb then none else some (stBusy, x * 256 + o)))
          <|> notInOperation s [(x, claimKey 4 x)])]
  act := fun s mb r =>
    let p := r.payload
    let plane := le p 4 1
    let flags := le p 6 1
    let l := (ctxRegions s p).getD []
    let rs := l.map (·.1)
    let sorted := (inOrder rs).filterMap (fun x => l.find? (fun e => e.1 == x))
    let op := (mb, r.tag.toNat)
    let sw := if bit flags 0 then some (le p 7 1) else none
    let s := s.setEntryInit rs plane (bit flags 1)
    let a := accept s mb r (rs.map (claimKey 4)) []
    let a : Reply := { a with op := a.op.map (fun o => { o with progress := 0 }) }
    if bit flags 2 then
      { a with next := s.queueLoad { kind := .rewrite, regions := sorted, plane := plane, op := some op, switch := sw } }
    else
      let old := (rs.filterMap (fun x => (s.placementAt x plane).map (·.id))).eraseDups
      let s := forEach old (fun i t => t.dropPlacement i false) s
      let id := s.freePlacement
      let q : Placement := { id := id, handle := le p 0 4, mb := mb, origin := le p 5 1, plane := plane, regions := rs,
                             hot := (s.pieceOf (le p 0 4)).any (fun x => mfHot x.manifest), direct := true, turn := s.tb.turn }
      let s := ({ s with fab := { s.fab with placements := tblPut id q s.fab.placements } }).showPlaced
      { a with next := s.queueLoad { kind := .ctx, regions := sorted, plane := plane, op := some op, placement := id,
                                     switch := sw } }

def execCtxLoad (mb : Fin 16) (req : Request) (s : State) : Host.Outcome State Fault Refusal := commandRow cmdCtxLoad mb req s

/-- CTX_SWITCH_REQUEST (R422), a setting of the schedule (R150, R156). R159 holds for its entry (log entry 101). -/
def cmdCtxSwitchRequest : Cmd where
  code := 0x0309
  lenOk := lenIs 16
  lenReq := 16
  checks := fun s mb r =>
    let p := r.payload
    let g := le p 0 1
    let plane := le p 1 1
    let at_ := bit (le p 2 1) 0
    let members := if g < 64 then s.groupMembers g else []
    [onlyRunning s, owned s mb (members.map (fun x => (x, claimKey 4 x))),
     param 0 (s.groupDefined g), param 1 (decide (plane ≤ 7)), param 2 (decide (le p 2 1 ≤ 1)), reserved0 p 3 1,
     param 4 (!at_ || laterThan s.checkTurn (le p 4 6)), reserved0 p 10 2,
     param 12 (!at_ || decide (le p 12 4 ≤ 0xFFFFFFFE)),
     (members.find? (fun x => s.planeState x plane == plEmpty || s.planeState x plane == plInvalid)).map
       (fun x => (stNoResource, x)),
     (switchClash s.futureSched g (if at_ then le p 12 4 else 0)).map (fun x => (stBusy, x.owner)),
     failIf (s.gafferEntry.isNone || pipFull s.futureSched (if at_ then le p 12 4 else 0)) stNoResource 0xFFFF]
  act := fun s _ r =>
    let p := r.payload
    let at_ := bit (le p 2 1) 0
    let turn := if at_ then le p 4 6 else s.effectTurn
    let e := gafferSwitch (le p 0 1) (le p 1 1) (if at_ then le p 12 4 else 0) turn
    let s := match s.gafferEntry with
      | some i => s.latch [.sched i (some e)]
      | none => s
    replyOk s (toLE 6 turn ++ zeros 2)

def execCtxSwitchRequest (mb : Fin 16) (req : Request) (s : State) : Host.Outcome State Fault Refusal :=
  commandRow cmdCtxSwitchRequest mb req s

/-- Is a group named by an enabled TG_CTXREQ while the sequencer is armed (R422)? -/
def State.groupArmed (s : State) (g : Nat) : Bool :=
  s.has R.TG_STATUS_ARMED && (List.range 4).any (fun i => s.has (R.TG_CTXREQ_EN i) && s.get (R.TG_CTXREQ_GROUP i) == g)

/-- CTX_GROUP_DEFINE (R422). -/
def cmdCtxGroupDefine : Cmd where
  code := 0x030A
  lenOk := lenIs 12
  lenReq := 12
  checks := fun s mb r =>
    let p := r.payload
    let g := le p 0 1
    let del := bit (le p 1 1) 0
    let rs := if del then [] else bitsOf 48 (le p 4 6)
    let old := if g < 64 then s.groupMembers g else []
    [onlyRunning s, owned s mb ((inOrder (rs ++ old)).map (fun x => (x, claimKey 4 x))),
     param 0 (decide (g < 64) && (!del || s.groupDefined g)), param 1 (decide (le p 1 1 ≤ 1)), reserved0 p 2 2,
     param 4 (del || le p 4 6 != 0), reserved0 p 10 2,
     failIf (s.groupArmed g) stRefusedArmed 0,
     failIf (s.groupDefined g && s.groupOwner g != mb) stBusy (s.groupOwner g),
     (inOrder (rs ++ old)).findSome? (fun x => notInOperation s [(x, claimKey 4 x)] <|> (s.groupOf x).bind (fun h =>
       if h = g then none else some (stBusy, x * 256 + s.groupOwner h)))]
  act := fun s mb r =>
    let p := r.payload
    let g := le p 0 1
    let rs := if bit (le p 1 1) 0 then [] else bitsOf 48 (le p 4 6)
    replyOk ((s.clearGroupSched g).setGroup g rs mb) []

def execCtxGroupDefine (mb : Fin 16) (req : Request) (s : State) : Host.Outcome State Fault Refusal :=
  commandRow cmdCtxGroupDefine mb req s

/-- CTX_STATUS (R422). -/
def cmdCtxStatus : Cmd where
  code := 0x030B
  lenOk := lenIs 4
  lenReq := 4
  checks := fun _ _ r => [param 0 (decide (le r.payload 0 1 < 48) || le r.payload 0 1 == 0xFF), reserved0 r.payload 1 3]
  act := fun s _ r =>
    let x := le r.payload 0 1
    let rs := if x = 0xFF then List.range 48 else [x]
    replyOk s (toLE 2 rs.length ++ zeros 2 ++ rs.flatMap (fun x =>
      toLE 4 (s.reg (R.CF_CTX_STATE x)) ++ toLE 4 (s.reg (R.CF_CTX_PLANES x)) ++ toLE 4 (s.reg (R.CF_CTX_SWITCHES x))
        ++ toLE 4 (s.reg (R.CF_CTX_REFUSED x))))

def execCtxStatus (mb : Fin 16) (req : Request) (s : State) : Host.Outcome State Fault Refusal := commandRow cmdCtxStatus mb req s

/-- CTX_SCRUB_STATUS (R422). -/
def cmdCtxScrubStatus : Cmd where
  code := 0x030C
  lenOk := lenIs 0
  lenReq := 0
  checks := fun _ _ _ => []
  act := fun s _ _ =>
    replyOk s (toLE 4 (s.reg R.CF_LOAD_STATUS) ++ toLE 4 (s.reg R.CF_SCRUB_STATUS) ++ toLE 4 (s.reg R.CF_SCRUB_CORRECTED)
      ++ toLE 4 (s.reg R.CF_SCRUB_UNCORR) ++ toLE 4 (s.reg R.CF_SCRUB_LAST) ++ toLE 4 (s.reg R.CF_SCRUB_PERIOD) ++ zeros 8)

def execCtxScrubStatus (mb : Fin 16) (req : Request) (s : State) : Host.Outcome State Fault Refusal :=
  commandRow cmdCtxScrubStatus mb req s

end Sys2Proof.Machine
end

