-- ==== Sys2Proof/Machine/Replay.lean ====
section
/-!
DEFINITION. Machine/Replay.lean: replay engines: patterns, launching, loops, updaters, starting and stopping; pass-through
and substitution; their commands (R296-R328).
-/

namespace Sys2Proof.Machine

open Sys2Proof

/-! ### Engines and lanes -/

/-- An engine beside its registers. -/
def State.engine (s : State) (e : Nat) : Engine := tblGet (fun _ => {}) s.rep.engines e

def State.setEngine (s : State) (e : Nat) (x : Engine) : State :=
  { s with rep := { s.rep with engines := tblSet (fun _ => {}) s.rep.engines e x } }

/-- R316: 0 IDLE, 1 BOUND, 2 RUNNING, 3 STOPPED. -/
def State.engineState (s : State) (e : Nat) : Nat := s.get (R.RP_STATE_STATE e)

/-- The lane mask of an engine. -/
def State.engineMask (s : State) (e : Nat) : Nat :=
  s.reg (R.RP_LANE e 0) + 2 ^ 32 * s.reg (R.RP_LANE e 1) + 2 ^ 64 * s.reg (R.RP_LANE e 2)

/-- R296: the engine that is a source of a lane: one that is not IDLE and has it in its mask. -/
def State.driverOf (s : State) (lane : Nat) : Option Nat :=
  (List.range 32).find? (fun e => s.engineState e != 0 && bit (s.engineMask e) lane)

/-- The lane rate in kbit/s: the quad's base rate divided by 2^DIV (R608). -/
def State.laneKbps (s : State) (n : Nat) : Nat := s.get (R.LN_Q_RATE_BASE_KBPS (n / 4)) / 2 ^ s.get (R.LN_CTRL_DIV n)

/-- `n` line bits in 1/64 pips (12.5 ps). -/
def bitsFine (kbps n : Nat) : Nat := if kbps = 0 then 0 else 80000000 * n / kbps

/-- Bits of a lane symbol: a character of 8b/10b, or a raw word. -/
def State.symbolBits (s : State) (n : Nat) : Nat :=
  if s.has (R.LN_CTRL_MODE n) then rawWidth (s.get (R.LN_CTRL_WIDTH n)) else 10

/-- R319: the latency of pass-through in 1/64 pips, to the nearest. -/
def latencyOf (raw : Bool) (kbps : Nat) : Nat :=
  let ui_fixed := if raw then (320, 208) else (400, 240)
  let ui := ui_fixed.1
  let fixed := ui_fixed.2
  if kbps = 0 then fixed else (80000000 * ui + kbps / 2) / kbps + fixed

/-- R321: the transmitter of a lane in pass-through goes to electrical idle. -/
def State.breakLane (s : State) (n : Nat) : State :=
  if s.rep.broken.contains n then s else { s with rep := { s.rep with broken := n :: s.rep.broken } }

/-- A lane forwards nothing any more. -/
def State.unforward (s : State) (n : Nat) : State :=
  let r := s.rep
  { s with rep := { r with broken := r.broken.filter (fun k => k != n), realign := r.realign.filter (fun k => k != n),
                           forwarded := tblDel n r.forwarded, replaced := tblDel n r.replaced, fixing := tblDel n r.fixing } }

/-- R319, LN_STATUS.TX_SRC, RP_PT_STATUS.LAT: a lane's source is shown. Without a locked CDR pass-through begins in electrical idle
(R321). -/
def State.showSource (s : State) (n : Nat) : State :=
  if s.has (R.RP_PT_CTRL_EN n) then
    let s := s.put (R.LN_STATUS_TX_SRC n) (if s.has (R.RP_PT_CTRL_SUB_EN n) then 3 else 2)
    let s := s.put (R.RP_PT_STATUS_LAT n) (latencyOf (s.has (R.LN_CTRL_MODE n)) (s.laneKbps n))
    if s.has (R.LN_STATUS_CDR_LOCK n) then s else s.breakLane n
  else (s.unforward n).put (R.LN_STATUS_TX_SRC n) (b2n (s.driverOf n).isSome)

/-- The lanes of an engine's mask show their source. -/
def State.showSources (s : State) (mask : Nat) : State := forEach (bitsOf 96 mask) (fun n t => t.showSource n) s

/-- R327: an engine sets a flag that raises EV_232 + e div 4, at its change from 0 to 1. -/
def State.engineFlag (s : State) (e : Nat) (f : RF) : State := if s.has f then s else (s.put f 1).raise (232 + e / 4)

/-! ### States (R316, R318) -/

/-- R316: the whole pattern is in the buffer, or the buffer is full. -/
def State.showPrimed (s : State) (e : Nat) : State :=
  let x := s.engine e
  let len := s.get (R.RP_LENGTH_LEN e) * 32
  s.put (R.RP_STATE_PRIMED e) (b2n (decide (131072 < x.buf.length + 64) || (x.bufAt == 0 && decide (len ≤ x.buf.length))))

/-- R316: priming from the pattern start begins. -/
def State.prime (s : State) (e : Nat) : State :=
  let x := s.engine e
  (s.setEngine e { x with bufAt := 0, buf := [], bad := none, stack := [], returning := false, stop := none, ending := none,
                          chain := none }).showPrimed e

/-- A record that lane `n` transmits is cut: at the next symbol boundary (`whole`), or at once. -/
def State.cutRecord (s : State) (n : Nat) (whole : Bool) (r : SentRecord) : SentRecord :=
  let now := s.nowFine
  if now < r.finish then
    let sym := s.symbolBits n
    let kbps := s.laneKbps n
    let count := ((now - r.launch) * kbps + if whole then 80000000 * sym - 1 else 0) / (80000000 * sym)
    let each := if s.has (R.LN_CTRL_MODE n) then sym / 8 else 1
    { r with symbols := r.symbols.take (count * each),
             finish := min r.finish (if whole then r.launch + bitsFine kbps (count * sym) else now) }
  else r

/-- R318: what an engine transmits is cut: at the next symbol boundary (ABORT, PFAIL), or at once (`whole` false: a thermal trip). -/
def State.cutSent (s : State) (e : Nat) (whole : Bool) : State :=
  { s with rep := { s.rep with sent := s.rep.sent.map (fun x => (x.1, if x.2.engine = e then s.cutRecord x.1 whole x.2 else x.2)) } }

/-- R321: what lane `n` transmits is cut at once. -/
def State.cutLane (s : State) (n : Nat) : State :=
  { s with rep := { s.rep with sent := s.rep.sent.map (fun x => (x.1, if x.1 = n then s.cutRecord n false x.2 else x.2)) } }

/-- R316, R318: an engine stops with a cause (3 ABORT, 7 PFAIL, 8 thermal trip: in the middle of a record). -/
def State.stopEngine (s : State) (e cause : Nat) : State :=
  if s.engineState e = 2 then
    let s := ((s.put (R.RP_STATE_STATE e) 3).put (R.RP_STATE_STOP_CAUSE e) cause).put (R.RP_STATE_DEPTH e) 0
    let s := if cause = 3 ∨ cause = 7 ∨ cause = 8 then s.cutSent e (cause != 8) else s
    let s := s.setEngine e { s.engine e with stoppedAt := if cause = 1 ∨ cause = 4 ∨ cause = 5 then none else some s.tb.now }
    (s.prime e).raise (232 + e / 4)
  else s

/-- When the last record that an engine transmits has ended. -/
def State.lastEnd (s : State) (e : Nat) : Nat :=
  ((s.rep.sent.filter (fun x => x.2.engine == e)).map (·.2.finish)).foldl max 0

/-- R316, R318: an engine stops once the records that it transmits have ended. -/
def State.stopAfter (s : State) (e cause : Nat) : State :=
  let last := s.lastEnd e
  if last ≤ s.nowFine then s.stopEngine e cause else s.setEngine e { s.engine e with ending := some (last, cause) }

/-- R324: the symbols that realign a running disparity and have left by now are seen. -/
def State.seeFixes (s : State) : State :=
  let now := s.nowFine
  let s := forEach (s.rep.fixing.filter (fun x => decide (x.2 ≤ now))) (fun x t => t.put (R.RP_PT_STATUS_DISP_FIX_SEEN x.1) 1) s
  { s with rep := { s.rep with fixing := s.rep.fixing.filter (fun x => decide (now < x.2)) } }

/-- R316: engines whose last character has left the transmitter stop. -/
def State.replayEnds (s : State) : State :=
  let s := s.seeFixes
  forEach s.rep.engines (fun x t =>
    match (t.engine x.1).ending with
    | some (i, cause) => if i ≤ t.nowFine then t.stopEngine x.1 cause else t
    | none => t) s

/-- Has the pending stop of an engine become due? -/
def State.stopDue (s : State) (e : Nat) : Option Nat :=
  match (s.engine e).stop with
  | some (cause, turn) => if laterThan s.tb.turn turn then none else some cause
  | none => none

/-- R318: engines whose pending stop has become due stop at the end of the record that they transmit. -/
def State.stopsTaken (s : State) : State :=
  forEach s.rep.engines (fun x t =>
    match t.stopDue x.1 with
    | some cause => if t.engineState x.1 = 2 ∧ (t.engine x.1).ending.isNone then t.stopAfter x.1 cause else t
    | none => t) s

/-- R184, R201, R187: every running engine stops at once with a cause. -/
def State.stopAllEngines (s : State) (cause : Nat) : State := iterate 32 (fun e t => t.stopEngine e cause) s

/-- R318, R184, R106: a stop is pending: it is taken at the first record boundary in turn `turn` or later. One that is pending already
stands. -/
def State.askStop (s : State) (e cause turn : Nat) : State :=
  let x := s.engine e
  if x.stop.isSome then s else s.setEngine e { x with stop := some (cause, turn) }

/-- R184, R318: in ORDERLY STOP every running engine is to stop. -/
def State.askAllStop (s : State) (cause : Nat) : State :=
  iterate 32 (fun e t => if t.engineState e = 2 then t.askStop e cause t.nextNumber else t) s

/-- R315, R317, R325: a start cause reaches an engine at an instant (in pips). A stop that takes effect in the same pip
wins (R318). -/
def State.startEngine (s : State) (e instant : Nat) : State :=
  let st := s.engineState e
  if st = 1 ∨ st = 3 then
    if (s.engine e).stoppedAt ≠ some instant then
      let x := s.engine e
      let vals := (List.range 8).map (fun u => s.reg (R.RP_UPD_ARG e u))
      let s := s.setEngine e { x with stack := [], returning := false, counters := vals, start := 64 * instant,
                                      startTurn := s.tb.turn, ends := [], lastLaunch := 0, chain := none,
                                      ending := none }
      let s := (s.put (R.RP_STATE_STATE e) 2).put (R.RP_STATE_STOP_CAUSE e) 0
      forEach [R.RP_PTR e, R.RP_LAUNCHED_LO e, R.RP_LAUNCHED_HI e, R.RP_LATE e, R.RP_SKIPPED e, R.RP_MAX_LATE e]
        (fun o t => t.setReg o 0) s
    else s
  else s.put (R.RP_STATE_START_IGNORED e) 1

/-- R283, R317: replay-start output `k` starts every engine bound to it. -/
def State.startLine (s : State) (k : Nat) : State :=
  iterate 32 (fun e t =>
    if t.has (R.RP_CFG_START_LINE_EN e) ∧ t.get (R.RP_CFG_START_LINE e) = k then t.startEngine e t.tb.now else t) s

/-- R317: a pending AT start whose instant has come. At a boundary (`all`) also one whose pip its turn did not reach
(log entry 42). Replay is a service of OPERATE and THROTTLED (R179): in another mode the start is lost. -/
def State.startAt (s : State) (e : Nat) : State :=
  match (s.engine e).at_ with
  | some (t, p) =>
    match s.instantOf t p with
    | some i =>
      let s := s.setEngine e { s.engine e with at_ := none }
      if s.running then s.startEngine e i else s
    | none => s
  | none => s

/-- REPLAY_START_INSTANT (R317): the pip and turn of an AT start arrive. -/
def execReplayStartInstant (e : Fin 32) (s : State) : Host.Outcome State Fault Refusal := .next (s.startAt e.val)

/-! ### Records (R298-R301) -/

/-- The fields of a record's header. -/
structure PatRecord where
  lctrl : Nat
  pip : Nat
  turn : Nat
  source : Nat
  len : Nat
  loop : Nat
  flags : Nat
  seq : Nat
  crc : Nat
  payload : List Byte

def parseRecord (b : List Byte) : PatRecord :=
  let n := le b 14 2
  { lctrl := le b 0 2, pip := le b 2 4, turn := le b 6 6, source := le b 12 2, len := n, loop := le b 16 4, flags := le b 20 4,
    seq := le b 24 4, crc := le b 28 4, payload := (b.drop 32).take n }

def PatRecord.lane (r : PatRecord) : Nat := bits r.source 0 7

/-- R300: the records of a chain after its first go out on its lane. -/
def PatRecord.onChain (r : PatRecord) (chain : Option Nat) : PatRecord :=
  match chain with
  | some n => if bit r.source 10 then { r with source := r.source - r.lane + n } else r
  | none => r

/-- R301: why an engine would stop with a pattern error. -/
def recordBad (s : State) (e : Nat) (r : PatRecord) (head : List Byte) : Bool :=
  let x := s.engine e
  let pushes := bit r.loop 16 && !x.returning
  let depth := x.stack.length + b2n pushes
  crc32c (head.take 28) != r.crc || bits r.lctrl 0 2 == 3 || bits r.lctrl 3 13 != 0 || bits r.source 7 3 != 0
    || bits r.source 12 4 != 0 || bits r.loop 19 13 != 0 || bits r.flags 13 19 != 0 || decide (16384 < r.len)
    || !bit (s.engineMask e) r.lane || decide (3 < depth) || decide (depth < bits r.loop 17 2)

/-- Bytes of a pattern record. -/
def patSize (r : PatRecord) : Nat := 32 + (r.len + 31) / 32 * 32

/-- What the buffer holds of the record at the pattern pointer. -/
inductive Ready where
  /-- The pattern has ended (R311). -/
  | ended
  /-- A line of the record failed (R309). -/
  | failed
  /-- Data has still to arrive. -/
  | waits
  | bad
  | record (r : PatRecord)

def Ready.waiting (r : Ready) : Bool :=
  match r with
  | .waits => true
  | _ => false

/-- R301, R309, R311: the record at the pattern pointer. -/
def State.nextRecord (s : State) (e : Nat) : Ready :=
  let x := s.engine e
  let ptr := s.get (R.RP_PTR_PTR e) * 32
  let len := s.get (R.RP_LENGTH_LEN e) * 32
  let here := x.buf.drop (ptr - x.bufAt)
  let reaches (n : Nat) : Bool := match x.bad with
    | some b => decide (b < ptr + n)
    | none => false
  if len < ptr + 32 then .ended
  else if ptr < x.bufAt then .waits
  else if here.length < 32 then (if reaches 32 then .failed else .waits)
  else
    let r := parseRecord here
    if recordBad s e r here then .bad
    else if len < ptr + patSize r then .ended
    else if here.length < patSize r then (if reaches (patSize r) then .failed else .waits)
    else .record (r.onChain x.chain)

/-! ### Fetch (R307-R309) -/

/-- R308: room is made in a full buffer: what lies before the outermost open loop, or before the record to come, goes. A loop whose body
the buffer cannot hold, since the record to come is beyond it, is not kept. -/
def State.makeRoom (s : State) (e : Nat) : State :=
  let x := s.engine e
  let ptr := s.get (R.RP_PTR_PTR e) * 32
  let short := (s.nextRecord e).waiting
  let keep := ((x.stack.map Prod.fst).reverse.find? (fun a => decide (x.bufAt < a) || (!short && a == x.bufAt))).getD ptr
  if 131072 < x.buf.length + 64 ∧ x.bufAt < keep ∧ s.engineState e = 2 then
    s.setEngine e { x with bufAt := keep, buf := x.buf.drop (keep - x.bufAt) }
  else s

/-- R307, R309: one fetched line returns. -/
def State.fetchLine (s : State) (e : Nat) : State :=
  let s := s.makeRoom e
  let x := s.engine e
  let len := s.get (R.RP_LENGTH_LEN e) * 32
  let off := x.bufAt + x.buf.length
  if len ≤ off ∨ x.bad.isSome ∨ 131072 < x.buf.length + 64 then s
  else
    let a := s.get (R.RP_BASE_BASE e) * 32 + off
    let n := min (64 - a % 64) (len - off)
    let t_st_d := stackRead s 0xFD a n
    let t := t_st_d.1
    let st := t_st_d.2.1
    let d := t_st_d.2.2
    if st = rOk then t.setEngine e { x with buf := x.buf ++ d } else t.setEngine e { x with bad := some off }

/-- PATTERN_FETCH_RETURN (R307, R316): `lines` fetched lines return into the engine's buffer; `fromNoc`: the channel on which the fetch took
bandwidth that the NoC has reserved, which then yields (R197). An engine whose clock is gated takes none (R186, R720). -/
def execPatternFetchReturn (e : Fin 32) (lines : FetchReturn) (s : State) : Host.Outcome State Fault Refusal :=
  let k := e.val
  if s.engineState k = 0 ∨ !s.replayClocked k then .next s
  else
    let s := match lines.fromNoc with
      | some c => s.yielded 6 5 c.val
      | none => s
    .next ((iterate lines.lines.toNat (fun _ t => t.fetchLine k) s).showPrimed k)

/-! ### Field updaters (R312-R315) -/

/-- R313: where an updater's byte offset lies in a payload of `n` bytes. -/
def updPos (fromEnd : Bool) (n o : Nat) : Option Nat :=
  if fromEnd then (if o < n then some (n - 1 - o) else none) else if o < n then some o else none

/-- Bytes written into a payload at a position. -/
def patch (l : List Byte) (i : Nat) (b : List Byte) : List Byte := l.take i ++ b ++ l.drop (i + b.length)

/-- R312, R314: one updater acts: the payload, the counters, and whether it was skipped. -/
def applyUpdater (s : State) (e u : Nat) (acc : List Byte × List Nat × Bool) : List Byte × List Nat × Bool :=
  let p_cs_skip := acc
  let p := p_cs_skip.1
  let cs := p_cs_skip.2.1
  let skip := p_cs_skip.2.2
  let ty := s.get (R.RP_UPD_CTRL_TYPE e u)
  let fe := s.has (R.RP_UPD_CTRL_FROM_END e u)
  let w := if ty = 1 then s.get (R.RP_UPD_CTRL_WIDTH e u) + 1 else 4
  match updPos fe p.length (s.get (R.RP_UPD_CTRL_OFFSET e u)) with
  | none => (p, cs, true)
  | some o =>
    if p.length < o + w then (p, cs, true)
    else if ty = 1 then
      let v := cs.getD u 0
      let b := toLE w v
      let b := if s.has (R.RP_UPD_CTRL_ENDIAN e u) then b.reverse else b
      (patch p o b, cs.set u ((v + s.get (R.RP_UPD_CTRL_STEP e u)) % 2 ^ (8 * w)), skip)
    else
      match updPos fe p.length (bits (s.reg (R.RP_UPD_ARG e u)) 0 14) with
      | none => (p, cs, true)
      | some c =>
        if o ≤ c then (p, cs, true)
        else
          let body := (p.drop c).take (o - c)
          (patch p o (toLE 4 (if ty = 2 then crc32 body else crc32c body)), cs, skip)

/-- R312, R313: the updaters of a record act, COUNTERs first. -/
def applyUpdaters (s : State) (e upd : Nat) (p : List Byte) (cs : List Nat) : List Byte × List Nat × Bool :=
  let on := (List.range 8).filter (fun u => bit upd u)
  let counters := on.filter (fun u => s.get (R.RP_UPD_CTRL_TYPE e u) == 1)
  let crcs := on.filter (fun u => decide (2 ≤ s.get (R.RP_UPD_CTRL_TYPE e u)))
  (counters ++ crcs).foldl (fun acc u => applyUpdater s e u acc) (p, cs, false)

/-- R299: the symbols of a record: K flags of the first and last byte in 8b/10b mode. -/
def symbolsOf (raw : Bool) (flags : Nat) (p : List Byte) : List (Bool × Byte) :=
  (numbered p).map (fun (i, b) => (!raw && ((i == 0 && bit flags 8) || (i + 1 == p.length && bit flags 9)), b))

/-! ### Launching (R302-R311) -/

/-- R310: the loops that a record closes: the stack, the next record, returning. -/
def closeLoops (n : Nat) (stack : List (Nat × Nat)) (next : Nat) : List (Nat × Nat) × Nat × Bool :=
  match n, stack with
  | 0, st => (st, next, false)
  | _ + 1, [] => ([], next, false)
  | n + 1, (a, c) :: t =>
    if c = 0 ∨ 1 < c then ((a, c - 1) :: t, a, true) else closeLoops n t next

/-- R302: the scheduled instant of a record in 1/64 pips, or none while its turn lies ahead. -/
def State.scheduledAt (s : State) (e : Nat) (r : PatRecord) : Option Nat :=
  let x := s.engine e
  let n := r.lane
  let mode := bits r.lctrl 0 2
  let prev := tblFind n x.ends
  let kbps := s.laneKbps n
  if bit r.source 10 then some (prev.getD x.start)
  else if mode = 1 then
    (s.instantOf (if bit r.lctrl 2 then x.startTurn + r.turn else r.turn) r.pip).map (64 * ·)
  else if mode = 2 then some (prev.getD x.start + 64 * r.pip)
  else match prev with
    | some t => some (t + bitsFine kbps (s.get (R.RP_CFG_IDLE_MIN e) * s.symbolBits n))
    | none => some x.start

/-- R310, R311: the engine moves past a record. At the end of the pattern it stops once its last character has left (R316). -/
def State.advance (s : State) (e : Nat) (r : PatRecord) : State :=
  let x := s.engine e
  let ptr := s.get (R.RP_PTR_PTR e) * 32
  let stack := if bit r.loop 16 && !x.returning then (ptr, bits r.loop 0 16) :: x.stack else x.stack
  let stack_next_ret := closeLoops (bits r.loop 17 2) stack (ptr + patSize r)
  let stack := stack_next_ret.1
  let next := stack_next_ret.2.1
  let ret := stack_next_ret.2.2
  let again := decide (next < x.bufAt)
  let chain := if bit r.source 11 then some r.lane else none
  let x := { x with stack := stack, returning := ret, chain := chain }
  -- R308: a body that the buffer does not hold is fetched again
  let s := s.setEngine e (if again then { x with bufAt := next, buf := [], bad := none } else x)
  let s := ((s.put (R.RP_PTR_PTR e) (next / 32)).put (R.RP_STATE_DEPTH e) stack.length).showPrimed e
  if bit r.flags 12 ∨ s.get (R.RP_LENGTH_LEN e) * 32 ≤ next then
    s.setEngine e { s.engine e with ending := some (s.lastEnd e, 1) }
  else s

/-- R312, R314: a record's payload goes through the updaters into the output path. -/
def State.outputPayload (s : State) (e : Nat) (r : PatRecord) : State × List Byte :=
  let x := s.engine e
  let p_cs_skip := applyUpdaters s e (bits r.flags 0 8) r.payload x.counters
  let p := p_cs_skip.1
  let cs := p_cs_skip.2.1
  let skip := p_cs_skip.2.2
  let s := s.setEngine e { x with counters := cs }
  (if skip then s.put (R.RP_STATE_UPD_SKIP e) 1 else s, p)

/-- What a record's launch shows: LAST_SEQ, LAUNCHED, the symbols sent on its lane. -/
def State.noteLaunch (s : State) (e : Nat) (r : PatRecord) (symbols : List (Bool × Byte)) (at_ finish : Nat) : State :=
  let s := (s.setReg (R.RP_LAST_SEQ e) r.seq).inc64 (R.RP_LAUNCHED_LO e) (R.RP_LAUNCHED_HI e) 1
  let x := s.engine e
  let s := s.setEngine e { x with ends := tblPut r.lane finish x.ends, lastLaunch := at_ }
  { s with rep := { s.rep with sent := tblPut r.lane ⟨e, r.seq, symbols, at_, finish⟩ s.rep.sent } }

/-- R305, R306: a late record is counted; `late` in 1/64 pips. -/
def State.noteLate (s : State) (e late : Nat) (skip fetchDelayed : Bool) : State :=
  let s := s.put (R.RP_MAX_LATE_PIPS e) (min (max (s.reg (R.RP_MAX_LATE e)) (late / 64)) (2 ^ 32 - 1))
  let s := if skip then (s.bump (R.RP_SKIPPED_COUNT e)).engineFlag e (R.RP_STATE_SKIP_SEEN e)
    else (s.bump (R.RP_LATE_COUNT e)).engineFlag e (R.RP_STATE_LATE_SEEN e)
  if fetchDelayed then s.yielded 5 4 e else s

/-- R303: the symbol boundary of a lane nearest to instant `i`, but not before `low`: the first from `low` on. Instants are rounded down to
1/64 pip. -/
def State.symbolBoundary (s : State) (n low i : Nat) : Nat :=
  let kbps := s.laneKbps n
  let p := 80000000 * s.symbolBits n
  let phase := Config.symbolPhase n kbps % p
  let near := ((2 * (i * kbps + p - phase) + p) / (2 * p) * p + phase - p) / kbps
  if kbps = 0 then max low i
  else if low ≤ near then near
  else ((low * kbps + 2 * p - phase - 1) / p * p + phase - p) / kbps

/-- The earliest instant at which a record can be launched: now, after the previous record on its lane has ended (R305), and not before
the launch of the previous record has begun (R304). -/
def State.earliest (s : State) (e : Nat) (r : PatRecord) : Nat :=
  max s.nowFine (max (((tblFind r.lane s.rep.sent).map (·.finish)).getD 0) (s.engine e).lastLaunch)

/-- R300, R303: where a record is launched: at the symbol boundary nearest its scheduled instant, or the first one from `low` on; the
records of a chain after its first follow back to back. -/
def State.launchAt (s : State) (r : PatRecord) (low sched : Nat) : Nat :=
  if bit r.source 10 && decide (low ≤ sched) then sched else s.symbolBoundary r.lane low sched

/-- R303-R305: a record is launched on its lane, or skipped. It is late where it lands more than one symbol plus one pip (R32) after its
scheduled instant. -/
def State.launch (s : State) (e : Nat) (r : PatRecord) (fetchDelayed : Bool) : State :=
  match s.scheduledAt e r with
  | none => s
  | some sched =>
    let n := r.lane
    let kbps := s.laneKbps n
    let at_ := s.launchAt r (s.earliest e r) sched
    let late := decide (sched + bitsFine kbps (s.symbolBits n) + 64 < at_)
    let skip := late && s.get (R.RP_CFG_LATE_POLICY e) == 1
    let s := if late then s.noteLate e (at_ - sched) skip fetchDelayed else s
    if skip then
      let x := s.engine e
      (s.setEngine e { x with ends := tblPut n sched x.ends }).advance e r
    else
      let s_p := s.outputPayload e r
      let s := s_p.1
      let p := s_p.2
      let raw := s.has (R.LN_CTRL_MODE n)
      let dur := bitsFine kbps (p.length * if raw then 8 else 10)
      (s.noteLaunch e r (symbolsOf raw r.flags p) at_ (at_ + dur)).advance e r

/-- The lane on which an engine substitutes: its mask is that lane alone (R322). -/
def State.substLane (s : State) (e : Nat) : Option Nat :=
  (List.range 96).find? (fun n => s.has (R.RP_PT_CTRL_EN n) && s.has (R.RP_PT_CTRL_SUB_EN n)
    && s.get (R.RP_PT_CTRL_SUB_ENGINE n) == e && s.engineMask e == 2 ^ n)

/-- RECORD_LAUNCH (R303): the instant of the engine's next record comes; `fetchDelayed`: its fetch was delayed by capture
writes (R306). A pending stop is taken instead (R318). Nothing is launched while the engine's clock is gated (R186, R720). -/
def execRecordLaunch (e : Fin 32) (fetchDelayed : Bool) (s : State) : Host.Outcome State Fault Refusal :=
  let k := e.val
  if s.engineState k ≠ 2 ∨ (s.substLane k).isSome ∨ (s.engine k).ending.isSome ∨ !s.replayClocked k then .next s
  else
    match s.stopDue k with
    | some cause => .next (s.stopAfter k cause)
    | none =>
      match s.nextRecord k with
      | .ended => .next (s.stopAfter k 1)
      | .failed => .next (s.stopEngine k 5)
      | .bad => .next (s.stopEngine k 4)
      | .waits => .next s
      | .record r => .next (s.launch k r fetchDelayed)

/-- REPLAY_RECORD_BOUNDARY_STOP (R318): at the end of the record in transmission. -/
def execReplayRecordBoundaryStop (e : Fin 32) (s : State) : Host.Outcome State Fault Refusal :=
  match s.stopDue e.val with
  | some cause => .next (s.stopAfter e.val cause)
  | none => .next s

/-! ### Substitution (R322-R324) -/

/-- The running disparity after a run of characters. -/
def disparityAfter (rd : Bool) (l : List (Bool × Byte)) : Bool := l.foldl (fun r c => if flipsDisparity c.1 c.2 then !r else r) rd

/-- R300, R322: a record and the rest of its chain, back to back from instant `at_`, as far as they have arrived: their symbols, and
the flags of the last. -/
def State.sendChain (n e : Nat) : Nat → Nat → State → State × List (Bool × Byte) × Nat
  | 0, _, s => (s, [], 0)
  | fuel + 1, at_, s =>
    match s.nextRecord e with
    | .record r =>
      let s_p := s.outputPayload e r
      let p := symbolsOf false r.flags s_p.2
      let finish := at_ + bitsFine (s.laneKbps n) (10 * p.length)
      let s := (s_p.1.noteLaunch e r p at_ finish).advance e r
      if bit r.source 11 then
        let rest := State.sendChain n e fuel finish s
        (rest.1, p ++ rest.2.1, if rest.2.1.isEmpty then r.flags else rest.2.2)
      else (s, p, r.flags)
    | _ => (s, [], 0)

/-- R322: the symbols of a frame: what `sendChain` would send. -/
def State.chainLength (s : State) (e : Nat) : Nat := (State.sendChain 0 e 4096 0 s).2.1.length

/-- R322: forwarded characters from instant `at_` on are replaced: of those on their way, and then of those still to come. -/
def State.replaceForwarded (s : State) (n at_ count : Nat) : State :=
  let l := tblGet (fun _ => []) s.rep.forwarded n
  let gone := l.filter (fun f => decide (f.out < at_))
  let coming := l.filter (fun f => decide (at_ ≤ f.out))
  { s with rep := { s.rep with forwarded := tblSet (fun _ => []) s.rep.forwarded n (gone ++ coming.drop count),
                               replaced := tblSet (fun _ => 0) s.rep.replaced n (count - coming.length) } }

/-- R323: a frame in a slot of `room` characters: cut at its end, with its last character in the last position under K_LAST. -/
def fitSlot (room flags : Nat) (l : List (Bool × Byte)) : List (Bool × Byte) :=
  if l.length ≤ room then l
  else if bit flags 9 then l.take (room - 1) ++ [l.getLastD (false, 0)]
  else l.take room

/-- R324: the running disparity of a lane is to be realigned no more: it agrees with the forwarded stream's, whose characters that leave at
`from_` or later go out as they are. -/
def State.aligned (s : State) (n from_ : Nat) : State :=
  let plain (f : Forwarded) : Forwarded := if from_ ≤ f.out then { f with alternate := false } else f
  let r := s.rep
  { s with rep := { r with realign := r.realign.filter (fun k => k != n), fixing := tblDel n r.fixing,
                           forwarded := tblSet (fun _ => []) r.forwarded n ((tblGet (fun _ => []) r.forwarded n).map plain) } }

/-- R324: a character still to be sent by the lane realigns its running disparity: the first that leaves at `from_` or later. -/
def State.realign (s : State) (n from_ : Nat) : State :=
  let s := s.aligned n from_
  let l := tblGet (fun _ => []) s.rep.forwarded n
  match (numbered l).find? (fun x => realigns x.2.char && decide (from_ ≤ x.2.out)) with
  | some (i, f) =>
    let l := (numbered l).map (fun x => if x.1 = i then { x.2 with alternate := true } else x.2)
    { s with rep := { s.rep with forwarded := tblSet (fun _ => []) s.rep.forwarded n l, fixing := tblPut n f.out s.rep.fixing } }
  | none => { s with rep := { s.rep with realign := n :: s.rep.realign } }

/-- R322-R324: the engine's next frame is sent in a slot of `room` characters of lane `n` that begins at `at_`. -/
def State.substitute (s : State) (e n at_ room : Nat) (r : PatRecord) (rdBefore rdAfter : Bool) : State :=
  let insert := s.has (R.RP_CFG_SUB_MODE e)
  let idle := s.get (R.RP_CFG_IDLE e)
  let s_l := State.sendChain n e 4096 at_ s
  let s := s_l.1
  let syms := s_l.2.1
  let sent := fitSlot room s_l.2.2 syms
  let s := if room < syms.length then s.engineFlag e (R.RP_STATE_SUB_TRUNC e) else s
  let all := sent ++ if insert then [] else List.replicate (room - sent.length) (bit idle 8, BitVec.ofNat 8 idle)
  let dur := fun k => bitsFine (s.laneKbps n) (10 * k)
  let x := s.engine e
  let s := s.setEngine e { x with ends := tblPut n (at_ + dur sent.length) x.ends,
                                  ending := x.ending.map (fun y => (min y.1 (at_ + dur sent.length), y.2)) }
  let s := { s with rep := { s.rep with
    sent := tblPut n ⟨e, s.reg (R.RP_LAST_SEQ e), all, at_, at_ + dur all.length⟩ s.rep.sent } }
  let s := s.seeFixes.replaceForwarded n at_ all.length
  let rd := if bit r.flags 10 then bit r.flags 11 else rdBefore
  if disparityAfter rd all = rdAfter then s.aligned n at_ else s.realign n at_

/-- R322: does lane `n` meet what substitution requires: pass-through, 8b/10b mode, and its gather unit framing by K_SET? -/
def State.slotReady (s : State) (n : Nat) : Bool :=
  s.has (R.RP_PT_CTRL_EN n) && !s.has (R.LN_CTRL_MODE n) && s.get (R.GU_CTRL_FRAMING n) == 1 && !s.rep.broken.contains n

/-- SUBSTITUTION_SLOT (R322-R324): a frame slot (REPLACE) or a run of idle characters (INSERT) of `chars` characters begins at the
transmitter; it is taken if it begins at or after the record's scheduled instant. `rdBefore`: the transmitter's running disparity there,
`rdAfter`: that of the forwarded stream after the record's slot (true: positive). -/
def execSubstitutionSlot (e : Fin 32) (chars : BitVec 21) (rdBefore : Bool) (rdAfter : Bool) (s : State) :
    Host.Outcome State Fault Refusal :=
  let k := e.val
  match s.substLane k with
  | none => .next s
  | some n =>
    if s.engineState k ≠ 2 ∨ !s.slotReady n ∨ (s.engine k).ending.isSome ∨ !s.replayClocked k then .next s
    else
      match s.stopDue k with
      | some cause => .next (s.stopAfter k cause)
      | none =>
        match s.nextRecord k with
        | .ended => .next (s.stopAfter k 1)
        | .failed => .next (s.stopEngine k 5)
        | .bad => .next (s.stopEngine k 4)
        | .waits => .next s
        | .record r =>
          let insert := s.has (R.RP_CFG_SUB_MODE k)
          let room := chars.toNat
          match s.scheduledAt k r with
          | none => .next s
          | some sched =>
            if room = 0 ∨ s.nowFine + 64 ≤ sched ∨ (insert ∧ room < s.chainLength k) then .next s
            else .next (s.substitute k n (max s.nowFine sched) room r rdBefore rdAfter)

/-! ### What a transmitter sends (R296, R297, R619) -/

/-- R624: a pattern of the generator: that of x^len + x^tap + 1, or `n` bits repeated, bit 0 first. -/
inductive Pattern where
  | prbs (len tap : Nat)
  | fixed (n bits : Nat)
  deriving DecidableEq, Repr

/-- R624: the first `k` bits of a pattern; where the spec gives the shift register no start, `seed` is its last `len` bits. -/
def Pattern.sends (p : Pattern) (seed k : Nat) : List Bool :=
  match p with
  | .fixed n w => (List.range k).map (fun i => bit w (i % n))
  | .prbs len tap =>
    ((List.range k).foldl (fun (acc : Nat × List Bool) _ =>
      let b := bit acc.1 (len - 1) != bit acc.1 (tap - 1)
      ((2 * acc.1 + b2n b) % 2 ^ len, acc.2 ++ [b])) (seed, [])).2

/-- R624: the pattern that LN_PRBS_CTRL selects. -/
def State.pattern (s : State) (n : Nat) : Pattern :=
  match s.get (R.LN_PRBS_CTRL_PATTERN n) with
  | 0 => .prbs 7 6
  | 1 => .prbs 9 5
  | 2 => .prbs 15 14
  | 3 => .prbs 23 18
  | 4 => .prbs 31 28
  | 5 => .fixed 80 (s.reg (R.LN_PRBS_USER0 n) + 2 ^ 32 * s.reg (R.LN_PRBS_USER1 n) + 2 ^ 64 * s.get (R.LN_PRBS_USER2_BITS n))
  | _ => .fixed 2 2

/-- What a test-lane transmitter sends. -/
inductive TxStream where
  | electricalIdle
  /-- A character, repeated; its K flag. -/
  | character (k : Bool) (b : Byte)
  /-- A raw word, repeated. -/
  | word (w : BitVec 32)
  /-- 0b01, repeated. -/
  | alternating
  /-- The pattern generator (R626); `inv`: its bits are inverted (GEN_INV). -/
  | pattern (p : Pattern) (inv : Bool)
  | record (r : SentRecord)
  | forwarded (l : List Forwarded)

/-- R619: the idle state of a lane. -/
def State.laneIdle (s : State) (n : Nat) : TxStream :=
  let w := s.get (R.LN_IDLE_IDLE_CHAR n)
  match s.get (R.LN_CTRL_TX_IDLE n) with
  | 1 => if s.has (R.LN_CTRL_MODE n) then .alternating else .character (bit w 8) (BitVec.ofNat 8 w)
  | 2 => .pattern (s.pattern n) (s.has (R.LN_PRBS_CTRL_GEN_INV n))
  | _ => .electricalIdle

/-- R297: the idle of an engine on a lane of its mask, while it is BOUND or RUNNING (STOPPED: log entry 100). -/
def State.engineIdle (s : State) (e n : Nat) : TxStream :=
  let w := s.get (R.RP_CFG_IDLE e)
  if s.engineState e = 3 then s.laneIdle n
  else if s.has (R.LN_CTRL_MODE n) then .word (BitVec.ofNat 32 (s.reg (R.RP_RAW_IDLE e)))
  else .character (bit w 8) (BitVec.ofNat 8 w)

/-- R296: what a test lane's transmitter sends now: a record in transmission; else what its source gives between records. In the modes
that R187 names, in a power state but P0 (R621), and until the quad PLL locks (R631), electrical idle. -/
def State.transmits (s : State) (n : Nat) : TxStream :=
  if s.get (R.LN_STATUS_PSTATE n) ≠ 0 ∨ !s.has (R.LN_STATUS_PLL_LOCK n) then .electricalIdle
  else if s.has (R.RP_PT_CTRL_EN n) && s.rep.broken.contains n then .electricalIdle
  else match (tblFind n s.rep.sent).filter (fun r => decide (r.launch < s.nowFine + 64) && decide (s.nowFine < r.finish)) with
    | some r => .record r
    | none =>
      if !(s.running || s.mode == mStartUp) then .electricalIdle
      else if s.has (R.RP_PT_CTRL_EN n) then .forwarded (tblGet (fun _ => []) s.rep.forwarded n)
      else match s.driverOf n with
        | some e => s.engineIdle e n
        | none => s.laneIdle n

/-- R618, R620: what stands at the balls of a transmitter: its stream, every bit inverted under TX_POL, with the equaliser's taps in units
of 1/63 of the largest swing. -/
structure TxOutput where
  stream : TxStream
  inverted : Bool
  pre : Nat
  main : Nat
  post : Nat

def State.txOutput (s : State) (n : Nat) : TxOutput :=
  { stream := s.transmits n, inverted := s.has (R.LN_CTRL_TX_POL n), pre := s.get (R.LN_TX_EQ_PRE n), main := s.get (R.LN_TX_EQ_MAIN n),
    post := s.get (R.LN_TX_EQ_POST n) }

/-! ### Pass-through (R321) -/

/-- R321: the receiver of a lane in pass-through loses its signal or its lock: its transmitter sends neither what it forwards nor a
substituted record. -/
def State.passBreak (s : State) (n : Nat) : State :=
  if s.has (R.RP_PT_CTRL_EN n) then
    let s := (s.cutLane n).breakLane n
    if s.has (R.RP_PT_STATUS_BREAK_SEEN n) then s else (s.put (R.RP_PT_STATUS_BREAK_SEEN n) 1).raise (232 + n / 12)
  else s

/-- PASSTHROUGH_RESUME (R321): 1 µs after the CDR has relocked, forwarding resumes. -/
def execPassthroughResume (lane : Fin 96) (s : State) : Host.Outcome State Fault Refusal :=
  let n := lane.val
  if s.has (R.LN_STATUS_CDR_LOCK n) then
    .next { s with rep := { s.rep with broken := s.rep.broken.filter (fun x => x != n) } }
  else .next s

/-! ### Commands (R328) -/

/-- Check 6 for an engine. -/
def ownsEngine (s : State) (mb e : Nat) : Chk := failIf (decide (e < 32) && !s.holds mb (claimKey 3 e)) stNotOwner 0

/-- The mailbox that holds a resource, 0xFF for none (R71). -/
def State.holderOf (s : State) (key : Nat) : Nat := match s.claimOf key with
  | some c => if c.releasing then 0xFE else c.mb
  | none => 0xFF

/-- R296: is a lane's source, present or pending, another than engine `e`? -/
def State.otherSource (s : State) (e lane : Nat) : Bool :=
  (match s.driverOf lane with
   | some f => f != e
   | none => (List.range 32).any (fun f => f != e && s.engineState f != 0 && bit (s.engineMask f) lane))
  || (s.pendingField (R.RP_PT_CTRL_EN lane) == 1
      && !(s.pendingField (R.RP_PT_CTRL_SUB_EN lane) == 1 && s.pendingField (R.RP_PT_CTRL_SUB_ENGINE lane) == e))

/-- R322: does engine `e` substitute on a lane, at present or by a pending setting? Its mask may name that lane alone. -/
def State.substitutes (s : State) (e n : Nat) : Bool :=
  s.pendingField (R.RP_PT_CTRL_EN n) == 1 && s.pendingField (R.RP_PT_CTRL_SUB_EN n) == 1
    && s.pendingField (R.RP_PT_CTRL_SUB_ENGINE n) == e

/-- R296, R884: BUSY for lane `n` of an engine's mask where it has another source, an outstanding operation holds it (R80), or the
engine substitutes on another lane of the mask (R322). -/
def laneTaken (s : State) (e : Nat) (lanes : List Nat) (n : Nat) : Chk :=
  failIf (s.otherSource e n) stBusy (256 * n + match s.driverOf n with
      | some f => if f = e then 0xFF else s.holderOf (claimKey 3 f)
      | none => s.holderOf (claimKey 1 n))
    <|> failIf (lanes.any (fun k => k != n && s.substitutes e k)) stBusy (256 * n + 0xFF) <|> laneHeld s n n

/-- The first lane of a mask that is not free for an engine. -/
def lanesBusy (s : State) (e mask : Nat) : Chk := (bitsOf 96 mask).findSome? (laneTaken s e (bitsOf 96 mask))

/-- R307: the channels on which a range lies. -/
def State.rangeChannels (s : State) (base n : Nat) : List Nat :=
  if n = 0 then []
  else
    let segs := (List.range ((base + n - 1) / 0x10000000 - base / 0x10000000 + 1)).map (fun i => base / 0x10000000 + i)
    let chs := segs.flatMap (fun g => setChannels (s.get (R.SM_SEG_MAP_CH_FIRST g)) (s.get (R.SM_SEG_MAP_CH_LOG2 g)))
    (List.range 32).filter (fun k => chs.contains k)

/-- The fetch reservation of an engine is released. -/
def State.releaseEngine (s : State) (e : Nat) : State :=
  let x := s.engine e
  if x.rate = 0 then s
  else (s.releaseReplay x.channels x.rate).setEngine e { x with rate := 0, channels := [] }

/-- R316: an engine becomes IDLE: UNBIND, or its release. -/
def State.unbindEngine (s : State) (e : Nat) : State :=
  if s.engineState e = 1 ∨ s.engineState e = 3 then
    let s := s.releaseEngine e
    let s := forEach [R.RP_BASE e, R.RP_LENGTH e, R.RP_RESERVE e] (fun o t => t.setReg o 0) s
    let s := ((s.put (R.RP_STATE_STATE e) 0).put (R.RP_STATE_PRIMED e) 0).setEngine e { at_ := (s.engine e).at_ }
    s.showSources (s.engineMask e)
  else s

/-- RP_PATTERN_BIND. -/
def cmdRpPatternBind : Cmd where
  code := 0x0600
  lenOk := lenIs 24
  lenReq := 24
  checks := fun s mb r =>
    let p := r.payload
    let e := le p 0 1
    let un := bit (le p 1 1) 0
    let base_n := (le p 4 8, le p 12 8)
    let base := base_n.1
    let n := base_n.2
    let chs := s.rangeChannels base n
    let freed := s.releaseEngine e
    let rate := le p 20 2 * 32 / max 1 chs.length
    [onlyRunning s, ownsEngine s mb e, param 0 (decide (e < 32)), param 1 (decide (le p 1 1 < 2)), reserved0 p 2 2,
     param 4 (un || (base % 32 == 0 && decide (base + n ≤ 0x10000000 * s.segments))), param 12 (un || n % 32 == 0),
     reserved0 p 22 2, failIf (s.engineState e == 2) stRefusedArmed 0]
    ++ (if un then [] else
      [lanesBusy s e (s.engineMask e),
       (chs.find? (fun k => !freed.bandwidthFits [k] rate)).map (fun k => (stNoResource, k))])
  act := fun s _ r =>
    let p := r.payload
    let e := le p 0 1
    if bit (le p 1 1) 0 then replyOk (s.unbindEngine e) []
    else
      let base_n := (le p 4 8, le p 12 8)
      let base := base_n.1
      let n := base_n.2
      let s := s.releaseEngine e
      let chs := s.rangeChannels base n
      let rate := le p 20 2 * 32 / max 1 chs.length
      let s := if rate = 0 then s else s.reserveReplay chs rate
      let s := s.setEngine e { s.engine e with rate := rate, channels := if rate = 0 then [] else chs }
      let s := ((s.setReg (R.RP_BASE e) (base / 32)).setReg (R.RP_LENGTH e) (n / 32)).setReg (R.RP_RESERVE e) (le p 20 2)
      let s := (s.put (R.RP_STATE_STATE e) 1).prime e
      replyOk (s.showSources (s.engineMask e)) []

def execRpPatternBind (mb : Fin 16) (req : Request) (s : State) : Host.Outcome State Fault Refusal :=
  commandRow cmdRpPatternBind mb req s

/-- RP_CONFIGURE. -/
def cmdRpConfigure : Cmd where
  code := 0x0601
  lenOk := lenIs 24
  lenReq := 24
  checks := fun s mb r =>
    let p := r.payload
    let e := le p 0 1
    let lanes := bitsOf 96 (le p 12 12)
    [onlyRunning s, ownsEngine s mb e,
     owned s mb ((lanes.filter (fun n => decide (n < s.lanes))).map (fun n => (n, claimKey 1 n))),
     param 0 (decide (e < 32)), param 1 (decide (le p 1 1 < 2)), param 2 (decide (le p 2 1 < 4)), param 3 (decide (le p 3 1 < 8)),
     param 4 (decide (le p 4 2 < 512)), param 7 (zeroAt p 7 1), failIf (s.engineState e == 2) stRefusedArmed 0]
    ++ lanes.map (fun n => if s.lanes ≤ n then some (stNoResource, n) else laneTaken s e lanes n)
  act := fun s _ r =>
    let p := r.payload
    let e := le p 0 1
    let f := le p 2 1
    let old := s.engineMask e
    let s := s.setReg (R.RP_CFG e) (le p 1 1 + 4 * bits f 1 1 + 16 * le p 3 1 + 128 * (f % 2) + 256 * le p 6 1 + 65536 * le p 4 2)
    let s := s.setReg (R.RP_RAW_IDLE e) (le p 8 4)
    let s := iterate 3 (fun i t => t.setReg (R.RP_LANE e i) (le p (12 + 4 * i) 4)) s
    replyOk (s.showSources (old ||| s.engineMask e)) []

def execRpConfigure (mb : Fin 16) (req : Request) (s : State) : Host.Outcome State Fault Refusal :=
  commandRow cmdRpConfigure mb req s

/-- RP_START. Without AT it is deferred under R150 (log entry 8). -/
def cmdRpStart : Cmd where
  code := 0x0602
  lenOk := lenIs 16
  lenReq := 16
  checks := fun s mb r =>
    let p := r.payload
    let e := le p 0 1
    [onlyRunning s, ownsEngine s mb e, param 0 (decide (e < 32) && s.engineState e != 0), param 1 (decide (le p 1 1 < 2)),
     reserved0 p 2 2, param 4 (!bit (le p 1 1) 0 || laterThan s.checkTurn (le p 4 6)), reserved0 p 10 2,
     failIf (s.engineState e == 2) stRefusedArmed 0]
  act := fun s _ r =>
    let p := r.payload
    let e := le p 0 1
    if bit (le p 1 1) 0 then
      { next := s.setEngine e { s.engine e with at_ := some (le p 4 6, le p 12 4) }, payload := turnBytes (le p 4 6) }
    else
      { next := s.latch [.replayStart e], payload := turnBytes s.effectTurn }

def execRpStart (mb : Fin 16) (req : Request) (s : State) : Host.Outcome State Fault Refusal :=
  commandRow cmdRpStart mb req s

/-- Is an edit the start of an engine at the next boundary? -/
def startEdit (k : Nat) (e : Edit) : Bool :=
  match e with
  | .replayStart j => j == k
  | _ => false

/-- R318, R328: RP_STOP takes effect on an engine. A start of RP_START that waits for its boundary is a pending start too, and is
cancelled (log entry 8). -/
def State.stopCommand (s : State) (e : Nat) (abort : Bool) : State :=
  let s := s.setEngine e { s.engine e with at_ := none }
  if abort then s.stopEngine e 3
  else if s.engineState e = 2 then s.askStop e 2 s.effectTurn
  else { s with gaf := { s.gaf with shadow := s.gaf.shadow.filter (fun x => !startEdit e x),
                                    held := s.gaf.held.filter (fun x => !startEdit e x) } }

/-- RP_STOP. -/
def cmdRpStop : Cmd where
  code := 0x0603
  lenOk := lenIs 4
  lenReq := 4
  checks := fun s mb r =>
    let p := r.payload
    let e := le p 0 1
    [onlyRunning s, ownsEngine s mb e, param 0 (decide (e < 32)), param 1 (decide (le p 1 1 < 2)), reserved0 p 2 2]
  act := fun s _ r =>
    let abort := bit (le r.payload 1 1) 0
    { next := s.stopCommand (le r.payload 0 1) abort, payload := turnBytes (if abort then s.tb.turn else s.effectTurn) }

def execRpStop (mb : Fin 16) (req : Request) (s : State) : Host.Outcome State Fault Refusal :=
  commandRow cmdRpStop mb req s

/-- RP_STATUS. -/
def cmdRpStatus : Cmd where
  code := 0x0604
  lenOk := lenIs 4
  lenReq := 4
  checks := fun _ _ r => [param 0 (decide (le r.payload 0 1 < 32)), reserved0 r.payload 1 3]
  act := fun s _ r => replyOk s ((List.range 16).flatMap (fun i => toLE 4 (s.reg (R.RP_CFG (le r.payload 0 1) + 4 * i))))

def execRpStatus (mb : Fin 16) (req : Request) (s : State) : Host.Outcome State Fault Refusal :=
  commandRow cmdRpStatus mb req s

/-- RP_SET_UPDATERS. -/
def cmdRpSetUpdaters : Cmd where
  code := 0x0605
  lenOk := lenIs 100
  lenReq := 100
  checks := fun s mb r =>
    let p := r.payload
    let e := le p 0 1
    [onlyRunning s, ownsEngine s mb e, param 0 (decide (e < 32)), reserved0 p 1 3]
    ++ (List.range 8).flatMap (fun u =>
      let o := 4 + 12 * u
      [param o (decide (le p o 1 ≤ 3)), param (o + 1) (decide (le p (o + 1) 1 < 4)),
       param (o + 2) (decide (1 ≤ le p (o + 2) 1) && decide (le p (o + 2) 1 ≤ 8)),
       param (o + 4) (decide (le p (o + 4) 2 ≤ 16383)), param (o + 6) (decide (le p (o + 6) 2 ≤ 16383))])
    ++ [failIf (s.engineState e == 2) stRefusedArmed 0]
  act := fun s _ r =>
    let p := r.payload
    let e := le p 0 1
    replyOk (iterate 8 (fun u t =>
      let o := 4 + 12 * u
      let ty := le p o 1
      let t := t.setReg (R.RP_UPD_CTRL e u) (ty + 4 * bits (le p (o + 1) 1) 0 2 + 16 * (le p (o + 2) 1 - 1) + 256 * le p (o + 4) 2
        + 2 ^ 24 * le p (o + 3) 1)
      t.setReg (R.RP_UPD_ARG e u) (if ty = 1 then le p (o + 8) 4 else if ty = 0 then 0 else le p (o + 6) 2)) s) []

def execRpSetUpdaters (mb : Fin 16) (req : Request) (s : State) : Host.Outcome State Fault Refusal :=
  commandRow cmdRpSetUpdaters mb req s

/-- The pass-through latency of a lane under its pending settings. -/
def State.pendingLatency (s : State) (n : Nat) : Nat :=
  latencyOf (s.pendingField (R.LN_CTRL_MODE n) == 1)
    (s.pendingField (R.LN_Q_RATE_BASE_KBPS (n / 4)) / 2 ^ s.pendingField (R.LN_CTRL_DIV n))

/-- RP_PASSTHROUGH_SET. -/
def cmdRpPassthroughSet : Cmd where
  code := 0x0606
  lenOk := listLen
  lenReq := 0xFFFF
  checks := fun s mb r =>
    let p := r.payload
    onlyRunning s :: ownsLanes s mb p :: (laneList 2 p
      ++ (numbered (listItems p)).map (fun (i, x) =>
        if s.lanes ≤ x.1 then some (stNoResource, i)
        else match (s.driverOf x.1).filter (fun e => !s.substitutes e x.1) with
          | some e => some (stBusy, 256 * (i % 256) + s.holderOf (claimKey 3 e))
          | none => laneHeld s x.1 i))
  act := fun s _ r =>
    let l := listItems r.payload
    { next := s.latch (l.map (fun x => tl (R.RP_PT_CTRL_EN x.1) x.2)),
      payload := toLE 4 l.length ++ l.flatMap (fun x => toLE 4 (s.pendingLatency x.1 % 65536)) }

def execRpPassthroughSet (mb : Fin 16) (req : Request) (s : State) : Host.Outcome State Fault Refusal :=
  commandRow cmdRpPassthroughSet mb req s

/-- RP_SUBSTITUTE_SET. -/
def cmdRpSubstituteSet : Cmd where
  code := 0x0607
  lenOk := lenIs 4
  lenReq := 4
  checks := fun s mb r =>
    let p := r.payload
    let n_e := (le p 0 2, le p 2 1)
    let n := n_e.1
    let e := n_e.2
    [onlyRunning s, ownsLane s mb n n, ownsEngine s mb e,
     param 0 (decide (n < 96) && (decide (s.lanes ≤ n) || (s.pendingField (R.RP_PT_CTRL_EN n) == 1
       && s.pendingField (R.GU_CTRL_FRAMING n) == 1))),
     param 2 (decide (e < 32)), param 3 (decide (le p 3 1 < 2)), failIf (s.engineState e == 2) stRefusedArmed 0,
     laneAbsent s n, laneHeld s n n, failIf ((bitsOf 96 (s.engineMask e)).any (fun k => k != n)) stBusy (256 * n + 0xFF),
     match s.driverOf n with
     | some d => failIf (!(bit (le p 3 1) 0 && d == e)) stBusy (256 * n + s.holderOf (claimKey 3 d))
     | none => none]
  act := fun s _ r =>
    let p := r.payload
    let n := le p 0 2
    replyOk (s.latch [tl (R.RP_PT_CTRL_SUB_EN n) (le p 3 1), tl (R.RP_PT_CTRL_SUB_ENGINE n) (le p 2 1)]) []

def execRpSubstituteSet (mb : Fin 16) (req : Request) (s : State) : Host.Outcome State Fault Refusal :=
  commandRow cmdRpSubstituteSet mb req s

end Sys2Proof.Machine
end

