-- ==== Sys2Proof/Machine/Trigger.lean ====
section
/-!
DEFINITION. Machine/Trigger.lean: the trigger matrix and its sequencer (R277-R290) and the TG_ commands (R294, R295).
-/

namespace Sys2Proof.Machine

open Sys2Proof

/-! ### Inputs (R277) -/

/-- A pulse input is true in this pip. -/
def State.pulse (s : State) (i : Nat) : State := { s with cap := { s.cap with pulses := setBit s.cap.pulses i } }

/-- Inputs 16-23 in level mode. -/
def State.tinLevels (s : State) : Nat :=
  maskOf ((List.range 8).filter (fun i =>
    let m := bits (s.reg R.TG_TIN_CFG) (2 * i) 2
    (m == 2 && bit s.cap.trigIn i) || (m == 3 && !bit s.cap.trigIn i)))

/-- Inputs 40-43: a counter is at or above its limit. -/
def State.atLimit (s : State) (c : Nat) : Bool := decide (s.reg (R.TG_CNT_LIMIT c) ≤ s.reg (R.TG_CNT c))

/-- Inputs 48-55 that are levels: loss of signal and CDR unlock of an enabled lane condition. -/
def State.laneCondLevel (s : State) (l : Nat) : Bool :=
  let n := s.get (R.TG_LANECOND_LANE l)
  let c := s.get (R.TG_LANECOND_COND l)
  s.has (R.TG_LANECOND_EN l) &&
    ((c == 0 && !s.has (R.LN_STATUS_SIGNAL n)) || (c == 1 && !s.has (R.LN_STATUS_CDR_LOCK n)))

/-- R277: a lane condition occurs on a lane: a pulse (2: disparity error or code violation; 3: comma realignment), or a level that has held
for part of the pip (0: loss of signal; 1: CDR unlock). -/
def State.laneCondPulse (s : State) (lane cond : Nat) : State :=
  iterate 8 (fun l t =>
    if t.has (R.TG_LANECOND_EN l) ∧ t.get (R.TG_LANECOND_LANE l) = lane ∧ t.get (R.TG_LANECOND_COND l) = cond then
      t.pulse (48 + l)
    else t) s

/-- R277: the 64 inputs in this pip, with the fabric lines as they are driven. -/
def State.inputs (s : State) (fabLines : Nat) : Nat :=
  s.cap.pulses ||| (2 ^ 16 * s.tinLevels) ||| (2 ^ 24 * (fabLines % 256))
    ||| (2 ^ 40 * maskOf ((List.range 4).filter s.atLimit)) ||| (2 ^ 48 * maskOf ((List.range 8).filter s.laneCondLevel))

/-- R278: a term over inputs. -/
def State.term (s : State) (t inp : Nat) : Bool :=
  let mask := s.reg (R.TG_TERM_MASK_LO t) + 2 ^ 32 * s.reg (R.TG_TERM_MASK_HI t)
  let hit := if s.has (R.TG_TERM_CTRL_OP t) then mask != 0 && (inp &&& mask) == mask else (inp &&& mask) != 0
  hit != s.has (R.TG_TERM_CTRL_INV t)

/-! ### Outputs (R283) -/

/-- R283, R162: a TRIG_OUT pulse of a width in pips begins; during a pulse it extends it. R662: its rise is told to every member where
TRIG_EXPORT says so. -/
def State.startPulse (s : State) (o width : Nat) : State :=
  let rises := (tblFind o s.cap.tout).isNone
  let stop := max (s.tb.now + width) ((tblFind o s.cap.tout).getD 0)
  let s : State := { s with cap := { s.cap with tout := tblPut o stop s.cap.tout } }
  if rises && bit (s.get R.NC_ARRAY_TRIG_EXPORT) o then s.tellMembers 0 o else s

/-- TRIG_OUT_PULSE_END (R283): the pulse of an output ends. -/
def execTrigOutPulseEnd (out : Fin 8) (s : State) : Host.Outcome State Fault Refusal :=
  .next { s with cap := { s.cap with tout := tblDel out.val s.cap.tout } }

/-- R283, R237: a queue-stop line fires: every queue that names it is triggered. -/
def State.fireLine (s : State) (line instant : Nat) (hits : List TrigFrame) : State :=
  forEach ((s.cap.queues.map Prod.fst).filter (fun q => s.get (R.CQ_CFG_TRIG_LINE q) == line)) (fun q t =>
    t.triggerQueue q instant ((hits.find? (fun f => f.queue == q && f.total.isSome)).bind (·.total))) s

/-! ### Arming (R285, R286) -/

/-- R285: the sequencer is armed, in OPERATE and THROTTLED. -/
def State.armTrigger (s : State) : State :=
  if !s.running then s
  else
    let s := ((((s.put R.TG_STATUS_ARMED 1).put R.TG_STATUS_STATE 0).put R.TG_STATUS_LAST_TRANS 0).setReg R.TG_TRANSITIONS 0)
    let s := iterate 4 (fun i t => (t.setReg (R.TG_CNT i) 0).setReg (R.TG_TMR i) 0) s
    let s := { s with cap := { s.cap with timers := [], armTurn := s.tb.turn, tpol := s.reg R.TG_TOUT_POL } }
    s.raise 220

/-- R286: the sequencer disarms. -/
def State.disarmTrigger (s : State) : State := s.put R.TG_STATUS_ARMED 0

/-! ### A sample (R279, R281) -/

/-- R281: the first transition of the current state that qualifies. -/
def State.qualifies (s : State) (inp j : Nat) : Bool :=
  let w := s.reg (R.TG_TR_COND (s.get R.TG_STATUS_STATE) j)
  bit w 7 && s.term (bits w 0 4) inp && (!bit w 15 || s.atLimit (bits w 8 2))

/-- R279: what a counter counts in a pip. -/
def State.countsNow (s : State) (c inp : Nat) : Nat :=
  if !s.has (R.TG_CNT_SRC_EN c) then 0
  else
    let sel := s.get (R.TG_CNT_SRC_SEL c)
    if s.has (R.TG_CNT_SRC_ALL_FIRINGS c) then (s.cap.frames.filter (fun f => bit f.bits sel)).length
    else b2n (s.term sel inp)

/-- R279: a counter takes its pip's count and the transition's operation (1 increment, 2 clear); reaching its limit raises
EV_TG_LIMIT. -/
def State.stepCounter (s : State) (c n op : Nat) : State :=
  let old := s.reg (R.TG_CNT c)
  let v := if op = 2 then 0 else satAdd 32 old (n + b2n (op == 1))
  let lim := s.reg (R.TG_CNT_LIMIT c)
  let s := s.setReg (R.TG_CNT c) v
  if old < lim ∧ lim ≤ v then s.raise 223 else s

/-- R280, R282: the timer operations of a transition. -/
def State.timerOps (s : State) (ops : Nat) : State :=
  iterate 4 (fun i t =>
    if bit ops (16 + i) then
      let u := t.setReg (R.TG_TMR i) (t.reg (R.TG_TMR_LOAD i))
      { u with cap := { u.cap with timers := i :: u.cap.timers.filter (· != i) } }
    else if bit ops (20 + i) then { t with cap := { t.cap with timers := t.cap.timers.filter (· != i) } }
    else t) s

/-- R283: a transition's outputs: queue-stop lines, TRIG_OUT pulses, replay start lines. -/
def State.transitionOutputs (s : State) (w1 : Nat) (instant : Nat) (hits : List TrigFrame) : State :=
  let s := iterate 16 (fun i t => if bit w1 i then t.fireLine i instant hits else t) s
  let s := iterate 8 (fun i t =>
    if bit w1 (16 + i) then t.startPulse i (bits (t.reg (R.TG_TOUT_WIDTH (i / 2))) (16 * (i % 2)) 16) else t) s
  iterate 8 (fun i t => if bit w1 (24 + i) then t.startLine i else t) s

/-- R283: a transition's context-switch requests. -/
def State.transitionRequests (s : State) (w2 : Nat) : State :=
  iterate 4 (fun i t =>
    if bit w2 i ∧ t.has (R.TG_CTXREQ_EN i) then
      requestSwitch t (t.get (R.TG_CTXREQ_GROUP i)) (t.get (R.TG_CTXREQ_PLANE i)) (2 + i) none
    else t) s

/-- R284, R282: the frames whose bits meet the transition's term are marked in their records, each of a chain (R226). -/
def State.markHits (s : State) (hits : List TrigFrame) : State :=
  forEach hits (fun f t => forEach (f.total.toList ++ f.more) (fun o t => t.markRecord f.queue o) t) s

/-- R281-R284, R286: transition j of the current state is taken, with the frames of the pip. -/
def State.takeTransition (s : State) (j : Nat) (frames : List TrigFrame) : State :=
  let st := s.get R.TG_STATUS_STATE
  let w0 := s.reg (R.TG_TR_COND st j)
  let w1 := s.reg (R.TG_TR_OUT st j)
  let w2 := s.reg (R.TG_TR_OPS st j)
  let mask := s.reg (R.TG_TERM_MASK_LO (bits w0 0 4)) % 65536
  let hits := frames.filter (fun f => (f.bits &&& mask) != 0)
  let instant := stampNat { s.nowStamp with fine := BitVec.ofNat 6 s.peekFree }
  let s := if bit w0 25 then s.drawn.markHits hits else s.drawn
  let s := (s.transitionOutputs w1 instant hits).transitionRequests w2
  let s := ((s.put R.TG_STATUS_STATE (bits w0 16 4)).put R.TG_STATUS_LAST_TRANS j).bump R.TG_TRANSITIONS_COUNT
  let s := if bit w0 26 then s.raise 221 else s
  if bit w0 24 then ((s.disarmTrigger).put R.TG_STATUS_FINAL_SEEN 1).raise 222 else s

/-- R277-R284: the matrix samples its inputs for one pip; the first qualifying transition is taken. What the sample's own actions pulse
is seen in the next pip (log entry 107), and so is a limit that a counter reaches by what it counts in this one (log entry 122). -/
def triggerSample (s : State) (fabLines : Nat) : State :=
  let frames := s.cap.frames
  let inp := s.inputs (s.fabricLines fabLines)
  let adds := (List.range 4).map (fun c => s.countsNow c inp)
  let s := { s with cap := { s.cap with pulses := 0, frames := [], sampled := true } }
  if !s.has R.TG_STATUS_ARMED ∨ !s.gatherClocked then s
  else
    let j := (List.range 4).find? (s.qualifies inp)
    let ops := match j with
      | some k => s.reg (R.TG_TR_OPS (s.get R.TG_STATUS_STATE) k)
      | none => 0
    let s := iterate 4 (fun c t => t.stepCounter c (adds.getD c 0) (bits ops (8 + 2 * c) 2)) s
    let s := s.timerOps ops
    match j with
    | some k => s.takeTransition k frames
    | none => s

/-- TRIGGER_TRANSITION (R281): the sample of one pip. `fabLines`: the fabric lines that the matrix already sees as an edge of this pip leaves
them (log entry 92). A pip is sampled once (R277). -/
def execTriggerTransition (fabLines : Byte) (s : State) : Host.Outcome State Fault Refusal :=
  if s.cap.sampled then .next s else .next (triggerSample s fabLines.toNat)

/-- TRIG_IN_EDGE (R277): the level at a TRIG_IN ball changes. A level that held for part of the pip counts for the pip. -/
def execTrigInEdge (pin : Fin 8) (level : Bool) (s : State) : Host.Outcome State Fault Refusal :=
  let i := pin.val
  let old := bit s.cap.trigIn i
  let m := bits (s.reg R.TG_TIN_CFG) (2 * i) 2
  let hit := (m == 0 && !old && level) || (m == 1 && old && !level) || (m == 2 && (old || level)) || (m == 3 && !(old && level))
  let s := { s with cap := { s.cap with trigIn := putBit s.cap.trigIn i level } }
  .next (if hit then s.pulse (16 + i) else s)

/-- R280: timer t reaches 0: its input is true in this pip, and it stops. -/
def State.timerExpires (s : State) (t : Nat) : State :=
  let s := (s.setReg (R.TG_TMR t) 0).pulse (44 + t)
  { s with cap := { s.cap with timers := s.cap.timers.filter (· != t) } }

/-- TRIGGER_TIMER_EXPIRY (R280): a running timer reaches 0. -/
def execTriggerTimerExpiry (t : Fin 4) (s : State) : Host.Outcome State Fault Refusal :=
  if s.cap.timers.contains t.val then .next (s.timerExpires t.val) else .next s

/-- R280: the timers that run count down by one pip, armed or not. -/
def State.countTimers (s : State) : State :=
  forEach s.cap.timers (fun i t =>
    let v := t.reg (R.TG_TMR i)
    if v ≤ 1 then t.timerExpires i else t.setReg (R.TG_TMR i) (v - 1)) s

/-- TRIGGER_COUNTER_LIMIT (R279, R293): an enabled counter has counted up to its limit. -/
def execTriggerCounterLimit (c : Fin 4) (s : State) : Host.Outcome State Fault Refusal :=
  let lim := s.reg (R.TG_CNT_LIMIT c.val)
  if s.has R.TG_STATUS_ARMED ∧ s.has (R.TG_CNT_SRC_EN c.val) ∧ s.reg (R.TG_CNT c.val) < lim then
    .next ((s.setReg (R.TG_CNT c.val) lim).raise 223)
  else .next s

/-! ### Commands (R295) -/

/-- The claim of the trigger sequencer. -/
def ownsTrigger (s : State) (mb : Nat) : Chk := failIf (!s.holds mb (claimKey 5 0)) stNotOwner 0

/-- The enabled lane conditions' lanes, and the enabled context requests' groups, of a TG_MATRIX_SET payload. -/
def matrixLanes (p : List Byte) : List Nat :=
  ((List.range 8).filter (fun l => le p (26 + 4 * l) 1 == 1)).map (fun l => le p (24 + 4 * l) 1)

def matrixGroups (p : List Byte) : List Nat :=
  ((List.range 4).filter (fun r => le p (58 + 4 * r) 1 == 1)).map (fun r => le p (56 + 4 * r) 1)

/-- TG_MATRIX_SET (R295, R884). -/
def cmdTgMatrixSet : Cmd where
  code := 0x0506
  lenOk := lenIs 328
  lenReq := 328
  checks := fun s mb r =>
    let p := r.payload
    let lanes := (List.range 96).filter (fun n => (matrixLanes p).contains n)
    let regions := inOrder (((matrixGroups p).filter (· < 64)).flatMap s.groupMembers)
    [onlyRunning s, ownsTrigger s mb,
     owned s mb ((lanes.filter (· < s.lanes)).map (fun n => (n, claimKey 1 n))),
     owned s mb (regions.map (fun x => (x, claimKey 4 x))), reserved0 p 2 2]
      ++ (List.range 8).map (fun i => param (4 + 2 * i) (le p (4 + 2 * i) 2 != 0)) ++ [reserved0 p 21 3]
      ++ (List.range 8).flatMap (fun l =>
        let o := 24 + 4 * l
        [param o (decide (le p o 1 ≤ 95)), param (o + 1) (decide (le p (o + 1) 1 ≤ 3)),
         param (o + 2) (decide (le p (o + 2) 1 ≤ 1)), reserved0 p (o + 3) 1])
      ++ (List.range 4).flatMap (fun k =>
        let o := 56 + 4 * k
        [param o (decide (le p o 1 ≤ 63)), param (o + 1) (decide (le p (o + 1) 1 ≤ 7)),
         param (o + 2) (decide (le p (o + 2) 1 ≤ 1)), reserved0 p (o + 3) 1])
      ++ (List.range 16).flatMap (fun k =>
        let o := 72 + 16 * k
        [param (o + 8) (decide (le p (o + 8) 1 ≤ 1)), param (o + 9) (decide (le p (o + 9) 1 ≤ 1)), reserved0 p (o + 10) 6])
      ++ [failIf (s.has R.TG_STATUS_ARMED) stRefusedArmed 0,
          (lanes.find? (fun n => decide (s.lanes ≤ n))).map (fun n => (stNoResource, n))]
  act := fun s _ r =>
    let p := r.payload
    let s := (s.setReg R.TG_TIN_CFG (le p 0 2)).setReg R.TG_TOUT_POL (le p 20 1)
    let s := iterate 4 (fun i t => t.setReg (R.TG_TOUT_WIDTH i) (le p (4 + 4 * i) 4)) s
    let s := iterate 8 (fun l t =>
      t.setReg (R.TG_LANECOND l) (le p (24 + 4 * l) 1 + 256 * le p (25 + 4 * l) 1 + 2 ^ 15 * le p (26 + 4 * l) 1)) s
    let s := iterate 4 (fun k t =>
      t.setReg (R.TG_CTXREQ k) (le p (56 + 4 * k) 1 + 256 * le p (57 + 4 * k) 1 + 2 ^ 15 * le p (58 + 4 * k) 1)) s
    let s := iterate 16 (fun k t =>
      let o := 72 + 16 * k
      ((t.setReg (R.TG_TERM_MASK_LO k) (le p o 4)).setReg (R.TG_TERM_MASK_HI k) (le p (o + 4) 4)).setReg (R.TG_TERM_CTRL k)
        (le p (o + 8) 1 + 2 * le p (o + 9) 1)) s
    replyOk s []

def execTgMatrixSet (mb : Fin 16) (req : Request) (s : State) : Host.Outcome State Fault Refusal :=
  commandRow cmdTgMatrixSet mb req s

/-- R282: the bits that a transition may set: bytes 0-3 and 8-11. -/
def trCondBits : Nat := 0x070F838F
def trOpsBits : Nat := 0x00FFFF0F

/-- R282: is a transition's layout kept: reserved bits 0, and no CNT_OPS of 0b11. `o` is its offset. -/
def transitionChecks (p : List Byte) (o : Nat) : List Chk :=
  let w2 := le p (o + 8) 4
  [param o ((le p o 4 ||| trCondBits) == trCondBits),
   param (o + 8) ((w2 ||| trOpsBits) == trOpsBits && (List.range 4).all (fun c => bits w2 (8 + 2 * c) 2 != 3)),
   reserved0 p (o + 12) 4]

/-- TG_SEQ_LOAD (R295). -/
def cmdTgSeqLoad : Cmd where
  code := 0x0507
  lenOk := lenIs 1072
  lenReq := 1072
  checks := fun s mb r =>
    let p := r.payload
    [onlyRunning s, ownsTrigger s mb]
      ++ (List.range 4).flatMap (fun c => [param (4 + 8 * c) (bits (le p (4 + 8 * c) 1) 4 2 == 0), reserved0 p (5 + 8 * c) 3])
      ++ (List.range 64).flatMap (fun i => transitionChecks p (48 + 16 * i))
      ++ [failIf (s.has R.TG_STATUS_ARMED) stRefusedArmed 0]
  act := fun s _ r =>
    let p := r.payload
    let s := iterate 4 (fun c t =>
      ((t.setReg (R.TG_CNT_LIMIT c) (le p (8 * c) 4)).setReg (R.TG_CNT_SRC c) (le p (4 + 8 * c) 1)).setReg (R.TG_TMR_LOAD c)
        (le p (32 + 4 * c) 4)) s
    let s := iterate 64 (fun i t =>
      let o := 48 + 16 * i
      ((t.setReg (R.TG_TR_COND (i / 4) (i % 4)) (le p o 4)).setReg (R.TG_TR_OUT (i / 4) (i % 4)) (le p (o + 4) 4)).setReg
        (R.TG_TR_OPS (i / 4) (i % 4)) (le p (o + 8) 4)) s
    replyOk s []

def execTgSeqLoad (mb : Fin 16) (req : Request) (s : State) : Host.Outcome State Fault Refusal :=
  commandRow cmdTgSeqLoad mb req s

/-- TG_ARM (R285): at pip 0 of the turn after the response. -/
def cmdTgArm : Cmd where
  code := 0x0508
  lenOk := lenIs 0
  lenReq := 0
  checks := fun s mb _ => [onlyRunning s, ownsTrigger s mb]
  act := fun s _ _ => replyOk (s.latch [.trigArm]) (turnBytes s.effectTurn)

def execTgArm (mb : Fin 16) (req : Request) (s : State) : Host.Outcome State Fault Refusal := commandRow cmdTgArm mb req s

/-- TG_DISARM (R286). -/
def cmdTgDisarm : Cmd where
  code := 0x0509
  lenOk := lenIs 0
  lenReq := 0
  checks := fun s mb _ => [onlyRunning s, ownsTrigger s mb]
  act := fun s _ _ => replyOk (s.latch [.trigDisarm]) (turnBytes s.effectTurn)

def execTgDisarm (mb : Fin 16) (req : Request) (s : State) : Host.Outcome State Fault Refusal :=
  commandRow cmdTgDisarm mb req s

/-- TG_STATUS (R295). -/
def cmdTgStatus : Cmd where
  code := 0x050A
  lenOk := lenIs 0
  lenReq := 0
  checks := fun _ _ _ => []
  act := fun s _ _ =>
    replyOk s (toLE 4 (s.reg R.TG_STATUS) ++ toLE 4 (s.reg R.TG_TRANSITIONS) ++ toLE 6 s.cap.armTurn ++ zeros 2
      ++ (List.range 4).flatMap (fun c => toLE 4 (s.reg (R.TG_CNT c))) ++ (List.range 4).flatMap (fun t => toLE 4 (s.reg (R.TG_TMR t))))

def execTgStatus (mb : Fin 16) (req : Request) (s : State) : Host.Outcome State Fault Refusal := commandRow cmdTgStatus mb req s

end Sys2Proof.Machine
end

