-- ==== Sys2Proof/Machine/Lanes.lean ====
section
/-!
DEFINITION. Machine/Lanes.lean: test lanes and seam lanes: lock, the PCS, power states, loopbacks, patterns, error injection, the
eye monitor, settings and the lane commands (R605-R638).
-/

namespace Sys2Proof.Machine

open Sys2Proof

/-! ### Lanes and quads (R605, R606, R637) -/

/-- The lanes of a quad. -/
def quadLanes (q : Nat) : List Nat :=
  if q < 24 then (List.range 4).map (· + 4 * q) else (List.range 6).map (· + (96 + 6 * (q - 24)))

/-- R7: is a lane fitted? -/
def State.fitted (s : State) (n : Nat) : Bool := decide (n < s.lanes) || decide (96 ≤ n)

/-- R637: a bit of LN_FLAGS becomes 1; the lane's event is raised when LN_EVT_MASK admits it. -/
def State.laneFlag (s : State) (n i : Nat) : State :=
  let f := s.reg (R.LN_FLAGS n)
  if bit f i then s
  else
    let s := s.setReg (R.LN_FLAGS n) (setBit f i)
    if bit (s.get (R.LN_EVT_MASK_MASK n)) i then s.raise (80 + n) else s

/-! ### Receive state (R608-R612) -/

/-- R652, R669: NC_SEAM_STATUS.LANES of a live link follows the LOCK of its lanes. -/
def State.showPortLane (s : State) (n : Nat) (on : Bool) : State :=
  let p := (n - 96) / 6
  let f := R.NC_SEAM_STATUS_LANES p
  if n < 96 ∨ !s.seamLive p then s
  else s.put f (if on then setBit (s.get f) ((n - 96) % 6) else clearBit (s.get f) ((n - 96) % 6))

/-- LOCK follows CDR_LOCK and ALIGNED (R609); when it falls an open frame ends with TRUNCATED (R612). -/
def State.showLock (s : State) (n : Nat) : State :=
  let raw := n < 96 && s.has (R.LN_CTRL_MODE n)
  let on := s.has (R.LN_STATUS_CDR_LOCK n) && (raw || s.has (R.LN_STATUS_ALIGNED n))
  let was := s.has (R.LN_STATUS_LOCK n)
  let s := (s.put (R.LN_STATUS_LOCK n) (b2n on)).showPortLane n on
  if was && !on && decide (n < 96) then (s.cutFrame n).dropPart n else s

/-- CDR_LOCK falls: UNLOCK_SEEN, its count, ALIGNED and LOCK (R609), a break of pass-through (R321). -/
def State.dropCdr (s : State) (n : Nat) : State :=
  if s.has (R.LN_STATUS_CDR_LOCK n) then
    let s := ((s.put (R.LN_STATUS_CDR_LOCK n) 0).put (R.LN_STATUS_ALIGNED n) 0).showLock n
    let s := (s.bump (R.LN_CNT_LINK_UNLOCK n)).laneFlag n 1
    if n < 96 then s.passBreak n else s
  else s

/-- SIGNAL clears; LOS_SEEN is reported only in P0 and P1 (R621). -/
def State.dropSignal (s : State) (n : Nat) (seen : Bool) : State :=
  if s.has (R.LN_STATUS_SIGNAL n) then
    let s := s.put (R.LN_STATUS_SIGNAL n) 0
    let s := if seen then s.laneFlag n 0 else s
    if n < 96 then s.passBreak n else s
  else s

/-- R277: a lane condition that is a level ends within a pip in which it has held: it counts for that pip. -/
def State.levelEnds (s : State) (n cond : Nat) (f : Nat → RF) : State :=
  if n < 96 ∧ !s.has (f n) then s.laneCondPulse n cond else s

/-- SIGNAL_DETECT (R609). -/
def execSignalDetect (lane : Fin 120) (s : State) : Host.Outcome State Fault Refusal :=
  let n := lane.val
  if s.fitted n && decide (s.get (R.LN_STATUS_PSTATE n) ≤ 1) then .next ((s.levelEnds n 0 R.LN_STATUS_SIGNAL).put (R.LN_STATUS_SIGNAL n) 1) else .next s

/-- SIGNAL_LOSS (R609, R623): under a loopback the receiver takes the looped stream, and its lock stands. -/
def execSignalLoss (lane : Fin 120) (s : State) : Host.Outcome State Fault Refusal :=
  let n := lane.val
  if s.has (R.LN_STATUS_SIGNAL n) then
    let s := s.dropSignal n true
    .next (if s.get (R.LN_STATUS_LOOP n) = 0 then s.dropCdr n else s)
  else .next s

/-- The signed value of a word. -/
def signed32 (v : Nat) : Int := if v < 2 ^ 31 then v else (v : Int) - 2 ^ 32

/-- CDR_LOCK_ACQUIRED (R608, R610): the recovered rate lies `off` tenths of ppm from the lane rate. -/
def execCdrLockAcquired (lane : Fin 120) (off : BitVec 32) (s : State) : Host.Outcome State Fault Refusal :=
  let n := lane.val
  let near := decide ((signed32 off.toNat).natAbs ≤ 10000)
  let s := if s.fitted n then s.setReg (R.LN_FREQ_OFF n) off.toNat else s
  let ready := s.fitted n && s.get (R.LN_STATUS_PSTATE n) == 0 && s.has (R.LN_STATUS_PLL_LOCK n)
    && (s.has (R.LN_STATUS_SIGNAL n) || s.get (R.LN_STATUS_LOOP n) != 0)
  if ready && near then .next (((s.levelEnds n 1 R.LN_STATUS_CDR_LOCK).put (R.LN_STATUS_CDR_LOCK n) 1).showLock n) else .next s

/-- CDR_UNLOCK (R608). -/
def execCdrUnlock (lane : Fin 120) (s : State) : Host.Outcome State Fault Refusal := .next (s.dropCdr lane.val)

/-- COMMA_ALIGN (R613, R614): a comma of K28.1, K28.5 or K28.7 arrives, at the present bit position or at another. With ALIGN_WORD the
characters since the last word boundary are discarded, and the comma begins a word. -/
def execCommaAlign (lane : Fin 120) (comma : Fin 3) (moved : Bool) (s : State) : Host.Outcome State Fault Refusal :=
  let n := lane.val
  let raw := n < 96 && s.has (R.LN_CTRL_MODE n)
  if raw || !s.has (R.LN_STATUS_CDR_LOCK n) || !bit (s.get (R.LN_CTRL_COMMAS n)) comma.val then .next s
  else if !s.has (R.LN_STATUS_ALIGNED n) then .next ((s.put (R.LN_STATUS_ALIGNED n) 1).showLock n)
  else if moved && !s.has (R.LN_CTRL_ALIGN n) then
    let s := (s.bump (R.LN_CNT_LINK_REALIGN n)).laneFlag n 4
    let s := if s.has (R.LN_CTRL_ALIGN_WORD n) then s.dropPart n else s
    .next (if n < 96 then s.laneCondPulse n 3 else s)
  else .next s

/-- ALIGNMENT_LOSS (R609): 16 code violations in 64 characters. -/
def execAlignmentLoss (lane : Fin 120) (s : State) : Host.Outcome State Fault Refusal :=
  .next ((s.put (R.LN_STATUS_ALIGNED lane.val) 0).showLock lane.val)

/-- LANE_CODE_ERROR (R615, R612): a decoded character with a disparity error or a code violation. -/
def execLaneCodeError (lane : Fin 120) (viol : Bool) (s : State) : Host.Outcome State Fault Refusal :=
  let n := lane.val
  if !s.has (R.LN_STATUS_LOCK n) || (n < 96 && s.has (R.LN_CTRL_MODE n)) then .next s
  else
    let s := if viol then (s.bump (R.LN_CNT_CODE_COUNT n)).laneFlag n 3 else (s.bump (R.LN_CNT_DISP_COUNT n)).laneFlag n 2
    .next (if n < 96 then s.laneCondPulse n 2 else s)

/-- EYE_CALIBRATION_DONE (R611): the latency goes to GU_LAT; the equaliser settings that it finds are free values. -/
def execEyeCalibrationDone (lane : Fin 120) (lat : BitVec 16) (s : State) : Host.Outcome State Fault Refusal :=
  let n := lane.val
  if !s.has (R.LN_STATUS_LOCK n) || s.has (R.LN_STATUS_CAL_DONE n) then .next s
  else
    let s := if s.has (R.LN_CTRL_ADAPT n) then
        let v := s.peekFree
        ((s.put (R.LN_RX_EQ_CTLE n) v).put (R.LN_RX_EQ_DFE1 n) (v / 32)).drawn
      else s
    let s := if n < 96 then s.put (R.GU_LAT_LAT n) lat.toNat else s
    .next ((s.put (R.LN_STATUS_CAL_DONE n) 1).laneFlag n 8)

/-! ### Quad PLLs (R621, R631, R636) -/

/-- PLL_LOCK of a quad and of its lanes. -/
def State.setPll (s : State) (q : Nat) (on : Bool) : State :=
  forEach ((quadLanes q).filter (fun n => s.fitted n)) (fun n t => t.put (R.LN_STATUS_PLL_LOCK n) (b2n on))
    (s.put (R.LN_Q_STATUS_PLL_LOCK q) (b2n on))

/-- A quad PLL loses lock: PLL_UNLOCK_SEEN. -/
def State.unlockPll (s : State) (q : Nat) : State :=
  if s.has (R.LN_Q_STATUS_PLL_LOCK q) then (s.put (R.LN_Q_STATUS_PLL_UNLOCK_SEEN q) 1).setPll q false else s

/-- QUAD_PLL_LOCK (R631). -/
def execQuadPllLock (q : Fin 28) (s : State) : Host.Outcome State Fault Refusal :=
  if s.has (R.LN_Q_STATUS_POWERED q.val) then .next (s.setPll q.val true) else .next s

/-- QUAD_PLL_UNLOCK (R636). -/
def execQuadPllUnlock (q : Fin 28) (s : State) : Host.Outcome State Fault Refusal := .next (s.unlockPll q.val)

/-- R621: a lane enters a power state: out of P0 the receiver loses lock, and in P2 and P3 the signal too. -/
def State.enterPower (s : State) (n p : Nat) : State :=
  let s := s.put (R.LN_STATUS_PSTATE n) p
  let s := if p = 0 then s else s.dropCdr n
  if 2 ≤ p then s.dropSignal n false else s

/-- R621: a quad PLL is off while all its lanes are in P3. -/
def State.showPower (s : State) (q : Nat) : State :=
  let l := (quadLanes q).filter (fun n => s.fitted n)
  let on := l.any (fun n => s.get (R.LN_STATUS_PSTATE n) != 3)
  let s := s.put (R.LN_Q_STATUS_POWERED q) (b2n on)
  if on then s else s.setPll q false

/-- Lanes and quads are powered down (R187, R731). -/
def State.lanesOff (s : State) : State :=
  let s := forEach ((List.range 120).filter (fun n => s.fitted n)) (fun n t => t.enterPower n 3) s
  iterate 28 (fun q t => t.showPower q) s

/-- R733, step 5: lanes and quads are brought to their configured state. -/
def State.lanesWake (s : State) : State :=
  let s := forEach ((List.range 120).filter (fun n => s.fitted n)) (fun n t => t.enterPower n (t.get (R.LN_CTRL_PSTATE n))) s
  iterate 28 (fun q t => t.showPower q) s

/-- R622: after BOOT every fitted test lane is in P1 with its settings of power-on reset. -/
def State.lanesBoot (s : State) : State :=
  let s := forEach (List.range s.lanes) (fun n t =>
    ((((t.setReg (R.LN_CTRL n) 0x9100).setReg (R.LN_TX_EQ n) 0x083000).setReg (R.LN_IDLE n) 0x1BC).put (R.LN_STATUS_LOOP n) 0).put
      (R.LN_STATUS_CAL_DONE n) 0) s
  let s := iterate 24 (fun q t => ((t.setReg (R.LN_Q_CTRL q) 0).setReg (R.LN_Q_RATE q) 0x989680)) s
  let s := forEach (List.range s.lanes) (fun n t => t.enterPower n 1) s
  iterate 24 (fun q t => if 4 * q < t.lanes then t.showPower q else t) s

/-! ### Settings at a turn boundary (R611, R631, R632, R635) -/

/-- Did the settings of a quad change between two states? -/
def quadChanged (old new : State) (q : Nat) : Bool :=
  old.reg (R.LN_Q_CTRL q) != new.reg (R.LN_Q_CTRL q) || old.reg (R.LN_Q_RATE q) != new.reg (R.LN_Q_RATE q)

/-- R631, R632: lane settings have become active: power states and loopbacks take effect; lanes whose rate, mode, clock mode,
reference or loopback changed drop LOCK. `old`: the device before. -/
def State.lanesApply (s old : State) : State :=
  let fit := (List.range 120).filter (fun n => s.fitted n)
  let s := iterate 28 (fun q t => if quadChanged old t q then t.unlockPll q else t) s
  let s := forEach fit (fun n t =>
    let f (x : RF) : Bool := old.get x != t.get x
    let q := quadChanged old t (laneQuad n)
    let rate := q || f (R.LN_CTRL_MODE n) || f (R.LN_CTRL_DIV n)
    let loop := f (R.LN_CTRL_LOOP n)
    let relock := loop || ((rate && (!q || t.get (R.LN_CTRL_PSTATE n) != 3)))
    let t := t.put (R.LN_STATUS_LOOP n) (t.get (R.LN_CTRL_LOOP n))
    let t := if rate then t.put (R.LN_STATUS_CAL_DONE n) 0 else t
    let t := if relock then t.dropCdr n else t
    if f (R.LN_CTRL_PSTATE n) then t.enterPower n (t.get (R.LN_CTRL_PSTATE n)) else t) s
  iterate 28 (fun q t =>
    if (quadLanes q).any (fun n => old.get (R.LN_CTRL_PSTATE n) != t.get (R.LN_CTRL_PSTATE n)) then t.showPower q else t) s

/-- R635: the counters of a lane are cleared. -/
def State.clearLane (s : State) (n : Nat) : State :=
  [R.LN_CNT_DISP n, R.LN_CNT_CODE n, R.LN_CNT_LINK n, R.LN_PRBS_BITS_LO n, R.LN_PRBS_BITS_HI n, R.LN_PRBS_ERR_LO n,
   R.LN_PRBS_ERR_HI n].foldl (fun t o => t.setReg o 0) s

/-! ### Pattern checker (R625) -/

/-- Bits compared and mismatches are counted. -/
def State.countPrbs (s : State) (n bitsN errs : Nat) : State :=
  (s.inc64 (R.LN_PRBS_BITS_LO n) (R.LN_PRBS_BITS_HI n) bitsN).inc64 (R.LN_PRBS_ERR_LO n) (R.LN_PRBS_ERR_HI n) errs

/-- PRBS_SYNC_ACQUIRED (R625). -/
def execPrbsSyncAcquired (lane : Fin 120) (s : State) : Host.Outcome State Fault Refusal :=
  let n := lane.val
  if s.has (R.LN_PRBS_CTRL_CHK_EN n) && s.has (R.LN_STATUS_LOCK n) then .next (s.put (R.LN_STATUS_PRBS_SYNC n) 1) else .next s

/-- PRBS_BIT_ERROR (R625): a mismatch; `compared` bits were compared since the last row of the checker. -/
def execPrbsBitError (lane : Fin 120) (compared : BitVec 32) (s : State) : Host.Outcome State Fault Refusal :=
  let n := lane.val
  if s.has (R.LN_STATUS_PRBS_SYNC n) && s.has (R.LN_STATUS_LOCK n) then .next ((s.countPrbs n compared.toNat 1).laneFlag n 5)
  else .next s

/-- PRBS_SYNC_LOSS (R625): 32 of 64 bits mismatch. -/
def execPrbsSyncLoss (lane : Fin 120) (compared errors : BitVec 32) (s : State) : Host.Outcome State Fault Refusal :=
  let n := lane.val
  if s.has (R.LN_STATUS_PRBS_SYNC n) && s.has (R.LN_STATUS_LOCK n) then
    let s := s.countPrbs n compared.toNat errors.toNat
    let s := if errors.toNat = 0 then s else s.laneFlag n 5
    .next ((s.put (R.LN_STATUS_PRBS_SYNC n) 0).laneFlag n 6)
  else .next s

/-! ### Error injection (R627, R628) -/

/-- R627, R628: has the instant of a lane's pending injection come? One waits while a substitution realigns the running disparity. -/
def State.injectionDue (s : State) (n : Nat) (j : Injection) : Bool :=
  !s.rep.realign.contains n && (tblFind n s.rep.fixing).isNone && (match j.next with
    | some t => decide (t < s.nowFine + 64)
    | none => (s.instantOf j.turn j.pip).any (fun t => decide (t ≤ s.tb.now)))

/-- R627: how long SPACING words last on a lane, in 1/64 pips. -/
def State.spacingFine (s : State) (n spacing : Nat) : Nat :=
  bitsFine (s.rateOf n) (spacing * wordBits (s.get (R.LN_CTRL_MODE n)) (s.get (R.LN_CTRL_WIDTH n)))

/-- ERROR_INJECTION: a pending injection acts on the transmitted stream, at or after its instant and then every SPACING words
(`phys.injected`: the KIND and the instant of a lane's last action); the last one sets INJ_DONE. -/
def execErrorInjection (lane : Fin 120) (s : State) : Host.Outcome State Fault Refusal :=
  let n := lane.val
  match tblFind n s.phys.inj with
  | none => .next s
  | some j =>
    if !s.injectionDue n j then .next s
    else
      let left := s.get (R.LN_INJ_LEFT n) - 1
      let acts := max s.nowFine (j.next.getD 0)
      let inj := if left = 0 then tblDel n s.phys.inj else tblPut n { j with next := some (acts + s.spacingFine n j.spacing) } s.phys.inj
      let phys := { s.phys with inj := inj, injected := tblPut n (s.get (R.LN_INJ_KIND n), acts) s.phys.injected }
      let s := ({ s with phys := phys } : State).put (R.LN_INJ_LEFT n) left
      .next (if left = 0 then (s.put (R.LN_STATUS_INJ_PEND n) 0).laneFlag n 7 else s)

/-! ### Eye monitor (R630) -/

def eyeCols (e : EyeScan) : Nat := 64 / e.pStride
def eyeRows (e : EyeScan) : Nat := 256 / e.vStride

/-- R630: the bytes of a result. -/
def eyeBytes (s : State) (e : EyeScan) (n : Nat) (valid : Bool) (counts : List (BitVec 32)) : List Byte :=
  let pts := eyeCols e * eyeRows e
  toLE 2 n ++ toLE 2 (eyeCols e) ++ toLE 2 (eyeRows e) ++ toLE 1 e.dwell ++ toLE 1 (b2n valid) ++ toLE 4 (s.rateOf n) ++ zeros 20
    ++ (List.range pts).flatMap (fun i => toLE 4 ((counts.getD i 0).toNat))

/-- EYE_SCAN_LANE_DONE (R630): the next lane's result is written; after the last one the notice carries OK. A scan whose operation
was stopped is over. -/
def execEyeScanLaneDone (valid : Bool) (counts : List (BitVec 32)) (s : State) : Host.Outcome State Fault Refusal :=
  match s.phys.scan with
  | none => .next s
  | some e =>
    match s.opOf e.op.1 e.op.2, e.lanes with
    | some o, n :: rest =>
      let ok := valid && s.has (R.LN_STATUS_LOCK n)
      let b := eyeBytes s e n ok counts
      let s := (stackWrite s 0xF0 (some 48) e.dest b none).1
      let done := 100 * (e.total - rest.length) / max 1 e.total
      let next : EyeScan := { e with dest := e.dest + b.length, lanes := rest }
      if rest.isEmpty then .next (({ s with phys := { s.phys with scan := none } } : State).endOp o stOk 0)
      else
        .next { s with phys := { s.phys with scan := some next },
                       gaf := { s.gaf with ops := s.gaf.ops.map (fun x => if x = o then { o with progress := done } else x) } }
    | _, _ => .next { s with phys := { s.phys with scan := none } }

/-! ### Checks that the lane commands share (R638) -/

/-- Check 6 for a lane: a fitted test lane is claimed; a seam lane takes the mailboxes of R638. -/
def ownsAnyLane (s : State) (mb n detail : Nat) : Chk :=
  if n < 96 then ownsLane s mb n detail
  else if n < 120 then onlyMailboxes mb [0, 1, 2, 3, 8, 9] else none

/-- R638: a seam lane whose port is in use by an array link (R669). -/
def seamInUse (s : State) (n detail : Nat) : Chk :=
  failIf (decide (96 ≤ n) && decide (n < 120) && s.has (R.NC_SEAM_CTRL_MODE ((n - 96) / 6))) stRefusedArmed detail

/-- A lane that is absent on LF96-48. -/
def anyLaneAbsent (s : State) (n detail : Nat) : Chk := failIf (decide (n < 96) && decide (s.lanes ≤ n)) stNoResource detail

/-- R355: is a word clock within the limit? -/
def wordClockOk (s : State) (kbps mode width : Nat) : Bool :=
  decide (kbps ≤ 1000 * (if s.get R.ID_VARIANT_SPEED = 2 then 500 else 600) * wordBits mode width)

/-- The rate that a lane will have. -/
def State.pendingKbps (s : State) (n : Nat) : Nat :=
  s.pendingField (R.LN_Q_RATE_BASE_KBPS (laneQuad n)) / 2 ^ s.pendingField (R.LN_CTRL_DIV n)

/-- The turn of effect, as LN_CONFIGURE answers it. -/
def turnReply (s : State) : List Byte := toLE 6 s.effectTurn ++ zeros 2

/-! ### Commands (R638) -/

/-- LN_CONFIGURE (R613, R617-R620, R633). -/
def cmdLnConfigure : Cmd where
  code := 0x0900
  lenOk := lenIs 24
  lenReq := 24
  checks := fun s mb r =>
    let p := r.payload
    let n := le p 0 2
    let mode := le p 2 1
    let width := le p 3 1
    let rate := s.pendingKbps n
    let armed := mode == 1 && (s.pendingField (R.GU_CTRL_FRAMING n) == 1
      || (s.pendingField (R.RP_PT_CTRL_EN n) == 1 && s.pendingField (R.RP_PT_CTRL_SUB_EN n) == 1)
      || (s.pendingField R.TS_CTRL_SOURCE == 2 && s.pendingField R.TS_CTRL_MARKER_LANE == n
          && s.pendingField R.TS_CTRL_MARKER_K != 0))
    [onlyRunning s, ownsLane s mb n n, param 0 (decide (n < 96)),
     param 2 (decide (mode ≤ 1) && (mode == 1 || decide (rate ≤ 16000000))),
     param 3 (decide (width ≤ (if mode = 0 then 1 else 3)) && wordClockOk s rate mode width), param 4 (decide (le p 4 1 < 32)),
     param 5 (decide (le p 5 1 ≤ 1)), param 6 (decide (le p 6 1 ≤ 7)), param 7 (decide (le p 7 1 ≤ 2)),
     param 8 (decide (le p 8 2 < 512)), param 10 (decide (le p 10 1 < wordBits mode width)), reserved0 p 11 1,
     param 12 (decide (le p 12 1 ≤ 31) && decide (le p 12 1 + le p 13 1 + le p 14 1 ≤ 63)), param 13 (decide (le p 13 1 ≤ 63)),
     param 14 (decide (le p 14 1 ≤ 63)), reserved0 p 15 1, param 16 (decide (le p 16 4 < 512)), reserved0 p 20 4,
     failIf armed stRefusedArmed n, laneAbsent s n, laneHeld s n n]
  act := fun s _ r =>
    let p := r.payload
    let n := le p 0 2
    let fl := le p 4 1
    let es := [tl (R.LN_CTRL_MODE n) (le p 2 1), tl (R.LN_CTRL_WIDTH n) (le p 3 1), tl (R.LN_CTRL_RX_POL n) (bits fl 0 1),
      tl (R.LN_CTRL_TX_POL n) (bits fl 1 1), tl (R.LN_CTRL_ALIGN_WORD n) (bits fl 2 1), tl (R.LN_CTRL_ADAPT n) (bits fl 3 1),
      tl (R.LN_CTRL_ALIGN n) (le p 5 1), tl (R.LN_CTRL_COMMAS n) (le p 6 1), tl (R.LN_CTRL_TX_IDLE n) (le p 7 1),
      tl (R.LN_IDLE_IDLE_CHAR n) (le p 8 2), tl (R.LN_IDLE_SLIP n) (le p 10 1), tl (R.LN_TX_EQ_PRE n) (le p 12 1),
      tl (R.LN_TX_EQ_MAIN n) (le p 13 1), tl (R.LN_TX_EQ_POST n) (le p 14 1)] ++ (if bit fl 4 then [Edit.laneClear n] else [])
    replyOk ((s.latch es).put (R.LN_EVT_MASK_MASK n) (le p 16 4)) (turnReply s)

def execLnConfigure (mb : Fin 16) (req : Request) (s : State) : Host.Outcome State Fault Refusal := commandRow cmdLnConfigure mb req s

/-- An entry of LN_SET_RATE. -/
structure RateEntry where
  lane : Nat
  flags : Nat
  zero : Nat
  rate : Nat

def rateEntries (p : List Byte) : List RateEntry :=
  (entriesOf p 4 8 (le p 0 2)).map (fun e => ⟨le e 0 2, le e 2 1, le e 3 1, le e 4 4⟩)

/-- 8 times the rate that a lane of a quad will have, where the entries do not name it. -/
def keptRate (s : State) (n : Nat) : Nat := s.pendingField (R.LN_Q_RATE_BASE_KBPS (laneQuad n)) * 8 / 2 ^ s.pendingField (R.LN_CTRL_DIV n)

/-- The lanes of a quad that a base rate must serve, with 8 times their rates: those named, and the others not in P3. -/
def quadRates (s : State) (l : List RateEntry) (q : Nat) : List (Nat × Nat) :=
  ((quadLanes q).filter (fun n => s.fitted n)).filterMap (fun n =>
    match (l.filter (fun e => e.lane == n)).getLast? with
    | some e => some (n, 8 * e.rate)
    | none => if s.pendingField (R.LN_CTRL_PSTATE n) = 3 then none else some (n, keptRate s n))

/-- Log2 of the divider by which a base rate serves a rate (8 times it), exactly. -/
def dividerFor (base rate8 : Nat) : Option Nat := (List.range 4).find? (fun d => base * 8 == rate8 * 2 ^ d)

/-- R606, R638: the base rate of a quad: its present one when it serves every lane, else the lowest that does. -/
def baseFor (s : State) (l : List RateEntry) (q : Nat) : Option Nat :=
  let rates := (quadRates s l q).map (·.2)
  let serves (b : Nat) : Bool := decide (8000000 ≤ b) && decide (b ≤ 28200000) && rates.all (fun r => (dividerFor b r).isSome)
  let now := s.pendingField (R.LN_Q_RATE_BASE_KBPS q)
  if serves now then some now
  else leastOf ((rates.flatMap (fun r => (List.range 4).map (fun d => r * 2 ^ d / 8))).filter serves)

/-- Would the settings of a quad change? -/
def quadWouldChange (s : State) (l : List RateEntry) (q flags : Nat) : Bool :=
  baseFor s l q != some (s.pendingField (R.LN_Q_RATE_BASE_KBPS q))
    || flags != s.pendingField (R.LN_Q_CTRL_REF_SEL q) + 2 * s.pendingField (R.LN_Q_CTRL_REF_FREQ q)
        + 4 * s.pendingField (R.LN_Q_CTRL_CLK_MODE q)

/-- R701: does REF_FREQ agree with the recorded frequency of the reference? -/
def refFreqOk (s : State) (flags : Nat) : Bool :=
  let sel := bit flags 0
  let valid := if sel then s.has R.CK_STATUS_REF1_VALID else s.has R.CK_STATUS_REF0_VALID
  let f := if sel then s.get R.CK_STATUS_REF1_FREQ else s.get R.CK_STATUS_REF0_FREQ
  !valid || f == bits flags 1 1

/-- LN_SET_RATE. -/
def cmdLnSetRate : Cmd where
  code := 0x0901
  lenOk := fun r => decide (4 ≤ r.length.toNat) && r.length.toNat == 4 + 8 * le r.payload 0 2
  lenReq := 0xFFFF
  checks := fun s mb r =>
    let p := r.payload
    let l := rateEntries p
    let num := numbered l
    let sameQuad (i : Nat) (e : RateEntry) : Bool := (l.take i).all (fun x => laneQuad x.lane != laneQuad e.lane || x.flags == e.flags)
    [onlyRunning s,
     owned s mb ((num.filter (fun x => decide (x.2.lane < s.lanes))).map (fun (i, e) => (i, claimKey 1 e.lane))),
     param 0 (decide (1 ≤ le p 0 2) && decide (le p 0 2 ≤ 24)), reserved0 p 2 2]
    ++ num.flatMap (fun (i, e) =>
        let o := 4 + 8 * i
        let eight := s.get (R.LN_CTRL_MODE e.lane) == 0 || s.pendingField (R.LN_CTRL_MODE e.lane) == 0
        [param o (decide (e.lane < 96)), param (o + 2) (decide (e.flags < 8) && refFreqOk s e.flags && sameQuad i e),
         param (o + 3) (e.zero == 0),
         param (o + 4) (decide (1000000 ≤ e.rate) && decide (e.rate ≤ 28200000) && (!eight || decide (e.rate ≤ 16000000))
           && wordClockOk s e.rate (s.pendingField (R.LN_CTRL_MODE e.lane)) (s.pendingField (R.LN_CTRL_WIDTH e.lane)))])
    ++ [firstFail (num.map (fun (i, e) =>
          if s.lanes ≤ e.lane ∨ (baseFor s l (laneQuad e.lane)).isNone then some (stNoResource, i)
          else laneHeld s e.lane i <|>
            if quadWouldChange s l (laneQuad e.lane) e.flags then
              (quadRates s l (laneQuad e.lane)).findSome? (fun x =>
                if s.holds mb (claimKey 1 x.1) then laneHeld s x.1 x.1 else some (stBusy, 256 * x.1 + s.holderOf (claimKey 1 x.1)))
            else none))]
  act := fun s _ r =>
    let l := rateEntries r.payload
    let quads := (l.map (fun e => laneQuad e.lane)).eraseDups
    let base (q : Nat) : Nat := (baseFor s l q).getD 0
    let es := quads.flatMap (fun q =>
      let fl := ((l.find? (fun e => laneQuad e.lane == q)).map (·.flags)).getD 0
      [tl (R.LN_Q_CTRL_REF_SEL q) (bits fl 0 1), tl (R.LN_Q_CTRL_REF_FREQ q) (bits fl 1 1), tl (R.LN_Q_CTRL_CLK_MODE q) (bits fl 2 1),
       tl (R.LN_Q_RATE_BASE_KBPS q) (base q)]
      ++ (quadRates s l q).map (fun x => tl (R.LN_CTRL_DIV x.1) ((dividerFor (base q) x.2).getD 0)))
    replyOk (s.latch es) (turnReply s ++ l.flatMap (fun e =>
      let b := base (laneQuad e.lane)
      toLE 4 b ++ toLE 1 ((dividerFor b (8 * e.rate)).getD 0) ++ zeros 3))

def execLnSetRate (mb : Fin 16) (req : Request) (s : State) : Host.Outcome State Fault Refusal := commandRow cmdLnSetRate mb req s

/-- LN_POWER. -/
def cmdLnPower : Cmd where
  code := 0x0902
  lenOk := listLen
  lenReq := 0xFFFF
  checks := fun s mb r =>
    let armed (n : Nat) (p : Nat) : Bool := s.pendingField (R.LN_CTRL_PSTATE n) == 0 && p != 0
      && (s.pendingField (R.GU_CTRL_ENABLE n) == 1 || s.pendingField (R.RP_PT_CTRL_EN n) == 1 || (s.driverOf n).isSome
          || (s.pendingField R.TS_CTRL_SOURCE == 2 && s.pendingField R.TS_CTRL_MARKER_LANE == n))
    onlyRunning s :: ownsLanes s mb r.payload :: (laneList 4 r.payload
      ++ [firstFail ((numbered (listItems r.payload)).map (fun (i, e) => failIf (armed e.1 e.2) stRefusedArmed i)),
          lanesFree s r.payload])
  act := fun s _ r =>
    replyOk (s.latch ((listItems r.payload).map (fun e => tl (R.LN_CTRL_PSTATE e.1) e.2))) (turnReply s)

def execLnPower (mb : Fin 16) (req : Request) (s : State) : Host.Outcome State Fault Refusal := commandRow cmdLnPower mb req s

/-- LN_LOOPBACK. -/
def cmdLnLoopback : Cmd where
  code := 0x0903
  lenOk := listLen
  lenReq := 0xFFFF
  checks := fun s mb r =>
    let p := r.payload
    let num := numbered (listItems p)
    [onlyRunning s, firstFail (num.map (fun (i, e) => ownsAnyLane s mb e.1 i)),
     param 0 (decide (1 ≤ le p 0 2) && decide (le p 0 2 ≤ 1015)), reserved0 p 2 1, reserved0 p 3 1]
    ++ num.flatMap (fun (i, e) => [param (4 + 4 * i) (decide (e.1 < 120)), param (6 + 4 * i) (decide (e.2 % 256 ≤ 2)),
        param (7 + 4 * i) (decide (e.2 < 256))])
    ++ [firstFail (num.map (fun (i, e) => seamInUse s e.1 i)), firstFail (num.map (fun (i, e) => anyLaneAbsent s e.1 i <|> laneHeld s e.1 i))]
  act := fun s _ r => replyOk (s.latch ((listItems r.payload).map (fun e => tl (R.LN_CTRL_LOOP e.1) e.2))) (turnReply s)

def execLnLoopback (mb : Fin 16) (req : Request) (s : State) : Host.Outcome State Fault Refusal := commandRow cmdLnLoopback mb req s

/-- LN_PRBS_SET (R624-R626). -/
def cmdLnPrbsSet : Cmd where
  code := 0x0904
  lenOk := lenIs 16
  lenReq := 16
  checks := fun s mb r =>
    let p := r.payload
    let n := le p 0 2
    let driven := s.pendingField (R.RP_PT_CTRL_EN n) == 1 || (s.driverOf n).isSome
    let holder := match s.driverOf n with
      | some e => s.holderOf (claimKey 3 e)
      | none => s.holderOf (claimKey 1 n)
    [onlyRunning s, ownsAnyLane s mb n n, param 0 (decide (n < 120)), param 2 (decide (le p 2 1 < 32)),
     param 3 (decide (le p 3 1 ≤ 6)), reserved0 p 14 2, seamInUse s n n, anyLaneAbsent s n n,
     failIf (bit (le p 2 1) 0 && decide (n < 96) && driven) stBusy (256 * n + holder), laneHeld s n n]
  act := fun s _ r =>
    let p := r.payload
    let n := le p 0 2
    let fl := le p 2 1
    let s := (s.setReg (R.LN_PRBS_CTRL n) (fl % 16 + 16 * le p 3 1)).put (R.LN_STATUS_PRBS_SYNC n) 0
    let s := ((s.setReg (R.LN_PRBS_USER0 n) (le p 4 4)).setReg (R.LN_PRBS_USER1 n) (le p 8 4)).setReg (R.LN_PRBS_USER2 n) (le p 12 2)
    let s := if bit fl 4 then
        [R.LN_PRBS_BITS_LO n, R.LN_PRBS_BITS_HI n, R.LN_PRBS_ERR_LO n, R.LN_PRBS_ERR_HI n].foldl (fun t o => t.setReg o 0) s
      else s
    replyOk s []

def execLnPrbsSet (mb : Fin 16) (req : Request) (s : State) : Host.Outcome State Fault Refusal := commandRow cmdLnPrbsSet mb req s

/-- LN_PRBS_READ. -/
def cmdLnPrbsRead : Cmd where
  code := 0x0905
  lenOk := lenIs 4
  lenReq := 4
  checks := fun s mb r =>
    let p := r.payload
    let n := le p 0 2
    [if bit (le p 2 1) 0 && decide (n < 96) then ownsLane s mb n n else none, param 0 (decide (n < 120)),
     param 2 (decide (le p 2 1 ≤ 1)), reserved0 p 3 1, anyLaneAbsent s n n]
  act := fun s _ r =>
    let p := r.payload
    let n := le p 0 2
    let regs := [R.LN_PRBS_BITS_LO n, R.LN_PRBS_BITS_HI n, R.LN_PRBS_ERR_LO n, R.LN_PRBS_ERR_HI n]
    let b := regs.flatMap (fun o => toLE 4 (s.reg o)) ++ toLE 4 (s.get (R.LN_STATUS_PRBS_SYNC n)) ++ toLE 4 (s.reg (R.LN_CNT_LINK n))
    replyOk (if bit (le p 2 1) 0 then regs.foldl (fun t o => t.setReg o 0) s else s) b

def execLnPrbsRead (mb : Fin 16) (req : Request) (s : State) : Host.Outcome State Fault Refusal := commandRow cmdLnPrbsRead mb req s

/-- Do `n` bytes from a local address lie in one run of an allocation of a mailbox? -/
def State.inAllocation (s : State) (mb a n : Nat) : Bool :=
  s.mem.allocs.any (fun x => x.mb == mb && x.extents.any (fun r =>
    decide (2 ^ 20 * r.1 ≤ a) && decide (a + n ≤ 2 ^ 20 * (r.1 + r.2))))

/-- LN_EYE_SCAN (R629, R630). -/
def cmdLnEyeScan : Cmd where
  code := 0x0906
  long := true
  lenOk := fun r => decide (16 ≤ r.length.toNat) && r.length.toNat == 16 + (2 * le r.payload 12 2 + 3) / 4 * 4
  lenReq := 0xFFFF
  checks := fun s mb r =>
    let p := r.payload
    let n := le p 12 2
    let lanes := (List.range n).map (fun i => le p (16 + 2 * i) 2)
    let num := numbered lanes
    let ps := le p 8 1
    let vs := le p 9 1
    let stride (v : Nat) : Bool := [1, 2, 4, 8].contains v
    let pts := 64 / ps * (256 / vs)
    [onlyRunning s, firstFail (num.map (fun (i, l) => ownsAnyLane s mb l i)),
     param 0 (le p 0 8 % 64 == 0 && s.inAllocation mb (le p 0 8) (n * (32 + 4 * pts))), param 8 (stride ps), param 9 (stride vs),
     param 10 (decide (10 ≤ le p 10 1) && decide (le p 10 1 ≤ 30)
       && lanes.all (fun l => decide (pts * 2 ^ le p 10 1 ≤ 8000 * s.rateOf l))), reserved0 p 11 1,
     param 12 (decide (1 ≤ n) && decide (n ≤ 8)), reserved0 p 14 2]
    ++ num.map (fun (i, l) => param (16 + 2 * i) (decide (l < 120)))
    ++ [reserved0 p (16 + 2 * n) (2 * (n % 2)),
        firstFail (num.map (fun (i, l) => firstFail [seamInUse s l i,
          failIf (s.fitted l && !s.has (R.LN_STATUS_LOCK l)) stRefusedArmed i])),
        firstFail (num.map (fun (i, l) => anyLaneAbsent s l i)),
        (s.gaf.ops.find? (fun o => o.command == 0x0906)).map (fun o => (stBusy, o.mb))]
  act := fun s mb r =>
    let p := r.payload
    let lanes := (List.range (le p 12 2)).map (fun i => le p (16 + 2 * i) 2)
    let e : EyeScan := { op := (mb, r.tag.toNat), dest := le p 0 8, pStride := le p 8 1, vStride := le p 9 1, dwell := le p 10 1,
                         lanes := lanes, total := lanes.length }
    let a := accept { s with phys := { s.phys with scan := some e } } mb r (lanes.map (claimKey 1)) []
    { a with op := a.op.map (fun o => { o with progress := 0 }) }

def execLnEyeScan (mb : Fin 16) (req : Request) (s : State) : Host.Outcome State Fault Refusal := commandRow cmdLnEyeScan mb req s

/-- LN_STATUS. -/
def cmdLnStatus : Cmd where
  code := 0x0907
  lenOk := lenIs 4
  lenReq := 4
  checks := fun s _ r =>
    let n := le r.payload 0 2
    [param 0 (decide (n < 120)), reserved0 r.payload 2 2, anyLaneAbsent s n n]
  act := fun s _ r =>
    let n := le r.payload 0 2
    let q := laneQuad n
    replyOk s ((List.range 20).flatMap (fun i => toLE 4 (s.reg (R.LN_CTRL n + 4 * i))) ++ toLE 4 (s.reg (R.LN_Q_CTRL q))
      ++ toLE 4 (s.reg (R.LN_Q_RATE q)) ++ toLE 4 (s.reg (R.LN_Q_STATUS q)) ++ zeros 4)

def execLnStatus (mb : Fin 16) (req : Request) (s : State) : Host.Outcome State Fault Refusal := commandRow cmdLnStatus mb req s

/-- LN_INJECT (R627, R628). -/
def cmdLnInject : Cmd where
  code := 0x0908
  lenOk := lenIs 20
  lenReq := 20
  checks := fun s mb r =>
    let p := r.payload
    let n := le p 0 2
    let at_ := bit (le p 3 1) 0
    let raw := decide (n < 96) && s.has (R.LN_CTRL_MODE n)
    [onlyRunning s, ownsAnyLane s mb n n, param 0 (decide (n < 120)), param 2 (decide (le p 2 1 ≤ 2) && (!raw || le p 2 1 == 0)),
     param 3 (decide (le p 3 1 ≤ 1)), param 4 (le p 4 2 != 0), param 6 (le p 6 2 != 0),
     param 8 (!at_ || laterThan s.checkTurn (le p 8 6)), reserved0 p 14 2, seamInUse s n n, anyLaneAbsent s n n,
     failIf (s.has (R.LN_STATUS_INJ_PEND n)) stBusy (256 * n + mb), laneHeld s n n]
  act := fun s _ r =>
    let p := r.payload
    let n := le p 0 2
    let at_ := bit (le p 3 1) 0
    let turn := if at_ then le p 8 6 else s.effectTurn
    let j : Injection := { turn := turn, pip := if at_ then le p 16 4 else 0, spacing := le p 6 2 }
    let s := { s with phys := { s.phys with inj := tblPut n j s.phys.inj } }
    let s := (s.setReg (R.LN_INJ n) (le p 2 1 + 65536 * le p 4 2)).put (R.LN_STATUS_INJ_PEND n) 1
    replyOk s (toLE 6 turn ++ zeros 2)

def execLnInject (mb : Fin 16) (req : Request) (s : State) : Host.Outcome State Fault Refusal := commandRow cmdLnInject mb req s

end Sys2Proof.Machine
end

