-- ==== Sys2Proof/Machine/Library.lean ====
section
/-!
DEFINITION. Machine/Library.lean: pieces and the context library (R423-R434), signers (R774), and the library commands (R460).
-/

namespace Sys2Proof.Machine

open Sys2Proof

/-! ### Signers and keys (R767, R773, R774) -/

/-- R773: does a signature verify under an unrevoked Ralheuth key? -/
def ralVerifies (s : State) (msg sig : List Byte) : Bool :=
  (List.range 4).any (fun k => !bit (s.get R.SC_STATUS_RAL_REVOKED) k && slhVerify slh192s (Config.ralheuthKey k) msg sig)

/-- R774: is a chain's signature good and its signer permitted in the lifecycle state? -/
def signerOk (s : State) (piece owner enc : Bool) (msg sig : List Byte) : Bool :=
  if owner then s.life == 2 && s.has R.SC_STATUS_OWNER_KEYS && slhVerify slh192s s.sec.ownerPub msg sig
  else (s.life == 3 || (piece && s.life == 2 && !enc)) && ralVerifies s msg sig

/-- R682, R774: the wrapping key of a chain's signer, when it is present. -/
def wrapKeyOf (s : State) (owner : Bool) : Option (BitVec 256) :=
  if owner then (if s.has R.SC_STATUS_OWNER_KEYS then some s.sec.ownerBitKey else none) else some s.sec.bitstreamKey

/-! ### The checks of a manifest (R424-R430, R432) -/

/-- A check of a field at an offset of the file. -/
def field (o : Nat) (ok : Bool) : Option Nat := if ok then none else some o

/-- The binding fields of a bank set or a buffer: BIND_TILE and BIND_CELL (R428, R438). -/
def bindOk (o : Nat) (e : List Byte) (i : Nat) : List (Option Nat) :=
  [field (o + i) (decide (le e i 2 ≤ 1599) || le e i 2 == 0xFFFF), field (o + i + 2) (decide (le e (i + 2) 1 ≤ 24))]

/-- R427: a seam interface entry. -/
def seamFields (n o : Nat) (e : List Byte) : List (Option Nat) :=
  [field (o + 4) (decide (le e 4 1 < n)), field (o + 5) (decide (le e 5 1 ≤ 3)), field (o + 6) (decide (le e 6 1 ≤ 1)),
   field (o + 7) (decide (le e 7 1 ≤ 2)), field (o + 8) (decide (le e 8 1 ≤ 39)),
   field (o + 9) (decide (1 ≤ le e 9 1) && decide (le e 8 1 + le e 9 1 ≤ 40)), field (o + 10) (decide (le e 10 1 ≤ 3)),
   field (o + 11) (!bit (le e 10 1) 1 || decide (le e 11 1 + le e 9 1 ≤ 40)), field (o + 12) (zeroAt e 12 4)]

/-- R428: a bank-set entry. -/
def bankFields (n o : Nat) (e : List Byte) : List (Option Nat) :=
  [field o (decide (le e 0 1 < n)), field (o + 1) ([1, 2, 4, 8, 16].contains (le e 1 1)), field (o + 2) (decide (le e 2 1 ≤ 1)),
   field (o + 3) (if le e 2 1 = 0 then decide (1 ≤ le e 3 1) && decide (le e 3 1 ≤ 3) else le e 3 1 == 0)]
  ++ bindOk o e 8
  ++ [field (o + 11) (le e 2 1 == 1 || decide (le e 11 1 ≤ 1) || le e 11 1 == 0xFF), field (o + 12) (zeroAt e 12 4)]

/-- R429: a Tap Engine entry. -/
def engineFields (n o : Nat) (e : List Byte) : List (Option Nat) :=
  [field o (decide (le e 0 1 < n)), field (o + 1) (zeroAt e 1 3), field (o + 12) (zeroAt e 12 4)]

/-- R430: a buffer entry. -/
def bufferFields (n o : Nat) (e : List Byte) : List (Option Nat) :=
  [field o (decide (1 ≤ le e 0 4)), field (o + 6) (decide (le e 6 1 < n)), field (o + 7) (decide (le e 7 1 ≤ 1))]
  ++ bindOk o e 12 ++ [field (o + 15) (zeroAt e 15 1)]

/-- R432, check 1: the file offset of the first bad field of a manifest in a file of `len` bytes. -/
def manifestBad (m : List Byte) (len : Nat) : Option Nat :=
  let n := mfRegions m
  let hdr := [field 0 (le m 0 4 == 0x31435057), field 4 (le m 4 2 == 1), field 6 (le m 6 2 == mfLength m),
    field 20 (decide (1 ≤ mfCols m) && decide (mfCols m ≤ 6)), field 21 (decide (1 ≤ mfRows m) && decide (mfRows m ≤ 4)),
    field 22 (mfTiers m == 1 || mfTiers m == 3),
    field 23 (decide (le m 23 1 < 64) && (!mfFlag m 0 || mfTiers m == 3)), field 30 (zeroAt m 30 2),
    field 68 (16224 + mfLength m + le m 68 4 == len),
    field 76 (decide (mfSeams m ≤ 64)), field 77 (decide (mfBanks m ≤ 32)), field 78 (decide (mfEngines m ≤ 48)),
    field 79 (decide (mfBuffers m ≤ 16)), field 80 (le m 80 12 / 2 ^ (4 * mfPairs m) == 0), field 92 (le m 92 6 / 2 ^ n == 0),
    field 98 (zeroAt m 98 30)]
  let all := hdr ++ (mfSeamEntries m).flatMap (fun (o, e) => seamFields n o e)
    ++ (mfBankEntries m).flatMap (fun (o, e) => bankFields n o e)
    ++ (mfEngineEntries m).flatMap (fun (o, e) => engineFields n o e)
    ++ (mfBufferEntries m).flatMap (fun (o, e) => bufferFields n o e)
  all.findSome? id

/-! ### Adding a piece (R431-R433) -/

/-- R352: the cell clock limit of the speed grade, in MHz. -/
def State.cellLimit (s : State) : Nat := if s.get R.ID_VARIANT_SPEED = 2 then 500 else 600

/-- MiB that a piece takes in the library: its manifest and 256 bytes for each frame (R431). -/
def libraryMib (m : List Byte) : Nat := (2 ^ 20 + m.length + 256 * le m 64 4 - 1) / 2 ^ 20

/-- R431: MiB of frames that the library may hold. -/
def State.libraryMax (s : State) : Nat := if s.is48 then 1024 else 2048

/-- Pieces whose adding was stopped with their operation (R82) go. -/
def State.dropDeadAdds (s : State) : State :=
  let dead := s.fab.pieces.filter (fun e => e.2.adding && !s.gaf.ops.any (fun o => o.command == 0x0300 && o.args.getD 2 0 == e.1))
  (forEach dead (fun e t =>
    let t := match t.allocOf e.2.alloc with
      | some a => t.freeAlloc a
      | none => t
    { t with fab := { t.fab with pieces := tblDel e.1 t.fab.pieces } }) s).showPlaced

/-- The manifest of the file at SRC: its header, then its entries. -/
def readManifest (s : State) (src : Nat) : State × Nat × List Byte :=
  let s_c_h := stackRead s 0xF0 src 128
  let s := s_c_h.1
  let c := s_c_h.2.1
  let h := s_c_h.2.2
  if c ≠ rOk then (s, c, h)
  else
    let s_c_e := stackRead s 0xF0 (src + 128) (mfLength h - 128)
    let s := s_c_e.1
    let c := s_c_e.2.1
    let e := s_c_e.2.2
    (s, c, h ++ e)

/-- Does the library have space for a piece: its count, its frames, an allocation (R432, check 3)? -/
def librarySpace (s : State) (mb : Nat) (m : List Byte) : Option (State × Alloc) :=
  let used := s.fab.pieces.foldl (fun n e => n + 256 * le e.2.manifest 64 4) 0
  if 256 ≤ s.fab.pieces.length ∨ 2 ^ 20 * s.libraryMax < used + 256 * le m 64 4 then none
  else s.allocate .library mb 0 s.fullLog2 (max 1 (libraryMib m)) 0

/-- PLC_LIBRARY_ADD (R432, R460). -/
def cmdPlcLibraryAdd : Cmd where
  code := 0x0300
  long := true
  lenOk := lenIs 16
  lenReq := 16
  checks := fun s _ r =>
    let p := r.payload
    let src := le p 0 8
    let len := le p 8 4
    let s := s.dropDeadAdds
    let rd := readManifest s src
    let inside := decide (src % 4096 = 0) && decide (src + len ≤ 0x10000000 * s.segments)
    [onlyRunning s, param 0 inside, param 8 (decide (128 ≤ len)), reserved0 p 12 4,
     failIf (rd.2.1 != rOk) stIntegrity cfgIntegrity,
     (manifestBad rd.2.2 len).map (fun o => (stBadParam, o)),
     failIf (decide (s.cellLimit < le rd.2.2 28 2)) stNoResource 7,
     failIf (librarySpace s 16 rd.2.2).isNone stNoResource 11]
  act := fun s mb r =>
    let p := r.payload
    let s_m := readManifest s.dropDeadAdds (le p 0 8)
    let s := s_m.1
    let m := s_m.2.2
    match librarySpace s mb m with
    | none => replyOk s []
    | some (s, a) =>
      let h := s.fab.nextHandle
      let q : Piece := { handle := h, mb := mb, manifest := m, alloc := a.handle, adding := true }
      let s := ({ s with fab := { s.fab with pieces := tblPut h q s.fab.pieces, nextHandle := h + 1 } }).showPlaced
      let a := accept s mb r [] [le p 0 8, le p 8 4, h]
      { a with payload := toLE 4 h, op := a.op.map (fun o => { o with progress := 0 }) }

def execPlcLibraryAdd (mb : Fin 16) (req : Request) (s : State) : Host.Outcome State Fault Refusal :=
  commandRow cmdPlcLibraryAdd mb req s

/-- What R687 checks of a piece whose manifest and payload are given. -/
def pieceChain (s : State) (m payload : List Byte) : ChainIn :=
  let enc := mfFlag m 4
  { piece := true, chainId := slice m 8 8, enc := enc, firstKey := payload.take 64, wrapKey := wrapKeyOf s (mfFlag m 5),
    bytes := if enc then payload.drop 64 else payload, segments := 0, frameCount := le m 64 4, frameCrc := le m 72 4,
    positions := mfRegions m, oneTier := mfTiers m == 1 }

/-- R432, checks 4 and 5: the notice of an add: a status, a DETAIL, and the frames where it is OK. -/
def pieceOutcome (s : State) (src : Nat) (m : List Byte) : State × Nat × Nat × Tbl (List Byte) :=
  let n := m.length
  let s_c1_sig := stackRead s 0xF0 (src + n) 16224
  let s := s_c1_sig.1
  let c1 := s_c1_sig.2.1
  let sig := s_c1_sig.2.2
  let s_c2_payload := stackRead s 0xF0 (16224 + src + n) (le m 68 4)
  let s := s_c2_payload.1
  let c2 := s_c2_payload.2.1
  let payload := s_c2_payload.2.2
  let owner := mfFlag m 5
  if c1 ≠ rOk ∨ c2 ≠ rOk then (s, stIntegrity, cfgIntegrity, [])
  else if !signerOk s true owner (mfFlag m 4) m sig || (sha256 payload).toNat != le m 32 32 then (s, stAuthFail, 0, [])
  else
    let errs_chain := chainFailures (pieceChain s m payload)
    let errs := errs_chain.1
    let chain := errs_chain.2
    match errs.findSome? id with
    | some e => (s, stIntegrity, e.code, [])
    | none => (s, stOk, 0, chain.frames)

/-- LIBRARY_ADD_COMPLETE (R432): the checks of the piece that was added first end. -/
def libraryAddComplete (s : State) : State :=
  let s := s.dropDeadAdds
  match s.gaf.ops.find? (fun o => o.command == 0x0300) with
  | none => s
  | some o =>
    let h := o.args.getD 2 0
    match tblFind h s.fab.pieces with
    | none => s.endOp o stIntegrity 0
    | some q =>
      let s_status_detail_frames := pieceOutcome s (o.args.getD 0 0) q.manifest
      let s := s_status_detail_frames.1
      let status := s_status_detail_frames.2.1
      let detail := s_status_detail_frames.2.2.1
      let frames := s_status_detail_frames.2.2.2
      if status = stOk then
        let s := { s with fab := { s.fab with pieces := tblPut h { q with adding := false, frames := frames } s.fab.pieces } }
        (s.endOp o stOk 0).showPlaced
      else (s.drawn.endOp (s.partChecked o) status detail).dropDeadAdds

def execLibraryAddComplete (s : State) : Host.Outcome State Fault Refusal := .next (libraryAddComplete s)

/-- Placements of a piece. -/
def State.placedCount (s : State) (h : Nat) : Nat := (s.fab.placements.filter (fun e => e.2.handle == h)).length

/-- Does a load take a piece? -/
def State.pieceLoading (s : State) (h : Nat) : Bool := s.fab.loads.any (fun l => l.regions.any (fun x => x.2.1 == h))

/-- PLC_LIBRARY_REMOVE (R434, R460). -/
def cmdPlcLibraryRemove : Cmd where
  code := 0x0301
  lenOk := lenIs 8
  lenReq := 8
  checks := fun s mb r =>
    let p := r.payload
    let h := le p 0 4
    let q := tblFind h s.fab.pieces
    [onlyRunning s, failIf (q.any (fun x => x.mb != mb)) stNotOwner 0, param 0 q.isSome, param 4 (decide (le p 4 1 ≤ 1)),
     reserved0 p 5 3, failIf (!bit (le p 4 1) 0 && s.placedCount h != 0) stRefusedArmed 0,
     failIf (q.any (fun x => x.adding) || s.pieceLoading h) stBusy mb]
  act := fun s _ r =>
    let h := le r.payload 0 4
    let s := match (tblFind h s.fab.pieces).bind (fun q => s.allocOf q.alloc) with
      | some a => s.freeAlloc a
      | none => s
    replyOk ({ s with fab := { s.fab with pieces := tblDel h s.fab.pieces } }).showPlaced []

def execPlcLibraryRemove (mb : Fin 16) (req : Request) (s : State) : Host.Outcome State Fault Refusal :=
  commandRow cmdPlcLibraryRemove mb req s

/-- PLC_LIBRARY_LIST (R460). -/
def cmdPlcLibraryList : Cmd where
  code := 0x0302
  lenOk := lenIs 4
  lenReq := 4
  checks := fun _ _ r => [reserved0 r.payload 2 2]
  act := fun s _ r =>
    let l := ((s.fab.pieces.filter (fun e => !e.2.adding)).drop (le r.payload 0 2)).take 126
    replyOk s (toLE 2 l.length ++ zeros 2 ++ l.flatMap (fun (h, q) =>
      toLE 4 h ++ slice q.manifest 8 8 ++ slice q.manifest 16 4 ++ slice q.manifest 20 3 ++ toLE 1 q.mb
        ++ slice q.manifest 64 4 ++ toLE 2 (s.placedCount h) ++ slice q.manifest 23 1 ++ zeros 5))

def execPlcLibraryList (mb : Fin 16) (req : Request) (s : State) : Host.Outcome State Fault Refusal :=
  commandRow cmdPlcLibraryList mb req s

end Sys2Proof.Machine
end

