-- ==== Sys2Proof/Machine/ModeEntry.lean ====
section
/-!
DEFINITION. Machine/ModeEntry.lean: what the entry into each mode does (R178-R193, R415, R417, R521, R522, R555, R675, R715-R737,
R779, R784, R789): the shared operations that the rows of modes, power, alarms and self-test take the device through.
-/

namespace Sys2Proof.Machine

open Sys2Proof

/-! ### Balls and endpoints -/

/-- R675: modes in which the device drives DONE low. In START-UP the ball is released by step 5 of R693. -/
def doneLowIn (m : Nat) : Bool := m ≤ 3 || 9 ≤ m

/-- R675: the device drives DONE low, or releases it; a driven ball reads low. -/
def State.driveDone (s : State) (low : Bool) : State :=
  let s := s.put R.CF_CFG_STATUS_DONE_DRIVE (b2n low)
  if low then s.put R.CF_CFG_STATUS_DONE_PIN 0 else s

/-- R675: the device drives INIT_N low, or releases it. -/
def State.driveInit (s : State) (low : Bool) : State :=
  let s := s.put R.CF_CFG_STATUS_INIT_DRIVE (b2n low)
  if low then s.put R.CF_CFG_STATUS_INIT_PIN 0 else s

/-- R777: the ALARM_N ball. -/
def State.driveAlarm (s : State) (low : Bool) : State :=
  ({ s with pins := { s.pins with alarmN := !low } }).put R.SC_ALARM_STATUS_ALARM_PIN (b2n !low)

/-- The endpoint is ISOLATED at once: its domain has lost its power or its clock (R187, R590). -/
def State.isolate (s : State) (e : Nat) : State :=
  if s.get (R.NC_EP_STATUS_STATE e) = 0 then s
  else (s.put (R.NC_EP_CTRL_OPEN e) 0).put (R.NC_EP_STATUS_STATE e) epIsolated

/-- OPEN becomes 1 at the next turn boundary (R595). -/
def State.openAtTurn (s : State) (es : List Nat) : State :=
  { s with gaf := { s.gaf with shadow := s.gaf.shadow ++ es.map (fun e => tl (R.NC_EP_CTRL_OPEN e) 1) } }

/-- The endpoints of hard units beside clusters and channels (R564). -/
def hardEndpoints : List Nat :=
  let own := (List.range 48).map regionEndpoint ++ (List.range 96).map clusterEndpoint ++ (List.range 32).map channelEndpoint
  (List.range 240).filter (fun e => endpointFitted e && !own.contains e)

/-- Endpoints of the fitted channels. -/
def State.channelEndpoints (s : State) : List Nat := (List.range s.channels).map channelEndpoint

/-- The endpoints that the gaffer and the host need as soon as stack memory is in service (log entry 49). -/
def serviceEndpoints : List Nat := [gafferEndpoint, controlEndpoint, hostEndpoint, configEndpoint, sweepEndpoint]

/-! ### Attestation (R780, R781) -/

/-- The other firmware slot's image digest, where the slot is complete. -/
def State.slotDigest (s : State) (slot : Nat) : BitVec 256 :=
  if s.sec.delivered.getD slot false then s.sec.slotSha.getD slot 0
  else
    let a := 0x100000 + 0x800000 * slot
    sha256 (cellsGet 0xFF s.sec.flash a (16480 + le (cellsGet 0xFF s.sec.flash (a + 20) 4) 0 4))

/-- What the model keeps in fuses. -/
def State.fuseList (s : State) : List Nat :=
  [s.life, s.get R.GAF_LIFECYCLE_REPROV_LEFT, s.get R.SC_STATUS_LOCK_CHANGES, s.get R.SC_STATUS_RAL_REVOKED, s.sec.rowsRevoked,
   s.get R.ID_SECURITY_VERSION_SVN, s.sec.deviceSecret.toNat, s.sec.ralKey.toNat, s.reg R.ID_SERIAL_LO, s.reg R.ID_SERIAL_HI,
   s.reg R.ID_VARIANT] ++ s.sec.rows.flatMap (fun (r, h) => [r, h.toNat])

/-- The 512-byte body of a report over a verifier's nonce. -/
def State.attestBody (s : State) (nonce : List Byte) : List Byte :=
  let other := 1 - s.sec.running
  let pieces := s.fab.pieces.filter (fun e => e.1 != 0 && !e.2.adding)
  let digest := sha256 (pieces.flatMap (fun (h, p) => toLE 4 h ++ slice p.manifest 32 32))
  toLE 4 0x54544152 ++ toLE 2 1 ++ toLE 2 512 ++ toLE 4 (s.reg R.ID_SERIAL_LO) ++ toLE 4 (s.reg R.ID_SERIAL_HI)
    ++ toLE 4 (s.reg R.ID_VARIANT) ++ toLE 1 s.life ++ toLE 1 s.mode ++ toLE 1 (s.get R.ID_SECURITY_VERSION_SVN)
    ++ toLE 1 (s.get R.GAF_LIFECYCLE_REPROV_LEFT + 4 * s.get R.GAF_LIFECYCLE_OWNER_LOCK + 8 * s.get R.GAF_LIFECYCLE_DEBUG_OPEN
        + 16 * s.get R.SC_STATUS_RAL_REVOKED)
    ++ toLE 6 s.tb.turn ++ zeros 2 ++ fit 32 nonce ++ toLE 32 (sha256 (slhPublic slh128f (fit 48 Config.identitySeed))).toNat ++ toLE 32 (sha256 Config.bootRom).toNat
    ++ toLE 32 (s.sec.slotSha.getD s.sec.running 0).toNat
    ++ toLE 32 (if s.sec.slotComplete.getD other false then (s.slotDigest other).toNat else 0)
    ++ toLE 32 (tblGet (fun _ => 0) s.sec.rows (s.get R.SC_STATUS_OWNER_ROW)).toNat ++ toLE 32 (sha256 (Config.fuseMap s.fuseList)).toNat
    ++ toLE 32 s.sec.bootSegs.toNat ++ toLE 32 digest.toNat ++ toLE 4 pieces.length ++ toLE 4 (s.reg R.SC_ALARM_POLICY)
    ++ toLE 4 (s.reg R.SC_ALARM_COUNT) ++ toLE 4 (s.reg R.ID_FW_VERSION) ++ toLE 4 (s.reg R.SC_UPDATE) ++ zeros 172

/-- R781: the mode or the lifecycle state has changed: bodies being signed are taken again, once. -/
def State.retakeBodies (s : State) : State :=
  let f (o : Op) : Op :=
    if o.command = 0x0B00 ∧ o.args = [] then { o with args := [1], data := s.attestBody (slice o.data 32 32) } else o
  if s.gaf.ops.any (fun o => o.command == 0x0B00) then { s with gaf := { s.gaf with ops := s.gaf.ops.map f } } else s

/-! ### Leaving a mode -/

/-- R652: UP and REKEYING links go DOWN. -/
def State.seamsDown (s : State) : State :=
  iterate 4 (fun p t =>
    if t.seamLive p then t.setSeam p smDown else t) s

/-- R812: the slice in progress is abandoned. -/
def State.abandonAnySlice (s : State) : State :=
  match s.bist.slice with
  | some sl => s.abandonSlice sl.unit
  | none => s

/-- R699: at the end of CONFIGURE the staging window closes and its memory is zeroed. -/
def State.closeStaging (s : State) : State :=
  let out (a : Nat) : Bool := decide (0x10000000 ≤ a)
  let m := s.mem
  let m := { m with data := m.data.filter (fun e => out e.1), upsets := m.upsets.filter (fun e => out (64 * e.1)),
                    poisoned := m.poisoned.filter (fun e => out (64 * e.1)), plist := m.plist.filter (fun e => out (64 * e.line)) }
  ({ s with mem := m, fab := { s.fab with staging := false } } : State).unmapWindow 0

/-- Has an operation that something serves been stopped? -/
def State.opGone (s : State) (op : Option (Nat × Nat)) : Bool := op.any (fun x => (s.opOf x.1 x.2).isNone)

/-- R82, R406: loads whose operation has been stopped end: the planes that they were writing are EMPTY, and regions that waited for them
are IDLE. A placement that was being made goes, and a migration that has not yet moved is cancelled (log entry 108). -/
def State.dropStopped (s : State) : State :=
  let gone := s.fab.loads.filter (fun l => s.opGone l.op)
  let moves := s.fab.migrations.filter (fun m => s.opGone m.op && !m.moved)
  if gone.isEmpty && moves.isEmpty then s
  else
    let head := (s.fab.loads.take 1).any (fun l => s.opGone l.op)
    let left := s.fab.loads.filter (fun l => !s.opGone l.op)
    let s := forEach gone (fun (l : Load) t => forEach l.regions (fun x u =>
      let u := if u.planeState x.1 l.plane = plLoading then u.setPlane x.1 l.plane plEmpty else u
      if u.rgState x.1 = rgLoading then u.put (R.CF_CTX_STATE_STATE x.1) rgIdle else u) t) s
    let s := { s with fab := { s.fab with loads := left } }
    let s := forEach moves (fun m t => t.cancelMigration m.id) s
    let s := forEach (gone.filter (fun l => l.kind == .place || l.kind == .ctx)) (fun l t => t.dropPlacement l.placement false) s
    if head then s.setReg R.CF_LOAD_STATUS 0 else s

/-- The boot context goes: its load has failed, or CONFIGURE was left before it was loaded (R406, log entry 108). -/
def State.dropBoot (s : State) : State :=
  let l := s.fab.loads.filter (fun l => l.kind == .boot)
  let s := { s with fab := { s.fab with loads := s.fab.loads.filter (fun l => l.kind != .boot) } }
  let s := forEach (l.flatMap (fun l => l.regions.map Prod.fst)) (fun r t => (t.setPlane r 0 plEmpty).stopRegion r rgIdle) s
  let s := match (tblFind 0 s.fab.pieces).bind (fun q => s.allocOf q.alloc) with
    | some a => s.freeAlloc a
    | none => s
  let f := { s.fab with pieces := tblDel 0 s.fab.pieces, placements := tblDel 0 s.fab.placements, ioStatic := [] }
  let s := iterate 64 (fun g t => t.setGroup g [] 0) { s with fab := f }
  (s.showLoad false).showPlaced

/-- A mode change with what leaving the old mode brings: links go DOWN and the slice is abandoned when OPERATE and THROTTLED are
left (R652, R812), DONE and INIT_N are driven as R675 gives, ALARM_N rises when SAFE HOLD or ZEROIZED is left (R777). -/
def State.goMode (s : State) (m cause : Nat) : State :=
  let was := s.running
  let held := s.mode == mSafeHold || s.mode == mZeroized
  let fromHold := s.mode == mSafeHold
  let s := if s.fab.staging && m != mConfigure then s.closeStaging else s
  let s := if s.fab.loads.any (fun l => l.kind == .boot) then s.dropBoot else s
  let s := (s.changeMode m cause).retakeBodies
  let s := if was && !s.running then s.seamsDown.abandonAnySlice else s
  let s := if fromHold && decide (mBoot < m) then s.driveInit false else s
  let s := if held && m != mSafeHold && m != mZeroized then ({ s with pins := { s.pins with alarmHeld := false } } : State).driveAlarm false else s
  let s := if m = mStop then s else { s with phys := { s.phys with resumeReady := false } }
  let s := ({ s with phys := { s.phys with resumeAt := none, waiting := [], stopping := false } } : State).dropStopped
  if m = mStartUp then s else s.driveDone (doneLowIn m)

/-! ### Services -/

/-- R184, R187: pass-through stops on every lane. -/
def State.passThroughOff (s : State) : State :=
  iterate 96 (fun n t => if t.has (R.RP_PT_CTRL_EN n) then (t.put (R.RP_PT_CTRL_EN n) 0).showSource n else t) s

/-- R184, R187: capture and replay may still run: in OPERATE and THROTTLED, and in ORDERLY STOP until its step 3. -/
def State.servicesLive (s : State) : Bool := s.running || (s.mode == mStop && !s.has R.GAF_MODE_STOP_DONE)

/-- R197: data integrity yields to guarantee `overCode`: a trip or zeroisation takes the data that queues have in flight. -/
def State.dataRemoved (s : State) (overCode : Nat) : State :=
  forEach (s.cap.queues.map Prod.fst) (fun q t => if qArmed ≤ t.queueState q ∧ t.queueState q ≤ qPost then t.yielded 3 overCode q else t) s

/-- R197: lossless capture yields to device safety at a Stop level, on every lossless lane that is captured. -/
def State.losslessStops (s : State) : State :=
  let live := (s.cap.queues.map Prod.fst).any (fun q => decide (qArmed ≤ s.queueState q) && decide (s.queueState q ≤ qPost))
  iterate 96 (fun n t => if live && t.has (R.GU_CTRL_ENABLE n) && t.has (R.GU_CTRL_LOSSLESS n) then t.yielded 4 1 n else t) s

/-- Capture and replay stop: the causes that queues and engines show, and whether queues are sealed. -/
def State.stopServices (s : State) (qcause ecause : Nat) (sealing : Bool) : State :=
  ((s.stopAllQueues qcause sealing).stopAllEngines ecause).passThroughOff

/-- CK_GATED of units lo to hi - 1 (R720). -/
def State.setGated (s : State) (lo hi : Nat) (on : Bool) : State :=
  iterate (hi - lo) (fun i t =>
    let u := lo + i
    let w := t.reg (R.CK_GATED (u / 32))
    t.setReg (R.CK_GATED (u / 32)) (if on then setBit w (u % 32) else clearBit w (u % 32))) s

/-- The gates close no clock but those that CK_FORCE holds closed (R720). -/
def State.ungateAll (s : State) : State := iterate 6 (fun m t => t.setGates m (t.reg (R.CK_FORCE m))) s

/-- R187: every region is held: none is active, planes are kept; loads in progress end (R82). -/
def State.holdRegions (s : State) : State :=
  let s := forEach s.fab.loads (fun (l : Load) t =>
    forEach l.regions (fun x u => if u.planeState x.1 l.plane = plLoading then u.setPlane x.1 l.plane plEmpty else u) t) s
  let s := forEach s.fab.pend (fun e t => t.showPend e.2.members none) s
  let f := { s.fab with loads := [], pend := [], releases := [], reopen := [], after := [], migrations := [], setMoves := [] }
  let s := ({ s with fab := f }).setReg R.CF_LOAD_STATUS 0
  (iterate 48 (fun r t => t.stopRegion r rgIdle) s).showPlaced

/-! ### POWER-ON -/

/-- Fields that a reset does not change: fuses, straps and levels of input balls. -/
def keptFields : List RF :=
  [R.ID_VARIANT_LANES, R.ID_VARIANT_SPEED, R.ID_VARIANT_TEMP, R.ID_VARIANT_STEPPING, R.ID_SERIAL_LO_SERIAL, R.ID_SERIAL_HI_SERIAL,
   R.ID_SECURITY_VERSION_SVN, R.GAF_LIFECYCLE_STATE, R.GAF_LIFECYCLE_OWNER_LOCK, R.GAF_LIFECYCLE_REPROV_LEFT,
   R.SC_STATUS_OWNER_ROW, R.SC_STATUS_RAL_REVOKED, R.SC_STATUS_LOCK_CHANGES, R.SC_STATUS_VAULT_ERASED, R.CF_CFG_STATUS_CFG_MODE,
   R.PW_STATUS_PFAIL_PIN, R.PW_STATUS_SUPPLY_OK_PIN, R.PW_STATUS_ALERT_PIN, R.HP_LINK_PERST_PIN, R.NC_ARRAY_DEV_ID,
   R.NC_ARRAY_COL, R.NC_ARRAY_ROW]

/-- What the register tables give as fuse values and the variant decides: absent sensors, zones and channel endpoints (R10, R565),
the FPLLs of speed grade 2 (R736), the device's own member bit (R668). -/
def State.variantResets (s : State) : State :=
  let s := if s.is48 then
      let s := iterate 16 (fun i t => t.put (R.TH_SENSOR_STATE (36 + i)) 2) s
      let s := iterate 4 (fun i t => t.put (R.TH_ZONE_STATE_LEVEL (13 + i)) 5) s
      iterate 16 (fun i t => t.put (R.NC_EP_STATUS_STATE (channelEndpoint (16 + i))) 0) s
    else s
  let s := if s.get R.ID_VARIANT_SPEED = 2 then (s.put (R.CK_FPLL_FREQ_KHZ 6) 500000).put (R.CK_FPLL_FREQ_KHZ 7) 700000 else s
  s.put R.NC_ARRAY_MEMBERS (2 ^ s.get R.NC_ARRAY_DEV_ID)

/-- R724: the rails that the board sets. -/
def boardRail (k : Nat) : Bool := k ≤ 1 || 9 ≤ k

/-- Entry into POWER-ON (R178, R180): everything returns to its state of power-on reset but fuses, vault store, flash, balls and
the board's rails; CAUSE takes 0x00 or 0x01. -/
def State.enterPowerOn (s : State) (cause : Nat) : State :=
  let p := s.pins
  let pins : Pins := { porN := p.porN, progN := p.progN, pfailLow := p.pfailLow, furnace := p.furnace, iopull := p.iopull,
                       devId := p.devId, perstN := p.perstN }
  let sec := { s.sec with transportKey := 0, bitstreamKey := 0, report := [], recordDue := false,
                          bootSegs := 0, staged := false }
  let t : State := { pins := pins, sec := sec, pending := s.pending, free := s.free }
  let t := forEach keptFields (fun f t => t.put f (s.get f)) t
  let t := iterate 21 (fun k t => if boardRail k then
      (t.put (R.PW_RAIL_STATE_STATE k) (s.get (R.PW_RAIL_STATE_STATE k))).put (R.PW_RAIL_MEAS_MV k) (s.get (R.PW_RAIL_MEAS_MV k))
    else t) t
  let t := iterate 16 (fun n t => t.freshNonce n) t.variantResets
  let t := if cause = 1 then t.setReg R.GAF_RESTART_CAUSE 2 else t
  t.put R.GAF_MODE_CAUSE cause

/-! ### The persistent store at BOOT (R784) -/

/-- The valid record's bytes. -/
def State.storeRecord (s : State) : List Byte :=
  cellsGet 0xFF s.sec.flash (slotAddress s.sec.storeBank (s.sec.storeUsed.getD s.sec.storeBank 1 - 1)) 256

/-- Bits set among the first n. -/
def countBits (n x : Nat) : Nat := (bitsOf n x).length

/-- SC_UPDATE shows the download (R798). -/
def State.showUpdate (s : State) : State :=
  (s.put R.SC_UPDATE_DONE (countBits 128 s.sec.chunks)).put R.SC_UPDATE_CHUNKS ((65535 + s.sec.imageLen) / 65536)

/-- R784: the gaffer reads the store; with no valid record it uses the defaults and writes them as SEQ 0. -/
def State.loadStore (s : State) : State :=
  if s.sec.storeValid then
    let b := s.storeRecord
    let fl := le b 23 1
    let s := { s with
      gaf := { s.gaf with pfailAction := le b 8 1, pfailFilter := le b 9 1, pfailAuto := bit (le b 10 1) 0 }
      sec := { s.sec with slotComplete := [bit fl 0, bit fl 1], imageLen := le b 24 4, imageSha := BitVec.ofNat 256 (le b 28 32),
                          chunks := le b 60 16 } }
    let s := (s.setReg R.SC_STORE_SEQ (le b 0 4)).put R.SC_STATUS_STORE_BANK s.sec.storeBank
    let s := if le b 0 4 = 0xFFFFFFFE then s.put R.SC_STATUS_STORE_RO 1 else s
    let s := s.setReg R.SC_ALARM_POLICY (le b 12 4)
    let s := (((s.put R.SC_UPDATE_ACTIVE (le b 20 1)).put R.SC_UPDATE_STATE (le b 21 1)).put R.SC_UPDATE_TRIAL_LEFT (le b 22 1)).put
      R.SC_UPDATE_REVERTED (bits fl 2 1)
    let s := iterate 14 (fun m t => t.setReg (R.BT_MAP m) (le b (84 + 4 * m) (if m = 13 then 3 else 4))) s
    let s := (s.put R.BT_STATUS_POLICY (le b 139 1)).setReg R.BT_SCHED0 (le b 140 4)
    (s.setReg R.BT_SCHED1 (le b 144 2)).showUpdate
  else
    let s := { s with gaf := { s.gaf with pfailAction := 0, pfailFilter := 2, pfailAuto := false } }
    writeRecord (s.put R.SC_ALARM_POLICY_POLICY 0x656)

/-! ### Firmware images (R787-R789) -/

/-- Flash address of a firmware slot (R782). -/
def imageAddress (slot : Nat) : Nat := 0x100000 + 0x800000 * slot

def State.flashBytes (s : State) (a n : Nat) : List Byte := cellsGet 0xFF s.sec.flash a n

/-- R787, R788: the first header offset that is not acceptable, but for the hash and the signature. -/
def headerBad (s : State) (h : List Byte) : Option Nat :=
  if le h 0 4 ≠ 0x4D574647 then some 0
  else if le h 4 2 ≠ 1 then some 4
  else if le h 6 1 < s.get R.ID_SECURITY_VERSION_SVN ∨ 64 < le h 6 1 then some 6
  else if 3 < le h 7 1 then some 7
  else if s.reg R.ID_ROM_VERSION < le h 12 4 then some 12
  else if le h 16 4 ≠ 0x4C460096 then some 16
  else if 0x800000 < 16480 + le h 20 4 then some 20
  else if !zeroAt h 56 200 then some 56
  else none

/-- R788: is the image in a slot acceptable? -/
def acceptable (s : State) (slot : Nat) : Bool :=
  if s.sec.delivered.getD slot false then decide (s.get R.ID_SECURITY_VERSION_SVN ≤ s.sec.slotSvn.getD slot 0)
  else
    let a := imageAddress slot
    let h := s.flashBytes a 256
    if (headerBad s h).isSome then false
    else
      let k := le h 7 1
      !bit (s.get R.SC_STATUS_RAL_REVOKED) k
        && decide (BitVec.ofNat 256 (le h 24 32) = sha256 (s.flashBytes (16480 + a) (le h 20 4)))
        && slhVerify slh192s (Config.ralheuthKey k) h (s.flashBytes (a + 256) 16224)

/-- The device runs the image of a slot: its version and SVN are known from its header. -/
def State.runImage (s : State) (slot : Nat) : State :=
  let h := s.flashBytes (imageAddress slot) 256
  let given := s.sec.delivered.getD slot false
  let svn := if given then s.sec.slotSvn.getD slot 0 else le h 6 1
  let ver := if given then s.sec.slotVersion.getD slot 0 else le h 8 4
  let sha := if given then s.sec.slotSha.getD slot 0 else sha256 (s.flashBytes (imageAddress slot) (16480 + le h 20 4))
  let sec := { s.sec with running := slot, slotSvn := s.sec.slotSvn.set slot svn, slotVersion := s.sec.slotVersion.set slot ver,
                          slotSha := s.sec.slotSha.set slot sha }
  ({ s with sec := sec }).setReg R.ID_FW_VERSION ver

/-- A change of SC_UPDATE.STATE raises EV_UPDATE (R799). -/
def State.setUpdate (s : State) (st : Nat) : State :=
  if s.get R.SC_UPDATE_STATE = st then s else (s.put R.SC_UPDATE_STATE st).raise 283

/-- R789: the boot ROM chooses the image: true when one runs. -/
def selectImage (s : State) : State × Bool :=
  let active := s.get R.SC_UPDATE_ACTIVE
  let other := 1 - active
  let trial := s.get R.SC_UPDATE_STATE = 3 ∨ s.get R.SC_UPDATE_STATE = 4
  let left := s.get R.SC_UPDATE_TRIAL_LEFT
  let tried := decide trial && decide (0 < left) && !storeRefused s
  let s := if tried then writeRecord ((s.setUpdate 4).put R.SC_UPDATE_TRIAL_LEFT (left - 1)) else s
  if tried && acceptable s other then (s.runImage other, true)
  else
    let s := if trial then
        let s := (s.setUpdate 0).put R.SC_UPDATE_REVERTED 1
        writeRecord { s with sec := { s.sec with slotComplete := s.sec.slotComplete.set other false } }
      else s
    let blow (t : State) (slot : Nat) : State :=
      let svn := t.sec.slotSvn.getD slot 0
      if fusesAllowed t && decide (t.get R.ID_SECURITY_VERSION_SVN < svn) then t.put R.ID_SECURITY_VERSION_SVN svn else t
    if acceptable s active then (blow (s.runImage active) active, true)
    else if s.sec.slotComplete.getD other false && acceptable s other then
      (blow ((writeRecord (s.put R.SC_UPDATE_ACTIVE other)).runImage other) other, true)
    else (s, false)

/-! ### Keys (R762-R767) -/

def asciiTransport : List Byte := [0x54, 0x52, 0x41, 0x4E, 0x53, 0x50, 0x4F, 0x52, 0x54]
def asciiBitstream : List Byte := [0x42, 0x49, 0x54, 0x53, 0x54, 0x52, 0x45, 0x41, 0x4D]

/-- R766, R767: are the owner keys present? In RETURNED the test keys count. -/
def State.keysPresent (s : State) : Bool :=
  let row := s.get R.SC_STATUS_OWNER_ROW
  s.life == 3 || (s.life == 2 && !s.sec.vaultErased && !bit s.sec.rowsRevoked row
    && decide (sha256 s.sec.ownerPub = tblGet (fun _ => 0) s.sec.rows row))

/-- SC_STATUS shows the vault. -/
def State.showVault (s : State) : State :=
  (s.put R.SC_STATUS_OWNER_KEYS (b2n s.keysPresent)).put R.SC_STATUS_VAULT_ERASED (b2n s.sec.vaultErased)

/-- R764: the keys derived at each BOOT. -/
def State.deriveKeys (s : State) : State :=
  let d := s.sec.deviceSecret
  ({ s with sec := { s.sec with transportKey := hkdf d s.serial asciiTransport 0,
                                bitstreamKey := hkdf d s.serial asciiBitstream 0 } }).showVault

/-! ### BOOT -/

/-- The registers that passage through BOOT resets: queues and classifier, banks and windows, trigger matrix, engines, coherent windows,
endpoints (R187, R273, R521, R522, R595). -/
def bootResets : List (Nat × Nat) :=
  [(0x300000, 0x318000), (0x370000, 0x371000), (0x160000, 0x161000), (0x108000, 0x119000), (0x180000, 0x183000), (0x38C000, 0x38C080)]

/-- R148, R156: an edit that was acknowledged still becomes active at its boundary after a passage through BOOT, but for one of what that
passage takes away. -/
def survivesBoot (e : Edit) : Bool :=
  match e with
  | .sched .. | .turnLoad _ | .laneClear _ => true
  | .reg off _ _ => !bootResets.any (fun r => decide (r.1 ≤ off) && decide (off < r.2)) && (endpointOf e).isNone
  | _ => false

/-- Passage through BOOT: claims, with the schedule entries that need them (R165), the fabric's planes and groups, the Tap Engines (R88,
R417, R445). -/
def State.bootClearFabric (s : State) : State :=
  let keys := s.gaf.claims.map Prod.fst
  let g := { s.gaf with shadow := s.gaf.shadow.filter survivesBoot, held := s.gaf.held.filter survivesBoot }
  let s := forEach keys (fun k t => t.clearSchedFor k) ({ s with gaf := g } : State)
  let s := ({ s with gaf := { s.gaf with claims := [] } } : State).clearPlanes
  { s with fab := { nextHandle := s.fab.nextHandle, hints := s.fab.hints }, te := {} }

/-- Passage through BOOT: queues, trigger programs, engines' bindings, allocations, pending edits (R273, R555). -/
def State.bootClearData (s : State) : State :=
  let s := (((s.resetRegs 0x300000 0x318000).resetRegs 0x370000 0x371000).resetSram.clearClassifier)
  let s := ((s.resetRegs 0x160000 0x161000).resetRegs 0x108000 0x119000).resetRegs 0x180000 0x183000
  let s := iterate 96 (fun n t =>
    let t := if t.has (R.GU_STATUS_IN_FRAME n) then t.put (R.GU_STATUS_IN_FRAME n) 0 else t
    if t.has (R.GU_STATUS_BUF_LEVEL n) then t.put (R.GU_STATUS_BUF_LEVEL n) 0 else t) s
  let cap := { s.cap with queues := [], drops := [], fill := [], open_ := [], frames := [], pulses := 0, timers := [],
                          tpol := 0, armTurn := 0 }
  { s with cap := cap, rep := {}, mem := { loads := s.mem.loads, nextHandle := s.mem.nextHandle } }

/-- Passage through BOOT: BAR2 windows, NoC reservations, what lanes are driven by. -/
def State.bootClearPaths (s : State) : State :=
  let s := iterate 8 (fun w t => t.unmapWindow w) s
  let s := iterate 48 (fun r t => t.isolate (regionEndpoint r)) s
  let s := iterate 96 (fun c t => t.isolate (clusterEndpoint c)) s
  let s := forEach s.channelEndpoints (fun e t => t.isolate e) s
  iterate 96 (fun n t => t.showSource n) s

/-- Passage through BOOT: caches, directories, reservations and array windows (R522). -/
def State.bootClearNoc (s : State) : State :=
  let noc := { s.noc with caches := [], sharers := [], out := [], locked := [], snoops := [], acks := [], flows := [] }
  ({ s with noc := noc, arr := { s.arr with owners := [], start := none } } : State).resetRegs 0x38C000 0x38C080

/-- Passage through BOOT: a test slice under way, a staged image, and the boot's own list of segments. -/
def State.bootClearTests (s : State) : State :=
  { s with bist := { s.bist with slice := none, queue := [] }, sec := { s.sec with staged := false, bootSegs := 0, excluded := [] } }

/-- What passage through BOOT takes away (R88, R187, R273, R417, R522, R555, R622): claims, the fabric's planes and groups, banks and
windows, classifier and trigger matrix, queues, engines' bindings, allocations and BAR2 windows, pending edits. -/
def State.bootClear (s : State) : State := s.bootClearFabric.bootClearData.bootClearPaths.bootClearNoc.bootClearTests

/-- The rails of each bring-up step (R729). -/
def railSteps : List (List Nat) := [[2, 3], [4, 5], [6], [7, 8]]

/-- PWR_EN ball of a rail (R724). -/
def railEnable (k : Nat) : Option Nat :=
  if k = 2 then some 2 else if k = 3 then some 3 else if k = 4 then some 0 else if k = 5 then some 1 else none

def State.railGood (s : State) (k : Nat) : Bool := s.get (R.PW_RAIL_STATE_STATE k) == 2

/-- A rail is enabled. -/
def State.enableRail (s : State) (k : Nat) : State :=
  if s.get (R.PW_RAIL_STATE_STATE k) = 0 then
    let s := s.put (R.PW_RAIL_STATE_STATE k) 1
    match railEnable k with
    | some i => { s with pins := { s.pins with pwrEn := setBit s.pins.pwrEn i } }
    | none => s
  else s

/-- R729: in BOOT the next step of the bring-up begins when every rail of the one before it is GOOD; after the last one the test
quads are brought up (R622). -/
def State.railAdvance (s : State) : State :=
  if s.mode ≠ mBoot ∨ s.get R.PW_STATUS_SEQ = 3 then s
  else
    match railSteps.find? (fun l => !l.all (fun k => s.railGood k)) with
    | some l => forEach l (fun k t => t.enableRail k) (s.put R.PW_STATUS_SEQ 2)
    | none => (s.put R.PW_STATUS_SEQ 3).lanesBoot

/-- R729, step 1: PMBus rails found on are turned off; the regulators of R724 answer, and which others do is a free value. -/
def State.railsStart (s : State) : State :=
  let s := forEach [6, 7, 8] (fun k t => (t.put (R.PW_RAIL_STATE_STATE k) 0).setReg (R.PW_RAIL_CTRL k) 750) s
  let s := ((s.put R.PW_REG_PRESENT_ADDR (s.peekFree ||| 0x7F)).drawn).put R.PW_STATUS_SEQ 1
  s.railAdvance

/-! ### SAFE HOLD -/

/-- The qualified bit of a source: 0 furnace, 1 SYSCLK_IN, 2 REFCLK0, 3 REFCLK1, 4 REF10M_IN, 5 PPS_IN. -/
def State.qualified (s : State) (src : Nat) : Bool := bit (s.get R.CK_STATUS_QUAL) src

/-- The source that a code of CK_FPLL_CFG names (R735). -/
def fpllSource (code : Nat) : Nat := if code = 0 then 1 else if code = 1 then 2 else if code = 2 then 3 else if code = 3 then 4 else 0

/-- The source that a node is set to: 0-2 base PLLs, 3 + n FPLL n. -/
def State.nodeSource (s : State) (node : Nat) : Nat :=
  if node < 3 then (if bit (s.get R.CK_BASE_SRC_SRC) node then 0 else 1)
  else
    let n := node - 3
    fpllSource (if s.has (R.CK_FPLL_STATUS_ON_FALLBACK n) then s.get (R.CK_FPLL_CFG_FALLBACK n) else s.get (R.CK_FPLL_CFG_REF n))

/-- A clock line of an FPLL stops at a clean low, or runs (R713). -/
def State.fpllRun (s : State) (n : Nat) (on : Bool) : State :=
  let w := s.get R.CK_STATUS_FPLL_LOCK
  let s := (s.put (R.CK_FPLL_STATUS_LOCK n) (b2n on)).put (R.CK_FPLL_STATUS_STOPPED n) (b2n !on)
  s.put R.CK_STATUS_FPLL_LOCK (if on then setBit w n else clearBit w n)

/-- R693, R701, R718, R733: an enabled FPLL starts, from its reference or, where that is not qualified, from its fallback. -/
def State.fpllStart (s : State) (n : Nat) : State :=
  let back := s.get (R.CK_FPLL_CFG_FALLBACK n)
  if !s.has (R.CK_FPLL_CFG_EN n) then s
  else if s.qualified (s.nodeSource (3 + n)) then s.fpllRun n true
  else if s.has (R.CK_FPLL_CFG_FB_EN n) && !s.has (R.CK_FPLL_STATUS_ON_FALLBACK n) && decide (back ≤ 4) && s.qualified (fpllSource back) then
    ((s.put (R.CK_FPLL_STATUS_ON_FALLBACK n) 1).fpllRun n true).raise 49
  else s

/-- Steps 1 to 3 of R733: rails back at their last settings, memory PLL, clusters, FPLLs, channels. Flags and counters of the
clusters read 0 (R521). -/
def State.lehrRails (s : State) : State :=
  let s := forEach s.phys.lastTarget (fun x t => (t.put (R.PW_RAIL_CTRL_TARGET_MV x.1) x.2).put (R.PW_RAIL_STATE_STATE x.1) 2) s
  let s := s.put R.CK_STATUS_BASE_LOCK (setBit (s.get R.CK_STATUS_BASE_LOCK) 2)
  let s := iterate 96 (fun c t =>
    let t := forEach [R.SB_CL_FLAGS c, R.SB_CL_DENIED c, R.SB_CL_LAST_DENIED c, R.SB_CL_STALL c 0, R.SB_CL_STALL c 1, R.SB_CL_STALL c 2,
      R.SB_CL_DISCARDS c] (fun o u => u.setReg o 0) t
    t.setReg (R.SB_CL_STATUS c) (if t.has (R.SB_CL_CTRL_CLK_EN c) then 1 else 0)) s
  let s := iterate 1536 (fun b t => if t.reg (R.SB_ERR b) = 0 then t else t.setReg (R.SB_ERR b) 0) s
  let s := iterate 8 (fun n t => t.fpllStart n) s
  let up := (List.range 96).filter (fun c => s.has (R.SB_CL_CTRL_CLK_EN c))
  (s.openAtTurn (up.map clusterEndpoint ++ s.channelEndpoints)).put R.PW_STATUS_SEQ 6

/-- Steps 4 to 6 of R733: region clocks, lanes and quads; classifier tables are restored (R273). -/
def State.lehrClocks (s : State) : State := s.ungateAll.lanesWake.restoreTables.put R.PW_STATUS_SEQ 3

/-- Entry into SAFE HOLD (R187, R188, R880). From LEHR the rails and clocks come back as in a wake; where stack memory is not in service
(from BOOT, TEST, ZEROIZED) it is put in service (R794; log entry 50). -/
def State.enterSafeHold (s : State) (cause : Nat) : State :=
  if s.mode = mSafeHold then s.sameMode cause true
  else
    let live := s.servicesLive
    let boot := s.mode == mBoot
    let s := if s.mode = mLehr then s.lehrRails.lehrClocks else s
    let s := s.goMode mSafeHold cause
    let s := if live then s.stopServices 4 6 false else s.stopAllEngines 6
    let s := (s.holdRegions).put R.GAF_STATUS_READY 1
    let s := if boot then ((s.put R.BT_STATUS_PHASE 0).driveInit false).endOps 0x0205 stRefusedState 0 else s
    if s.mem.ready then s else s.guardInit.openAtTurn (s.channelEndpoints ++ serviceEndpoints)

/-- R756: broken sensors are tried again from the next BOOT. -/
def State.sensorsAgain (s : State) : State :=
  let s := iterate 64 (fun n t => if t.get (R.TH_SENSOR_STATE n) = 1 then (t.put (R.TH_SENSOR_STATE n) 0).put (R.TH_SENSOR_CAUSE n) 0 else t) s
  iterate 20 (fun z t => t.put (R.TH_ZONE_STATE_BROKEN z) 0) s

/-- Entry into BOOT (R180, R75, R729, R784, R789): `image` when the boot ROM chooses the image anew. The host port is powered again, and
ready where PERST_N is high (R823, log entry 60). -/
def State.enterBoot (s : State) (cause : Nat) (image : Bool) : State :=
  let s := (s.goMode mBoot cause).put R.GAF_STATUS_READY 0
  let s := { s with host := { s.host with ready := s.host.ready || s.pins.perstN } }
  let s := (((s.put R.GAF_STATUS_WARM 0).put R.BT_STATUS_PHASE 1).driveInit true).bootClear
  let s := s.sensorsAgain.loadStore.deriveKeys.put R.CK_STATUS_BASE_LOCK 7
  let s := if s.life = 0 ∨ s.life = 3 then s.put R.GAF_LIFECYCLE_DEBUG_OPEN 1 else s
  let r := if image then selectImage s else (s, true)
  if r.2 then r.1.railsStart else r.1.enterSafeHold 0x14

/-- R180: POWER-ON is left when POR_N and PROG_N are high, VCC_AUX and VCC_BASE good and the furnace oscillator qualified. -/
def State.tryBoot (s : State) : State :=
  if s.mode = mPowerOn ∧ s.pins.porN ∧ s.pins.progN ∧ s.pins.furnace ∧ s.railGood 0 ∧ s.railGood 1 then s.enterBoot 2 true else s

/-! ### ZEROIZED (R779) -/

/-- R779, step 1: the vault store, the derived keys, the guard's slots and the seam keys are erased. -/
def State.eraseVault (s : State) : State :=
  let sec := { s.sec with keys := [], masks := [], ownerPub := [], ownerBitKey := 0, arrayKey := 0, transportKey := 0,
                          bitstreamKey := 0, vaultErased := true }
  let mem := { s.mem with ready := false, slotLoad := List.replicate 16 0, sweepPos := [], sweptOut := [], waiting := [], again := [] }
  let s := iterate 16 (fun n t => t.setReg (R.MG_SLOT n) 0) { s with sec := sec, mem := mem }
  s.showVault

/-- Zeroisation up to step 2: the device enters ZEROIZED. Steps that clear planes, banks and tables are ZEROISE_CLEAR_COMPLETE. -/
def State.enterZeroized (s : State) (cause : Nat) : State :=
  let live := s.servicesLive
  let boot := s.mode == mBoot
  let s := ((s.workedFor 2).eraseVault.goMode mZeroized cause)
  let s := if live then s.dataRemoved 2 |>.stopServices 4 6 false else s.stopAllEngines 6
  -- R187, R557: requests to stack memory are answered INTEGRITY, not ISOLATED
  let s := forEach s.channelEndpoints (fun e t => t.openEndpoint e) s
  let s := if boot then ((s.put R.BT_STATUS_PHASE 0).driveInit false).endOps 0x0205 stRefusedState 0 else s
  let keys := s.gaf.claims.map Prod.fst
  let s := forEach keys (fun k t => t.clearSchedFor k) s
  let s := { s with gaf := { s.gaf with claims := [] } }
  let s := iterate 8 (fun w t => t.unmapWindow w) s
  (s.holdRegions).put R.GAF_STATUS_READY 1

/-- R779, step 3: context planes, SRAM banks and classifier tables are cleared (and the trigger matrix with them, R273). -/
def State.zeroiseClear (s : State) : State :=
  let s := ((s.clearPlanes.resetSram).clearClassifier).resetRegs 0x160000 0x161000
  { s with cap := { s.cap with timers := [], tpol := 0 } }

/-! ### LEHR (R731-R734) -/

/-- R731: in LEHR the regions stop, and the banks, the engines, the channels and the fractional PLLs are gated. -/
def State.lehrGates (s : State) : State :=
  let s := iterate 48 (fun r t => t.stopRegion r rgIdle) s
  let s := iterate 96 (fun c t => (t.closeEndpoint (clusterEndpoint c)).put (R.SB_CL_STATUS_READY c) 0) s
  let s := (s.lehrEngines.setGated 0 168 true).put R.CK_STATUS_BASE_LOCK (clearBit (s.get R.CK_STATUS_BASE_LOCK) 2)
  let s := forEach s.channelEndpoints (fun e t => t.closeEndpoint e) s
  iterate 8 (fun n t => t.fpllRun n false) s.lanesOff

/-- R731: the core rails go to their LEHR targets; those they had, and the regions that ran, are remembered. -/
def State.lehrSupply (s : State) (runs : List Nat) : State :=
  let last := [6, 7, 8].map (fun k => (k, s.get (R.PW_RAIL_CTRL_TARGET_MV k)))
  let t := forEach [6, 7, 8] (fun k t => (t.put (R.PW_RAIL_CTRL_TARGET_MV k) 550).put (R.PW_RAIL_STATE_STATE k) 6) s
  { t with phys := { t.phys with lastTarget := last, lehrRegions := runs, lehrStop := false }, cap := { t.cap with counters := [] } }

/-- R187: the user flip-flops of every region are lost. -/
def State.losesFlops (s : State) : State := { s with fab := { s.fab with dead := [], flops := [], flopStart := [] } }

/-- Steps 1 to 5 of R731, at pip 0 of the turn. -/
def State.enterLehr (s : State) : State :=
  let runs := (List.range 48).filter (fun r => s.rgState r == rgRunning || s.rgState r == rgSwitching)
  ((((s.stopAllEngines 6).lehrGates.losesFlops.lehrSupply runs).put R.PW_STATUS_SEQ 5).goMode mLehr 0x16).endOps 0x0203 stOk 0

/-! ### ORDERLY STOP (R184-R186, R880) -/

/-- R752: the first zone that has not been below its Resume level for 8 consecutive samples. -/
def State.notCool (s : State) : Option Nat :=
  (List.range 20).find? (fun z =>
    s.get (R.TH_ZONE_STATE_LEVEL z) != 5 && decide ((tblGet (fun _ => ({} : Zone)) s.phys.zones z).cool < 8))

/-- ORDERLY STOP with STOP_DONE and CAUSE THERM_STOP or THERM_TRIP (R752). -/
def State.thermStopped (s : State) : Bool := s.mode == mStop && s.has R.GAF_MODE_STOP_DONE && (s.cause == 0x09 || s.cause == 0x0F)

/-- R752: EV_TH_RESUME_READY when the first two conditions of TH_RESUME first hold together. -/
def State.resumeCheck (s : State) : State :=
  if s.thermStopped && s.notCool.isNone && !s.phys.resumeReady then
    { s with phys := { s.phys with resumeReady := true } }.raise 71
  else s

/-- The stop sequence has completed: STOP_DONE, EV_STOP_DONE; SELFTEST_FAIL, SENSOR_FAIL and ALARM go on to SAFE HOLD. -/
def State.completeStop (s : State) : State :=
  let s := ((s.put R.GAF_MODE_STOP_DONE 1).raise 6).resumeCheck
  if s.cause = 0x0D ∨ s.cause = 0x0A ∨ s.cause = 0x0E then s.enterSafeHold s.cause else s

/-- R734: a stop entered from LEHR: steps 1 to 3 of R733, and STOP_DONE. -/
def State.stopFromLehr (s : State) : State :=
  let s := s.lehrRails
  ({ s with phys := { s.phys with lehrStop := true } }).completeStop

/-- The device leaves ORDERLY STOP (R180, R734): clocks run again; after a stop from LEHR the release waits for its turn. -/
def State.beginResume (s : State) : State :=
  if s.phys.lehrStop then
    let s := s.lehrClocks
    { s with phys := { s.phys with resumeAt := some s.tb.now } }
  else (s.ungateAll).goMode mOperate 0x15

/-- Entry into ORDERLY STOP for any cause but PFAIL and THERM_TRIP: the fabric is asked to stop; FABRIC_STOP_ACK_END goes on. -/
def State.enterStop (s : State) (cause : Nat) : State :=
  let lehr := s.mode == mLehr
  let thermal := cause == 0x09 || cause == 0x0A
  let s := (if thermal then s.workedFor 1 else s).goMode mStop cause
  let s := if cause = 0x09 then s.losslessStops else s
  if lehr then s.stopFromLehr else s

/-- R184, steps 4 and 5, once step 3 has ended: no replay engine runs any more. -/
def State.stopProgress (s : State) : State :=
  if s.phys.stopping && !(List.range 32).any (fun e => s.engineState e == 2) then
    (({ s with phys := { s.phys with stopping := false } } : State).setGated 0 144 true).completeStop
  else s

/-- R184, steps 2 and 3. Each replay engine stops at its next record boundary in the next turn (R318). -/
def State.stopSequence (s : State) : State :=
  let s := ((s.stopAllQueues 4 true).askAllStop 6).passThroughOff
  ({ s with phys := { s.phys with stopping := true } } : State).stopProgress

/-- R185, R201: the power-fail stop. -/
def State.enterPfail (s : State) : State :=
  let lehr := s.mode == mLehr
  let s := (s.workedFor 1).goMode mStop 0x0C
  if lehr then s.stopFromLehr
  else ((s.stopServices 5 7 true).setGated 0 144 true).completeStop

/-- R182: a cause that came during the resume is evaluated in OPERATE: of those that came, the first in the order of R180's rows proceeds;
in ORDERLY STOP the others are ignored. A power-fail warning counts while PFAIL_N is low. -/
def State.takeWaiting (s : State) (l : List Nat) : State :=
  let live := [0x09, 0x0A, 0x0C, 0x0D, 0x0E].filter (fun c => l.contains c && (c != 0x0C || s.pins.pfailLow))
  match live with
  | [] => s
  | c :: rest => forEach rest (fun d t => t.causeIgnored d) (if c = 0x0C then s.enterPfail else s.enterStop c)

/-- R182, R186, R753, R880: the thermal trip in any mode but POWER-ON. -/
def State.enterTrip (s : State) : State :=
  if s.mode = mPowerOn then s
  else
    let lehr := s.mode == mLehr
    let keep := s.mode == mStop && (s.cause == 0x0D || s.cause == 0x0A || s.cause == 0x0E)
    let live := s.servicesLive
    let s := s.workedFor 1
    let s := if live then s.losslessStops.dataRemoved 1 else s
    let s := if s.mode = mStop then s.sameMode 0x0F keep else s.goMode mStop 0x0F
    -- R182, R880: a resume or a stop sequence that is under way does not go on
    let waiting := s.phys.waiting
    let p := { s.phys with resumeAt := none, waiting := [], stopping := false }
    let s := forEach waiting (fun c t => t.causeIgnored c) ({ s with phys := p } : State)
    let s := s.endOps 0x0202 stRefusedState 0
    let s := (s.stopServices 6 8 false).setGated 0 168 true
    if lehr then s.stopFromLehr else if s.has R.GAF_MODE_STOP_DONE then s else s.completeStop

/-! ### TEST -/

/-- Entry into TEST (R187, R417, R522): contents are destroyed, lanes are under test. -/
def State.enterTest (s : State) (cause : Nat) : State :=
  let live := s.running
  let s := s.goMode mTest cause
  let s := if live then s.stopServices 4 6 false else s.stopAllEngines 6
  let s := (((s.clearPlanes.resetSram)).put R.BT_STATUS_PHASE 3)
  let s := forEach ((List.range 120).filter (fun n => s.fitted n)) (fun n t => (t.dropCdr n).dropSignal n false) s
  let s := iterate 96 (fun c t => t.isolate (clusterEndpoint c)) s
  { s with mem := { s.mem with ready := false, data := [], pages := [], upsets := [] } }

end Sys2Proof.Machine
end

