-- ==== Sys2Proof/Machine/Clocks.lean ====
section
/-!
DEFINITION. Machine/Clocks.lean: clock sources, nodes and PLLs, the frequency meter, gating, rails and their regulators, the reset
balls (R700-R738, R180, R864, R866).
-/

namespace Sys2Proof.Machine

open Sys2Proof

/-! ### Clock sources (R700, R701, R715) -/

/-- Ten times the nominal count of a source in a window of 2,048 furnace cycles; a reference that has not been measured is judged
against the nearer of its two frequencies. PPS_IN is judged by its period in us. -/
def State.nominal10 (s : State) (src n : Nat) : Nat :=
  let two (valid freq : Bool) : Nat := if valid then (if freq then 16000 else 10240) else if n * 10 < 13120 then 10240 else 16000
  if src = 1 then 2560
  else if src = 2 then two (s.has R.CK_STATUS_REF0_VALID) (s.has R.CK_STATUS_REF0_FREQ)
  else if src = 3 then two (s.has R.CK_STATUS_REF1_VALID) (s.has R.CK_STATUS_REF1_FREQ)
  else if src = 4 then 1024 else 10000000

/-- The distance of two numbers. -/
def dist (a b : Nat) : Nat := (a - b) + (b - a)

/-- R715: a source trips: its qualified bit, TRIP_SEEN, EV_CK_MON_TRIP; the FPLLs whose node it feeds are in holdover (R710, R718). -/
def State.tripSource (s : State) (src : Nat) : State :=
  let s := s.put R.CK_STATUS_QUAL (clearBit (s.get R.CK_STATUS_QUAL) src)
  let s := (s.put R.CK_FLAGS_TRIP_SEEN (setBit (s.get R.CK_FLAGS_TRIP_SEEN) src)).raise 48
  iterate 8 (fun n t =>
    if t.has (R.CK_FPLL_CFG_EN n) && t.nodeSource (3 + n) == src then t.put (R.CK_FPLL_STATUS_HOLDOVER n) 1 else t) s

/-- CLOCK_MONITOR_WINDOW (R715): `n` edges of a source in a full window, or for PPS_IN its period in us (0: no edge). The furnace is
watched by its own detector (R702, R703). A reference qualifies only once it has been measured (R701). -/
def execClockMonitorWindow (src : Fin 6) (n : BitVec 32) (s : State) : Host.Outcome State Fault Refusal :=
  let k := src.val
  let n := n.toNat
  if k = 0 ∨ s.mode = mPowerOn then .next s
  else
    let setC (t : State) (good bad : Nat) : State :=
      { t with phys := { t.phys with good := tblSet (fun _ => 0) t.phys.good k good, bad := tblSet (fun _ => 0) t.phys.bad k bad } }
    let alive (t : State) (d : Bool) : State :=
      { t with phys := { t.phys with dead := if d then setBit t.phys.dead k else clearBit t.phys.dead k } }
    if n = 0 then
      let was := bit s.phys.dead k
      let s := alive (setC s 0 0) true
      .next (if was then s else s.tripSource k)
    else
      let s := alive s false
      let nom := s.nominal10 k n
      let d := dist (n * 10) nom
      if k = 5 then
        if d ≤ 10000 then
          .next (if s.qualified 5 then s else (s.put R.CK_STATUS_QUAL (setBit (s.get R.CK_STATUS_QUAL) 5)).raise 50)
        else .next (if s.qualified 5 then s.tripSource 5 else s)
      else if nom * 5 < d * 100 then
        let bad := tblGet (fun _ => 0) s.phys.bad k + 1
        let s := setC s 0 bad
        .next (if bad = 2 then s.tripSource k else s)
      else if d * 100 ≤ nom * 2 then
        let good := tblGet (fun _ => 0) s.phys.good k + 1
        let s := setC s good 0
        let ready := (k != 2 || (s.has R.CK_STATUS_REF0_VALID && !bit s.phys.badRef 0))
          && (k != 3 || (s.has R.CK_STATUS_REF1_VALID && !bit s.phys.badRef 1))
        .next (if 64 ≤ good ∧ ready ∧ !s.qualified k then (s.put R.CK_STATUS_QUAL (setBit (s.get R.CK_STATUS_QUAL) k)).raise 50 else s)
      else .next (setC s 0 0)

/-- REFCLK_MEASURED (R701): `count` edges over 2^14 furnace cycles; quads set to the other frequency are corrected. -/
def execRefclkMeasured (ref : Fin 2) (count : BitVec 32) (s : State) : Host.Outcome State Fault Refusal :=
  let r := ref.val
  let c := count.toNat
  let near (x : Nat) : Bool := decide (100 * dist c x ≤ x * 5)
  if !near 8192 && !near 12800 then
    let s := { s with phys := { s.phys with good := tblSet (fun _ => 0) s.phys.good (2 + r) 0, badRef := setBit s.phys.badRef r } }
    .next (s.log 3 0x0A (2 + r) c 0)
  else
    let f := b2n (near 12800)
    let s := { s with phys := { s.phys with badRef := clearBit s.phys.badRef r } }
    let s := if r = 0 then (s.put R.CK_STATUS_REF0_VALID 1).put R.CK_STATUS_REF0_FREQ f
      else (s.put R.CK_STATUS_REF1_VALID 1).put R.CK_STATUS_REF1_FREQ f
    let wrong := (List.range 28).filter (fun q => s.get (R.LN_Q_CTRL_REF_SEL q) == r && s.get (R.LN_Q_CTRL_REF_FREQ q) != f)
    let s := forEach wrong (fun q t => (t.put (R.LN_Q_CTRL_REF_FREQ q) f).unlockPll q) s
    .next (if wrong.isEmpty then s else s.log 3 0x0A (2 + r) f 0)

/-! ### Nodes and PLLs (R705-R719) -/

/-- CLOCK_NODE_SWITCH (R716-R718, R706, R709): a node whose source has tripped moves to a qualified fallback, by the abandon path
when the source is dead; a base PLL returns to SYSCLK_IN; a node with no fallback is released on its own source. -/
def execClockNodeSwitch (node : Fin 11) (s : State) : Host.Outcome State Fault Refusal :=
  let k := node.val
  let src := s.nodeSource k
  let gone (t : State) : State := if bit t.phys.dead src then t.put R.CK_FLAGS_ABANDON_SEEN 1 else t
  if s.mode = mPowerOn then .next s
  else if k < 3 then
    let move (t : State) (furnace : Bool) : State :=
      let w := t.get R.CK_BASE_SRC_SRC
      let t := (t.put R.CK_BASE_SRC_SRC (if furnace then setBit w k else clearBit w k)).put R.CK_BASE_SRC_SLEWING 1
      (if k = 0 then t.put R.GAF_STATUS_CLK_SRC (b2n !furnace) else t).raise 49
    if src = 1 then
      if s.qualified 1 ∨ !s.qualified 0 then .next s else .next (move (gone s) true)
    else if s.qualified 1 ∧ s.has R.CK_BASE_SRC_AUTO_RETURN then .next (move s false) else .next s
  else
    let n := k - 3
    let back := s.has (R.CK_FPLL_CFG_FB_EN n) && !s.has (R.CK_FPLL_STATUS_ON_FALLBACK n) && decide (s.get (R.CK_FPLL_CFG_FALLBACK n) ≤ 4)
    let stopped := s.has (R.CK_FPLL_STATUS_HOLDOVER n)
    if !s.has (R.CK_FPLL_CFG_EN n) then .next s
    else if back then
      if (stopped || !s.qualified src) && s.qualified (fpllSource (s.get (R.CK_FPLL_CFG_FALLBACK n))) then
        .next ((((gone s).put (R.CK_FPLL_STATUS_ON_FALLBACK n) 1).put (R.CK_FPLL_STATUS_HOLDOVER n) 0).raise 49)
      else .next s
    else if stopped && s.qualified src then .next (s.put (R.CK_FPLL_STATUS_HOLDOVER n) 0)
    else .next s

/-- BASE_PLL_SLEW_END (R708). The memory PLL is stopped in LEHR (R731). -/
def execBasePllSlewEnd (s : State) : Host.Outcome State Fault Refusal :=
  if s.mode = mPowerOn then .next s
  else .next ((s.put R.CK_BASE_SRC_SLEWING 0).put R.CK_STATUS_BASE_LOCK (if s.mode = mLehr then 3 else 7))

/-- FPLL_RELOCK (R713): the output restarts. -/
def execFpllRelock (n : Fin 8) (s : State) : Host.Outcome State Fault Refusal :=
  if s.has (R.CK_FPLL_CFG_EN n.val) && s.qualified (s.nodeSource (3 + n.val)) && s.mode != mPowerOn && s.mode != mLehr then
    .next (s.fpllRun n.val true)
  else .next s

/-- PLL_LOSS_OF_LOCK (R738): a base PLL (0-2) or FPLL n (3 + n). -/
def execPllLossOfLock (pll : Fin 11) (s : State) : Host.Outcome State Fault Refusal :=
  let k := pll.val
  let locked := if k < 3 then bit (s.get R.CK_STATUS_BASE_LOCK) k else s.has (R.CK_FPLL_STATUS_LOCK (k - 3))
  if !locked then .next s
  else
    let s := if k < 3 then s.put R.CK_STATUS_BASE_LOCK (clearBit (s.get R.CK_STATUS_BASE_LOCK) k)
      else (s.put (R.CK_FPLL_STATUS_LOCK (k - 3)) 0).put R.CK_STATUS_FPLL_LOCK (clearBit (s.get R.CK_STATUS_FPLL_LOCK) (k - 3))
    .next ((s.put R.CK_FLAGS_UNLOCK_SEEN 1).raise 51)

/-- A field keeps the value it had where its new one is out of range. -/
def State.refuseValue (s old : State) (x : RF) (bad : Bool) : State := if bad then s.put x (old.get x) else s

/-- Has a field changed? -/
def State.changed (s old : State) (x : RF) : Bool := old.get x != s.get x

/-- R713: the settings of FPLL n that are out of range are not applied; a frequency out of range sets CFG_ERR. -/
def State.fpllCheck (s old : State) (n : Nat) : State :=
  let limit := if s.get R.ID_VARIANT_SPEED = 2 then 700000 else 800000
  let t := s.refuseValue old (R.CK_FPLL_CFG_REF n) (decide (4 < s.get (R.CK_FPLL_CFG_REF n)))
  let t := t.refuseValue old (R.CK_FPLL_CFG_FALLBACK n) (decide (4 < s.get (R.CK_FPLL_CFG_FALLBACK n)))
  let khz := s.get (R.CK_FPLL_FREQ_KHZ n)
  if s.changed old (R.CK_FPLL_FREQ_KHZ n) && (decide (limit < khz) || decide (khz < 10000)) then
    (t.put (R.CK_FPLL_FREQ_KHZ n) (old.get (R.CK_FPLL_FREQ_KHZ n))).put (R.CK_FPLL_STATUS_CFG_ERR n) 1
  else t

/-- R714: FPLL n starts again where its settings have changed. -/
def State.fpllRestart (s old : State) (n : Nat) : State :=
  if s.changed old (R.CK_FPLL_CFG_REF n) || s.changed old (R.CK_FPLL_FREQ_KHZ n) || s.changed old (R.CK_FPLL_CFG_EN n) then
    ((s.fpllRun n false).put (R.CK_FPLL_STATUS_ON_FALLBACK n) 0).put (R.CK_FPLL_STATUS_HOLDOVER n) 0
  else if s.changed old (R.CK_FPLL_CFG_FALLBACK n) then s.put (R.CK_FPLL_STATUS_ON_FALLBACK n) 0 else s

/-- R713, R714: FPLL settings have become active at a turn boundary; what is out of range is not applied. `old`: the device
before. -/
def State.fpllApply (s old : State) : State := iterate 8 (fun n t => (t.fpllCheck old n).fpllRestart old n) s

/-- SYSCLK_QUALIFY_TIMEOUT (R709). -/
def execSysclkQualifyTimeout (s : State) : Host.Outcome State Fault Refusal :=
  if s.mode = mBoot ∧ !s.qualified 1 then .next (s.log 3 0x0A 1 0 0) else .next s

/-! ### Clock gating (R720-R722) -/

/-- AUTO_CLOCK_GATE (R721): a Tap Engine column without work for 16 cycles. -/
def execAutoClockGate (col : Fin 96) (s : State) : Host.Outcome State Fault Refusal :=
  let u := 48 + col.val
  let busy := (List.range 16).any (fun i => s.teState (16 * col.val + i) == teRunning)
  if bit (s.reg (R.CK_AUTO_EN (u / 32))) (u % 32) && !busy then .next (s.setGated u (u + 1) true) else .next s

/-- Is a forced gate of a unit requested (R720, R722)? Units 168 + c: SRAM cluster c. -/
def State.gateForced (s : State) (u : Nat) : Bool :=
  if u < 168 then bit (s.reg (R.CK_FORCE (u / 32))) (u % 32) else !s.has (R.SB_CL_CTRL_CLK_EN (u - 168))

/-- FORCED_GATE_CLOSE (R722). -/
def execForcedGateClose (unit : Fin 264) (s : State) : Host.Outcome State Fault Refusal :=
  let u := unit.val
  if !s.gateForced u then .next s
  else if u < 168 then .next (s.setGated u (u + 1) true) else .next (s.put (R.SB_CL_STATUS_READY (u - 168)) 0)

/-- GATE_REFUSED (R722): an access is still in flight 4,096 cycles after the request. -/
def execGateRefused (unit : Fin 264) (s : State) : Host.Outcome State Fault Refusal :=
  if s.gateForced unit.val then .next ((s.bump R.CK_GATE_REFUSALS_COUNT).raise 52) else .next s

/-! ### Frequency meter (R723) -/

/-- R723: the clocks that SEL names. -/
def meterSelOk (v : Nat) : Bool := v ≤ 8 || (0x10 ≤ v && v ≤ 0x17) || (0x20 ≤ v && v ≤ 0x3B) || (0x40 ≤ v && v ≤ 0xB7)

/-- A write of CK_FM_CTRL. Channel 7 takes the gaffer's writes only; a code that does not exist is not applied and sets ABORT. -/
def writeMeter (s : State) (c v : Nat) (who : Requester) : State :=
  if c = 7 ∧ who ≠ .gaffer then s
  else if !meterSelOk (bits v 0 8) || decide (4 < bits v 8 3) || decide (bits v 16 5 < 10) || decide (30 < bits v 16 5) then
    s.put (R.CK_FM_CTRL_ABORT c) 1
  else
    let s := ((s.put (R.CK_FM_CTRL_SEL c) (bits v 0 8)).put (R.CK_FM_CTRL_REF c) (bits v 8 3)).put (R.CK_FM_CTRL_N c) (bits v 16 5)
    if bit v 29 then
      let s := (s.put (R.CK_FM_CTRL_DONE c) 0).put (R.CK_FM_CTRL_ABORT c) 0
      let s := (s.setReg (R.CK_FM_RES_LO c) 0).setReg (R.CK_FM_RES_HI c) 0
      { s with phys := { s.phys with gates := setBit s.phys.gates c } }
    else s

/-- FREQ_METER_START. The management SPI may not write it (R842). -/
def execFreqMeterStart (c : Fin 8) (v : BitVec 32) (who : Requester) (s : State) : Host.Outcome State Fault Refusal :=
  if who = .spi then .next { s with pins := { s.pins with mspiRefused := true } } else .next (writeMeter s c.val v.toNat who)

/-- A gate ends: EV_FM_DONE (R738). -/
def State.endGate (s : State) (c : Nat) : State := { s with phys := { s.phys with gates := clearBit s.phys.gates c } }.raise 53

/-- FREQ_METER_GATE_END. -/
def execFreqMeterGateEnd (c : Fin 8) (count : BitVec 48) (s : State) : Host.Outcome State Fault Refusal :=
  if bit s.phys.gates c.val then
    let s := (s.setReg (R.CK_FM_RES_LO c.val) count.toNat).setReg (R.CK_FM_RES_HI c.val) (count.toNat / 2 ^ 32)
    .next ((s.put (R.CK_FM_CTRL_DONE c.val) 1).endGate c.val)
  else .next s

/-- FREQ_METER_TIMEOUT: 200 s have passed. -/
def execFreqMeterTimeout (c : Fin 8) (s : State) : Host.Outcome State Fault Refusal :=
  if bit s.phys.gates c.val then .next ((s.put (R.CK_FM_CTRL_ABORT c.val) 1).endGate c.val) else .next s

/-! ### Regulators and periodic updates (R704, R726, R728, R730) -/

/-- The rail of a PMBus address (R724). -/
def railOfAddr (a : Nat) : Option Nat :=
  if a = 0x40 then some 6 else if 0x41 ≤ a ∧ a ≤ 0x43 then some 7 else if 0x44 ≤ a ∧ a ≤ 0x46 then some 8 else none

/-- R726: a PMBus transaction succeeded or failed; the third failure in a row marks the regulator FAULT. -/
def State.pmbus (s : State) (addr : Nat) (failed : Bool) : State :=
  let set (t : State) (n : Nat) : State := { t with phys := { t.phys with pmbFails := tblSet (fun _ => 0) t.phys.pmbFails addr n } }
  if !failed then set s 0
  else
    let n := tblGet (fun _ => 0) s.phys.pmbFails addr + 1
    let s := ((set s n).bump R.PW_PMB_ERR_FAILS).put R.PW_PMB_ERR_LAST_ADDR addr
    if n = 3 then
      let s := match railOfAddr addr with
        | some k => s.put (R.PW_RAIL_STATE_STATE k) 5
        | none => s
      (s.put R.PW_FLAGS_PMBUS_SEEN 1).raise 56
    else s

/-- R730: a tier's rail moves to the voltage that its monitors need, down by at most 5 mV. -/
def State.avs (s : State) (k need : Nat) : State :=
  if s.get R.PW_STATUS_SEQ ≠ 3 ∨ s.get (R.PW_RAIL_STATE_STATE k) = 5 then s
  else
    let old := s.get (R.PW_RAIL_CTRL_TARGET_MV k)
    let want := max 620 (min 800 need)
    s.put (R.PW_RAIL_CTRL_TARGET_MV k) (if want < old then max want (old - 5) else want)

/-- R728: the lowest input reading. -/
def State.readVin (s : State) (mv : Nat) : State :=
  let s := s.put R.PW_VIN_VIN_MV mv
  let low := s.has R.PW_VIN_VIN_MIN_MV && decide (mv < s.get R.PW_VIN_VIN_MIN_MV)
  if low && !s.has R.PW_STATUS_VIN_LOW then ((s.put R.PW_STATUS_VIN_LOW 1).put R.PW_FLAGS_VIN_SEEN 1).raise 57
  else s.put R.PW_STATUS_VIN_LOW (b2n low)

/-- GAFFER_PERIODIC_UPDATE (R704): trim code a free value. The gaffer's cores do not run in POWER-ON and LEHR. -/
def execGafferPeriodicUpdate (u : PeriodicUpdate) (s : State) : Host.Outcome State Fault Refusal :=
  if s.mode = mPowerOn ∨ s.mode = mLehr then .next s
  else
    let s := (s.put R.CK_FURNACE_TRIM s.peekFree).drawn
    let s := if s.qualified 1 then (s.put R.CK_FURNACE_OFFSET u.offset.toNat).put R.CK_FURNACE_REFERENCED 1
      else s.put R.CK_FURNACE_REFERENCED 0
    let s := s.calibrateAll
    let s := (s.avs 7 u.needLL.toNat).avs 8 u.needLU.toNat
    .next (s.readVin u.vin.toNat)

/-- AVS_URGENT_RAISE (R730). -/
def execAvsUrgentRaise (tier : Fin 2) (mv : BitVec 12) (s : State) : Host.Outcome State Fault Refusal :=
  let k := 7 + tier.val
  if s.get (R.PW_RAIL_CTRL_TARGET_MV k) < mv.toNat then .next (s.avs k mv.toNat) else .next s

/-- PMB_ALERT (R726): PMB_ALERT_N falls; `failed`: the transaction with the regulator at `addr` fails. CLEAR_FAULTS lets the ball
rise again. -/
def execPmbAlert (addr : BitVec 7) (status : BitVec 16) (failed : Bool) (s : State) : Host.Outcome State Fault Refusal :=
  if s.mode = mPowerOn then .next s
  else
    let s := (s.put R.PW_FLAGS_ALERT_SEEN 1).raise 55
    let s := (s.log 3 0x0A addr.toNat status.toNat 0).pmbus addr.toNat failed
    .next (s.put R.PW_STATUS_ALERT_PIN (b2n !failed))

/-- SUPPLY_OK_CHANGE (R728). -/
def execSupplyOkChange (level : Bool) (s : State) : Host.Outcome State Fault Refusal :=
  if s.has R.PW_STATUS_SUPPLY_OK_PIN = level then .next s else .next ((s.put R.PW_STATUS_SUPPLY_OK_PIN (b2n level)).raise 58)

/-! ### Rails (R727, R729) -/

/-- Is a reading within 5 % of the rail's target? -/
def State.inBand (s : State) (k mv : Nat) : Bool :=
  let t := s.get (R.PW_RAIL_CTRL_TARGET_MV k)
  decide (100 * dist mv t ≤ 5 * t)

/-- RAIL_GOOD (R727, R729, R180): a rail enters its band. One whose regulator is marked FAULT stays so (R726). -/
def execRailGood (k : Fin 21) (mv : BitVec 12) (s : State) : Host.Outcome State Fault Refusal :=
  let r := k.val
  let st := s.get (R.PW_RAIL_STATE_STATE r)
  if !s.inBand r mv.toNat ∨ st = 2 ∨ 5 ≤ st ∨ (!boardRail r ∧ st = 0) then .next (s.put (R.PW_RAIL_MEAS_MV r) mv.toNat)
  else
    let s := (s.put (R.PW_RAIL_MEAS_MV r) mv.toNat).put (R.PW_RAIL_STATE_STATE r) 2
    let s := if st = 3 ∨ st = 4 then s.raise 54 else s
    let s := if 9 ≤ r then s.put (R.IO_BANK_STATUS_VCCIO_MV (r - 9)) mv.toNat else s
    .next s.railAdvance.tryBoot

/-- RAIL_OUT_OF_BAND (R727): a GOOD rail has been outside its band for 10 us. -/
def execRailOutOfBand (k : Fin 21) (mv : BitVec 12) (s : State) : Host.Outcome State Fault Refusal :=
  let r := k.val
  let s := s.put (R.PW_RAIL_MEAS_MV r) mv.toNat
  if !s.railGood r ∨ s.inBand r mv.toNat then .next s
  else
    let low := decide (mv.toNat < s.get (R.PW_RAIL_CTRL_TARGET_MV r))
    let s := (s.put (R.PW_RAIL_STATE_STATE r) (if low then 3 else 4)).bump (R.PW_RAIL_STATE_EXCURSIONS r)
    let s := if 9 ≤ r then s.put (R.IO_BANK_STATUS_VCCIO_MV (r - 9)) mv.toNat else s
    .next (((s.put R.PW_FLAGS_RAIL_SEEN 1).raise 54).log 3 0x0A r mv.toNat 0)

/-- RAIL_OVERVOLTAGE_CUT (R727): a gaffer-run rail is switched off, and its drop takes the device to POWER-ON. -/
def execRailOvervoltageCut (k : Fin 21) (s : State) : Host.Outcome State Fault Refusal :=
  if boardRail k.val ∨ s.get (R.PW_RAIL_STATE_STATE k.val) = 0 then .next s else .next (s.enterPowerOn 0).tryBoot

/-- CORE_SUPPLY_BELOW_RESET (R180, R727): a supply has fallen below its reset threshold; one that the board gives is no longer
GOOD. Without VCC_AUX the furnace oscillator stops (R702). -/
def execCoreSupplyBelowReset (k : Fin 21) (s : State) : Host.Outcome State Fault Refusal :=
  let s := s.enterPowerOn 0
  let s := if boardRail k.val then s.put (R.PW_RAIL_STATE_STATE k.val) 3 else s
  let s := if k.val = 0 then { s with pins := { s.pins with furnace := false } } else s
  .next s.tryBoot

/-! ### Reset balls (R180, R702, R864, R866) -/

/-- POR_N_LOW. -/
def execPorNLow (s : State) : Host.Outcome State Fault Refusal := .next (({ s with pins := { s.pins with porN := false } }).enterPowerOn 0)

/-- POR_N_RISE (R866, R639, R672): the straps are sampled. -/
def execPorNRise (cfgMode devId : BitVec 3) (iopull : Bool) (s : State) : Host.Outcome State Fault Refusal :=
  if s.pins.porN then .next s
  else
    let d := devId.toNat
    let s := { s with pins := { s.pins with porN := true, iopull := iopull, devId := d } }
    let s := ((s.put R.CF_CFG_STATUS_CFG_MODE cfgMode.toNat).put R.NC_ARRAY_DEV_ID d).put R.NC_ARRAY_COL (d % 4)
    .next (((s.put R.NC_ARRAY_ROW (d / 4)).put R.NC_ARRAY_MEMBERS (2 ^ d)).tryBoot)

/-- PROG_N_LOW (R180, R864). -/
def execProgNLow (s : State) : Host.Outcome State Fault Refusal := .next (({ s with pins := { s.pins with progN := false } }).enterPowerOn 1)

/-- PROG_N_RELEASE. -/
def execProgNRelease (s : State) : Host.Outcome State Fault Refusal := .next (({ s with pins := { s.pins with progN := true } }).tryBoot)

/-- FURNACE_QUALIFIED (R702). -/
def execFurnaceQualified (s : State) : Host.Outcome State Fault Refusal := .next (({ s with pins := { s.pins with furnace := true } }).tryBoot)

end Sys2Proof.Machine
end

