-- ==== Sys2Proof/Machine/Thermal.lean ====
section
/-!
DEFINITION. Machine/Thermal.lean: sensors, zones and their levels, the throttling ladder, the power limit, the hardware trip and the
0x0Axx commands (R739-R761, R538, R859).
-/

namespace Sys2Proof.Machine

open Sys2Proof

/-! ### Readings (R739-R741) -/

/-- A 12-bit two's complement temperature code as a number that keeps its order: 2,048 is 0 degrees. -/
def biased (t : Nat) : Nat := (t + 2048) % 4096

/-- A temperature in degrees on the scale of `biased` (steps of 0.125). -/
def deg (c : Nat) : Nat := 2048 + 8 * c

/-- R740: what TH_SENSOR.TEMP shows for a reading: 0x800 outside -50 to 150 degrees. -/
def tempCode (raw : Nat) : Nat := if biased raw < 1648 ∨ 3248 < biased raw then 0x800 else raw

def zoneSensors (z : Nat) : List Nat := (List.range 64).filter (fun n => sensorZone n == z)

def memoryZone (z : Nat) : Bool := 9 ≤ z && z ≤ 16

/-- R741: Warn, Throttle, Stop, Trip and Resume of a zone, in degrees. -/
def zoneLevels (z : Nat) : List Nat := if memoryZone z then [85, 92, 97, 105, 80] else [95, 102, 108, 118, 90]

def zoneLevel (z k : Nat) : Nat := deg ((zoneLevels z).getD k 0)

def State.sensorState (s : State) (n : Nat) : Nat := s.get (R.TH_SENSOR_STATE n)

def State.zoneAbsent (s : State) (z : Nat) : Bool := s.get (R.TH_ZONE_STATE_LEVEL z) == 5

def State.zone (s : State) (z : Nat) : Zone := tblGet (fun _ => ({} : Zone)) s.phys.zones z

def State.setZone (s : State) (z : Nat) (x : Zone) : State :=
  { s with phys := { s.phys with zones := tblSet (fun _ => ({} : Zone)) s.phys.zones z x } }

/-- The readings of the sensors of a zone that are not broken. -/
def State.zoneReadings (s : State) (z : Nat) : List Nat :=
  (((zoneSensors z).filter (fun n => s.sensorState n == 0)).map (fun n => s.get (R.TH_SENSOR_TEMP n))).filter (· != 0x800)

/-- R740, R741: a zone's temperature: its highest reading; 0x800 when it has none. -/
def State.zoneTemp (s : State) (z : Nat) : Nat :=
  let l := s.zoneReadings z
  if l.isEmpty then 0x800 else ((l.map biased).foldl max 0 + 2048) % 4096

def State.brokenIn (s : State) (z : Nat) : Nat := ((zoneSensors z).filter (fun n => s.sensorState n == 1)).length

/-! ### The ladder (R745-R750) -/

def State.setPowerLimit (s : State) (i : Nat) (p : PowerLimit) : State := { s with phys := { s.phys with power := s.phys.power.set i p } }

/-- R745: the limit on bulk traffic at a step. -/
def bulkLimit (step : Nat) : Nat := if 9 ≤ step then 0x10 else if step = 8 then 0x40 else 0

/-- The steps show in TH_STATUS, GAF_MODE and every interface unit (R745, R746, R881). -/
def State.showSteps (s : State) : State :=
  let zmax := ((List.range 20).map s.zoneStep).foldl max 0
  let pmax := (s.phys.power.map PowerLimit.step).foldl max 0
  let s := ((s.put R.TH_STATUS_MAX_STEP zmax).put R.TH_STATUS_POWER_STEP pmax).showThrottle
  let b := bulkLimit (max zmax pmax)
  if s.get (R.NC_EP_CTRL_BULK_LIMIT gafferEndpoint) = b then s
  else forEach ((List.range 240).filter endpointFitted) (fun e t => t.put (R.NC_EP_CTRL_BULK_LIMIT e) b) s

/-- R881: THROTTLED returns to OPERATE when no throttle cause is active. -/
def State.throttleClear (s : State) : State :=
  if s.mode = mThrottled ∧ s.throttleCause = none then s.goMode mOperate 0x08 else s

/-- A zone's step becomes `n`. -/
def State.setStep (s : State) (z n : Nat) : State := (s.put (R.TH_ZONE_STATE_STEP z) n).showSteps

/-! ### Refresh (R538, R744) -/

/-- A tier's refresh is doubled at Warn or while one of its sensors is broken. -/
def State.refreshZone (s : State) (z : Nat) : State :=
  if !memoryZone z || s.zoneAbsent z then s
  else
    let x2 := b2n (bit (s.zone z).at_ 0 || decide (0 < s.brokenIn z))
    if s.get (R.SM_CH_STATUS_REFRESH_X2 (4 * (z - 9))) = x2 then s
    else (iterate 4 (fun i t => t.put (R.SM_CH_STATUS_REFRESH_X2 (4 * (z - 9) + i)) x2) s).raise 243

/-! ### Broken sensors (R756-R758) -/

/-- R756: what a broken sensor brings: step 9 in its zone, EV_TH_SENSOR, a WARNING. -/
def State.sensorEffects (s : State) (n : Nat) : State :=
  let z := sensorZone n
  let s := ((s.setStep z 9).put R.TH_FLAGS_SENSOR_SEEN 1).raise 69
  (s.log 3 0x0A n (s.get (R.TH_SENSOR_CAUSE n)) z).refreshZone z

/-- A sensor becomes broken. In BOOT and TEST what follows waits for the end of BOOT (R758). -/
def State.declareBroken (s : State) (n cause : Nat) : State :=
  if s.sensorState n ≠ 0 then s
  else
    let z := sensorZone n
    let s := (s.put (R.TH_SENSOR_STATE n) 1).put (R.TH_SENSOR_CAUSE n) cause
    let s := s.put (R.TH_ZONE_STATE_BROKEN z) (min 3 (s.brokenIn z))
    if s.mode = mBoot ∨ s.mode = mTest then s else s.sensorEffects n

/-- R758: sensors declared broken in BOOT are handled at its end. -/
def State.brokenAfterBoot (s : State) : State :=
  forEach ((List.range 64).filter (fun n => s.sensorState n == 1)) (fun n t => t.sensorEffects n) s

/-- The zones of the dies directly above and below a zone's own (R25, R739). -/
def neighbourZones (s : State) (n : Nat) : List Nat :=
  let z := sensorZone n
  let top := if s.is48 then 12 else 16
  let logic := List.range 8
  if n < 8 then [8] else if n < 16 then [8, top] else if z = 8 then logic
  else if 17 ≤ z then [9]
  else (if z = 9 then [17, 18, 19] else [z - 1]) ++ (if z = top then logic else [z + 1])

/-- Insert in order. -/
def insertSorted (x : Nat) : List Nat → List Nat
  | [] => [x]
  | y :: t => if x ≤ y then x :: y :: t else y :: insertSorted x t

/-- Twice the median of a list: the middle element twice, or the sum of the two middle ones (log entry 51). -/
def median2 (l : List Nat) : Nat :=
  let m := l.foldl (fun a x => insertSorted x a) []
  m.getD ((m.length - 1) / 2) 0 + m.getD (m.length / 2) 0

/-- R758: does a reading differ by more than 6 degrees from the median of its neighbours? -/
def State.crossBad (s : State) (n : Nat) : Bool :=
  let near := (sensorZone n :: neighbourZones s n).flatMap zoneSensors
  let l := (near.filter (fun m => m != n && s.sensorState m == 0)).map (fun m => s.get (R.TH_SENSOR_TEMP m))
  let l := (l.filter (· != 0x800)).map biased
  !l.isEmpty && decide (96 < dist (2 * biased (s.get (R.TH_SENSOR_TEMP n))) (median2 l))

/-! ### Judging the levels (R743) -/

/-- A zone reaches level `k` (0 Warn, 1 Throttle, 2 Stop). -/
def State.reachLevel (s : State) (z k : Nat) : State :=
  if k = 0 then (((s.put R.TH_FLAGS_WARN_SEEN 1).raise 64).log 2 0x0A z 0 0).refreshZone z
  else if k = 1 then ((s.put R.TH_FLAGS_THROTTLE_SEEN 1).raise 65).setStep z (max 1 (s.zoneStep z))
  else (s.put R.TH_FLAGS_STOP_SEEN 1).raise 66

/-- One level of one zone is judged against its temperature. -/
def State.judgeLevel (s : State) (z k : Nat) : State :=
  let x := s.zone z
  let t := biased (s.zoneTemp z)
  let level := zoneLevel z k
  if s.zoneTemp z = 0x800 then s
  else if !bit x.at_ k then
    if level ≤ t then (s.setZone z { x with at_ := setBit x.at_ k, below := x.below.set k 0 }).reachLevel z k else s
  else if t + 8 * s.get R.TH_CTRL_HYST ≤ level then
    let c := x.below.getD k 0 + 1
    if c = 8 then
      let s := (s.setZone z { x with at_ := clearBit x.at_ k, below := x.below.set k 0 }).raise 68
      if k = 0 then s.refreshZone z else s
    else s.setZone z { x with below := x.below.set k c }
  else s.setZone z { x with below := x.below.set k 0 }

/-- The highest level of a zone, as TH_ZONE_STATE shows it. -/
def levelOf (at_ : Nat) : Nat := if bit at_ 3 then 4 else if bit at_ 2 then 3 else if bit at_ 1 then 2 else if bit at_ 0 then 1 else 0

def State.showLevel (s : State) (z : Nat) : State := s.put (R.TH_ZONE_STATE_LEVEL z) (levelOf (s.zone z).at_)

/-- A zone is judged after a sample. -/
def State.judgeZone (s : State) (z : Nat) : State :=
  if s.zoneAbsent z then s
  else
    let s := (s.put (R.TH_ZONE_STATE_TEMP z) (s.zoneTemp z))
    let s := ((s.judgeLevel z 0).judgeLevel z 1).judgeLevel z 2
    let x := s.zone z
    let cold := s.zoneTemp z != 0x800 && decide (biased (s.zoneTemp z) < zoneLevel z 4)
    (s.setZone z { x with cool := if cold then min 8 (x.cool + 1) else 0 }).showLevel z

/-- R742: does a sensor that is not broken read within 4 degrees of a level of its zone? -/
def State.nearLevel (s : State) : Bool :=
  (List.range 20).any (fun z => (s.zoneReadings z).any (fun t =>
    (zoneLevels z).any (fun c => decide (dist (biased t) (deg c) ≤ 32))))

/-- R759: the zone with the highest level, then the highest temperature; of equal zones the first. -/
def State.hotZone (s : State) : Nat :=
  let key (z : Nat) : Nat := 4096 * s.get (R.TH_ZONE_STATE_LEVEL z) + biased (s.get (R.TH_ZONE_STATE_TEMP z))
  let l := (List.range 20).filter (fun z => !s.zoneAbsent z)
  l.foldl (fun b z => if key b < key z then z else b) 0

/-- Mode changes that a sample brings, `old` being the device before it: Stop, then two broken sensors of a zone, then the throttle
causes (R180-R182, R749, R751, R756, R757). -/
def State.thermalCauses (s old : State) : State :=
  let newAt (k : Nat) : Bool := (List.range 20).any (fun z => bit (s.zone z).at_ k && !bit (old.zone z).at_ k)
  let fail := (List.range 20).any (fun z => decide (2 ≤ s.brokenIn z) && decide (old.brokenIn z < 2))
  let stop (b : Bool) (c : Nat) (t : State) : State := if !b then t else if t.running then t.enterStop c else t.causeIgnored c
  let late := s.mode == mBoot || s.mode == mTest
  let hot := newAt 1
  let t := stop (fail && !late) 0x0A (stop (newAt 2) 0x09 s)
  if t.mode ≠ mOperate then t
  else if hot then t.goMode mThrottled 0x06
  else if t.sensorBroken && !old.sensorBroken then t.goMode mThrottled 0x20
  else t

/-- R740, R743, R756-R759: the readings of all 64 sensors are taken, and every zone is judged on them. -/
def State.takeSample (s : State) (raw : List Nat) : State :=
  let live := (List.range 64).filter (fun n => s.sensorState n != 2)
  let s := forEach live (fun n t => t.put (R.TH_SENSOR_TEMP n) (tempCode (raw.getD n 0))) s
  let cross := if s.mode = mBoot ∨ s.mode = mTest then
      live.filter (fun n => s.sensorState n == 0 && s.get (R.TH_SENSOR_TEMP n) != 0x800 && s.crossBad n)
    else []
  let s := forEach (live.filter (fun n => s.get (R.TH_SENSOR_TEMP n) == 0x800)) (fun n t => t.declareBroken n 1) s
  let s := forEach cross (fun n t => t.declareBroken n 3) s
  let s := iterate 20 (fun z t => t.judgeZone z) s
  (s.put R.TH_STATUS_FAST (b2n s.nearLevel)).put R.TH_STATUS_HOT_ZONE s.hotZone

/-- THERMAL_SAMPLE (R740-R744, R749, R751, R756-R758): all 64 sensors are read. -/
def execThermalSample (t : Vector (BitVec 12) 64) (s : State) : Host.Outcome State Fault Refusal :=
  if s.mode = mPowerOn then .next s
  else .next ((s.takeSample (t.toList.map (fun (v : BitVec 12) => v.toNat))).thermalCauses s).resumeCheck

/-- SENSOR_SELF_TEST (R740, R756): the sensors whose test fails. -/
def execSensorSelfTest (failed : BitVec 64) (s : State) : Host.Outcome State Fault Refusal :=
  if s.mode = mPowerOn then .next s
  else
    let old := s
    .next ((forEach (bitsOf 64 failed.toNat) (fun n t => t.declareBroken n 2) s).thermalCauses old)

/-- THROTTLE_STEP_RISE (R749): 20 ms have passed with the zone at or above Throttle. -/
def execThrottleStepRise (zone : Fin 20) (s : State) : Host.Outcome State Fault Refusal :=
  let z := zone.val
  let hot := s.zoneTemp z != 0x800 && decide (zoneLevel z 1 ≤ biased (s.zoneTemp z))
  if bit (s.zone z).at_ 1 && hot && decide (s.zoneStep z < 9) then .next (s.setStep z (s.zoneStep z + 1)) else .next s

/-- THROTTLE_STEP_FALL (R749, R756): 100 ms have passed since the zone left Throttle, or since the last fall. -/
def execThrottleStepFall (zone : Fin 20) (s : State) : Host.Outcome State Fault Refusal :=
  let z := zone.val
  if !bit (s.zone z).at_ 1 && s.brokenIn z == 0 && decide (0 < s.zoneStep z) then
    .next (s.setStep z (s.zoneStep z - 1)).throttleClear
  else .next s

/-! ### The power limit (R750, R859) -/

/-- A power step changes: EV_TH_POWER when it becomes non-zero. -/
def State.powerSteps (s old : State) : State :=
  let s := s.showSteps
  if s.powerActive && !old.powerActive then s.raise 70 else s

/-- One limit is judged on a reading: over it (`isOver`), or under 95 % of it. -/
def State.judgePower (s : State) (i : Nat) (isOver under : Bool) : State :=
  let p := s.powerLimit i
  let p := { p with overCount := if isOver then min 3 (p.overCount + 1) else 0, under := if under then min 8 (p.under + 1) else 0, above := isOver }
  if !p.reached && p.overCount == 3 then
    (s.setPowerLimit i { p with reached := true, step := max 1 p.step }).put R.TH_FLAGS_POWER_SEEN 1
  else if p.reached && p.under == 8 then s.setPowerLimit i { p with reached := false }
  else s.setPowerLimit i p

/-- R750, R859: a reading is taken, and the three limits are judged on it. A logic rail's limit is reached at 95 A and left at 95 % of
it (log entry 52). -/
def State.takeReading (s : State) (p : PowerReading) : State :=
  let old := s
  let dw := p.dw.toNat
  let lim := s.get R.TH_POWER_LIMIT_W
  let s := s.put R.TH_POWER_POWER_W (min 0xFFF (dw / 10))
  let s := (s.put (R.PW_RAIL_MEAS_IOUT 7) p.iLL.toNat).put (R.PW_RAIL_MEAS_IOUT 8) p.iLU.toNat
  let s := { s with phys := { s.phys with consumers := p.consumers.toList.map (fun (v : BitVec 16) => v.toNat) } }
  let s := s.judgePower 0 (decide (10 * lim < dw)) (decide (10 * dw ≤ 95 * lim))
  let s := s.judgePower 1 (decide (950 ≤ p.iLL.toNat)) (decide (100 * p.iLL.toNat ≤ 95 * 950))
  let s := s.judgePower 2 (decide (950 ≤ p.iLU.toNat)) (decide (100 * p.iLU.toNat ≤ 95 * 950))
  s.powerSteps old

/-- POWER_READING. -/
def execPowerReading (p : PowerReading) (s : State) : Host.Outcome State Fault Refusal :=
  if s.mode = mPowerOn ∨ s.mode = mLehr then .next s
  else
    let t := s.takeReading p
    .next (if t.mode = mOperate ∧ t.powerActive ∧ !s.powerActive then t.goMode mThrottled 0x07 else t)

/-- POWER_STEP_RISE: 20 ms have passed and the readings stay above the limit. -/
def execPowerStepRise (limit : Fin 3) (s : State) : Host.Outcome State Fault Refusal :=
  let p := s.powerLimit limit.val
  if p.reached && p.above && decide (p.step < 9) then .next ((s.setPowerLimit limit.val { p with step := p.step + 1 }).powerSteps s)
  else .next s

/-- POWER_STEP_FALL: 100 ms have passed since the limit was left, or since the last fall. -/
def execPowerStepFall (limit : Fin 3) (s : State) : Host.Outcome State Fault Refusal :=
  let p := s.powerLimit limit.val
  if !p.reached && decide (0 < p.step) then
    .next ((s.setPowerLimit limit.val { p with step := p.step - 1 }).powerSteps s).throttleClear
  else .next s

/-! ### The trip (R753-R755) -/

/-- THERMAL_TRIP: two consecutive samples of a sensor's comparator. -/
def execThermalTrip (sensor : Fin 64) (first second : BitVec 12) (s : State) : Host.Outcome State Fault Refusal :=
  let n := sensor.val
  let z := sensorZone n
  let hot (v : BitVec 12) : Bool := tempCode v.toNat != 0x800 && decide (zoneLevel z 3 ≤ biased v.toNat)
  if s.mode = mPowerOn ∨ s.sensorState n = 2 ∨ s.has R.TH_STATUS_TRIP ∨ !hot first ∨ !hot second then .next s
  else
    let s := ((s.put R.TH_STATUS_TRIP 1).put R.TH_STATUS_THERM_PIN 0).put R.TH_FLAGS_TRIP_SEEN 1
    let s := { s with pins := { s.pins with thermN := false } }
    let s := (s.setZone z { s.zone z with at_ := setBit (s.zone z).at_ 3 }).showLevel z
    .next ((s.put R.TH_STATUS_HOT_ZONE s.hotZone).raise 67).enterTrip

/-- R755: the trip latch and THERM_N clear. -/
def State.clearTrip (s : State) : State :=
  let s := (s.put R.TH_STATUS_TRIP 0).put R.TH_STATUS_THERM_PIN 1
  let s := { s with pins := { s.pins with thermN := true } }
  iterate 20 (fun z t =>
    if bit (t.zone z).at_ 3 then (t.setZone z { t.zone z with at_ := clearBit (t.zone z).at_ 3 }).showLevel z else t) s

/-! ### Commands (R761) -/

/-- TH_READ. -/
def cmdThRead : Cmd where
  code := 0x0A00
  lenOk := lenIs 4
  lenReq := 4
  checks := fun _ _ r =>
    let p := r.payload
    [param 0 (decide (le p 0 1 ≤ 63)), param 1 (decide (1 ≤ le p 1 1) && decide (le p 1 1 ≤ 64)), reserved0 p 2 2]
  act := fun s _ r =>
    let first := le r.payload 0 1
    let k := min (le r.payload 1 1) (64 - first)
    replyOk s (toLE 4 k ++ (List.range k).flatMap (fun i => toLE 4 (s.reg (R.TH_SENSOR (first + i)))))

def execThRead (mb : Fin 16) (req : Request) (s : State) : Host.Outcome State Fault Refusal := commandRow cmdThRead mb req s

/-- TH_GET_ZONES. -/
def cmdThGetZones : Cmd where
  code := 0x0A01
  lenOk := lenIs 0
  lenReq := 0
  checks := fun _ _ _ => []
  act := fun s _ _ =>
    replyOk s (toLE 4 20 ++ (List.range 20).flatMap (fun z =>
      toLE 4 (s.reg (R.TH_ZONE_STATE z)) ++ toLE 4 (s.reg (R.TH_ZONE_LIMITS z))))

def execThGetZones (mb : Fin 16) (req : Request) (s : State) : Host.Outcome State Fault Refusal := commandRow cmdThGetZones mb req s

/-- The mailboxes that device-wide settings are served on. -/
def deviceMailboxes : List Nat := [0, 1, 2, 3, 8]

/-- TH_SET_HYSTERESIS. -/
def cmdThSetHysteresis : Cmd where
  code := 0x0A02
  lenOk := lenIs 4
  lenReq := 4
  checks := fun _ mb r =>
    [onlyMailboxes mb deviceMailboxes, param 0 (decide (1 ≤ le r.payload 0 1) && decide (le r.payload 0 1 ≤ 10)), reserved0 r.payload 1 3]
  act := fun s _ r => replyOk (s.put R.TH_CTRL_HYST (le r.payload 0 1)) []

def execThSetHysteresis (mb : Fin 16) (req : Request) (s : State) : Host.Outcome State Fault Refusal :=
  commandRow cmdThSetHysteresis mb req s

/-- PW_READ_RAILS. -/
def cmdPwReadRails : Cmd where
  code := 0x0A03
  lenOk := lenIs 0
  lenReq := 0
  checks := fun _ _ _ => []
  act := fun s _ _ =>
    replyOk s (toLE 4 21 ++ (List.range 21).flatMap (fun k =>
      toLE 4 (s.reg (R.PW_RAIL_CTRL k)) ++ toLE 4 (s.reg (R.PW_RAIL_MEAS k)) ++ toLE 4 (s.reg (R.PW_RAIL_STATE k))))

def execPwReadRails (mb : Fin 16) (req : Request) (s : State) : Host.Outcome State Fault Refusal := commandRow cmdPwReadRails mb req s

/-- PW_GET_BUDGET. -/
def cmdPwGetBudget : Cmd where
  code := 0x0A04
  lenOk := lenIs 0
  lenReq := 0
  checks := fun _ _ _ => []
  act := fun s _ _ =>
    replyOk s (toLE 2 (s.get R.TH_POWER_POWER_W) ++ toLE 2 (s.get R.TH_POWER_LIMIT_W) ++ s.phys.consumers.flatMap (toLE 2)
      ++ toLE 2 (s.get R.PW_VIN_VIN_MV) ++ toLE 2 (s.get R.PW_VIN_VIN_MIN_MV) ++ toLE 1 (s.get R.TH_STATUS_POWER_STEP) ++ zeros 11)

def execPwGetBudget (mb : Fin 16) (req : Request) (s : State) : Host.Outcome State Fault Refusal := commandRow cmdPwGetBudget mb req s

/-- PW_SET_LIMIT. -/
def cmdPwSetLimit : Cmd where
  code := 0x0A05
  lenOk := lenIs 4
  lenReq := 4
  checks := fun _ mb r =>
    [onlyMailboxes mb deviceMailboxes, param 0 (decide (60 ≤ le r.payload 0 2) && decide (le r.payload 0 2 ≤ 240))]
  act := fun s _ r => replyOk ((s.put R.TH_POWER_LIMIT_W (le r.payload 0 2)).put R.PW_VIN_VIN_MIN_MV (le r.payload 2 2)) []

def execPwSetLimit (mb : Fin 16) (req : Request) (s : State) : Host.Outcome State Fault Refusal := commandRow cmdPwSetLimit mb req s

/-- R752: the first zone that keeps TH_RESUME from succeeding: not cool, or with a broken sensor and fewer than two others. -/
def State.resumeBlocked (s : State) : Option Nat :=
  (List.range 20).find? (fun z => !s.zoneAbsent z
    && (decide ((s.zone z).cool < 8)
      || (decide (0 < s.brokenIn z) && decide (((zoneSensors z).filter (fun n => s.sensorState n == 0)).length < 2))))

/-- TH_RESUME. -/
def cmdThResume : Cmd where
  code := 0x0A06
  lenOk := lenIs 0
  lenReq := 0
  checks := fun s mb _ =>
    [failIf (!s.thermStopped) stRefusedState 0, s.resumeBlocked.map (fun z => (stRefusedState, z)),
     onlyMailboxes mb deviceMailboxes]
  act := fun s _ _ => replyOk s.clearTrip.beginResume []

def execThResume (mb : Fin 16) (req : Request) (s : State) : Host.Outcome State Fault Refusal := commandRow cmdThResume mb req s

end Sys2Proof.Machine
end

