-- ==== Sys2Proof/Machine/Security.lean ====
section
/-!
DEFINITION. Machine/Security.lean: alarms and zeroisation, attestation, the lifecycle, owner keys and the 0x0Bxx commands (R192-R194,
R762-R786, R800, R801).
-/

namespace Sys2Proof.Machine

open Sys2Proof

/-! ### Alarms (R775-R778) -/

/-- The response of SC_ALARM_POLICY to a source: 1 SAFE_HOLD, 2 ZEROISE, else LOG. -/
def State.alarmResponse (s : State) (source : Nat) : Nat := bits (s.get R.SC_ALARM_POLICY_POLICY) (2 * source) 2

/-- ALARM_N is held low. -/
def State.holdAlarm (s : State) : State := ({ s with pins := { s.pins with alarmHeld := true } } : State).driveAlarm true

/-- An alarm of a source: it is latched, counted and logged, drives ALARM_N, and its response acts (R777, R778). In POWER-ON
everything is held in reset. -/
def State.raiseAlarm (s : State) (source : Nat) : State :=
  let l := s.get R.SC_ALARM_STATUS_LATCHED
  if bit l source ∨ s.mode = mPowerOn then s
  else
    let resp := s.alarmResponse source
    let s := ((s.put R.SC_ALARM_STATUS_LATCHED (setBit l source)).bump R.SC_ALARM_COUNT_COUNT).raise 280
    let s := s.log 5 0x0B source resp 0
    if s.mode = mZeroized ∨ (s.mode = mSafeHold ∧ resp = 1) then s
    else if resp = 2 then s.holdAlarm.enterZeroized 0x1B
    else if resp = 1 then
      let s := s.holdAlarm
      if s.running ∨ s.mode = mLehr then s.enterStop 0x0E else s.causeIgnored 0x0E
    else s.driveAlarm true

/-- ALARM_SHIELD. -/
def execAlarmShield (s : State) : Host.Outcome State Fault Refusal := .next (s.raiseAlarm 0)

/-- The rails that the voltage alarm watches: VCC_AUX, VCC_BASE, VCC_CFG (R724). -/
def alarmRail (k : Nat) : Nat := if k = 2 then 6 else k

/-- ALARM_VOLTAGE: a rail is seen at `mv`: more than 12 % from its target. -/
def execAlarmVoltage (rail : Fin 3) (mv : BitVec 12) (s : State) : Host.Outcome State Fault Refusal :=
  let t := s.get (R.PW_RAIL_CTRL_TARGET_MV (alarmRail rail.val))
  if 12 * t < 100 * dist mv.toNat t then .next (s.raiseAlarm 1) else .next s

/-- ALARM_CLOCK: a glitch of the gaffer clock, or R703. -/
def execAlarmClock (s : State) : Host.Outcome State Fault Refusal := .next (s.raiseAlarm 2)

/-- ALARM_TEMPERATURE: a vault sensor's reading, coded as in TH_SENSOR. -/
def execAlarmTemperature (t : BitVec 12) (s : State) : Host.Outcome State Fault Refusal :=
  if 360 + biased t.toNat < 2048 ∨ deg 130 < biased t.toNat then .next (s.raiseAlarm 3) else .next s

/-- ALARM_PULSE_END (R777). -/
def execAlarmPulseEnd (s : State) : Host.Outcome State Fault Refusal := if s.pins.alarmHeld then .next s else .next (s.driveAlarm false)

/-- R194: CRED_FAILS has reached 3. -/
def State.debugAlarm (s old : State) : State :=
  if s.get R.GAF_LIFECYCLE_CRED_FAILS = 3 ∧ old.get R.GAF_LIFECYCLE_CRED_FAILS < 3 then s.raiseAlarm 5 else s

/-- The row of a command that may require a credential. -/
def credRow (c : Cmd) (mb : Fin 16) (req : Request) (s : State) : Host.Outcome State Fault Refusal :=
  match commandRow c mb req s with
  | .next t => .next (t.debugAlarm s)
  | o => o

/-! ### Zeroisation (R779) -/

/-- ZEROISE_CLEAR_COMPLETE: step 3, and the notice of SC_ZEROISE. -/
def execZeroiseClearComplete (s : State) : Host.Outcome State Fault Refusal :=
  if s.mode = mZeroized then .next (s.zeroiseClear.endOps 0x0B05 stOk 0) else .next s

/-- SC_ZEROISE (0x0B05). -/
def cmdScZeroise : Cmd where
  code := 0x0B05
  long := true
  lenOk := lenIs 0
  lenReq := 0
  checks := fun _ mb _ => [onlyMailboxes mb deviceMailboxes]
  act := fun s mb r => accept (s.enterZeroized 0x1B) mb r [] []

def execScZeroise (mb : Fin 16) (req : Request) (s : State) : Host.Outcome State Fault Refusal := commandRow cmdScZeroise mb req s

/-! ### Attestation (R780, R781) -/

/-- SC_ATTEST (0x0B00): the body is taken at once. -/
def cmdScAttest : Cmd where
  code := 0x0B00
  long := true
  lenOk := lenIs 32
  lenReq := 32
  checks := fun _ _ _ => []
  act := fun s mb r =>
    let a := accept s mb r [] []
    { a with op := a.op.map (fun o => { o with data := s.attestBody r.payload }) }

def execScAttest (mb : Fin 16) (req : Request) (s : State) : Host.Outcome State Fault Refusal := commandRow cmdScAttest mb req s

/-- R773, R781: the signature of a report's body by the identity key. -/
def attestSignature (body : List Byte) : List Byte :=
  slhSign slh128f (fit 48 Config.identitySeed) (fit 16 (Config.signRandom body)) body

/-- ATTEST_REPORT_COMPLETE: the oldest report is signed and written into the window. -/
def execAttestReportComplete (s : State) : Host.Outcome State Fault Refusal :=
  match s.gaf.ops.find? (fun o => o.command == 0x0B00) with
  | none => .next s
  | some o =>
    let s := { s with sec := { s.sec with report := o.data ++ fit 17088 (attestSignature o.data) } }
    let s := s.wrapInc R.SC_REPORT_SEQ_SEQ
    .next (s.endOp o stOk (s.reg R.SC_REPORT_SEQ % 65536))

/-! ### Lifecycle (R192, R772, R800) -/

/-- SC_GET_LIFECYCLE (0x0B01). -/
def cmdScGetLifecycle : Cmd where
  code := 0x0B01
  lenOk := lenIs 0
  lenReq := 0
  checks := fun _ _ _ => []
  act := fun s _ _ =>
    replyOk s ([R.GAF_LIFECYCLE, R.SC_STATUS, R.SC_STORE_SEQ, R.SC_ALARM_POLICY, R.SC_ALARM_STATUS, R.SC_UPDATE,
      R.ID_SECURITY_VERSION].flatMap (fun o => toLE 4 (s.reg o)) ++ zeros 4)

def execScGetLifecycle (mb : Fin 16) (req : Request) (s : State) : Host.Outcome State Fault Refusal :=
  commandRow cmdScGetLifecycle mb req s

/-- R192: is a change of lifecycle in the table of SC_SET_LIFECYCLE? -/
def changeListed (life target : Nat) : Bool :=
  (life == 0 && target == 1) || (life == 2 && target == 3) || (life == 3 && target == 1) || (target == 4 && life != 4)

/-- R192: the credential of a change. -/
def changeCreds (life target : Nat) : List Nat :=
  if !changeListed life target then [] else if life = 2 then [2] else [1]

/-- Owner keys are erased from the vault store. -/
def State.eraseOwner (s : State) : State :=
  let sec := { s.sec with keys := [], masks := [], ownerPub := [], ownerBitKey := 0, arrayKey := 0, vaultErased := true }
  ({ s with sec := sec } : State).showVault

/-- SC_SET_LIFECYCLE (0x0B02). -/
def cmdScSetLifecycle : Cmd where
  code := 0x0B02
  long := true
  lenOk := lenIs 36
  lenReq := 36
  creds := fun s _ r => changeCreds s.life (le r.payload 0 1)
  checks := fun s _ r =>
    let p := r.payload
    let t := le p 0 1
    let held := s.mode == mSafeHold || (s.mode == mStop && s.has R.GAF_MODE_STOP_DONE)
    [failIf (decide (t ≤ 4) && !changeListed s.life t) stRefusedState 0,
     failIf ((t == 3 || t == 4) && !held) stRefusedState 0,
     param 0 (decide (t ≤ 4)), reserved0 p 1 3, failIf (!fusesAllowed s) stRefusedSupply 0,
     failIf (s.life == 3 && t == 1 && s.get R.GAF_LIFECYCLE_REPROV_LEFT == 0) stNoResource 0,
     (s.gaf.ops.find? (fun o => o.command == 0x0B02)).map (fun o => (stBusy, o.mb))]
  act := fun s mb r =>
    let t := le r.payload 0 1
    let s := if s.life = 2 then s.eraseOwner else s
    let a := accept s mb r [] [t]
    { a with op := a.op.map (fun o => { o with data := slice r.payload 4 32 }) }

def execScSetLifecycle (mb : Fin 16) (req : Request) (s : State) : Host.Outcome State Fault Refusal :=
  credRow cmdScSetLifecycle mb req s

/-- The lifecycle state changes: EV_LIFECYCLE_CHANGE; bodies being signed are taken again (R781); DEBUG_OPEN is never set in
PROVISIONED and RETIRED (R772). -/
def State.setLife (s : State) (target : Nat) : State :=
  let s := (s.put R.GAF_LIFECYCLE_STATE target).raise 3
  let s := if target = 1 ∨ target = 4 then s.put R.GAF_LIFECYCLE_DEBUG_OPEN 0 else s
  s.showVault.retakeBodies

/-- LIFECYCLE_FUSES_BLOWN: the fuses of SC_SET_LIFECYCLE; `verified` false where the blow failed its verify (R775; log entry 53). -/
def execLifecycleFusesBlown (verified : Bool) (s : State) : Host.Outcome State Fault Refusal :=
  match s.gaf.ops.find? (fun o => o.command == 0x0B02) with
  | none => .next s
  | some o =>
    if !verified then .next ((s.endOp o stInternal 0).raiseAlarm 4)
    else
      let t := o.args.getD 0 0
      let was := s.life
      let s := if was = 3 ∧ t = 1 then
          let left := s.get R.GAF_LIFECYCLE_REPROV_LEFT - 1
          ((s.put R.GAF_LIFECYCLE_REPROV_LEFT left).put R.SC_STATUS_OWNER_ROW (3 - left)).eraseOwner
        else if t = 4 then s.eraseOwner
        else if t = 3 then
          { s with sec := { s.sec with keys := tblPut 2 (BitVec.ofNat 256 (le o.data 0 32)) [], vaultErased := false } }
        else s
      let s := (s.setLife t).endOp o stOk 0
      .next (if s.mode = mProvision ∧ was = 0 ∧ t = 1 then s.enterBoot 0x1D false else s)

/-! ### Credentials, alarm policy (R772, R800) -/

/-- SC_PRESENT_CREDENTIAL (0x0B03): any existing slot. -/
def cmdScPresentCredential : Cmd where
  code := 0x0B03
  lenOk := lenIs 0
  lenReq := 0
  creds := fun s _ _ => 1 :: ((List.range 14).map (· + 2)).filter (fun k => (s.credKey k).isSome)
  checks := fun _ _ _ => []
  act := fun s _ r =>
    if r.credSlot.toNat = 3 ∧ s.life = 2 then
      replyOk ((s.put R.GAF_LIFECYCLE_CRED_FAILS 0).put R.GAF_LIFECYCLE_DEBUG_OPEN 1) []
    else replyOk s []

def execScPresentCredential (mb : Fin 16) (req : Request) (s : State) : Host.Outcome State Fault Refusal :=
  credRow cmdScPresentCredential mb req s

/-- DEBUG_OPEN_TIMEOUT (R846): in OWNED, 60 s without a debug session. -/
def execDebugOpenTimeout (s : State) : Host.Outcome State Fault Refusal :=
  if s.life = 2 ∧ !s.pins.session then .next (s.put R.GAF_LIFECYCLE_DEBUG_OPEN 0) else .next s

/-- R786: a command that would write a record, while the store is read-only. -/
def recordRefused (s : State) : Chk := failIf (storeRefused s) stRefusedState 2

/-- SC_SET_ALARM_POLICY (0x0B04). -/
def cmdScSetAlarmPolicy : Cmd where
  code := 0x0B04
  lenOk := lenIs 4
  lenReq := 4
  creds := fun s _ _ => if s.life = 0 ∨ s.life = 3 then [] else 2 :: s.operators 0x0B
  checks := fun s _ r =>
    let p := r.payload
    let v := le p 0 2
    [recordRefused s, param 0 (decide (v < 4096) && (List.range 6).all (fun i => bits v (2 * i) 2 != 3)), param 2 (decide (le p 2 1 < 2)),
     reserved0 p 3 1, failIf (s.has R.SC_ALARM_CTRL_LOCK) stRefusedLocked 0]
  act := fun s _ r =>
    let s := writeRecord (s.put R.SC_ALARM_POLICY_POLICY (le r.payload 0 2))
    replyOk (if bit (le r.payload 2 1) 0 then s.put R.SC_ALARM_CTRL_LOCK 1 else s) []

def execScSetAlarmPolicy (mb : Fin 16) (req : Request) (s : State) : Host.Outcome State Fault Refusal :=
  credRow cmdScSetAlarmPolicy mb req s

/-! ### Owner keys (R766, R801) -/

/-- R801: the plaintext of an owner-key blob. -/
def blobOpen (s : State) (blob : List Byte) : Option (List Byte) :=
  gcmOpen s.sec.transportKey (slice blob 4 12) (s.serial ++ slice blob 0 4) (slice blob 16 608) (slice blob 624 16)

/-- SC_LOAD_OWNER_KEY (0x0B06). -/
def cmdScLoadOwnerKey : Cmd where
  code := 0x0B06
  long := true
  lenOk := lenIs 640
  lenReq := 640
  checks := fun s _ r =>
    let p := r.payload
    let plain := blobOpen s p
    let row := tblGet (fun _ => 0) s.sec.rows (s.get R.SC_STATUS_OWNER_ROW)
    [failIf (s.life != 1 && s.mode != mZeroized) stRefusedState 0, param 0 (le p 0 1 == 1), reserved0 p 1 3,
     failIf plain.isNone stAuthFail 0,
     failIf (s.life != 1 && decide (sha256 (slice (plain.getD []) 0 48) ≠ row)) stAuthFail 0,
     failIf (s.life == 1 && !fusesAllowed s) stRefusedSupply 0,
     (s.gaf.ops.find? (fun o => o.command == 0x0B06)).map (fun o => (stBusy, o.mb))]
  act := fun s mb r =>
    let a := accept s mb r [] []
    { a with op := a.op.map (fun o => { o with data := (blobOpen s r.payload).getD [] }) }

def execScLoadOwnerKey (mb : Fin 16) (req : Request) (s : State) : Host.Outcome State Fault Refusal :=
  commandRow cmdScLoadOwnerKey mb req s

/-- The keys of a blob's plaintext go into the vault store. -/
def State.storeOwner (s : State) (b : List Byte) : State :=
  let key (o : Nat) : BitVec 256 := BitVec.ofNat 256 (le b o 32)
  let ops := (List.range 12).filter (fun i => !zeroAt b (176 + 36 * i) 36)
  let keys : Tbl (BitVec 256) := [(2, key 80), (3, key 112)] ++ ops.map (fun i => (4 + i, key (176 + 36 * i)))
  let masks : Tbl Nat := ops.map (fun i => (4 + i, le b (176 + 36 * i + 32) 4))
  { s with sec := { s.sec with ownerPub := slice b 0 48, ownerBitKey := key 48, arrayKey := key 144, keys := keys, masks := masks,
                               vaultErased := false } }

/-- OWNER_KEY_LOAD_COMPLETE (R192, R180): in PROVISIONED the owner row is blown and the lifecycle becomes OWNED; ZEROIZED is left for
BOOT. -/
def execOwnerKeyLoadComplete (verified : Bool) (s : State) : Host.Outcome State Fault Refusal :=
  match s.gaf.ops.find? (fun o => o.command == 0x0B06) with
  | none => .next s
  | some o =>
    if s.life = 1 ∧ !verified then .next ((s.endOp o stInternal 0).raiseAlarm 4)
    else
      let t := s.storeOwner o.data
      let t := if s.life = 1 then
          let rows := tblPut (t.get R.SC_STATUS_OWNER_ROW) (sha256 t.sec.ownerPub) t.sec.rows
          ({ t with sec := { t.sec with rows := rows } } : State).setLife 2
        else t.showVault
      let t := t.endOp o stOk 0
      .next (if t.mode = mZeroized then t.enterBoot 0x1E false else t)

/-- SC_SET_OWNER_LOCK (0x0B07): the lock is the parity of the bits blown (R766). -/
def cmdScSetOwnerLock : Cmd where
  code := 0x0B07
  lenOk := lenIs 4
  lenReq := 4
  creds := fun _ _ _ => [2]
  checks := fun s _ r =>
    let p := r.payload
    let change := le p 0 1 != s.get R.GAF_LIFECYCLE_OWNER_LOCK
    [param 0 (decide (le p 0 1 < 2)), reserved0 p 1 3, failIf (change && !fusesAllowed s) stRefusedSupply 0,
     failIf (change && s.get R.SC_STATUS_LOCK_CHANGES == 16) stNoResource 0]
  act := fun s _ r =>
    if le r.payload 0 1 = s.get R.GAF_LIFECYCLE_OWNER_LOCK then replyOk s []
    else replyOk ((s.bump R.SC_STATUS_LOCK_CHANGES).put R.GAF_LIFECYCLE_OWNER_LOCK (le r.payload 0 1)) []

def execScSetOwnerLock (mb : Fin 16) (req : Request) (s : State) : Host.Outcome State Fault Refusal :=
  credRow cmdScSetOwnerLock mb req s

/-- SC_STORE_RESET (0x0B08, R786): both banks are cleared and SEQ 0 is written. No erase begins while PFAIL_N is low (R785). -/
def cmdScStoreReset : Cmd where
  code := 0x0B08
  lenOk := lenIs 0
  lenReq := 0
  creds := fun _ _ _ => [2]
  checks := fun s _ _ => [failIf (s.life != 3) stRefusedState 0, failIf s.pins.pfailLow stRefusedSupply 0]
  act := fun s _ _ =>
    let sec := { s.sec with flash := eraseFlash s.sec.flash 0x01800000 0x20000, storeValid := false, storeUsed := [0, 0] }
    replyOk (writeRecordNow (({ s with sec := sec } : State).put R.SC_STATUS_STORE_RO 0)) []

def execScStoreReset (mb : Fin 16) (req : Request) (s : State) : Host.Outcome State Fault Refusal := credRow cmdScStoreReset mb req s

end Sys2Proof.Machine
end

