-- ==== Sys2Proof/Machine/Modes.lean ====
section
/-!
DEFINITION. Machine/Modes.lean: the 0x02xx commands, the orderly stop, the power-fail warning, warm restarts of the gaffer (R49-R56,
R180-R186, R200-R211).
-/

namespace Sys2Proof.Machine

open Sys2Proof

/-! ### Mode commands (R205-R211) -/

/-- The operation of a request, ended as soon as it is accepted: its notice is pushed at once. -/
def doneAtOnce (s : State) (mb : Nat) (r : Request) (status : Nat) : State :=
  s.endOp { mb := mb, tag := r.tag.toNat, command := r.command.toNat } status 0

/-- MODE_GET (0x0200). -/
def cmdModeGet : Cmd where
  code := 0x0200
  lenOk := lenIs 0
  lenReq := 0
  checks := fun _ _ _ => []
  act := fun s _ _ =>
    replyOk s (toLE 1 s.mode ++ toLE 1 (s.get R.GAF_MODE_PREV) ++ toLE 1 s.cause ++ toLE 1 s.life ++ toLE 6 s.gaf.modeTurn
      ++ toLE 4 s.gaf.modePip ++ toLE 1 (bits (s.reg R.GAF_MODE) 16 3) ++ zeros 1)

def execModeGet (mb : Fin 16) (req : Request) (s : State) : Host.Outcome State Fault Refusal := commandRow cmdModeGet mb req s

/-- MODE_STOP (0x0201): the notice comes as ORDERLY STOP is entered. -/
def cmdModeStop : Cmd where
  code := 0x0201
  long := true
  lenOk := lenIs 4
  lenReq := 4
  checks := fun _ mb r => [onlyMailboxes mb deviceMailboxes, reserved0 r.payload 1 3]
  act := fun s mb r =>
    let s := (s.log 2 0x02 (le r.payload 0 1) 0 0).enterStop 0x0B
    { next := doneAtOnce s mb r stOk, status := stAccepted }

def execModeStop (mb : Fin 16) (req : Request) (s : State) : Host.Outcome State Fault Refusal := commandRow cmdModeStop mb req s

/-- MODE_RESUME (0x0202). -/
def cmdModeResume : Cmd where
  code := 0x0202
  long := true
  lenOk := lenIs 0
  lenReq := 0
  checks := fun s mb _ =>
    [failIf (!(s.has R.GAF_MODE_STOP_DONE && (s.cause == 0x0B || (s.cause == 0x0C && !s.pins.pfailLow)))) stRefusedState 0,
     onlyMailboxes mb deviceMailboxes]
  act := fun s mb r =>
    if s.phys.lehrStop then accept s.beginResume mb r [] []
    else { next := doneAtOnce s.beginResume mb r stOk, status := stAccepted }

def execModeResume (mb : Fin 16) (req : Request) (s : State) : Host.Outcome State Fault Refusal := commandRow cmdModeResume mb req s

/-- May LEHR be entered from the present mode (R180, R207)? -/
def State.lehrFrom (s : State) : Bool := s.mode == mOperate || (s.mode == mStop && s.has R.GAF_MODE_STOP_DONE && s.cause == 0x0B)

/-- MODE_ENTER_LEHR (0x0203): LEHR is entered at the next boundary (R731). -/
def cmdModeEnterLehr : Cmd where
  code := 0x0203
  long := true
  lenOk := lenIs 0
  lenReq := 0
  checks := fun s mb _ =>
    let queue := (List.range 1024).find? (fun q => decide (2 ≤ s.get (R.CQ_STATE_STATE q)) && decide (s.get (R.CQ_STATE_STATE q) ≤ 4))
    let lane := (List.range 96).find? (fun n => s.has (R.RP_PT_CTRL_EN n))
    [failIf (!s.lehrFrom) stRefusedState 0, onlyMailboxes mb deviceMailboxes, queue.map (fun q => (stRefusedArmed, q)),
     s.runningEngine.map (fun e => (stRefusedArmed, 0x8000 + e)), lane.map (fun n => (stRefusedArmed, 0x4000 + n))]
  act := fun s mb r => accept { s with gaf := { s.gaf with shadow := s.gaf.shadow ++ [.lehr] } } mb r [] []

def execModeEnterLehr (mb : Fin 16) (req : Request) (s : State) : Host.Outcome State Fault Refusal :=
  commandRow cmdModeEnterLehr mb req s

/-- MODE_WAKE (0x0204): START-UP is entered as the wake begins; the notice comes with OPERATE. -/
def cmdModeWake : Cmd where
  code := 0x0204
  long := true
  lenOk := lenIs 0
  lenReq := 0
  checks := fun s mb _ => [failIf (s.mode != mLehr) stRefusedState 0, onlyMailboxes mb deviceMailboxes]
  act := fun s mb r =>
    let s := (s.goMode mStartUp 0x17).lehrRails.lehrClocks
    accept { s with phys := { s.phys with wakeAt := some s.tb.now } } mb r [] []

def execModeWake (mb : Fin 16) (req : Request) (s : State) : Host.Outcome State Fault Refusal := commandRow cmdModeWake mb req s

/-- MODE_SAFE_HOLD_EXIT (0x0205): the notice comes with the mode that follows BOOT. -/
def cmdModeSafeHoldExit : Cmd where
  code := 0x0205
  long := true
  lenOk := lenIs 0
  lenReq := 0
  creds := fun s _ _ => if s.mode = mSafeHold ∧ s.cause = 0x0E then [2] else []
  checks := fun s mb _ =>
    [failIf (s.mode != mSafeHold || s.cause == 0x12 || s.cause == 0x13) stRefusedState 0, onlyMailboxes mb deviceMailboxes]
  act := fun s mb r =>
    let s := s.startOp { mb := mb, tag := r.tag.toNat, command := 0x0205 }
    { next := s.enterBoot 0x18 true, status := stAccepted }

def execModeSafeHoldExit (mb : Fin 16) (req : Request) (s : State) : Host.Outcome State Fault Refusal :=
  credRow cmdModeSafeHoldExit mb req s

/-- MODE_SET_PFAIL_POLICY (0x0206, R210). -/
def cmdModeSetPfailPolicy : Cmd where
  code := 0x0206
  lenOk := lenIs 4
  lenReq := 4
  checks := fun s mb r =>
    let p := r.payload
    [recordRefused s, onlyMailboxes mb deviceMailboxes, param 0 (decide (le p 0 1 ≤ 1)), param 1 (decide (le p 1 1 ≤ 10)),
     param 2 (decide (le p 2 1 ≤ 1)), reserved0 p 3 1]
  act := fun s _ r =>
    let p := r.payload
    let g := { s.gaf with pfailAction := le p 0 1, pfailFilter := le p 1 1, pfailAuto := bit (le p 2 1) 0 }
    replyOk (if g = s.gaf then s else writeRecord { s with gaf := g }) []

def execModeSetPfailPolicy (mb : Fin 16) (req : Request) (s : State) : Host.Outcome State Fault Refusal :=
  commandRow cmdModeSetPfailPolicy mb req s

/-- R209: a yield record. -/
def yieldBytes (y : YieldRec) : List Byte :=
  toLE 6 y.turn ++ toLE 4 y.pip ++ toLE 1 y.code ++ toLE 1 y.overCode ++ toLE 2 y.detail ++ zeros 2

/-- MODE_GET_YIELDS (0x0207). -/
def cmdModeGetYields : Cmd where
  code := 0x0207
  lenOk := lenIs 4
  lenReq := 4
  checks := fun _ _ r => [param 0 (decide (le r.payload 0 1 ≤ 1)), reserved0 r.payload 1 3]
  act := fun s _ r =>
    let b := s.gaf.yields.flatMap (toLE 4) ++ fit 128 (s.gaf.yieldRecs.flatMap yieldBytes)
    let s := if bit (le r.payload 0 1) 0 then { s with gaf := { s.gaf with yields := List.replicate 8 0, yieldRecs := [] } } else s
    replyOk s b

def execModeGetYields (mb : Fin 16) (req : Request) (s : State) : Host.Outcome State Fault Refusal := commandRow cmdModeGetYields mb req s

/-! ### The orderly stop (R184) -/

/-- FABRIC_STOP_ACK_END: every region has acknowledged the stop request, or 10 ms have passed. -/
def execFabricStopAckEnd (s : State) : Host.Outcome State Fault Refusal :=
  if s.mode = mStop ∧ !s.has R.GAF_MODE_STOP_DONE ∧ !s.phys.stopping then .next s.stopSequence else .next s

/-! ### The power-fail warning (R200-R203) -/

/-- PFAIL_N_FALL. -/
def execPfailNFall (s : State) : Host.Outcome State Fault Refusal :=
  .next (({ s with pins := { s.pins with pfailLow := true, pfailTaken := false } } : State).put R.PW_STATUS_PFAIL_PIN 0)

/-- PFAIL_FILTER_EXPIRY: PFAIL_N has been low for the filter time. -/
def execPfailFilterExpiry (s : State) : Host.Outcome State Fault Refusal :=
  if !s.pins.pfailLow ∨ s.pins.pfailTaken ∨ s.mode = mPowerOn then .next s
  else
    let s := ({ s with pins := { s.pins with pfailTaken := true } } : State).raise 2
    if s.gaf.pfailAction = 1 then .next (s.log 3 0x02 0 0 0)
    else .next (if s.running ∨ s.mode = mLehr then s.enterPfail else s.causeIgnored 0x0C)

/-- PFAIL_N_RISE: a record that had to wait is written. -/
def execPfailNRise (s : State) : Host.Outcome State Fault Refusal :=
  let s := ({ s with pins := { s.pins with pfailLow := false, pfailTaken := false } } : State).put R.PW_STATUS_PFAIL_PIN 1
  .next (if s.sec.recordDue then writeRecordNow { s with sec := { s.sec with recordDue := false } } else s)

/-- PFAIL_AUTO_RESUME: PFAIL_N has been high for 100 ms. -/
def execPfailAutoResume (s : State) : Host.Outcome State Fault Refusal :=
  if s.gaf.pfailAuto ∧ !s.pins.pfailLow ∧ s.mode = mStop ∧ s.has R.GAF_MODE_STOP_DONE ∧ s.cause = 0x0C then .next s.beginResume else .next s

/-! ### Warm restarts (R49-R55) -/

/-- Ten seconds in pips. -/
def tenSeconds : Nat := 12500000000

/-- A warm restart starts with a bit of GAF_RESTART_CAUSE, in any mode but POWER-ON (R180): READY is 0, and the slice in progress is
abandoned (R812). -/
def State.warmRestart (s : State) (causeBit : Nat) : State :=
  if s.mode = mPowerOn then s
  else
    let s := (s.setReg R.GAF_RESTART_CAUSE (setBit (s.reg R.GAF_RESTART_CAUSE) causeBit)).bump R.GAF_RESTART_COUNT_COUNT
    let s := (s.put R.GAF_STATUS_READY 0).abandonAnySlice
    let last := match s.gaf.restarting with
      | some t => some t
      | none => s.gaf.lastRestart
    { s with gaf := { s.gaf with restarting := some s.tb.now, lastRestart := last } }

/-- LOCKSTEP_MISMATCH (R49). -/
def execLockstepMismatch (s : State) : Host.Outcome State Fault Refusal := .next ((s.put R.GAF_STATUS_LOCKSTEP_OK 0).warmRestart 2)

/-- WATCHDOG_EXPIRY (R50). -/
def execWatchdogExpiry (s : State) : Host.Outcome State Fault Refusal := .next (s.warmRestart 3)

/-- GAFFER_SRAM_UE (R51). -/
def execGafferSramUe (s : State) : Host.Outcome State Fault Refusal := .next (s.warmRestart 4)

/-- FW_FAULT_RESTART (R56). -/
def execFwFaultRestart (s : State) : Host.Outcome State Fault Refusal := .next (s.warmRestart 5)

/-- R55: what was in progress ends with INTERNAL: forwarded requests, the device's operations, and those it has at peers. A removal that
PLC_UNPLACE has placed at the boundary stays there (R53). -/
def State.restartAnswers (s : State) : State :=
  let fw := s.gaf.forwards
  let s := { s with gaf := { s.gaf with forwards := [] } }
  let s := forEach fw (fun f t => t.respond f.mb false f.command f.tag stInternal 0 []) s
  let s := forEach s.gaf.ops (fun o t => (if o.command = 0x0304 then t else t.dropWork o).endOp o stInternal 0) s
  forEach s.gaf.peerOps (fun o t => t.endPeerOp o stInternal) s

/-- R52, R790: does the image that is running verify again? In SAFE HOLD with FW_FAIL the boot ROM itself serves, and none runs. -/
def State.imageRuns (s : State) : Bool := (s.mode == mSafeHold && s.cause == 0x14) || acceptable s s.sec.running

/-- WARM_RESTART_COMPLETE (R52, R54, R55): requests in progress and outstanding operations are answered INTERNAL; a second restart
within 10 s leads to SAFE HOLD. TL shadows stay. A restart whose image no longer verifies leads from BOOT to SAFE HOLD with FW_FAIL; in
any other mode it does not complete, since R180 gives no row for it (log entry 68). -/
def execWarmRestartComplete (s : State) : Host.Outcome State Fault Refusal :=
  match s.gaf.restarting with
  | none => .next s
  | some start =>
    if !s.imageRuns && s.mode != mBoot && s.mode != mPowerOn then .next s
    else
    let second := match s.gaf.lastRestart with
      | some p => decide (start ≤ p + tenSeconds)
      | none => false
    let s := ({ s with gaf := { s.gaf with restarting := none, lastRestart := some start } } : State).restartAnswers
    let s := ((s.put R.GAF_STATUS_WARM 1).put R.GAF_STATUS_LOCKSTEP_OK 1).raise 4
    let s := s.logAlways 2 0x00 0x0001 0 (s.reg R.GAF_RESTART_CAUSE) (s.get R.GAF_RESTART_COUNT_COUNT) 0
    if s.mode = mPowerOn then .next s
    else if !s.imageRuns then .next (s.enterSafeHold 0x14)
    else if second then .next (s.enterSafeHold 0x1F |>.put R.GAF_STATUS_READY 1)
    else .next (if s.mode = mBoot then s else s.put R.GAF_STATUS_READY 1)

/-- GAFFER_HEARTBEAT_TICK (R56): 1 ms of running firmware. -/
def execGafferHeartbeatTick (s : State) : Host.Outcome State Fault Refusal :=
  if s.serving ∧ s.mode ≠ mLehr ∧ !(s.mode = mSafeHold ∧ s.cause = 0x14) then .next (s.wrapInc R.GAF_HEARTBEAT_COUNT) else .next s

end Sys2Proof.Machine
end

