-- ==== Sys2Proof/Machine/Placement.lean ====
section
/-!
DEFINITION. Machine/Placement.lean: the placer (R437-R448), removal, migration (R450-R453) and the placement commands (R460).
-/

namespace Sys2Proof.Machine

open Sys2Proof

/-! ### What the placer is asked -/

/-- A placement to be planned: its mailbox, its piece, the hints in force, SWITCH_AFTER; for a migration the placement that
moves (R450). -/
structure Want where
  mb : Nat
  handle : Nat
  m : List Byte
  hints : List (Nat × Nat)
  switch : Bool := false
  source : Option Placement := none

/-- A plan: its rank in R445 (compared in lexicographic order), the placement, the device once its allocations are made, the
group it forms with its members, the groups merged. -/
structure Plan where
  rank : List Nat
  place : Placement
  next : State
  group : Option (Nat × List Nat)
  merged : List Nat

/-- R443: the kinds of hints. -/
def hintValues (hints : List (Nat × Nat)) (kind : Nat) : List Nat := (hints.filter (fun h => h.1 == kind)).map Prod.snd

/-- Is a channel one that the hints let buffers use? -/
def hintChannel (hints : List (Nat × Nat)) (k : Nat) : Bool :=
  (hintValues hints 3).all (fun v => bit v k) && (hintValues hints 5).all (fun v => !bit v k)

/-- Do the hints on origins, planes and regions hold? -/
def hintPlace (hints : List (Nat × Nat)) (origin plane : Nat) (rs : List Nat) : Bool :=
  (hintValues hints 1).all (fun v => v == origin) && (hintValues hints 2).all (fun v => v == plane)
    && (hintValues hints 4).all (fun v => rs.all (fun r => !bit v r))

/-! ### What is free (R439, R440) -/

/-- Is a unit in the unit map, or handed to self-test (R439)? -/
def State.unitTaken (s : State) (u : Nat) : Bool :=
  s.unitMapped u || s.bist.slice.any (fun sl => sl.handed && sl.unit == u)

/-- Is a bank free? `held`: what this placement has taken so far. -/
def State.bankFree (s : State) (held : List Holding) (b : Nat) : Bool :=
  s.get (R.SB_OWNER_OWNER b) == 0xF0 && !s.has (R.SB_OWNER_PENDING b) && !s.unitTaken (48 + b / 16)
    && !(held ++ s.allPlacements.flatMap (·.holds)).any (fun h => h.kind == 1 && h.units.contains b)
    && !s.fab.setMoves.any (fun m => m.new.contains b)

/-- Is a Tap Engine free? The engines of a placement that migrates count as free (R450). -/
def State.engineFree (s : State) (w : Want) (held : List Holding) (e : Nat) : Bool :=
  !s.unitTaken (144 + e / 16)
    && !(held ++ (s.allPlacements.filter (fun p => some p.id != w.source.map (·.id))).flatMap (·.holds)).any
        (fun h => h.kind == 2 && h.units.contains e)

/-- Is plane p of region r EMPTY or INVALID, with no placement in it or on its way to it? -/
def State.planeFree (s : State) (r p : Nat) : Bool :=
  (s.planeState r p == plEmpty || s.planeState r p == plInvalid)
    && !s.allPlacements.any (fun q => q.plane == p && q.regions.contains r)

/-- R442: what the mailbox holds under a sharing name, for an entry of a kind. -/
def State.sharedHolding (s : State) (w : Want) (held : List Holding) (kind share : Nat) : Option Holding :=
  if share = 0 then none
  else (held ++ (s.fab.placements.filter (fun e => e.2.mb == w.mb && some e.1 != w.source.map (·.id))).flatMap (·.2.holds)).find?
    (fun h => h.kind == kind && h.share == share)

/-- What a migrating placement holds for an entry. -/
def Want.kept (w : Want) (kind entry : Nat) : Option Holding :=
  w.source.bind (fun p => p.holds.find? (fun h => h.kind == kind && h.entry == entry))

/-! ### Allocations (R440, R441, R442) -/

/-- The lowest aligned run of free banks in a cluster. -/
def State.freeBanks (s : State) (held : List Holding) (c size : Nat) : Option (List Nat) :=
  ((List.range (16 / size)).map (fun i => (List.range size).map (fun j => 16 * c + size * i + j))).find?
    (fun l => l.all (fun b => s.bankFree held b))

/-- R496: the local address of a bank. -/
def bankAddr (b : Nat) : Nat := 0x4000000000 + 0x10000 * b

/-- R509: banks and engines that a placement held before are zeroed before they are allocated again. -/
def State.freshBanks (s : State) (l : List Nat) : State :=
  let d := l.filter (fun b => s.fab.dirtyBanks.contains b)
  let s := s.zeroBanks d
  { s with fab := { s.fab with dirtyBanks := s.fab.dirtyBanks.filter (fun b => !d.contains b) } }

def State.freshEngines (s : State) (l : List Nat) : State :=
  let d := l.filter (fun e => s.te.dirty.contains e)
  let s := forEach d (fun e t => t.zeroEngine e) s
  { s with te := { s.te with dirty := s.te.dirty.filter (fun e => !d.contains e) } }

/-- R440: `size` free banks in the cluster, of those that `ok` admits, with the fewest hops from the NoC port of region r; of equal ones in
the lowest. -/
def State.nearBanks (s : State) (held : List Holding) (r size : Nat) (ok : Nat → Bool) : Option (List Nat) :=
  let all := ((List.range 96).filter ok).filterMap (fun c =>
    (s.freeBanks held c size).map (fun l => (hops (regionEndpoint r) (clusterEndpoint c), l)))
  (all.foldl (fun (b : Option (Nat × List Nat)) x => match b with
    | some y => if x.1 < y.1 then some x else b
    | none => some x) none).map Prod.snd

/-- R440: a bank set. `ports`: the (cluster, master port) pairs that this plane uses already. -/
def takeBanks (s : State) (w : Want) (rs : List Nat) (held : List Holding) (ports : List (Nat × Nat)) (i : Nat) (e : List Byte) :
    Option Holding :=
  let r := rs.getD (le e 0 1) 0
  let size := le e 1 1
  let near := le e 2 1 = 0
  let port := le e 3 1
  let share := le e 4 4
  let mine := (if le e 11 1 = 0xFF then [2 * r, 2 * r + 1] else [2 * r + le e 11 1]).filter (fun c => !ports.contains (c, port))
  let new (l : List Nat) : Holding :=
    { kind := 1, entry := i, region := r, share := share, size := size, units := l, addr := bankAddr (l.headD 0),
      local_ := decide near }
  match (if near then none else w.kept 1 i) with
  | some h => some { h with region := r }
  | none => match s.sharedHolding w held 1 share with
    | some h =>
      if h.size = size ∧ h.local_ = decide near ∧ (¬near ∨ mine.contains (h.units.headD 0 / 16)) then some (new h.units) else none
    | none =>
      if near then (mine.findSome? (fun c => s.freeBanks held c size)).map new
      else (s.nearBanks held r size (fun _ => true)).map new

/-- R429: a Tap Engine entry. -/
def takeEngines (s : State) (w : Want) (rs : List Nat) (held : List Holding) (i : Nat) (e : List Byte) : Option Holding :=
  let r := rs.getD (le e 0 1) 0
  let mask := le e 4 4
  let share := le e 8 4
  let l := (bitsOf 32 mask).map (fun k => 32 * r + k)
  let new : Holding := { kind := 2, entry := i, region := r, share := share, size := mask, units := l, addr := mask }
  match s.sharedHolding w held 2 share with
  | some h => if h.size = mask ∧ h.units = l then some new else none
  | none => if l.all (fun x => s.engineFree w held x) then some new else none

/-- R441: the channels of a buffer and its rate on each, in 1/32 of 100 MB/s. -/
def bufferSet (s : State) (w : Want) (e : List Byte) : Option (Nat × Nat × Nat) :=
  let ok := (List.range s.channels).filter (fun k => hintChannel w.hints k)
  if bit (le e 7 1) 0 then
    if ok.length = s.channels then some (0, s.fullLog2, 32 * le e 4 2 / s.channels) else none
  else
    match ok with
    | [] => none
    | k :: t => some (t.foldl (fun b x => if s.reservedOn x < s.reservedOn b then x else b) k, 0, 32 * le e 4 2)

/-- R441, R443, R585, R586: a buffer. The channels of one that is shared or kept have to agree with the hints as well. -/
def takeBuffer (s : State) (w : Want) (rs : List Nat) (held : List Holding) (i : Nat) (e : List Byte) : Option (State × Holding) :=
  let r := rs.getD (le e 6 1) 0
  let size := le e 0 4
  let share := le e 8 4
  let src := regionEndpoint r
  match w.kept 3 i with
  | some h =>
    let old := flowsTo (regionEndpoint h.region) h.channels h.rate
    if !h.channels.all (hintChannel w.hints) then none
    else if h.rate = 0 ∨ flowsFit (dropFlows s.noc.flows old) (flowsTo src h.channels h.rate) then some (s, { h with region := r }) else none
  | none => match bufferSet s w e with
    | none => none
    | some (first, log2, rate) =>
      let fits (chs : List Nat) : Bool := rate == 0 || (s.bandwidthFits chs rate && flowsFit s.noc.flows (flowsTo src chs rate))
      let new (a : Alloc) (chs : List Nat) : Holding :=
        { kind := 3, entry := i, region := r, share := share, size := size, alloc := a.handle, addr := a.base, rate := rate,
          channels := chs }
      match s.sharedHolding w held 3 share with
      | some h => match s.allocOf h.alloc with
        | some a => if h.size = size ∧ h.channels.all (hintChannel w.hints) ∧ fits h.channels then some (s.reserveNoc src h.channels rate, new a h.channels) else none
        | none => none
      | none =>
        let chs := setChannels first log2
        if fits chs then
          match s.allocate .buffer w.mb first log2 size rate with
          | some (t, a) => some (t.reserveNoc src chs rate, new a chs)
          | none => none
        else none

/-- All entries of a kind, one after the other; the first that does not fit makes the candidate unusable. -/
def takeAll {α : Type} (f : α → List Holding → Nat → List Byte → Option (α × Holding)) :
    List (Nat × List Byte) → α → List Holding → Option (α × List Holding)
  | [], a, held => some (a, held)
  | (i, e) :: t, a, held =>
    match f a held i e with
    | some (b, h) => takeAll f t b (held ++ [h])
    | none => none

def entryList (l : List (Nat × List Byte)) : List (Nat × List Byte) := numbered (l.map Prod.snd)

/-- R440: every bank set. -/
def takeBankSets (s : State) (w : Want) (rs : List Nat) : Option (List Holding) :=
  (takeAll (fun (ports : List (Nat × Nat)) held i e =>
      (takeBanks s w rs held ports i e).map (fun h =>
        (if h.local_ then (h.units.headD 0 / 16, le e 3 1) :: ports else ports, h)))
    (entryList (mfBankEntries w.m)) [] []).map Prod.snd

def takeEngineSets (s : State) (w : Want) (rs : List Nat) (held : List Holding) : Option (List Holding) :=
  (takeAll (fun (u : Unit) held i e => (takeEngines s w rs held i e).map (fun h => (u, h)))
    (entryList (mfEngineEntries w.m)) () held).map Prod.snd

def takeBuffers (s : State) (w : Want) (rs : List Nat) (held : List Holding) : Option (State × List Holding) :=
  takeAll (fun t held i e => takeBuffer t w rs held i e) (entryList (mfBufferEntries w.m)) s held

/-! ### Seam interfaces (R437, R439) -/

/-- R437: a side as the manifest numbers it. -/
def sideOf (side : Nat) : Side := if side = 0 then .n else if side = 1 then .e else if side = 2 then .s else .w

/-- R439: the partner of an interface: its position on the side. -/
def partnerOf (s : State) (w : Want) (r : Nat) (e : List Byte) : Option Nat :=
  let side := le e 5 1
  match neighbour r (sideOf side) with
  | none => none
  | some n =>
    (s.fab.placements.filter (fun x => x.2.mb == w.mb && x.2.regions.contains n && s.planeState n x.2.plane == plValid)).findSome?
      (fun x => (x.2.seams.find? (fun j => j.region == n && j.side == (side + 2) % 4 && j.name == le e 0 4
        && j.dir == 1 - le e 6 1 && j.count == le e 9 1)).map (·.at_))

/-- R437: the position that an interface must take. -/
def fixedAt (s : State) (w : Want) (r : Nat) (e : List Byte) : Option Nat :=
  if bit (le e 10 1) 1 then some (le e 11 1)
  else if bit (le e 10 1) 0 then partnerOf s w r e
  else none

/-- R437: the interfaces as they are joined. One that finds no free run is joined to no position (log entry 45). -/
def joinSeams (s : State) (w : Want) (rs : List Nat) : List SeamJoin :=
  let all := (mfSeamEntries w.m).map (fun x => (rs.getD (le x.2 4 1) 0, x.2))
  let join (r : Nat) (e : List Byte) (at_ : Nat) : SeamJoin :=
    ⟨le e 0 4, r, le e 5 1, le e 6 1, le e 9 1, at_, le e 7 1, le e 8 1⟩
  let fixed := all.filterMap (fun (r, e) => (fixedAt s w r e).map (join r e))
  all.foldl (fun l (r, e) =>
    if (fixedAt s w r e).isSome then l
    else
      let busy := (l.filter (fun j => j.region == r && j.side == le e 5 1)).map (fun j => (j.at_, j.count))
      match (List.range (41 - le e 9 1)).find? (fun o => runFree busy o (le e 9 1)) with
      | some o => l ++ [join r e o]
      | none => l) fixed

/-! ### Candidates (R439, R445, R446) -/

/-- R446: the switch groups that a footprint overlaps, in increasing order. -/
def State.overlapping (s : State) (rs : List Nat) : List Nat :=
  (List.range 64).filter (fun g => s.groupDefined g && (s.groupMembers g).any (fun r => rs.contains r))

/-- R446: the group that a placement forms: its number (64: none is free) and its members. -/
def groupFor (s : State) (rs : List Nat) : Option (Nat × List Nat) :=
  let gs := s.overlapping rs
  if rs.length = 1 ∧ gs.isEmpty then none
  else
    let g := match gs with
      | g :: _ => g
      | [] => ((List.range 64).find? (fun g => !s.groupDefined g)).getD 64
    some (g, inOrder (rs ++ gs.flatMap s.groupMembers))

/-- R439: the claims, self-test and places that a piece needs at a footprint (cause 1). -/
def placeOk (s : State) (w : Want) (origin : Nat) (rs members : List Nat) : Bool :=
  (inOrder (rs ++ members)).all (fun r => s.holds w.mb (claimKey 4 r))
    && rs.all (fun r => !s.unitTaken r)
    && (List.range (mfPairs w.m)).all (fun p => (List.range 4).all (fun j =>
        !bit (le w.m 80 12) (4 * p + j) || s.holds w.mb (claimKey 1 (4 * (rs.getD p 0 % 24) + j))))
    && (List.range rs.length).all (fun i => ioPlaceOk s w.m i (rs.getD i 0))
    && (!mfFlag w.m 3 || origin == 0)

/-- R453: a migration to other lanes or other I/O is not usable; R450: the target is disjoint from the source; R451: its plane is
not active in any target region. -/
def moveOk (s : State) (w : Want) (rs : List Nat) (plane : Nat) : Bool :=
  match w.source with
  | none => true
  | some p =>
    rs.all (fun r => !p.regions.contains r && s.activeOf r != plane)
      && le w.m 92 6 == 0
      && (List.range (mfPairs w.m)).all (fun q => bits (le w.m 80 12) (4 * q) 4 == 0 || rs.getD q 0 % 24 == p.regions.getD q 0 % 24)

/-- R445, step 1. -/
def hotPartners (s : State) (w : Want) (rs : List Nat) : Nat :=
  if !mfHot w.m then 0
  else (rs.filter (fun r => (s.fab.placements.any (fun e => e.2.hot && some e.1 != w.source.map (·.id)
    && e.2.regions.contains ((r + 24) % 48))))).length

/-- R445, step 3: the NoC cost. -/
def nocCost (s : State) (w : Want) (rs : List Nat) (holds : List Holding) : Nat :=
  let one (h : Holding) : Nat :=
    let src := regionEndpoint h.region
    if h.kind = 1 ∧ !h.local_ then hops (clusterEndpoint (h.units.headD 0 / 16)) src
    else if h.kind = 3 ∧ h.channels.length = 1 then max (h.rate / 32) 1 * hops (channelEndpoint (h.channels.headD 0)) src
    else 0
  let near (id : Nat) : Nat :=
    match tblFind id s.fab.placements with
    | none => 0
    | some q => 4 * (leastOf (rs.flatMap (fun a => q.regions.map (fun b => hops (regionEndpoint a) (regionEndpoint b))))).getD 0
  (holds.map one).sum + ((hintValues w.hints 6).map near).sum

/-- R445, step 4. -/
def State.maxReserved (s : State) : Nat := (List.range s.channels).foldl (fun m k => max m (s.reservedOn k)) 0

/-- One candidate: the cause that excludes it (R459), or its plan. -/
def tryCandidate (s : State) (w : Want) (origin plane : Nat) (rs : List Nat) : Except Nat Plan :=
  let grp := groupFor s rs
  let members := (grp.map Prod.snd).getD []
  if !placeOk s w origin rs members then .error 1
  else if !(rs.all (fun r => s.planeFree r plane)) then .error 2
  else if !moveOk s w rs plane then .error 1
  else if !hintPlace w.hints origin plane rs then .error 6
  else
    match takeBankSets s w rs with
    | none => .error 3
    | some banks => match takeEngineSets s w rs banks with
      | none => .error 4
      | some held => match takeBuffers s w rs held with
        | none => .error 5
        | some (t, holds) =>
          if (mfSeamEntries w.m).any (fun x => bit (le x.2 10 1) 0 && (partnerOf s w (rs.getD (le x.2 4 1) 0) x.2).isNone) then .error 9
          else if grp.any (fun g => g.1 == 64) then .error 8
          else if (s.freePlacement = 384 ∧ w.source.isNone ∧ (tblFind 384 s.fab.placements).isSome) ∨ (w.switch ∧ s.gafferEntry.isNone) then
            .error 10
          else
            let hot := hotPartners s w rs
            let cost := nocCost s w rs holds
            let idle := rs.filter (fun r => s.rgState r == rgIdle)
            let id := (w.source.map (·.id)).getD s.freePlacement
            let p : Placement :=
              { id := id, handle := w.handle, mb := w.mb, origin := origin, plane := plane, regions := rs, holds := holds,
                seams := joinSeams s w rs, hot := mfHot w.m, pinned := w.hints.any (fun h => h.1 == 1 || h.1 == 2),
                stacked := decide (hot ≠ 0), cost := cost, turn := s.tb.turn }
            let merged := s.overlapping rs
            .ok ⟨[hot, merged.length, cost, t.maxReserved, b2n (!(idle.all (fun r => s.activeOf r == plane))), plane, origin],
                 p, t, grp, merged⟩

/-- The placeCandidates in the order of R445, step 6: U before L, origins in increasing order; at each origin the planes. -/
def placeCandidates (w : Want) : List (Nat × Nat × List Nat) :=
  (List.range 48).flatMap (fun o => match footprintOf (mfCols w.m) (mfRows w.m) (mfTiers w.m) o with
    | some rs => (List.range 8).map (fun p => (o, p, rs))
    | none => [])

/-- Lexicographic order. -/
def lexLt : List Nat → List Nat → Bool
  | a :: s, b :: t => decide (a < b) || (a == b && lexLt s t)
  | _, _ => false

/-- The first of the usable placeCandidates in the order of R445. -/
def bestPlan (l : List (Except Nat Plan)) : Option Plan :=
  l.foldl (fun (b : Option Plan) x => match x, b with
    | .ok p, some q => if lexLt p.rank q.rank then some p else b
    | .ok p, none => some p
    | .error _, _ => b) none

/-- The cause of the last candidate examined. -/
def lastCause (l : List (Except Nat Plan)) : Nat :=
  l.foldl (fun c x => match x with
    | .error e => e
    | .ok _ => c) 1

/-- R439-R445, R459: the plan, or the DETAIL of NO_RESOURCE. -/
def planFor (s : State) (w : Want) : Except Nat Plan :=
  let run (w : Want) := (placeCandidates w).map (fun (o, p, rs) => tryCandidate s w o p rs)
  let l := run w
  match bestPlan l with
  | some p => .ok p
  | none =>
    let soft := { w with hints := w.hints.filter (fun h => h.1 == 6) }
    if soft.hints.length != w.hints.length && (bestPlan (run soft)).isSome then .error 6 else .error (lastCause l)

/-! ### Carrying out a plan -/

/-- R446: the group of a placement takes its members; the other groups merged go. -/
def State.formGroup (s : State) (p : Plan) : State :=
  match p.group with
  | none => s
  | some (g, members) =>
    let s := forEach (p.merged.filter (· != g)) (fun h t => (t.clearGroupSched h).setGroup h [] 0) s
    s.setGroup g members 0xFF

/-- Banks and engines are prepared for their new holder: zeroed where something held them before; banks are handed to the region
at the next boundary (R508), but those that a migration fills by copying (R451). -/
def State.equip (s : State) (p : Placement) (old : List Holding) (hand : Bool) : State :=
  let fresh := p.holds.filter (fun h => !old.any (fun k => k.kind == h.kind && k.units == h.units))
  let s := forEach (fresh.filter (fun h => h.kind == 1)) (fun h t =>
    let t := t.freshBanks h.units
    if hand then forEach (t.setHeads h.units) (fun b u => if u.get (R.SB_OWNER_OWNER b) = h.region then u else u.handBankLatched b h.region) t
    else t) s
  forEach (fresh.filter (fun h => h.kind == 2)) (fun h t => t.freshEngines h.units) s

/-- The 16 bytes that PLC_PLACE and PLC_MIGRATE answer (R460). -/
def planBytes (p : Plan) : List Byte :=
  toLE 2 p.place.id ++ toLE 1 p.place.origin ++ toLE 1 p.place.plane ++ toLE 1 ((p.group.map Prod.fst).getD 0xFF)
    ++ toLE 1 (b2n p.place.stacked + 2 * b2n (!p.merged.isEmpty)) ++ toLE 2 p.place.cost ++ zeros 8

/-- The regions of a plan's load, in increasing index (R405). -/
def loadRegions (p : Placement) : List (Nat × Nat × Nat) :=
  let l := (numbered p.regions).map (fun (i, r) => (r, p.handle, i))
  (inOrder p.regions).filterMap (fun r => l.find? (fun e => e.1 == r))

/-- The key under which a placement's regions switch: their group, or their one region. -/
def State.switchKey (s : State) (p : Placement) : Nat :=
  let r := p.regions.headD 0
  (s.groupOf r).getD (128 + r)

/-- R447: a planned placement is made and its load is queued. -/
def placePlan (p : Plan) (entryInit : Bool) (op : Option (Nat × Nat)) (switch : Bool) : State :=
  let q := p.place
  let s := (p.next.formGroup p).equip q [] true
  let s := s.setEntryInit q.regions q.plane entryInit
  let s := ({ s with fab := { s.fab with placements := tblPut q.id q s.fab.placements } }).showPlaced
  s.queueLoad { kind := .place, regions := loadRegions q, plane := q.plane, op := op, placement := q.id,
                switch := if switch then some (s.switchKey q) else none }

/-- R451: a planned migration begins: its load is queued. -/
def migratePlan (src : Placement) (p : Plan) (op : Option (Nat × Nat)) : State :=
  let q := p.place
  let copies := (q.holds.filter (fun h => h.kind == 1 && h.local_)).filterMap (fun h =>
    (src.holds.find? (fun k => k.kind == 1 && k.entry == h.entry)).map (fun k => (k.units, h.units)))
  let s := (p.next.formGroup p).equip q src.holds false
  let s := s.setEntryInit q.regions q.plane (bit (s.get (R.CF_CTX_PLANES_ENTRY_INIT (src.regions.headD 0))) src.plane)
  let m : Migration := { id := src.id, next := { q with pinned := src.pinned, direct := src.direct, turn := src.turn }, op := op,
                         copies := copies }
  let f := { s.fab with placements := tblPut src.id { src with migrating := true } s.fab.placements,
                        migrations := s.fab.migrations ++ [m] }
  ({ s with fab := f } : State).queueLoad
    { kind := .migrate, regions := loadRegions q, plane := q.plane, op := op, placement := src.id }

/-! ### Migrations (R451, R452) -/

/-- A migration changes. -/
def State.setMigration (s : State) (m : Migration) : State :=
  { s with fab := { s.fab with migrations := s.fab.migrations.map (fun x => if x.id = m.id then m else x) } }

/-- R451, R452: is the plane of a placement active in a region of its, and that region not IDLE? -/
def State.sourceRuns (s : State) (id : Nat) : Bool :=
  (tblFind id s.fab.placements).any (fun p => p.regions.any (fun r => s.activeOf r == p.plane && s.rgState r != rgIdle))

/-- R400, R451, step 4: the gaffer schedules the switch of a migration's target for the next boundary. -/
def State.migrationSwitch (s : State) (m : Migration) (wanted : Bool) : State :=
  if wanted then s.switchAfter (s.switchKey m.next) m.next.plane none else s

/-- R452: the switch of a migration whose source has stopped meanwhile is dropped. -/
def State.dropSwitch (s : State) (key plane : Nat) : State :=
  let mine (a : SwitchAfter) : Bool := a.group == key && a.plane == plane && a.op.isNone
  let idx := (s.fab.after.filter mine).filterMap (·.index)
  { s with fab := { s.fab with after := s.fab.after.filter (fun a => !mine a) },
           tb := { s.tb with sched := idx.foldl (fun t i => tblDel i t) s.tb.sched } }

/-- R406, R452: the load of a migration has ended. -/
def migrateLoaded (s : State) (l : Load) (fail : Bool) : State :=
  match s.fab.migrations.find? (fun m => m.id == l.placement) with
  | none => forEach l.regions (fun (r, _, _) t => t.setPlane r l.plane plEmpty) s
  | some m =>
    if fail then
      let s := s.cancelMigration m.id
      s.endOpAt m.op stIntegrity (((l.regions.head?).map (·.1)).getD 0)
    else
      let s := forEach l.regions (fun x t => t.fillPlane x.1 l.plane x.2.1 x.2.2) s
      (s.setMigration { m with loaded := true }).migrationSwitch m (s.sourceRuns m.id && m.copies.isEmpty)

/-- R451, step 2: the source stops and its NOC bank sets, buffer reservations and place pass to the target. -/
def State.migrationMoves (s : State) (m : Migration) : State :=
  match tblFind m.id s.fab.placements with
  | none => s
  | some p =>
    let ran := s.sourceRuns m.id
    let s := { s with fab := { s.fab with placements := tblPut m.id { m.next with migrating := true } s.fab.placements } }
    let s := s.emptyPlanes p.regions p.plane
    let s := forEach (p.holds.filter (fun h => h.kind == 2 && !s.sharedByOther m.id h)) (fun h t => t.freeHolding h true) s
    let s := forEach (m.next.holds.filter (fun h => h.kind == 1 && !h.local_)) (fun h t =>
      forEach (t.setHeads h.units) (fun b u => u.handBank b h.region) t) s
    let s := forEach (m.next.holds.filter (fun h => h.kind == 3)) (fun h t =>
      match p.holds.find? (fun k => k.kind == 3 && k.entry == h.entry) with
      | some k => (t.releaseNoc (regionEndpoint k.region) k.channels k.rate).reserveNoc (regionEndpoint h.region) h.channels h.rate
      | none => t) s
    let s := s.setMigration { m with moved := true, ran := ran }
    forEach p.regions (fun r t => t.leaveGroup r) s

/-- R451, step 4: the copied banks belong to the target, the group switches when the source ran (by the gaffer's entry, or where none served
by its request), and the migration is over. -/
def State.migrationEnds (s : State) (m : Migration) : State :=
  let s := forEach (m.next.holds.filter (fun h => h.kind == 1 && h.local_)) (fun h t =>
    forEach (t.setHeads h.units) (fun b u => u.handBank b h.region) t) s
  let s := forEach m.copies (fun x t =>
    let old := x.1
    let new := x.2
    let h : Holding := { kind := 1, entry := 0, region := 0, share := 0, size := old.length, units := old }
    if old = new || t.fab.placements.any (fun e => e.2.holds.any (fun k => k.kind == 1 && k.units == old)) then t
    else t.freeHolding h true) s
  let f := { s.fab with migrations := s.fab.migrations.filter (fun x => x.id != m.id),
                        placements := tblPut m.id m.next s.fab.placements }
  let s := ({ s with fab := f } : State).raise 276
  let key := s.switchKey m.next
  let asked := s.fab.after.any (fun a => a.group == key && a.plane == m.next.plane && a.op.isNone)
  let s := if m.ran && !asked then { s with fab := { s.fab with after := s.fab.after ++ [⟨key, m.next.plane, none, none⟩] } }
    else if m.ran then s else s.dropSwitch key m.next.plane
  s.endOpAt m.op stOk 0

/-- R454: a NOC set that has been copied passes to the owner and the placements of the old one, which goes back to the gaffer. -/
def State.setMoved (s : State) (m : SetMove) : State :=
  let s := { s with fab := { s.fab with setMoves := s.fab.setMoves.filter (fun x => x != m) } }
  let holds (h : Holding) : Bool := h.kind == 1 && h.units == m.old
  if !s.allPlacements.any (fun p => p.holds.any holds) then s
  else
    let owner := s.get (R.SB_OWNER_OWNER (m.old.headD 0))
    let s := forEach (s.setHeads m.new) (fun b t => t.handBank b owner) s
    let s := s.freeHolding { kind := 1, entry := 0, region := 0, share := 0, size := m.old.length, units := m.old } true
    let upd (p : Placement) : Placement :=
      { p with holds := p.holds.map (fun h => if holds h then { h with units := m.new, addr := bankAddr (m.new.headD 0) } else h) }
    { s with fab := { s.fab with placements := s.fab.placements.map (fun e => (e.1, upd e.2)),
                                 migrations := s.fab.migrations.map (fun x => { x with next := upd x.next }) } }

/-- R451, R454: migrations, and sets that have been copied, at a turn boundary. -/
def State.migrationsAtTurn (s : State) : State :=
  let s := forEach (s.fab.setMoves.filter (·.copied)) (fun m t => t.setMoved m) s
  forEach s.fab.migrations (fun m t =>
    if m.loaded && !m.moved then
      let t := t.migrationMoves m
      match t.fab.migrations.find? (fun x => x.id == m.id) with
      | some n => if n.copies.isEmpty then t.migrationEnds n else t
      | none => t
    else if m.copied then t.migrationEnds m else t) s

/-- BANK_COPY_START (R451, step 3, R454): from pip 256 the gaffer copies every LOCAL set of the migrations that have moved, and the NOC sets
that a drain moves. -/
def execBankCopyStart (s : State) : Host.Outcome State Fault Refusal :=
  if s.tb.pip < 256 then .next s
  else
    let l := s.fab.migrations.map (fun m => if m.moved && !m.copying && !m.copied then { m with copying := true } else m)
    let sets := s.fab.setMoves.map (fun m => { m with copying := !m.copied })
    .next { s with fab := { s.fab with migrations := l, setMoves := sets } }

/-- The contents of one bank go to another. -/
def State.copyBank (s : State) (old new : Nat) : State :=
  let s := s.zeroBanks [new]
  let d := (s.sram.data.filter (fun e => e.1 / 65536 == old)).map (fun e => (e.1 - 65536 * old + 65536 * new, e.2))
  { s with sram := { s.sram with data := d.foldl (fun m e => tblSet (fun _ => 0) m e.1 e.2) s.sram.data } }

/-- The contents of banks go to as many others. -/
def State.copySet (s : State) (old new : List Nat) : State := forEach (old.zip new) (fun y t => t.copyBank y.1 y.2) s

/-- BANK_COPY_END (R451, step 3): the copy of the migration that began first ends, or where none copies that of the set that a drain moves
(R454). The gaffer then schedules the migration's switch. -/
def execBankCopyEnd (s : State) : Host.Outcome State Fault Refusal :=
  match s.fab.migrations.find? (fun m => m.copying) with
  | some m =>
    let s := forEach m.copies (fun x t => t.copySet x.1 x.2) s
    .next ((s.setMigration { m with copying := false, copied := true }).migrationSwitch m m.ran)
  | none => match s.fab.setMoves.find? (fun m => m.copying) with
    | none => .next s
    | some m =>
      let done : SetMove := { m with copying := false, copied := true }
      .next ((({ s with fab := { s.fab with setMoves := s.fab.setMoves.map (fun x => if x = m then done else x) } } : State)).copySet
        m.old m.new)

/-! ### Commands (R460) -/

/-- The hints of a request: its set, and PLANE as PIN_PLANE. -/
def hintsOf (s : State) (mb set plane : Nat) : List (Nat × Nat) :=
  (if set < 16 then tblGet (fun _ => []) s.fab.hints (16 * mb + set) else []) ++ (if plane < 8 then [(2, plane)] else [])

/-- What PLC_PLACE asks of the placer. -/
def placeWant (s : State) (mb : Nat) (p : List Byte) : Want :=
  { mb := mb, handle := le p 0 4, m := ((s.pieceOf (le p 0 4)).map (·.manifest)).getD [],
    hints := hintsOf s mb (le p 5 1) (le p 4 1), switch := bit (le p 6 1) 0 }

/-- PLC_PLACE (R439-R447, R460). -/
def cmdPlcPlace : Cmd where
  code := 0x0303
  long := true
  lenOk := lenIs 8
  lenReq := 8
  checks := fun s mb r =>
    let p := r.payload
    let known := (s.pieceOf (le p 0 4)).isSome
    [onlyRunning s, param 0 known, param 4 (decide (le p 4 1 ≤ 7) || le p 4 1 == 0xFF),
     param 5 (decide (le p 5 1 ≤ 15) || le p 5 1 == 0xFF), param 6 (decide (le p 6 1 ≤ 3)), reserved0 p 7 1,
     match planFor s (placeWant s mb p) with
     | .error e => some (stNoResource, e)
     | .ok _ => none]
  act := fun s mb r =>
    let p := r.payload
    match planFor s (placeWant s mb p) with
    | .error _ => replyOk s []
    | .ok q =>
      { accept s mb r (q.place.regions.map (claimKey 4)) [] with
        next := placePlan q (bit (le p 6 1) 1) (some (mb, r.tag.toNat)) (bit (le p 6 1) 0), payload := planBytes q }
  dry := fun s mb r => match planFor s (placeWant s mb r.payload) with
    | .error _ => []
    | .ok q => planBytes q

def execPlcPlace (mb : Fin 16) (req : Request) (s : State) : Host.Outcome State Fault Refusal := commandRow cmdPlcPlace mb req s

/-- Check 6 for a placement: it counts as the mailbox's own. -/
def ownPlacement (s : State) (mb id : Nat) : Chk :=
  failIf ((tblFind id s.fab.placements).any (fun q => s.placementOwner q mb != mb)) stNotOwner 0

/-- The regions of a placement, for BUSY (R80). -/
def placementKeys (s : State) (id : Nat) : List (Nat × Nat) :=
  ((tblFind id s.fab.placements).map (fun q => (inOrder q.regions).map (fun x => (x, claimKey 4 x)))).getD []

/-- A placement that migrates without an operation (R454) is BUSY as well. -/
def notMigrating (s : State) (mb id : Nat) : Chk :=
  failIf ((tblFind id s.fab.placements).any (·.migrating)) stBusy mb

/-- PLC_UNPLACE (R449, R460). -/
def cmdPlcUnplace : Cmd where
  code := 0x0304
  long := true
  lenOk := lenIs 4
  lenReq := 4
  checks := fun s mb r =>
    let id := le r.payload 0 2
    [onlyRunning s, ownPlacement s mb id, param 0 (tblFind id s.fab.placements).isSome, reserved0 r.payload 2 2,
     notInOperation s (placementKeys s id), notMigrating s mb id]
  act := fun s mb r =>
    let id := le r.payload 0 2
    let a := accept s mb r ((placementKeys s id).map Prod.snd) [id]
    { a with next := s.latch [.unplace id] }

def execPlcUnplace (mb : Fin 16) (req : Request) (s : State) : Host.Outcome State Fault Refusal := commandRow cmdPlcUnplace mb req s

/-- What a migration asks of the placer (R450); its switch takes an entry of the schedule (R400). -/
def moveWant (s : State) (mb : Nat) (q : Placement) (hints : List (Nat × Nat)) : Want :=
  { mb := mb, handle := q.handle, m := ((s.pieceOf q.handle).map (·.manifest)).getD [], hints := hints, source := some q,
    switch := true }

/-- The plan of a migration. A placement whose piece has left the library has nothing to load (log entry 46). -/
def movePlan (s : State) (mb : Nat) (q : Placement) (hints : List (Nat × Nat)) : Except Nat Plan :=
  if (s.pieceOf q.handle).isNone then .error 1 else planFor s (moveWant s mb q hints)

/-- PLC_MIGRATE (R450-R453, R460). -/
def cmdPlcMigrate : Cmd where
  code := 0x0305
  long := true
  lenOk := lenIs 4
  lenReq := 4
  checks := fun s mb r =>
    let p := r.payload
    let id := le p 0 2
    let q := tblFind id s.fab.placements
    [onlyRunning s, ownPlacement s mb id, param 0 q.isSome, param 2 (decide (le p 2 1 ≤ 7) || le p 2 1 == 0xFF),
     param 3 (decide (le p 3 1 ≤ 15) || le p 3 1 == 0xFF), failIf (q.any (·.pinned)) stRefusedArmed 0,
     notInOperation s (placementKeys s id), notMigrating s mb id,
     q.bind (fun q => match movePlan s mb q (hintsOf s mb (le p 3 1) (le p 2 1)) with
       | .error e => some (stNoResource, e)
       | .ok _ => none)]
  act := fun s mb r =>
    let p := r.payload
    match tblFind (le p 0 2) s.fab.placements with
    | none => replyOk s []
    | some q => match movePlan s mb q (hintsOf s mb (le p 3 1) (le p 2 1)) with
      | .error _ => replyOk s []
      | .ok x =>
        { accept s mb r ((q.regions ++ x.place.regions).map (claimKey 4)) [] with
          next := migratePlan q x (some (mb, r.tag.toNat)), payload := planBytes x }
  dry := fun s mb r =>
    let p := r.payload
    match tblFind (le p 0 2) s.fab.placements with
    | none => []
    | some q => match movePlan s mb q (hintsOf s mb (le p 3 1) (le p 2 1)) with
      | .error _ => []
      | .ok x => planBytes x

def execPlcMigrate (mb : Fin 16) (req : Request) (s : State) : Host.Outcome State Fault Refusal := commandRow cmdPlcMigrate mb req s

/-- An allocation record of PLC_REPORT (R460). -/
def holdingBytes (h : Holding) : List Byte :=
  toLE 1 h.kind ++ toLE 1 h.entry ++ zeros 2 ++ toLE 8 h.addr
    ++ toLE 4 (if h.kind = 1 then h.units.headD 0 / 16 else if h.kind = 3 then maskOf h.channels else 0)

/-- PLC_REPORT (R460). -/
def cmdPlcReport : Cmd where
  code := 0x0306
  lenOk := lenIs 4
  lenReq := 4
  checks := fun s _ r => [param 0 (tblFind (le r.payload 0 2) s.fab.placements).isSome, reserved0 r.payload 2 2]
  act := fun s _ r =>
    match tblFind (le r.payload 0 2) s.fab.placements with
    | none => replyOk s []
    | some q =>
      replyOk s (toLE 2 q.id ++ toLE 4 q.handle ++ toLE 1 q.origin ++ toLE 1 q.plane
        ++ toLE 1 ((s.groupOf (q.regions.headD 0)).getD 0xFF) ++ toLE 1 q.mb
        ++ toLE 1 (b2n q.stacked + 2 * b2n q.direct + 4 * b2n q.pinned + 8 * b2n q.migrating) ++ zeros 1
        ++ toLE 6 (maskOf q.regions) ++ toLE 2 q.cost ++ toLE 6 q.turn ++ zeros 38 ++ q.holds.flatMap holdingBytes)

def execPlcReport (mb : Fin 16) (req : Request) (s : State) : Host.Outcome State Fault Refusal := commandRow cmdPlcReport mb req s

/-- R443: is a hint of a known kind with a value in range? DETAIL: the offset in its entry. -/
def hintBad (e : List Byte) : Option Nat :=
  let k := le e 0 1
  let v := le e 2 6
  if k = 0 ∨ 6 < k then some 0
  else if le e 1 1 ≠ 0 then some 1
  else
    let ok := if k = 1 then v < 48 else if k = 2 then v < 8 else if k = 3 ∨ k = 5 then v < 2 ^ 32 else if k = 4 then v < 2 ^ 48
      else v < 65536
    if ok then none else some 2

/-- PLC_SET_HINTS (R443, R460): CLEAR empties the set; the entries are added to it (log entry 47). -/
def cmdPlcSetHints : Cmd where
  code := 0x0307
  lenOk := fun r => decide (4 ≤ r.length.toNat) && r.length.toNat == 4 + 8 * le r.payload 2 2
  lenReq := 0xFFFF
  checks := fun s _ r =>
    let p := r.payload
    [onlyRunning s, param 0 (decide (le p 0 1 ≤ 15)), param 1 (decide (le p 1 1 ≤ 1)), param 2 (decide (le p 2 2 ≤ 16)),
     (numbered (entriesOf p 4 8 (le p 2 2))).findSome? (fun (i, e) => (hintBad e).map (fun o => (stBadParam, 4 + 8 * i + o)))]
  act := fun s mb r =>
    let p := r.payload
    let key := 16 * mb + le p 0 1
    let old := if bit (le p 1 1) 0 then [] else tblGet (fun _ => []) s.fab.hints key
    let new := (entriesOf p 4 8 (le p 2 2)).map (fun e => (le e 0 1, le e 2 6))
    replyOk { s with fab := { s.fab with hints := tblSet (fun _ => []) s.fab.hints key (old ++ new) } } []

def execPlcSetHints (mb : Fin 16) (req : Request) (s : State) : Host.Outcome State Fault Refusal := commandRow cmdPlcSetHints mb req s

end Sys2Proof.Machine
end

