-- ==== Sys2Proof/Machine/SelfTest.lean ====
section
/-!
DEFINITION. Machine/SelfTest.lean: units, periodic slices, BT_RUN, TEST, the unit map and the 0x0Dxx commands (R803-R821, R454, R455).
-/

namespace Sys2Proof.Machine

open Sys2Proof

/-! ### Units (R803, R804) -/

/-- Numbers that name no unit; the units that LF96-48 has not: lanes 48-95 and channels 16-31 (R6). -/
def State.unitAbsent (s : State) (u : Nat) : Bool :=
  (decide (388 ≤ u) && decide (u < 512)) || decide (612 ≤ u)
    || (s.is48 && ((decide (288 ≤ u) && decide (u < 336)) || (decide (528 ≤ u) && decide (u < 544))))

/-- Every unit of the variant. -/
def State.units (s : State) : List Nat := (List.range 612).filter (fun u => !s.unitAbsent u)

def mappable (u : Nat) : Bool := u ≤ 387

/-- The kinds of periodic slices: first unit and units. -/
def kindUnits (k : Nat) : Nat × Nat :=
  if k = 0 then (0, 48) else if k = 1 then (48, 96) else if k = 2 then (144, 96) else if k = 3 then (240, 96)
  else if k = 4 then (336, 4) else (356, 32)

/-- The exponent E of a kind (R808). -/
def State.exponent (s : State) (k : Nat) : Nat :=
  if k < 4 then bits (s.reg R.BT_SCHED0) (8 * k) 8 else bits (s.reg R.BT_SCHED1) (8 * (k - 4)) 8

/-- R816: a unit is written into the unit map, and a record with it. -/
def State.mapUnit (s : State) (u : Nat) : State :=
  if s.unitMapped u then s
  else
    let s := s.setReg (R.BT_MAP (u / 32)) (setBit (s.reg (R.BT_MAP (u / 32))) (u % 32))
    if storeRefused s then s.log 5 0x0D u 0 0 else writeRecord s

/-- R819: the LF40-compatible policy is in force. -/
def State.lf40 (s : State) : Bool := s.has R.BT_STATUS_POLICY

/-- The region that covers a region, cluster or Tap Engine column. -/
def unitRegion (u : Nat) : Nat := if u < 48 then u else if u < 144 then (u - 48) / 2 else (u - 144) / 2

/-- Is a level of a zone reached? -/
def State.zoneAt (s : State) (z k : Nat) : Bool := bit (s.zone z).at_ k

/-- R811: is a unit's window open? -/
def State.windowOpen (s : State) (u : Nat) : Bool :=
  let base := (List.range 3).all (fun k => s.nodeSource k == 1)
  if u < 240 then
    let r := unitRegion u
    let line := if u < 48 then s.get R.BT_CTRL_LOGIC_LINE else s.get R.BT_CTRL_HARD_LINE
    let grade2 := s.get R.ID_VARIANT_SPEED == 2
    let limit := if u < 48 then (if grade2 then 500000 else 600000) else if grade2 then 700000 else 800000
    s.railGood (if r < 24 then 8 else 7) && base && s.has (R.CK_FPLL_STATUS_LOCK line)
      && decide (90 * limit ≤ 100 * s.get (R.CK_FPLL_FREQ_KHZ line))
      && (List.range 20).all (fun z => !zoneCovers z r || !s.zoneAt z 1)
  else if u < 340 then
    let q := if u < 336 then (u - 240) / 4 else 24 + (u - 336)
    s.railGood 2 && s.railGood 3 && s.qualified (2 + s.get (R.LN_Q_CTRL_REF_SEL q)) && !s.zoneAt 17 1
  else if 512 ≤ u ∧ u < 544 then s.railGood 4 && s.railGood 5 && (List.range 8).all (fun m => !s.zoneAt (9 + m) 0)
  else base && !s.zoneAt 18 1

/-! ### Draining (R454, R455) -/

/-- Placements that hold a unit: active in a region, or with banks or engines in a cluster or column. -/
def State.holdersOf (s : State) (u : Nat) : List Placement :=
  let l := s.fab.placements.map Prod.snd
  if u < 48 then
    if s.rgState u = rgIdle then [] else l.filter (fun p => p.regions.contains u && s.activeOf u == p.plane)
  else if u < 144 then l.filter (fun p => p.holds.any (fun h => h.kind == 1 && h.units.any (fun b => b / 16 == u - 48)))
  else if u < 240 then l.filter (fun p => p.holds.any (fun h => h.kind == 2 && h.units.any (fun e => e / 16 == u - 144)))
  else []

/-- Is a unit drained? -/
def State.drained (s : State) (u : Nat) : Bool :=
  (s.holdersOf u).isEmpty
    && (decide (48 ≤ u) || (s.rgState u != rgRunning && s.rgState u != rgSwitching
      && (List.range 8).any (fun p => s.planeState u p == plEmpty)))

/-- R454, R440: a set of banks of NOC kind is to be copied to free banks of the nearest other cluster and handed over (log entry 55). One that
several placements share moves once. -/
def State.moveSet (s : State) (h : Holding) : Option State :=
  if s.fab.setMoves.any (fun m => m.old == h.units) then some s
  else
    (s.nearBanks [] h.region h.units.length (fun d => d != h.units.headD 0 / 16)).map (fun new =>
      { s with fab := { s.fab with setMoves := s.fab.setMoves ++ [{ old := h.units, new := new }] } })

/-- R197: the highest guarantee, of 4 to 7, that draining a unit would break: capture on a lossless lane whose frames a placement on it
hands back, NoC flows that its regions have reserved, else the host's service (log entry 56). -/
def State.drainBreaks (s : State) (u : Nat) : Nat :=
  let rs := (s.holdersOf u).flatMap (·.regions)
  if (List.range s.lanes).any (fun n => s.has (R.GU_CTRL_ENABLE n) && s.has (R.GU_CTRL_LOSSLESS n) && s.get (R.GU_CTRL_FRAMING n) == 2
      && ((s.reinsertDriver n).map rs.contains).getD false) then 4
  else if s.noc.flows.any (fun f => rs.any (fun r => regionEndpoint r == f.src)) then 6
  else 7

/-- One holder of a unit is moved away: none where the slice must be deferred. -/
def State.drainHolder (s : State) (u : Nat) (p : Placement) : Option State :=
  if p.migrating then some s
  else
    let noc := p.holds.filter (fun h => h.kind == 1 && !h.local_ && h.units.any (fun b => 48 + b / 16 == u))
    let loc := p.holds.any (fun h => h.kind == 1 && h.local_ && h.units.any (fun b => 48 + b / 16 == u))
    if 48 ≤ u ∧ u < 144 ∧ !loc then
      noc.foldl (fun (acc : Option State) h => acc.bind (fun t => t.moveSet h)) (some s)
    else if p.pinned then none
    else
      match movePlan s p.mb p [] with
      | .error _ => none
      | .ok x => some (migratePlan p x none)

/-- The slice in progress changes. -/
def State.setSlice (s : State) (sl : Option Slice) : State := { s with bist := { s.bist with slice := sl } }

/-- R455, R811: the slice that waits is deferred: counted once, and, where the unit cannot be drained, EV_PLC_DRAIN, and guarantee 8 yields
(R197, R199). -/
def State.deferSlice (s : State) (sl : Slice) (drain : Bool) : State :=
  if sl.deferred then s
  else
    let s := ((s.setSlice (some { sl with deferred := true })).bump R.BT_COUNT_B_DEFERRED).put R.BT_STATUS_DEFER_SEEN 1
    if drain then (s.raise 277).yielded 8 (s.drainBreaks sl.unit) sl.unit else s

/-- R454, R455: the unit of the slice that waits is drained, or its slice is deferred: where a holder cannot be moved, where lossless
capture would yield, where nothing that can be moved stands in the way, or where no entry of the schedule is free for the switch. -/
def State.drainSlice (s : State) (sl : Slice) : State :=
  let u := sl.unit
  let l := s.holdersOf u
  if s.drained u ∨ !s.fab.migrations.isEmpty then s
  else if l.isEmpty ∨ s.drainBreaks u = 4 then s.deferSlice sl true
  else
    match l.foldl (fun (acc : Option State) p => acc.bind (fun v => v.drainHolder u p)) (some s) with
    | some v => v
    | none => s.deferSlice sl true

/-- A slice of a unit begins to be prepared. -/
def State.startSlice (s : State) (u : Nat) (user : Bool) : State :=
  let sl : Slice := { unit := u, user := user }
  (s.setSlice (some sl)).drainSlice sl

/-- May a unit be taken for a periodic slice now (R803)? -/
def State.sliceable (s : State) (u : Nat) : Bool :=
  !s.unitAbsent u && !s.unitMapped u
    && (if 240 ≤ u ∧ u < 336 then (s.claimOf (claimKey 1 (u - 240))).isNone
        else if 336 ≤ u ∧ u < 340 then s.get (R.NC_SEAM_CTRL_MODE (u - 336)) == 0
        else if 356 ≤ u then (s.claimOf (claimKey 3 (u - 356))).isNone else true)

/-- R809: the unit of a kind whose last completed test is oldest; of equal ones the first. -/
def State.oldestUnit (s : State) (k : Nat) : Option Nat :=
  let a_n := kindUnits k
  let a := a_n.1
  let n := a_n.2
  let last (u : Nat) : Nat := tblGet (fun _ => 0) s.bist.lastTest u
  ((List.range n).map (· + a)).foldl (fun (acc : Option Nat) u =>
    if !s.sliceable u then acc
    else match acc with
      | none => some u
      | some v => if last u < last v then some u else acc) none

/-- SELF_TEST_DRAIN (R454, R808, R809): the gaffer prepares the next periodic slice of a kind. -/
def execSelfTestDrain (kind : Fin 6) (s : State) : Host.Outcome State Fault Refusal :=
  let k := kind.val
  let e := s.exponent k
  let begun := tblGet (fun _ => 0) s.bist.lastSlice k
  let soon := begun != 0 && decide ((s.tb.turn + 1 - begun) * (kindUnits k).2 < 2 ^ e)
  if s.life ≠ 2 ∨ s.mode ≠ mOperate ∨ e = 0 ∨ s.bist.slice.isSome ∨ soon ∨ !s.serving then .next s
  else
    match s.oldestUnit k with
    | none => .next s
    | some u => .next (s.startSlice u false)

/-! ### Slices at a boundary (R810-R812) -/

/-- R810, step 2, R472, R508: the unit is handed to self-test. -/
def State.handOver (s : State) (sl : Slice) : State :=
  let u := sl.unit
  let s := s.setSlice (some { sl with handed := true })
  let s := (s.put R.BT_STATUS_PHASE (if sl.user then 4 else 2)).put R.BT_STATUS_UNIT u
  let s := if sl.user then s else
    match (List.range 6).find? (fun k => decide ((kindUnits k).1 ≤ u) && decide (u < (kindUnits k).1 + (kindUnits k).2)) with
    | some k => { s with bist := { s.bist with lastSlice := tblPut k (s.tb.turn + 1) s.bist.lastSlice } }
    | none => s
  let s := if u < 48 then
      let f := if u < 32 then R.CF_PLC_TEST_LO_REGIONS else R.CF_PLC_TEST_HI_REGIONS
      (s.put f (setBit (s.get f) (u % 32))).closeEndpoint (regionEndpoint u)
    else if u < 144 then
      (s.handCluster (u - 48) 0xF1).closeEndpoint (clusterEndpoint (u - 48))
    else if u < 240 then forEach ((List.range 16).map (16 * (u - 144) + ·)) (fun e t => t.idleTe e) s
    else s
  s.raise 277

/-- The next unit of BT_RUN, or its end (R814, R821). -/
def State.nextUnit (s : State) : State :=
  match s.bist.queue with
  | u :: rest => ({ s with bist := { s.bist with queue := rest } } : State).startSlice u true
  | [] =>
    let s := s.put R.BT_STATUS_PHASE 0
    match s.bist.firstFail with
    | some u => s.endOps 0x0D00 stIntegrity u
    | none => s.endOps 0x0D00 stOk 0

/-- The slice is over. -/
def State.endSlice (s : State) (sl : Slice) : State :=
  let s := ((s.setSlice none).put R.BT_STATUS_PHASE 0).raise 284
  if sl.user then s.nextUnit else s

/-- R810, step 5: the unit is handed back. -/
def State.handBack (s : State) (sl : Slice) : State :=
  let u := sl.unit
  let s := if !sl.handed then s
    else if u < 48 then
      let f := if u < 32 then R.CF_PLC_TEST_LO_REGIONS else R.CF_PLC_TEST_HI_REGIONS
      s.put f (clearBit (s.get f) (u % 32))
    else if u < 144 then
      (s.handCluster (u - 48) 0xF0).openEndpoint (clusterEndpoint (u - 48))
    else s
  (s.raise 277).endSlice sl

/-- R199: a unit has not been tested within four times its interval: ERROR, EV_BT_OVERDUE, once until its next test. -/
def State.overdueUnits (s : State) : State :=
  if s.life ≠ 2 then s
  else iterate 6 (fun k t =>
    let e := t.exponent k
    if e = 0 then t
    else
      let a_n := kindUnits k
      let a := a_n.1
      let n := a_n.2
      iterate n (fun i t =>
        let u := a + i
        if t.sliceable u && decide (tblGet (fun _ => 0) t.bist.lastTest u + 4 * 2 ^ e < t.tb.turn + 1) && !t.bist.overdue.contains u then
          let t := { t with bist := { t.bist with overdue := u :: t.bist.overdue } }
          ((t.log 4 0x0D u 0 0).put R.BT_STATUS_OVERDUE_SEEN 1).raise 286
        else t) t) s

/-- The slice at a turn boundary. -/
def State.sliceAtTurn (s : State) : State :=
  let s := s.overdueUnits
  match s.bist.slice with
  | none => s
  | some sl =>
    if sl.back then s.handBack sl
    else if sl.handed then (if s.windowOpen sl.unit then s else s.abandonSlice sl.unit)
    else if !sl.user && s.mode != mOperate then s
    else if !s.drained sl.unit then s.drainSlice sl
    else if s.windowOpen sl.unit then s.handOver sl
    else s.deferSlice sl false

/-- SLICE_TEST_END (R810, R813): `detail` names the failing test within the unit. -/
def execSliceTestEnd (fail : Bool) (detail : BitVec 16) (s : State) : Host.Outcome State Fault Refusal :=
  match s.bist.slice with
  | none => .next s
  | some sl =>
    let u := sl.unit
    if !sl.handed ∨ sl.back then .next s
    else if !s.windowOpen u then .next (s.abandonSlice u)
    else if !fail then
      .next (((s.reinit u).testResult u 0 0 sl.user).setSlice (some { sl with back := true }))
    else
      let b := s.bist
      let s := { s with bist := { b with firstFail := match b.firstFail with
                                         | some x => some x
                                         | none => some u } }
      let s := ((s.reinit u).testResult u 1 detail.toNat sl.user).log 4 0x0D u detail.toNat 0
      if s.lf40 && mappable u then .next ((s.mapUnit u).endSlice sl)
      else if s.running then .next ((s.endSlice sl).enterStop 0x0D)
      else .next ((s.endSlice sl).causeIgnored 0x0D)

/-! ### Boot self-test and TEST (R805-R807, R815) -/

/-- Units that count as failed: those given that are tested, and the thermal sensors when a zone has two broken ones (R758). -/
def State.failedUnits (s : State) (fails : List (Nat × Nat)) : List (Nat × Nat) :=
  let l := fails.filter (fun f => !s.unitAbsent f.1 && !s.unitMapped f.1)
  if (List.range 20).any (fun z => decide (2 ≤ s.brokenIn z)) && !l.any (fun f => f.1 == 611) then l ++ [(611, 0)] else l

/-- The results of tests: those that failed with their DETAIL; the others passed. -/
def State.testsDone (s : State) (tested : List Nat) (fails : List (Nat × Nat)) (keep : Bool) : State :=
  let ok := tested.filter (fun u => !fails.any (fun f => f.1 == u))
  let s := s.bumpBy R.BT_COUNT_A_PASSED ok.length
  let s := if keep then { s with bist := { s.bist with results := ok.foldl (fun r u => tblPut u ⟨0, s.tb.turn, 0⟩ r) s.bist.results } } else s
  forEach fails (fun f t => (t.testResult f.1 1 f.2 keep).log 4 0x0D f.1 f.2 0) s

/-- TEST_MODE_END: the notice is pushed, and TEST is left. -/
def execTestModeEnd (fails : List (BitVec 10 × BitVec 16)) (s : State) : Host.Outcome State Fault Refusal :=
  if s.mode ≠ mTest then .next s
  else
    let l := s.failedUnits (fails.map (fun (u, d) => (u.toNat, d.toNat)))
    let s := s.testsDone (s.units.filter (fun u => !s.unitMapped u)) l true
    let s := if s.lf40 then forEach (l.filter (fun f => mappable f.1)) (fun f t => t.mapUnit f.1) s else s
    let s := s.put R.BT_STATUS_PHASE 0
    match l.head? with
    | some f => .next ((s.endOps 0x0D00 stIntegrity f.1).enterSafeHold 0x0D)
    | none => .next ((s.endOps 0x0D00 stOk 0).enterBoot 0x1A false)

/-! ### Commands (R821) -/

/-- R814: the modes in which a BT_RUN is permitted. -/
def runPermitted (mode scope : Nat) : Bool :=
  mode == mProvision || mode == mOperate || mode == mSafeHold || (scope == 1 && mode == mThrottled)

/-- The units of a BT_RUN. -/
def runUnits (p : List Byte) : List Nat := (List.range (le p 2 2)).map (fun i => le p (4 + 2 * i) 2)

/-- BT_RUN (0x0D00). -/
def cmdBtRun : Cmd where
  code := 0x0D00
  long := true
  lenOk := fun r => r.length.toNat == 4 + (2 * le r.payload 2 2 + 3) / 4 * 4
  lenReq := 0xFFFF
  checks := fun s _ r =>
    let p := r.payload
    let n := le p 2 2
    [failIf (s.life != 0 && s.life != 3) stRefusedState 0, failIf (!runPermitted s.mode (le p 0 1)) stRefusedState 0,
     param 0 (decide (le p 0 1 ≤ 1)), reserved0 p 1 1, param 2 (decide (n ≤ 1000) && (le p 0 1 != 0 || n == 0))]
    ++ (numbered (runUnits p)).map (fun (i, u) => param (4 + 2 * i) (!s.unitAbsent u))
    ++ [reserved0 p (4 + 2 * n) (2 * (n % 2)), (s.gaf.ops.find? (fun o => o.command == 0x0D00)).map (fun o => (stBusy, o.mb))]
  act := fun s mb r =>
    let p := r.payload
    let s := { s with bist := { s.bist with results := [], firstFail := none, queue := [] } }
    if le p 0 1 = 0 then accept (s.enterTest 0x19) mb r [] []
    else
      let s := s.startOp { mb := mb, tag := r.tag.toNat, command := 0x0D00, args := [1] }
      let s := { s with bist := { s.bist with queue := runUnits p } }
      { next := s.nextUnit, status := stAccepted }

def execBtRun (mb : Fin 16) (req : Request) (s : State) : Host.Outcome State Fault Refusal := commandRow cmdBtRun mb req s

/-- The modes of the commands that change settings of self-test. -/
def btModes (s : State) : Chk := failIf (!(s.running || s.mode == mStop || s.mode == mSafeHold)) stRefusedState 0

/-- BT_SET_SCHEDULE (0x0D01). -/
def cmdBtSetSchedule : Cmd where
  code := 0x0D01
  lenOk := lenIs 8
  lenReq := 8
  creds := fun s _ _ => 2 :: s.operators 0x0D
  checks := fun s _ r =>
    let p := r.payload
    [btModes s, failIf (s.life != 2) stRefusedState 0, recordRefused s]
    ++ (List.range 6).map (fun i => param i (le p i 1 == 0 || (decide (10 ≤ le p i 1) && decide (le p i 1 ≤ 40)))) ++ [reserved0 p 6 2]
  act := fun s _ r => replyOk (writeRecord ((s.setReg R.BT_SCHED0 (le r.payload 0 4)).setReg R.BT_SCHED1 (le r.payload 4 2))) []

def execBtSetSchedule (mb : Fin 16) (req : Request) (s : State) : Host.Outcome State Fault Refusal := credRow cmdBtSetSchedule mb req s

/-- BT_STATUS (0x0D02). -/
def cmdBtStatus : Cmd where
  code := 0x0D02
  lenOk := lenIs 0
  lenReq := 0
  checks := fun _ _ _ => []
  act := fun s _ _ =>
    replyOk s ([R.BT_STATUS, R.BT_SCHED0, R.BT_SCHED1, R.BT_CTRL, R.BT_COUNT_A, R.BT_COUNT_B, R.BT_LAST].flatMap
      (fun o => toLE 4 (s.reg o)) ++ zeros 4)

def execBtStatus (mb : Fin 16) (req : Request) (s : State) : Host.Outcome State Fault Refusal := commandRow cmdBtStatus mb req s

/-- BT_RESULTS (0x0D03): the units of number START and above. -/
def cmdBtResults : Cmd where
  code := 0x0D03
  lenOk := lenIs 4
  lenReq := 4
  checks := fun _ _ r => [reserved0 r.payload 2 2]
  act := fun s _ r =>
    let l := (s.bist.results.filter (fun e => decide (le r.payload 0 2 ≤ e.1))).take 253
    replyOk s (toLE 4 l.length ++ l.flatMap (fun (u, t) =>
      toLE 2 u ++ toLE 1 t.result ++ zeros 1 ++ toLE 6 t.turn ++ toLE 2 t.detail ++ zeros 4))

def execBtResults (mb : Fin 16) (req : Request) (s : State) : Host.Outcome State Fault Refusal := commandRow cmdBtResults mb req s

/-- BT_SET_POLICY (0x0D04). -/
def cmdBtSetPolicy : Cmd where
  code := 0x0D04
  lenOk := lenIs 4
  lenReq := 4
  creds := fun s _ _ => if s.life = 2 then [2] else []
  checks := fun s _ r =>
    let p := r.payload
    [btModes s, failIf (s.life != 2 && s.life != 3) stRefusedState 0, recordRefused s, param 0 (decide (le p 0 1 ≤ 1)), reserved0 p 1 3]
  act := fun s _ r => replyOk (writeRecord (s.put R.BT_STATUS_POLICY (le r.payload 0 1))) []

def execBtSetPolicy (mb : Fin 16) (req : Request) (s : State) : Host.Outcome State Fault Refusal := credRow cmdBtSetPolicy mb req s

/-- BT_UNIT_MAP (0x0D05). With CLEAR the units stay excluded until the next BOOT. -/
def cmdBtUnitMap : Cmd where
  code := 0x0D05
  lenOk := lenIs 4
  lenReq := 4
  creds := fun _ _ r => if bit (le r.payload 0 1) 0 then [1] else []
  checks := fun s _ r =>
    let p := r.payload
    let clear := bit (le p 0 1) 0
    [if clear then btModes s else none, failIf (clear && s.life != 3) stRefusedState 0, if clear then recordRefused s else none,
     param 0 (decide (le p 0 1 ≤ 1)), reserved0 p 1 3]
  act := fun s _ r =>
    let s := if bit (le r.payload 0 1) 0 then
        let s := { s with sec := { s.sec with excluded := (List.range 388).filter (fun u => s.unitMapped u) } }
        writeRecord (iterate 14 (fun m t => t.setReg (R.BT_MAP m) 0) s)
      else s
    replyOk s ((bistRecord s).take 56)

def execBtUnitMap (mb : Fin 16) (req : Request) (s : State) : Host.Outcome State Fault Refusal := credRow cmdBtUnitMap mb req s

end Sys2Proof.Machine
end

