-- ==== Sys2Proof/Machine/Configuration.lean ====
section
/-!
DEFINITION. Machine/Configuration.lean: the end of boot self-test, configuration streams, START-UP and its release (R672-R699, R805-R807,
R817).
-/

namespace Sys2Proof.Machine

open Sys2Proof

/-! ### CF_CFG_STATUS.STATE (R696) -/

def cfWaitInit : Nat := 0
def cfReceiving : Nat := 1
def cfChecking : Nat := 2
def cfWriting : Nat := 3
def cfWaking : Nat := 4
def cfReleased : Nat := 5
def cfDone : Nat := 6
def cfFailed : Nat := 7

def State.cfState (s : State) : Nat := s.get R.CF_CFG_STATUS_STATE
def State.setCf (s : State) (st : Nat) : State := s.put R.CF_CFG_STATUS_STATE st

/-- CFG_MODE (R672): 0 XSPI, 1 CHAIN, 2 HOST. -/
def State.cfgModePin (s : State) : Nat := s.get R.CF_CFG_STATUS_CFG_MODE

/-- XSPI or CHAIN. -/
def State.onChain (s : State) : Bool := decide (s.cfgModePin ≤ 1)

/-! ### Failures (R690) -/

/-- R690: a failure is recorded: CF_CFG_ERROR, EV_CFG, a log entry. -/
def State.cfgError (s : State) (e : CfgErr) : State :=
  let s := (s.put R.CF_CFG_ERROR_CODE e.code).put R.CF_CFG_ERROR_SEGMENT e.segment
  ((s.setReg R.CF_CFG_ERR_ADDR e.addr).raise 278).log 4 0x03 e.code e.segment e.addr

/-- A fatal failure in CONFIGURE: INIT_N is driven low. `now`: the image has ended, and SAFE HOLD follows at once. -/
def State.cfgFatal (s : State) (atOnce : Bool) : State :=
  let s := (s.driveInit true).setCf cfFailed
  if atOnce then s.enterSafeHold 0x10 else s

/-- A failure in CONFIGURE of the boot stream. On the chain the rest of the image is still passed on, up to the end record; the eighth in
HOST mode is fatal. -/
def State.cfgFail (s : State) (e : CfgErr) : State :=
  let s := s.cfgError e
  if s.onChain then s.cfgFatal s.fab.imageEnded
  else
    let s := (s.bump R.CF_CFG_STATUS_FAILS).setCf cfFailed
    let status := if e.code = cfgSignature ∨ e.code = cfgHash then stAuthFail else stIntegrity
    let s := forEach (s.gaf.ops.filter (fun o => o.command == 0x030D)) (fun o t =>
      t.drawn.endOp (t.partChecked o) status (if status = stAuthFail then 0 else e.code)) s
    if 8 ≤ s.get R.CF_CFG_STATUS_FAILS then s.cfgFatal true else s

/-! ### CONFIGURE is entered (R189, R672, R699) -/

/-- R699: the staging window: 256 MiB from local address 0, at BAR2 offset 0, writable. -/
def State.openStaging (s : State) : State :=
  let s := { s with fab := { s.fab with staging := true } }
  let s := ((s.put (R.HP_WIN_LOCAL_BASE_MIB 0) 0).put (R.HP_WIN_LOCAL_READ_ONLY 0) 0).put (R.HP_WIN_LOCAL_EN 0) 1
  (s.put (R.HP_WIN_SIZE_SIZE_MIB 0) 256).put (R.HP_WIN_OFFSET_OFFSET_MIB 0) 0

/-- BOOT has ended and CONFIGURE begins: a reserved CFG_MODE fails at once. In HOST mode the device waits for a stream. -/
def State.enterConfigure (s : State) : State :=
  let s := (s.goMode mConfigure 0x03).setCf cfWaitInit
  let s := { s with fab := { s.fab with imageEnded := false } }
  let s := forEach [R.CF_CFG_BYTES, R.CF_CFG_FORWARD, R.CF_CFG_BOOT_LO, R.CF_CFG_BOOT_HI, R.CF_IO_MISMATCH, R.CF_CFG_ID_LO,
    R.CF_CFG_ID_HI] (fun o t => t.setReg o 0) s
  let s := ((s.put R.CF_CFG_STATUS_ARRAY 0).put R.CF_CFG_STATUS_ENCRYPTED 0).put R.CF_CFG_STATUS_OWNER_SIGNED 0
  if s.onChain then s
  else if s.cfgModePin = 2 then (s.setCf cfReceiving).openStaging
  else (s.cfgError ⟨cfgMode, 0xFFFF, 0⟩).cfgFatal true

/-! ### Boot self-test (R805-R807) -/

/-- Boot self-test is over; the modes that follow it (R180). `l`: the units that failed. Native policy: any failure; LF40: those that
cannot be mapped. -/
def State.endBoot (s : State) (l : List (Nat × Nat)) : State :=
  let s := (((s.put R.GAF_STATUS_READY 1).put R.BT_STATUS_PHASE 0).driveInit false).calibrateAll
  let finish (t : State) : State := (t.endOps 0x0205 stOk 0).brokenAfterBoot
  if s.life = 2 ∧ !s.keysPresent then finish (s.enterZeroized 0x1C)
  else
    let s := s.guardInit.openAtTurn (s.channelEndpoints ++ serviceEndpoints)
    let s := iterate 96 (fun c t => if t.unitMapped (48 + c) then
        iterate 16 (fun i u => u.put (R.SB_OWNER_OWNER (16 * c + i)) 0xF1) t else t) s
    if s.life = 1 then finish (s.enterSafeHold 0x12)
    else if s.life = 4 then finish (s.enterSafeHold 0x13)
    else if !l.isEmpty && !(s.lf40 && l.all (fun f => mappable f.1)) then finish (s.enterSafeHold 0x0D)
    else if s.life = 0 then finish (s.goMode mProvision 0x03)
    else finish s.enterConfigure

/-- BOOT_SELF_TEST_END: every unit but those in the unit map has been tested. Where the bring-up of R729 has not ended, a rail or its
regulator (unit 610) has failed, which fails boot self-test (R804, log entry 60). -/
def execBootSelfTestEnd (fails : List (BitVec 10 × BitVec 16)) (s : State) : Host.Outcome State Fault Refusal :=
  if s.mode ≠ mBoot then .next s
  else if s.get R.PW_STATUS_SEQ ≠ 3 then .next ((s.testsDone [] [(610, 0)] false).enterSafeHold 0x0D)
  else
    let l := s.failedUnits (fails.map (fun (u, d) => (u.toNat, d.toNat)))
    let s := s.testsDone (s.units.filter (fun u => !s.unitMapped u)) l false
    let s := if s.lf40 then forEach (l.filter (fun f => mappable f.1)) (fun f t => t.mapUnit f.1) s else s
    .next (s.endBoot l)

/-- BOOT_TEST_WINDOW_TIMEOUT (R806): units whose window has not opened within 10 s count as failed. -/
def execBootTestWindowTimeout (units : List (BitVec 10)) (s : State) : Host.Outcome State Fault Refusal :=
  if s.mode ≠ mBoot then .next s
  else
    let l := (units.map (·.toNat)).filter (fun u => !s.unitAbsent u && !s.unitMapped u)
    if l.isEmpty then .next s
    else
      let s := s.testsDone [] (l.map (fun u => (u, 0))) false
      if s.lf40 && l.all mappable then .next (forEach l (fun u t => t.mapUnit u) s)
      else .next (s.endBoot (l.map (fun u => (u, 0))))

/-! ### A device stream (R677, R678, R687) -/

/-- A device stream's header, signature and segments. -/
def streamHeader (b : List Byte) : List Byte := fit 256 b
def streamSegments (b : List Byte) : List Byte := b.drop 16480

/-- R678: is the format of a stream header kept? -/
def headerFormatOk (b : List Byte) : Bool :=
  let h := streamHeader b
  decide (16480 ≤ b.length) && le h 0 4 == 0x4D525453 && le h 4 2 == 1 && le h 6 1 == 0 && bits (le h 7 1) 3 4 == 0
    && le h 8 8 == b.length && decide (1 ≤ le h 24 4) && decide (le h 24 4 ≤ 65535) && bits (le h 36 1) 2 6 == 0
    && zeroAt h 38 2 && (bit (le h 36 1) 0 || zeroAt h 72 64) && zeroAt h 136 120

/-- What R687 checks of a boot stream. -/
def streamChain (s : State) (b : List Byte) : ChainIn :=
  let h := streamHeader b
  let fl := le h 36 1
  { piece := false, chainId := slice h 16 8, enc := bit fl 0, firstKey := slice h 72 64, wrapKey := wrapKeyOf s (bit fl 1),
    bytes := streamSegments b, segments := le h 24 4, frameCount := le h 28 4, frameCrc := le h 32 4, positions := 0,
    oneTier := false }

/-- R687: the first failure of a boot stream, in the order of the table, and what its chain gives. -/
def streamCheck (s : State) (b : List Byte) : Option CfgErr × Chain :=
  let h := streamHeader b
  let fl := le h 36 1
  let l_c := chainFailures (streamChain s b)
  let l := l_c.1
  let c := l_c.2
  let head (code : Nat) (ok : Bool) : Option CfgErr := if ok then none else some ⟨code, 0xFFFF, 0⟩
  let first := [head cfgFormat (headerFormatOk b), l.getD 0 none,
    head cfgVariant (le h 37 1 == 0 || le h 37 1 == s.get R.ID_VARIANT_LANES),
    head cfgSignature (signerOk s false (bit fl 1) (bit fl 0) h (slice b 256 16224)),
    head cfgPolicy (bit fl 0 || s.life != 2)]
  let last := [head cfgHash ((sha256 (streamSegments b)).toNat == le h 40 32), l.getD 8 none,
    head cfgSpace (decide (b.length ≤ 0x10000000) && decide (256 * le h 28 4 ≤ 0x10000000))]
  ((first ++ (l.drop 1).take 7 ++ last).findSome? id, c)

/-! ### The boot context (R686, R688, R817) -/

/-- The manifest that stands for the boot context in the library: its identifier, its frames, and its footprint where its regions
fill one (else a footprint that fits nowhere). -/
def bootManifest (b : List Byte) (regions : List Nat) : List Byte :=
  let h := streamHeader b
  let o := regions.headD 0
  let shapes := (List.range 6).flatMap (fun x => (List.range 4).flatMap (fun y => [(x + 1, y + 1, 1), (x + 1, y + 1, 3)]))
  let x_y_t := (shapes.find? (fun q => footprintOf q.1 q.2.1 q.2.2 o == some regions)).getD (7, 5, 1)
  let x := x_y_t.1
  let y := x_y_t.2.1
  let t := x_y_t.2.2
  zeros 8 ++ slice h 16 8 ++ zeros 4 ++ toLE 1 x ++ toLE 1 y ++ toLE 1 t ++ zeros 41 ++ slice h 28 4 ++ zeros 60

/-- The piece and the placement that a boot stream makes; what its pads hold, and the segments it names. -/
def State.bootPiece (s : State) (b : List Byte) (c : Chain) : State :=
  let h := streamHeader b
  let m := bootManifest b c.regions
  let pos (r : Nat) : Nat := (firstIdx (fun x => x == r) c.regions).getD 0
  let frames := c.frames.map (fun e => (16384 * pos (e.1 / 16384) + e.1 % 16384, e.2))
  let t_alloc := match s.allocate .library 16 0 s.fullLog2 (max 1 (libraryMib m)) 0 with
    | some (t, a) => (t, a.handle)
    | none => (s, 0xFFFFFFFF)
  let t := t_alloc.1
  let q : Piece := { handle := 0, mb := 0xFF, manifest := m, frames := frames, alloc := t_alloc.2 }
  let written := c.regions.filter (fun r => !s.unitMapped r)
  let p : Placement := { id := 0, handle := 0, mb := 0xFF, origin := c.regions.headD 0, plane := 0, regions := written, direct := true,
                         turn := s.tb.turn }
  let f := { t.fab with pieces := tblPut 0 q t.fab.pieces, placements := tblPut 0 p t.fab.placements,
                        ioStatic := c.io.foldl (fun t e => tblPut e.1 e.2 t) [], bootStart := c.start }
  ({ t with fab := f, sec := { t.sec with bootSegs := BitVec.ofNat 256 (le h 40 32) } } : State).showPlaced

/-- The switch groups of a boot stream; each region that it does not name is a group alone. -/
def State.bootGroups (s : State) (c : Chain) : State :=
  let named := c.groups.map (fun m => bitsOf 48 m)
  let single := (c.regions.filter (fun r => !named.any (·.contains r))).map (fun r => [r])
  forEach ((numbered (named ++ single)).take 64) (fun x t => t.setGroup x.1 x.2 0xFF) s

/-- What the CF_CFG registers show of a boot stream. -/
def State.bootWords (s : State) (b : List Byte) (c : Chain) : State :=
  let h := streamHeader b
  let fl := le h 36 1
  let s := (s.setReg R.CF_CFG_BOOT_LO (maskOf c.regions)).setReg R.CF_CFG_BOOT_HI (maskOf c.regions / 2 ^ 32)
  let s := (s.setReg R.CF_CFG_ID_LO (le h 16 4)).setReg R.CF_CFG_ID_HI (le h 20 4)
  ((s.put R.CF_CFG_STATUS_ARRAY (bits (le h 7 1) 7 1)).put R.CF_CFG_STATUS_ENCRYPTED (bits fl 0 1)).put
    R.CF_CFG_STATUS_OWNER_SIGNED (bits fl 1 1)

/-- A boot stream that has passed every check enters the library as handle 0 and is placed; its load into plane 0 is queued. -/
def State.acceptBoot (s : State) (b : List Byte) (c : Chain) : State :=
  let pos (r : Nat) : Nat := (firstIdx (fun x => x == r) c.regions).getD 0
  let written := c.regions.filter (fun r => !s.unitMapped r)
  let t := (s.bootPiece b c).bootGroups c
  let t := (forEach (c.regions.filter (fun r => s.unitMapped r)) (fun r t => t.log 4 0x03 r 0 0) t).bootWords b c
  (t.setCf cfWriting).queueLoad { kind := .boot, regions := written.map (fun r => (r, 0, pos r)), plane := 0 }

/-- A stream is checked: the boot context is accepted or the failure handled. -/
def State.takeStream (s : State) (b : List Byte) : State :=
  let s := s.setCf cfChecking
  match streamCheck s b with
  | (some e, _) => s.cfgFail e
  | (none, c) => s.acceptBoot b c

/-- Has the device not yet taken its own stream? -/
def State.awaitsStream (s : State) : Bool := s.mode == mConfigure && s.onChain && s.cfState == cfReceiving

/-- Bytes are passed on to CFG_DOUT (R679); before INIT_N is high nothing is sent. -/
def State.forwardBytes (s : State) (n : Nat) : State :=
  if s.onChain ∧ mConfigure ≤ s.mode ∧ !(s.mode = mConfigure ∧ s.cfState = cfWaitInit) then s.bumpBy R.CF_CFG_FORWARD_COUNT n else s

/-- INIT_N_HIGH (R676). -/
def execInitNHigh (s : State) : Host.Outcome State Fault Refusal :=
  if s.has R.CF_CFG_STATUS_INIT_DRIVE then .next s
  else
    let s := s.put R.CF_CFG_STATUS_INIT_PIN 1
    .next (if s.mode = mConfigure ∧ s.onChain ∧ s.cfState = cfWaitInit then s.setCf cfReceiving else s)

/-- CONFIG_STREAM_RECEIVED (R679, R687): a stream has been received whole. One for another device, and a second one for this
device, is passed on. -/
def execConfigStreamReceived (stream : List Byte) (s : State) : Host.Outcome State Fault Refusal :=
  if !s.awaitsStream ∨ bits (le stream 7 1) 0 3 ≠ s.get R.NC_ARRAY_DEV_ID then .next (s.forwardBytes stream.length)
  else .next ((s.setReg R.CF_CFG_BYTES (min stream.length 0xFFFFFFFF)).takeStream stream)

/-- STREAM_PASS_ON (R679). -/
def execStreamPassOn (len : BitVec 64) (s : State) : Host.Outcome State Fault Refusal := .next (s.forwardBytes len.toNat)

/-- END_RECORD_RECEIVED (R677, R690): the end record is passed on. -/
def execEndRecordReceived (s : State) : Host.Outcome State Fault Refusal :=
  let s := s.forwardBytes 256
  let s := if s.mode = mConfigure ∧ s.onChain then { s with fab := { s.fab with imageEnded := true } } else s
  if s.awaitsStream then .next ((s.cfgError ⟨cfgNoStream, 0xFFFF, 0⟩).cfgFatal true)
  else .next (if s.mode = mConfigure ∧ s.onChain ∧ s.cfState = cfFailed then s.enterSafeHold 0x10 else s)

/-- CONFIG_CHAIN_TIMEOUT (R689). Nothing more comes to be passed on, so that SAFE HOLD follows at once. -/
def execConfigChainTimeout (s : State) : Host.Outcome State Fault Refusal :=
  if s.mode = mConfigure ∧ s.onChain ∧ s.cfState ≤ cfReceiving then .next ((s.cfgError ⟨cfgTimeout, 0xFFFF, 0⟩).cfgFatal true)
  else .next s

/-! ### START-UP (R691-R694) -/

/-- The banks whose VCCIO does not suit one of their used I/O. -/
def State.badBanks (s : State) : List Nat :=
  (List.range 12).filter (fun b =>
    s.fab.ioStatic.any (fun e => e.1 / 24 == b && bits e.2 0 4 != 0 && !suits e.2 (s.get (R.PW_RAIL_MEAS_MV (9 + b)))))

/-- R692: the check of the banks. -/
def State.checkBanks (s : State) : State :=
  let l := s.badBanks
  let off := (s.fab.ioStatic.filter (fun e => bits e.2 0 4 != 0 && !suits e.2 (s.get (R.PW_RAIL_MEAS_MV (9 + e.1 / 24))))).map Prod.fst
  let s := { s with fab := { s.fab with ioOff := off } }
  if l.isEmpty then s else ((s.put R.CF_IO_MISMATCH_BANKS (maskOf l)).raise 278).log 3 0x03 (maskOf l) 0 0

/-- R522, R693: the clusters are clocked on a line that the gaffer chooses: a free value. -/
def State.clockClusters (s : State) : State :=
  let line := s.peekFree
  iterate 96 (fun c t => if t.unitMapped (48 + c) then t
    else ((t.put (R.SB_CL_CTRL_CLK_LINE c) line).put (R.SB_CL_CTRL_CLK_EN c) 1).put (R.SB_CL_STATUS_READY c) 1) s.drawn

/-- START-UP after CONFIGURE (R693): its first steps. The clocks of the boot regions run, and those that are never gated automatically
(R720). -/
def State.enterStartUp (s : State) : State :=
  let start := s.fab.bootStart
  let src := if s.has R.CF_CFG_STATUS_ARRAY then [tl R.TS_CTRL_SOURCE 1] else if start.isSome then [tl R.TS_CTRL_SOURCE 0] else []
  let ref := match start with
    | some (p, r) => if s.has R.CF_CFG_STATUS_ARRAY then [] else [tl R.TS_PERIOD_PERIOD p, tl R.TS_CTRL_PIP_REF r]
    | none => []
  let s := (s.goMode mStartUp 0x04).setCf cfWaking
  let s := { s with phys := { s.phys with startAt := s.tb.now, doneHigh := false, wakeAt := none },
                    gaf := { s.gaf with shadow := s.gaf.shadow ++ src ++ ref } }
  let boot := bitsOf 48 (s.reg R.CF_CFG_BOOT_LO + 2 ^ 32 * s.get R.CF_CFG_BOOT_HI_REGIONS)
  let s := forEach (boot ++ (List.range 24).map (fun k => 144 + k)) (fun u t => t.openClock u) (iterate 8 (fun n t => t.fpllStart n) s)
  let s := s.clockClusters.lanesWake
  let up := (List.range 96).filter (fun c => !s.unitMapped (48 + c))
  (s.openAtTurn (hardEndpoints ++ up.map clusterEndpoint)).checkBanks

/-- Pips that steps 2 to 4 of R693 take. -/
def State.wakeTime (s : State) : Nat :=
  let n := (bitsOf 48 (s.reg R.CF_CFG_BOOT_LO + 2 ^ 32 * s.get R.CF_CFG_BOOT_HI_REGIONS)).length
  1250 * max (if s.is48 then 110 else 230) (5 * (n - 1))

/-- R694: the release turn. -/
def State.releaseTurn (s : State) : State :=
  let rs := ((tblFind 0 s.fab.placements).map (·.regions)).getD []
  let s := forEach (rs.filter (fun r => s.rgState r != rgHeld)) (fun r t => t.releaseRegion r) s
  ((s.goMode mOperate 0x05).setCf cfDone).raise 278

/-- Does this boundary begin the release turn of an array member, which loads turn 0 (R663, R694)? -/
def State.releaseLoads (s : State) : Bool := s.mode == mStartUp && s.cfState == cfReleased && s.phys.doneHigh && s.has R.CF_CFG_STATUS_ARRAY

/-- Two milliseconds in pips: what the wake of R733 takes before its release turn. -/
def twoMs : Nat := 2500000

/-- The regions that ran when LEHR was entered run again (R733, R734), but for those that R416 has found bad and holds. -/
def State.releaseLehr (s : State) : State :=
  forEach (s.phys.lehrRegions.filter (fun r => s.rgState r != rgHeld)) (fun r t => t.releaseRegion r) s

/-- What START-UP and a resume do at a turn boundary (R693-R695, R733, R734). -/
def State.startUpAtTurn (s : State) : State :=
  if s.mode = mStartUp then
    match s.phys.wakeAt with
    | some t =>
      if t + twoMs ≤ s.tb.now then
        let s := { s with phys := { s.phys with wakeAt := none } }
        let s := ((s.releaseLehr.goMode mOperate 0x05).setCf cfDone).raise 278
        s.endOps 0x0204 stOk 0
      else s
    | none =>
      if s.cfState = cfWaking ∧ s.phys.startAt + s.wakeTime ≤ s.tb.now then (s.driveDone false).setCf cfReleased
      else if s.cfState = cfReleased ∧ s.phys.doneHigh then s.releaseTurn
      else s
  else
    match s.phys.resumeAt with
    | some t =>
      if s.mode = mStop ∧ t + twoMs ≤ s.tb.now then
        let waiting := s.phys.waiting
        let s := { s with phys := { s.phys with resumeAt := none, lehrStop := false } }
        ((s.releaseLehr.goMode mOperate 0x15).endOps 0x0202 stOk 0).takeWaiting waiting
      else s
    | none => s

/-- DONE_SAMPLE (R676, R693). -/
def execDoneSample (level : Bool) (s : State) : Host.Outcome State Fault Refusal :=
  if s.mode ≠ mStartUp ∨ s.phys.wakeAt.isSome ∨ s.cfState ≠ cfReleased then .next s
  else
    let s := s.put R.CF_CFG_STATUS_DONE_PIN (b2n level)
    .next (if level then { s with phys := { s.phys with doneHigh := true } } else s)

/-- STARTUP_TIMEOUT (R180). -/
def execStartupTimeout (s : State) : Host.Outcome State Fault Refusal :=
  if s.mode = mStartUp ∧ s.phys.wakeAt.isNone ∧ s.cfState = cfReleased ∧ !s.phys.doneHigh then .next (s.enterSafeHold 0x11) else .next s

/-! ### Loads end (R406, R688) -/

/-- The load of the boot context has ended: its regions stay LOADING_ACTIVE until the release turn (R387, R694). -/
def State.bootLoaded (s : State) (l : Load) (fail : Bool) : State :=
  if fail then s.dropBoot.cfgFail ⟨cfgCrc, 0xFFFF, 0⟩
  else
    let s := ({ s with fab := { s.fab with loads := s.fab.loads.drop 1 } } : State).showLoad false
    let s := (s.loadPassed l).raise 278
    (s.endOps 0x030D stOk 0).enterStartUp

/-- CONFIG_LOAD_COMPLETE (R406): the load in progress has been written and its CRC passes, or fails. -/
def execConfigLoadComplete (fail : Bool) (s : State) : Host.Outcome State Fault Refusal :=
  match s.fab.loads with
  | [] => .next s
  | l :: _ =>
    if !s.has R.CF_LOAD_STATUS_BUSY then .next s
    else
      match l.kind with
      | .boot => .next (s.bootLoaded l fail)
      | .migrate =>
        let s := ({ s with fab := { s.fab with loads := s.fab.loads.drop 1 } } : State).showLoad false
        .next (migrateLoaded s l fail)
      | _ => .next (loadComplete s fail)

/-! ### Commands (R698) -/

/-- Does a range lie in an allocation of a mailbox? -/
def State.inOwnAlloc (s : State) (mb a n : Nat) : Bool :=
  s.mem.allocs.any (fun al => al.mb == mb && al.extents.any (fun (m, k) =>
    decide (0x100000 * m ≤ a) && decide (a + n ≤ 0x100000 * (m + k))))

/-- CFG_STREAM_LOAD (0x030D). -/
def cmdCfgStreamLoad : Cmd where
  code := 0x030D
  long := true
  lenOk := lenIs 16
  lenReq := 16
  checks := fun s mb r =>
    let p := r.payload
    let a := le p 0 8
    let n := le p 8 4
    let conf := s.mode == mConfigure
    [failIf (!(s.running || (conf && s.cfgModePin == 2))) stRefusedState 0, onlyMailboxes mb deviceMailboxes,
     param 0 (a % 4096 == 0 && (if conf then decide (a < 0x10000000) else s.inOwnAlloc mb a 1)),
     param 8 (if conf then decide (a + n ≤ 0x10000000) else s.inOwnAlloc mb a n),
     param 12 (decide (le p 12 1 ≤ 1) && (conf || bit (le p 12 1) 0)), reserved0 p 13 3,
     (s.gaf.ops.find? (fun o => o.command == 0x030D)).map (fun o => (stBusy, o.mb))]
  act := fun s mb r =>
    let p := r.payload
    let a := accept (if s.mode = mConfigure then s.setCf cfChecking else s) mb r [] [le p 0 8, le p 8 4, le p 12 1]
    { a with op := a.op.map (fun o => { o with progress := 0 }) }

def execCfgStreamLoad (mb : Fin 16) (req : Request) (s : State) : Host.Outcome State Fault Refusal := commandRow cmdCfgStreamLoad mb req s

/-- A stream that was only to be verified has passed or failed. -/
def State.verified (s : State) (o : Op) (e : Option CfgErr) : State :=
  match e with
  | none => (s.raise 278).endOp o stOk 0
  | some e =>
    let auth := e.code == cfgSignature || e.code == cfgHash
    (s.cfgError e).drawn.endOp (s.partChecked o) (if auth then stAuthFail else stIntegrity) (if auth then 0 else e.code)

/-- CFG_STREAM_CHECK_COMPLETE: the checks of the host's stream have ended. A stream that is to be loaded is written next, and its
notice comes with the end of the load. -/
def execCfgStreamCheckComplete (s : State) : Host.Outcome State Fault Refusal :=
  match s.gaf.ops.find? (fun o => o.command == 0x030D) with
  | none => .next s
  | some o =>
    if s.mode = mConfigure ∧ s.cfState = cfWriting then .next s
    else
      let n := o.args.getD 1 0
      let only := bit (o.args.getD 2 0) 0
      let s_code_b := stackRead s 0xF0 (o.args.getD 0 0) n
      let s := s_code_b.1
      let code := s_code_b.2.1
      let b := s_code_b.2.2
      let err_c := if code ≠ rOk then (some ⟨cfgIntegrity, 0xFFFF, 0⟩, (streamCheck s b).2) else streamCheck s b
      let err := err_c.1
      let c := err_c.2
      if s.mode ≠ mConfigure then .next (s.verified o err)
      else
        let s := s.setReg R.CF_CFG_BYTES n
        match err with
        | some e => .next (s.cfgFail e)
        | none => if only then .next ((s.setCf cfReceiving).verified o none) else .next (s.acceptBoot b c)

/-- CFG_GET_STATUS (0x030E). -/
def cmdCfgGetStatus : Cmd where
  code := 0x030E
  lenOk := lenIs 0
  lenReq := 0
  checks := fun _ _ _ => []
  act := fun s _ _ => replyOk s ((List.range 10).flatMap (fun i => toLE 4 (s.reg (R.CF_CFG_STATUS + 4 * i))) ++ zeros 4)

def execCfgGetStatus (mb : Fin 16) (req : Request) (s : State) : Host.Outcome State Fault Refusal := commandRow cmdCfgGetStatus mb req s

end Sys2Proof.Machine
end

