-- ==== Sys2Proof/Machine/Update.lean ====
section
/-!
DEFINITION. Machine/Update.lean: field update and the 0x0Cxx commands, but for forwarding through an array (R787-R797, R802).
-/

namespace Sys2Proof.Machine

open Sys2Proof

/-- The slot that is not ACTIVE (R789). -/
def State.otherSlot (s : State) : Nat := 1 - s.get R.SC_UPDATE_ACTIVE

/-- Chunks of an image (R793). -/
def chunkCount (len : Nat) : Nat := (65535 + len) / 65536

/-- Bytes of chunk `i` of the download. -/
def State.chunkLen (s : State) (i : Nat) : Nat := min 65536 (s.sec.imageLen - 65536 * i)

def State.setComplete (s : State) (slot : Nat) (b : Bool) : State :=
  { s with sec := { s.sec with slotComplete := s.sec.slotComplete.set slot b } }

def upMailboxes : List Nat := [0, 1, 2, 3, 15]

/-- R802: UP_BEGIN and UP_CONFIRM need slot 2 or an operator in OWNED; a forwarded image carries none (R797). -/
def upCreds (s : State) (mb : Nat) (_r : Request) : List Nat := if s.life = 2 ∧ mb ≠ 15 then 2 :: s.operators 0x0C else []

/-- R792: the refusals in their order. -/
def upRefusals (s : State) : List Chk :=
  [((List.range 1024).find? (fun q => decide (2 ≤ s.get (R.CQ_STATE_STATE q)) && decide (s.get (R.CQ_STATE_STATE q) ≤ 4))).map
     (fun q => (stRefusedArmed, q)),
   failIf (!s.has R.PW_STATUS_SUPPLY_OK_PIN || s.has R.PW_STATUS_VIN_LOW) stRefusedSupply 0,
   failIf (s.has R.GAF_LIFECYCLE_OWNER_LOCK && s.life != 3) stRefusedLocked 0]

/-- R794: in SAFE HOLD with CAUSE ALARM nothing is downloaded. -/
def alarmHold (s : State) : Chk := failIf (s.mode == mSafeHold && s.cause == 0x0E) stRefusedState 0

/-- R794, R830: the staging area is reserved: the last 16 MiB of stack memory, mapped writable at BAR2 offset 0, contents lost (log
entry 54). It takes window 0, and windows that overlap it go. -/
def State.stage (s : State) : State :=
  let lo := 0x10000000 * s.segments - 0x1000000
  let inside (a : Nat) : Bool := decide (lo ≤ a)
  let m := s.mem
  let m := { m with data := m.data.filter (fun e => !inside e.1), upsets := m.upsets.filter (fun e => !inside (64 * e.1)),
                    poisoned := m.poisoned.filter (fun e => !inside (64 * e.1)), plist := m.plist.filter (fun e => !inside (64 * e.line)) }
  let s := iterate 8 (fun w t => if w = 0 ∨ t.get (R.HP_WIN_OFFSET_OFFSET_MIB w) < 16 then t.unmapWindow w else t) { s with mem := m, sec := { s.sec with staged := true } }
  let s := ((s.put (R.HP_WIN_LOCAL_BASE_MIB 0) (lo / 2 ^ 20)).put (R.HP_WIN_LOCAL_EN 0) 1).put (R.HP_WIN_LOCAL_READ_ONLY 0) 0
  (s.put (R.HP_WIN_SIZE_SIZE_MIB 0) 16).put (R.HP_WIN_OFFSET_OFFSET_MIB 0) 0

/-- R791: a download begins: DOWNLOADING, OTHER not complete, no chunk written. -/
def State.beginDownload (s : State) (len : Nat) (sha : BitVec 256) : State :=
  let s := { s with sec := { s.sec with imageLen := len, imageSha := sha, chunks := 0 } }
  writeRecord (((s.setComplete s.otherSlot false).setUpdate 1).showUpdate)

/-- May UP_BEGIN keep the bitmap (R802)? -/
def resumes (s : State) (flags len : Nat) (sha : BitVec 256) : Bool :=
  bit flags 0 && (s.get R.SC_UPDATE_STATE == 1 || s.get R.SC_UPDATE_STATE == 2) && len == s.sec.imageLen && decide (sha = s.sec.imageSha)

/-- UP_BEGIN (0x0C00). -/
def cmdUpBegin : Cmd where
  code := 0x0C00
  lenOk := lenIs 40
  lenReq := 40
  creds := upCreds
  checks := fun s mb r =>
    let p := r.payload
    [alarmHold s, failIf (decide (3 ≤ s.get R.SC_UPDATE_STATE)) stRefusedState 0, recordRefused s, onlyMailboxes mb upMailboxes,
     param 0 (decide (1 ≤ le p 0 4) && decide (le p 0 4 ≤ 0x800000)), param 4 (decide (le p 4 1 < 4)), reserved0 p 5 3] ++ upRefusals s
  act := fun s _ r =>
    let p := r.payload
    let sha := BitVec.ofNat 256 (le p 8 32)
    let s := if s.mode = mSafeHold ∧ bit (le p 4 1) 1 then s.stage else s
    let s := if resumes s (le p 4 1) (le p 0 4) sha then s else s.beginDownload (le p 0 4) sha
    replyOk s (toLE 2 (chunkCount (le p 0 4)) ++ toLE 2 (s.get R.SC_UPDATE_DONE) ++ toLE 16 s.sec.chunks)

def execUpBegin (mb : Fin 16) (req : Request) (s : State) : Host.Outcome State Fault Refusal := credRow cmdUpBegin mb req s

/-- R794: does the source of a chunk lie where it may? -/
def State.sourceOk (s : State) (mb a n : Nat) : Bool :=
  if s.mode = mSafeHold then s.inStaging a n
  else s.mem.allocs.any (fun al => al.mb == mb && al.extents.any (fun (m, k) =>
    decide (0x100000 * m ≤ a) && decide (a + n ≤ 0x100000 * (m + k))))

/-- UP_CHUNK (0x0C01). -/
def cmdUpChunk : Cmd where
  code := 0x0C01
  long := true
  lenOk := lenIs 44
  lenReq := 44
  checks := fun s mb r =>
    let p := r.payload
    let st := s.get R.SC_UPDATE_STATE
    [alarmHold s, failIf (st != 1 && st != 2) stRefusedState 0, recordRefused s, onlyMailboxes mb upMailboxes,
     param 0 (decide (le p 0 2 < chunkCount s.sec.imageLen)), reserved0 p 2 2,
     param 4 (le p 4 8 % 4096 == 0 && (mb == 15 || s.sourceOk mb (le p 4 8) (s.chunkLen (le p 0 2))))] ++ upRefusals s
  act := fun s mb r =>
    let p := r.payload
    let a := accept s mb r [] [le p 0 2, le p 4 8]
    { a with op := a.op.map (fun o => { o with data := slice p 12 32 }) }

def execUpChunk (mb : Fin 16) (req : Request) (s : State) : Host.Outcome State Fault Refusal := commandRow cmdUpChunk mb req s

/-- R793, steps 2 to 4: chunk `i` goes into OTHER; status and DETAIL. A failed read-back leaves its bit at 0 and is a flash error
(R799). -/
def State.writeChunk (s : State) (i : Nat) (b : List Byte) (readBack : Bool) : State × Nat × Nat :=
  match (if i = 0 then headerBad s (b.take 256) else none) with
  | some o => (s, stBadParam, o)
  | none =>
    let slot := s.otherSlot
    let a := imageAddress slot + 65536 * i
    let sec := { s.sec with delivered := s.sec.delivered.set slot false,
                            flash := cellsSet 0xFF (eraseFlash s.sec.flash a 65536) a (if readBack then b else []) }
    if !readBack then
      let s : State := { s with sec := { sec with chunks := clearBit sec.chunks i } }
      let s := if s.get R.SC_UPDATE_STATE = 2 then (s.setComplete slot false).setUpdate 1 else s
      (writeRecord s.showUpdate |>.raise 282, stIntegrity, 0)
    else
      let s := ({ s with sec := { sec with chunks := setBit sec.chunks i } } : State).showUpdate
      let all := s.get R.SC_UPDATE_DONE == s.get R.SC_UPDATE_CHUNKS
      let s := if all && s.get R.SC_UPDATE_STATE == 1 then (s.setComplete slot true).setUpdate 2 else s
      (writeRecord s, stOk, 0)

/-- UP_CHUNK_COMPLETE (R793). `readBack`: the sector read back as programmed. -/
def execUpChunkComplete (readBack : Bool) (s : State) : Host.Outcome State Fault Refusal :=
  match s.gaf.ops.find? (fun o => o.command == 0x0C01) with
  | none => .next s
  | some o =>
    let st := s.get R.SC_UPDATE_STATE
    if st ≠ 1 ∧ st ≠ 2 then .next (s.endOp o stRefusedState 0)
    else
      let i := o.args.getD 0 0
      let s_code_b := stackRead s 0xF0 (o.args.getD 1 0) (s.chunkLen i)
      let s := s_code_b.1
      let code := s_code_b.2.1
      let b := s_code_b.2.2
      if code ≠ rOk ∨ sha256 b ≠ BitVec.ofNat 256 (le o.data 0 32) then .next (s.endOp o stIntegrity 0)
      else
        let s_status_detail := s.writeChunk i b readBack
        let s := s_status_detail.1
        let status := s_status_detail.2.1
        let detail := s_status_detail.2.2
        .next (s.endOp o status detail)

/-- UP_STATUS (0x0C02). -/
def cmdUpStatus : Cmd where
  code := 0x0C02
  lenOk := lenIs 0
  lenReq := 0
  checks := fun _ mb _ => [onlyMailboxes mb upMailboxes]
  act := fun s _ _ => replyOk s (toLE 4 (s.reg R.SC_UPDATE) ++ toLE 16 s.sec.chunks ++ toLE 4 s.sec.imageLen)

def execUpStatus (mb : Fin 16) (req : Request) (s : State) : Host.Outcome State Fault Refusal := commandRow cmdUpStatus mb req s

/-- UP_ACTIVATE (0x0C03). -/
def cmdUpActivate : Cmd where
  code := 0x0C03
  lenOk := lenIs 0
  lenReq := 0
  checks := fun s mb _ =>
    [failIf (s.get R.SC_UPDATE_STATE != 2) stRefusedState 0, recordRefused s, onlyMailboxes mb upMailboxes] ++ upRefusals s
  act := fun s _ _ =>
    if sha256 (s.flashBytes (imageAddress s.otherSlot) s.sec.imageLen) = s.sec.imageSha then
      replyOk (writeRecord ((s.setUpdate 3).put R.SC_UPDATE_TRIAL_LEFT 3)) []
    else
      let s := { s with sec := { s.sec with chunks := 0 } }
      { next := writeRecord (((s.setComplete s.otherSlot false).setUpdate 1).showUpdate), status := stIntegrity }

def execUpActivate (mb : Fin 16) (req : Request) (s : State) : Host.Outcome State Fault Refusal := commandRow cmdUpActivate mb req s

/-- The download is over: nothing of it is kept. -/
def State.dropDownload (s : State) : State := ({ s with sec := { s.sec with imageLen := 0, imageSha := 0, chunks := 0 } } : State).showUpdate

/-- UP_CONFIRM (0x0C04, R796): the record, then the fuses. -/
def cmdUpConfirm : Cmd where
  code := 0x0C04
  lenOk := lenIs 0
  lenReq := 0
  creds := upCreds
  checks := fun s mb _ =>
    [failIf (s.get R.SC_UPDATE_STATE != 4 || s.sec.running != s.otherSlot) stRefusedState 0, recordRefused s,
     onlyMailboxes mb upMailboxes, failIf (!fusesAllowed s) stRefusedSupply 0]
  act := fun s _ _ =>
    let slot := s.otherSlot
    let svn := s.sec.slotSvn.getD slot 0
    let s := writeRecord (((s.dropDownload.put R.SC_UPDATE_ACTIVE slot).put R.SC_UPDATE_REVERTED 0).setUpdate 0)
    replyOk (if s.get R.ID_SECURITY_VERSION_SVN < svn then s.put R.ID_SECURITY_VERSION_SVN svn else s) []

def execUpConfirm (mb : Fin 16) (req : Request) (s : State) : Host.Outcome State Fault Refusal := credRow cmdUpConfirm mb req s

/-- UP_ABORT (0x0C05). In IDLE it changes nothing. -/
def cmdUpAbort : Cmd where
  code := 0x0C05
  lenOk := lenIs 0
  lenReq := 0
  checks := fun s mb _ => [recordRefused s, onlyMailboxes mb upMailboxes]
  act := fun s _ _ =>
    let st := s.get R.SC_UPDATE_STATE
    if st = 0 then replyOk s []
    else if st = 4 then replyOk (writeRecord (s.put R.SC_UPDATE_TRIAL_LEFT 0)) []
    else replyOk (writeRecord ((s.dropDownload.setComplete s.otherSlot false).setUpdate 0)) []

def execUpAbort (mb : Fin 16) (req : Request) (s : State) : Host.Outcome State Fault Refusal := commandRow cmdUpAbort mb req s

end Sys2Proof.Machine
end

