-- ==== Sys2Proof/Machine/Arrays.lean ====
section
/-!
DEFINITION. Machine/Arrays.lean: seam links, the 0x0Fxx commands, common starts, forwarded images and requests passed to peers
(R639-R671, R797, R802).
-/

namespace Sys2Proof.Machine

open Sys2Proof

/-! ### Seam links (R649-R652) -/

/-- Consecutive failures. -/
def State.seamFails (s : State) (k : Nat) : Nat := tblGet (fun _ => 0) s.arr.fails k
def State.setSeamFails (s : State) (k n : Nat) : State := { s with arr := { s.arr with fails := tblSet (fun _ => 0) s.arr.fails k n } }

/-- R650: an acknowledgement is sent; the frames that it acknowledges wait for none any more. -/
def State.acknowledge (s : State) (p : Nat) : State :=
  ({ s with arr := { s.arr with unacked := tblDel p s.arr.unacked } } : State).sendFrames p 1

/-- R650: a frame has been delivered: the sixteenth since the last acknowledgement brings one. -/
def State.countFrame (s : State) (p : Nat) : State :=
  let n := tblGet (fun _ => 0) s.arr.unacked p + 1
  if 16 ≤ n then s.acknowledge p else { s with arr := { s.arr with unacked := tblPut p n s.arr.unacked } }

/-- SEAM_FRAME_RECEIVED (R650): a frame is verified, or rejected with a negative acknowledgement. What a verified frame delivers is a
row of its own. `ack`: it is an acknowledgement, with its round trip in pips. -/
def execSeamFrameReceived (port : Fin 4) (cls : Fin 4) (cntOk tagOk : Bool) (ack : Option (BitVec 16)) (s : State) :
    Host.Outcome State Fault Refusal :=
  let p := port.val
  let k := 4 * p + cls.val
  if !s.seamLive p then .next s
  else
    let s := if cntOk then s.inc64 (R.NC_SEAM_RXCNT_LO p) (R.NC_SEAM_RXCNT_HI p) 1 else s
    if cntOk && tagOk then
      let s := s.setSeamFails k 0
      match ack with
      | some rtt => .next ((s.setSeamFails (16 + k) 0).put (R.NC_SEAM_EPOCH_RTT p) rtt.toNat)
      | none => .next (s.countFrame p)
    else
      let s := ((s.bump (R.NC_SEAM_ERR_TAG_FAILS p)).put (R.NC_SEAM_STATUS_RETRY_SEEN p) 1).sendFrames p 1
      let n := s.seamFails k + 1
      let s := s.setSeamFails k n
      .next (if 16 ≤ n then s.failSeam p 4 else s)

/-- SEAM_NACK_RECEIVED (R650): a frame and those after it are sent again, each under a fresh counter; `again`: the same frame as by the
last negative acknowledgement of its class. -/
def execSeamNackReceived (port : Fin 4) (cls : Fin 4) (frames : Fin 64) (again : Bool) (s : State) : Host.Outcome State Fault Refusal :=
  let p := port.val
  let k := 16 + 4 * p + cls.val
  if !s.seamLive p then .next s
  else
    let n := if again then s.seamFails k + 1 else 1
    let s := ((s.bumpBy (R.NC_SEAM_ERR_RETRIES p) (frames.val + 1)).resend p cls.val (frames.val + 1)).setSeamFails k n
    .next (if 16 ≤ n then s.failSeam p 4 else s)

/-- SEAM_ACK_TIMER (R650): 1 µs has passed, and an acknowledgement is sent. -/
def execSeamAckTimer (port : Fin 4) (s : State) : Host.Outcome State Fault Refusal :=
  if s.seamLive port.val then .next (s.acknowledge port.val) else .next s

/-- The threshold of R651. -/
def rekeyAt : Nat := 0xFFFFFFFFFFFF0000

/-- R651: a rekey begins; the directions that rekey. -/
def State.beginRekey (s : State) (p : Nat) (tx rx : Bool) : State :=
  let a := s.arr
  let a := { a with keySent := if tx then a.keySent.filter (· != p) else p :: a.keySent,
                    keyGot := if rx then a.keyGot.filter (· != p) else p :: a.keyGot }
  (({ s with arr := a } : State).drawNonces (8 + p)).setSeam p smRekeying

/-- SEAM_COUNTER_REKEY (R651). -/
def execSeamCounterRekey (port : Fin 4) (s : State) : Host.Outcome State Fault Refusal :=
  let p := port.val
  let tx := decide (rekeyAt ≤ s.seamCount (R.NC_SEAM_TXCNT_LO p) (R.NC_SEAM_TXCNT_HI p))
  let rx := decide (rekeyAt ≤ s.seamCount (R.NC_SEAM_RXCNT_LO p) (R.NC_SEAM_RXCNT_HI p))
  if s.seam p = smUp ∧ (tx ∨ rx) then .next (s.beginRekey p tx rx) else .next s

/-- AR_LINK_REKEY ends when none of its ports is left in REKEYING: OK when all rekeyed. -/
def State.rekeysDone (s : State) : State :=
  forEach (s.gaf.ops.filter (fun o => o.command == 0x0F03)) (fun o t =>
    let ports := bitsOf 4 (o.args.getD 0 0)
    if ports.any (fun p => t.seam p == smRekeying) then t
    else t.endOp o (if ports.all (fun p => t.seam p == smUp) then stOk else stTimeout) 0) s

/-- SEAM_KEY_SWITCH (R651): this device's KEY_SWITCH is sent, or the peer's is received; the direction goes on from counter 0. -/
def execSeamKeySwitch (port : Fin 4) (sent : Bool) (s : State) : Host.Outcome State Fault Refusal :=
  let p := port.val
  let s := if s.seam p = smUp ∧ !sent then s.beginRekey p true true else s
  if s.seam p ≠ smRekeying then .next s
  else
    let a := s.arr
    let epoch := s.get (R.NC_SEAM_EPOCH_EPOCH p) + 1
    let s := if sent then
        ((({ s with arr := { a with keySent := p :: a.keySent } } : State).sendFrame p 2 3 none (Config.arrayMessage 2 0)).rekeySeam p true epoch)
      else ({ s with arr := { a with keyGot := p :: a.keyGot } } : State).rekeySeam p false epoch
    if s.arr.keySent.contains p && s.arr.keyGot.contains p then
      let s := ((s.wrapInc (R.NC_SEAM_EPOCH_EPOCH p)).put (R.NC_SEAM_STATUS_REKEY_SEEN p) 1).setSeam p smUp
      .next s.rekeysDone
    else .next s

/-- R652: do all the lanes of a port have LOCK? -/
def State.portLocked (s : State) (p : Nat) : Bool := (quadLanes (24 + p)).all (fun n => s.has (R.LN_STATUS_LOCK n))

/-- SEAM_TRAINING_DONE (R652): every lane has LOCK and every group is deskewed; `same`: the peer's mode and rate agree. -/
def execSeamTrainingDone (port : Fin 4) (same : Bool) (s : State) : Host.Outcome State Fault Refusal :=
  let p := port.val
  if s.seam p ≠ smTraining then .next s
  else if !same then .next (s.failSeam p 2)
  else if !s.portLocked p then .next s
  else .next ((s.put (R.NC_SEAM_STATUS_LANES p) 0x3F).setSeam p smKeying)

/-- SEAM_TRAINING_TIMEOUT (R652). -/
def execSeamTrainingTimeout (port : Fin 4) (s : State) : Host.Outcome State Fault Refusal :=
  if s.seam port.val = smTraining then .next (s.failSeam port.val 1) else .next s

/-- SEAM_KEYING_DONE (R649, R652): the gaffers have exchanged nonces; `derived`: the peer has the same owner's keys. -/
def execSeamKeyingDone (port : Fin 4) (derived : Bool) (peer : Fin 8) (s : State) : Host.Outcome State Fault Refusal :=
  let p := port.val
  if s.seam p ≠ smKeying then .next s
  else if !(derived && s.life == 2 && s.keysPresent) then .next (s.failSeam p 3)
  else if seamNeighbour s.devId p ≠ some peer.val then .next (s.failSeam p 5)
  else
    let s := (((s.drawNonces (12 + p)).drawNonces (8 + p)).rekeySeam p true 0).rekeySeam p false 0
    let s := (((s.put (R.NC_SEAM_EPOCH_EPOCH p) 0).put (R.NC_SEAM_STATUS_PEER_ID p) peer.val).put
      (R.NC_SEAM_STATUS_PEER_VALID p) 1)
    .next (s.setSeam p smUp)

/-- SEAM_LANE_LOCK_TIMEOUT (R652): a lane of the port has been without LOCK for 1 ms. -/
def execSeamLaneLockTimeout (port : Fin 4) (lane : Fin 6) (s : State) : Host.Outcome State Fault Refusal :=
  let p := port.val
  if s.seamLive p ∧ !s.has (R.LN_STATUS_LOCK (96 + 6 * p + lane.val)) then
    let s := s.put (R.NC_SEAM_STATUS_LANES p) (clearBit (s.get (R.NC_SEAM_STATUS_LANES p)) lane.val)
    .next (s.setSeam p smDown).rekeysDone
  else .next s

/-- R652: ports whose settings have changed at a boundary: a link that was UP goes DOWN. `old`: the device before. -/
def State.seamsApply (s old : State) : State :=
  iterate 4 (fun p t =>
    if old.reg (R.NC_SEAM_CTRL p) != t.reg (R.NC_SEAM_CTRL p) && t.seamLive p then (t.setSeam p smDown).rekeysDone else t) s

/-! ### Commands (R671) -/

/-- R80: an array operation that has the seam ports in hand. -/
def arrayBusy (s : State) : Chk :=
  (s.gaf.ops.find? (fun o => o.command == 0x0F00 || o.command == 0x0F03)).map (fun o => (stBusy, o.mb))

/-- AR_DISCOVER (0x0F00). -/
def cmdArDiscover : Cmd where
  code := 0x0F00
  long := true
  lenOk := lenIs 0
  lenReq := 0
  checks := fun s mb _ => [onlyRunning s, onlyMailboxes mb deviceMailboxes, arrayBusy s]
  act := fun s mb r =>
    let s := iterate 4 (fun p t =>
      if t.get (R.NC_SEAM_CTRL_MODE p) ≠ 0 ∧ (t.seam p = smDown ∨ t.seam p = smFailed) then
        let t := ((t.put (R.NC_SEAM_STATUS_LANES p) 0).put (R.NC_SEAM_STATUS_FAIL_CAUSE p) 0).put (R.NC_SEAM_STATUS_PEER_VALID p) 0
        t.setSeam p smTraining
      else t) s
    accept s mb r [] []

def execArDiscover (mb : Fin 16) (req : Request) (s : State) : Host.Outcome State Fault Refusal := commandRow cmdArDiscover mb req s

/-- AR_DISCOVER_COMPLETE: training is over on every port, and the devices that answered are known. -/
def execArDiscoverComplete (answered : Byte) (s : State) : Host.Outcome State Fault Refusal :=
  if (List.range 4).any (fun p => s.seam p == smTraining || s.seam p == smKeying) then .next s
  else if s.gaf.ops.any (fun o => o.command == 0x0F00) then
    let up := (List.range 4).any (fun p => s.seamLive p)
    let own := 2 ^ s.devId
    let m := if up then setBit answered.toNat s.devId else own
    let failed := maskOf ((List.range 4).filter (fun p => s.seam p == smFailed))
    .next ((s.put R.NC_ARRAY_MEMBERS m).endOps 0x0F00 stOk (m + 256 * failed))
  else .next s

/-- AR_STATUS (0x0F01). -/
def cmdArStatus : Cmd where
  code := 0x0F01
  lenOk := lenIs 0
  lenReq := 0
  checks := fun _ _ _ => []
  act := fun s _ _ =>
    replyOk s (toLE 4 (s.reg R.NC_ARRAY)
      ++ (List.range 4).flatMap (fun p => toLE 4 (s.reg (R.NC_SEAM_CTRL p)) ++ toLE 4 (s.reg (R.NC_SEAM_STATUS p)) ++ toLE 4 (s.reg (R.NC_SEAM_ERR p)))
      ++ toLE 6 s.arr.lastLoad ++ zeros 6)

def execArStatus (mb : Fin 16) (req : Request) (s : State) : Host.Outcome State Fault Refusal := commandRow cmdArStatus mb req s

/-- MODE of the ports in a payload. -/
def portModes (p : List Byte) : List Nat := (List.range 4).map (fun i => le p i 1)

/-- R643, R671: the mode of a port agrees with those of the ports before it: one PAIR only, PAIR not mixed with ARRAY. -/
def modesAgree (l : List Nat) (i : Nat) : Bool :=
  let m := l.getD i 0
  m == 0 || !(l.take i).any (fun x => x != 0 && (m == 1 || x == 1))

/-- R606, R644: log2 of the divider by which a port's PLL serves a rate in Mbit/s: its base rate is the lowest from 8.0 Gbit/s on. -/
def portDivider (rate : Nat) : Nat := if 8000 ≤ rate then 0 else if 4000 ≤ rate then 1 else if 2000 ≤ rate then 2 else 3

/-- The settings that AR_SET_MODE makes of a port: its lanes run while MODE is not OFF (R644). -/
def portEdits (s : State) (p mode clk rate : Nat) : List Edit :=
  let q := 24 + p
  let d := portDivider rate
  [tl (R.NC_SEAM_CTRL_MODE p) mode, tl (R.NC_SEAM_CTRL_CLK_MODE p) clk, tl (R.NC_SEAM_CTRL_RATE p) rate]
    ++ (if mode = 0 then [] else [tl (R.LN_Q_RATE_BASE_KBPS q) (1000 * rate * 2 ^ d), tl (R.LN_Q_CTRL_CLK_MODE q) clk])
    ++ (quadLanes q).flatMap (fun n =>
      (if mode = 0 then [] else [tl (R.LN_CTRL_DIV n) d])
        ++ (if (mode == 0) == (s.get (R.NC_SEAM_CTRL_MODE p) == 0) then [] else [tl (R.LN_CTRL_PSTATE n) (if mode = 0 then 3 else 0)]))

/-- AR_SET_MODE (0x0F02). -/
def cmdArSetMode : Cmd where
  code := 0x0F02
  lenOk := lenIs 16
  lenReq := 16
  checks := fun s mb r =>
    let p := r.payload
    let l := portModes p
    let force := bit (le p 4 1) 0
    let clk := bits (le p 4 1) 1 1
    let changes (i : Nat) : Bool :=
      l.getD i 0 != s.get (R.NC_SEAM_CTRL_MODE i) || clk != s.get (R.NC_SEAM_CTRL_CLK_MODE i) || le p 6 2 != s.get (R.NC_SEAM_CTRL_RATE i)
    [onlyRunning s, onlyMailboxes mb deviceMailboxes]
    ++ (List.range 4).map (fun i => param i (decide (l.getD i 0 ≤ 2) && modesAgree l i
        && (l.getD i 0 == 0 || (seamNeighbour s.devId i).isSome)))
    ++ [param 4 (decide (le p 4 1 ≤ 3)), param 6 (decide (1000 ≤ le p 6 2) && decide (le p 6 2 ≤ 16000)), reserved0 p 8 8,
        ((List.range 4).find? (fun i => !force && s.seamLive i && changes i)).map (fun i => (stRefusedArmed, i))]
    ++ (List.range 4).flatMap (fun i => [failIf (l.getD i 0 != 0 && s.unitMapped (336 + i)) stNoResource i, arrayBusy s])
  act := fun s _ r =>
    let p := r.payload
    let l := portModes p
    let es := (List.range 4).flatMap (fun i => portEdits s i (l.getD i 0) (bits (le p 4 1) 1 1) (le p 6 2))
    let turn := s.effectTurn
    let s := iterate 4 (fun i t => if l.getD i 0 = 0 then t else t.abandonSlice (336 + i)) s
    replyOk (s.latch (es ++ [tl R.NC_ARRAY_TRIG_EXPORT (le p 5 1)])) (toLE 6 turn ++ zeros 2)

def execArSetMode (mb : Fin 16) (req : Request) (s : State) : Host.Outcome State Fault Refusal := commandRow cmdArSetMode mb req s

/-- AR_LINK_REKEY (0x0F03). -/
def cmdArLinkRekey : Cmd where
  code := 0x0F03
  long := true
  lenOk := lenIs 4
  lenReq := 4
  checks := fun s mb r =>
    let p := r.payload
    [onlyRunning s, onlyMailboxes mb deviceMailboxes, param 0 (decide (le p 0 1 < 16)), reserved0 p 1 3,
     ((bitsOf 4 (le p 0 1)).find? (fun i => s.seam i != smUp)).map (fun i => (stBadParam, i)), arrayBusy s]
  act := fun s mb r =>
    let m := le r.payload 0 1
    if m = 0 then { next := doneAtOnce s mb r stOk, status := stAccepted }
    else accept (forEach (bitsOf 4 m) (fun i t => t.beginRekey i true true) s) mb r [] [m]

def execArLinkRekey (mb : Fin 16) (req : Request) (s : State) : Host.Outcome State Fault Refusal := commandRow cmdArLinkRekey mb req s

/-- The coherent windows as the pending definitions will leave them: base and size in MiB. -/
def State.futureWindows (s : State) : List (Nat × Nat × Nat) :=
  (List.range 8).filterMap (fun w =>
    let now := if s.has (R.NC_COH_BASE_EN w) then some (s.get (R.NC_COH_BASE_BASE_MIB w), s.get (R.NC_COH_SIZE_SIZE_MIB w)) else none
    ((s.gaf.shadow ++ s.gaf.held).foldl (fun x e => match e with
      | .cohWindow v b n en => if v = w then (if en then some (b, n) else none) else x
      | _ => x) now).map (fun x => (w, x.1, x.2)))

/-- AR_COHERENT_WINDOW (0x0F04). On MB15 it is a member's definition: its base is a global address, whose device bits name the member
(log entry 57). -/
def cmdArCoherentWindow : Cmd where
  code := 0x0F04
  lenOk := lenIs 16
  lenReq := 16
  checks := fun s mb r =>
    let p := r.payload
    let w := le p 0 1
    let del := bit (le p 1 1) 0
    let base := le p 4 8
    let n := le p 12 4
    let others := (s.futureWindows.filter (fun x => x.1 != w)).foldl (fun t x => t + x.2.2) 0
    let mine := !del && mb != 15
    -- R885: the range is examined at check 6 only where the fields that name it are valid
    let named := decide (w < 8) && base % 2 ^ 20 == 0 && decide (1 ≤ n) && decide (n ≤ 64)
    [onlyRunning s, failIf (mine && named && !s.inOwnAlloc mb base (2 ^ 20 * n)) stNotOwner 0,
     failIf (mb != 15 && (s.futureWindows.any (fun x => x.1 == w)) && tblGet (fun _ => mb) s.arr.owners w != mb) stNotOwner 0,
     param 0 (decide (w < 8)), param 1 (decide (le p 1 1 ≤ 1)), reserved0 p 2 2, param 4 (del || base % 2 ^ 20 == 0),
     param 12 (del || (decide (1 ≤ n) && decide (n ≤ 64))), failIf (mine && decide (64 < others + n)) stNoResource 1]
  act := fun s mb r =>
    let p := r.payload
    let w := le p 0 1
    let del := bit (le p 1 1) 0
    let base := le p 4 8
    let k := if mb = 15 then 8 + 8 * (base / 2 ^ 40 % 8) + w else w
    let o := if del then tblDel w s.arr.owners else tblPut w mb s.arr.owners
    let s := if mb = 15 then s else { s with arr := { s.arr with owners := o } }
    let e := Edit.cohWindow k (base % 2 ^ 40 / 2 ^ 20) (le p 12 4) (!del)
    replyOk (s.latch [e]) []

def execArCoherentWindow (mb : Fin 16) (req : Request) (s : State) : Host.Outcome State Fault Refusal :=
  commandRow cmdArCoherentWindow mb req s

/-- R660: a coherent window is redefined or deleted at a boundary: caches drop the lines of the old one, its sharers are cleared.
Windows of members are held under 8 + 8 * device + window. -/
def State.setWindow (s : State) (k base size : Nat) (en : Bool) : State :=
  let dev := if k < 8 then s.devId else (k - 8) / 8
  let old := if k < 8 then (if s.has (R.NC_COH_BASE_EN k) then some (s.get (R.NC_COH_BASE_BASE_MIB k), s.get (R.NC_COH_SIZE_SIZE_MIB k)) else none)
    else tblFind (k - 8) s.arr.windows
  let inside (a : Nat) : Bool := match old with
    | some (b, n) => a / 2 ^ 40 == dev && decide (2 ^ 20 * b ≤ a % 2 ^ 40) && decide (a % 2 ^ 40 < 2 ^ 20 * (b + n))
    | none => false
  let units := (s.noc.caches.map (·.unit)).eraseDups
  let s := { s with noc := { s.noc with caches := s.noc.caches.filter (fun c => !inside (64 * c.line)),
                                        sharers := s.noc.sharers.filter (fun e => e.1 / 64 != k) } }
  let s := forEach units (fun u t => t.showCache u) s
  if k < 8 then
    let s := (s.put (R.NC_COH_BASE_BASE_MIB k) (if en then base else 0)).put (R.NC_COH_BASE_EN k) (b2n en)
    ((s.put (R.NC_COH_SIZE_SIZE_MIB k) (if en then size else 0)).setReg (R.NC_COH_SHARERS_LO k) 0).setReg (R.NC_COH_SHARERS_HI k) 0
  else
    { s with arr := { s.arr with windows := if en then tblPut (k - 8) (base, size) s.arr.windows else tblDel (k - 8) s.arr.windows } }

/-! ### Common start (R665) -/

/-- The other members. -/
def State.otherMembers (s : State) : Nat := clearBit (s.get R.NC_ARRAY_MEMBERS) s.devId

/-- R665: the initiator's message goes to every member at a pip from 256 to TL/2. -/
def State.sendStart (s : State) : State :=
  match s.arr.start with
  | some c =>
    if !c.sent && c.op.isSome && decide (256 ≤ s.tb.pip) && decide (s.tb.pip ≤ s.get R.TS_LAST_LEN_LEN / 2) then
      ({ s with arr := { s.arr with start := some { c with sent := true } } } : State).tellMembers 1 c.turn
    else s
  | none => s

/-- AR_COMMON_START (0x0F05). The message of a start accepted after pip TL/2 goes out in the next turn. -/
def cmdArCommonStart : Cmd where
  code := 0x0F05
  long := true
  lenOk := lenIs 8
  lenReq := 8
  checks := fun s mb r =>
    [onlyRunning s, failIf (s.get R.TS_CTRL_SOURCE != 1 || decide (s.get R.TS_LAST_LEN_LEN < 50000)) stRefusedState 0,
     onlyMailboxes mb deviceMailboxes, failIf (!s.holds mb (claimKey 6 0)) stNotOwner 0, reserved0 r.payload 6 2,
     (s.gaf.ops.find? (fun o => o.command == 0x0F05)).map (fun o => (stBusy, o.mb))]
  act := fun s mb r =>
    let c : CommonStart := { turn := le r.payload 0 6, op := some (mb, r.tag.toNat), waiting := s.otherMembers, sent := false }
    accept ({ s with arr := { s.arr with start := some c } } : State).sendStart mb r [] []

def execArCommonStart (mb : Fin 16) (req : Request) (s : State) : Host.Outcome State Fault Refusal := commandRow cmdArCommonStart mb req s

/-- COMMON_START_MESSAGE (R665): a start message of another member; it is confirmed, or refused without effect. -/
def execCommonStartMessage (turn : BitVec 48) (s : State) : Host.Outcome State Fault Refusal :=
  let held : Bool := match s.claimOf (claimKey 6 0) with
    | some c => !c.releasing && !(decide (10 ≤ c.mb) && decide (c.mb ≤ 14))
    | none => false
  if s.get R.TS_CTRL_SOURCE ≠ 1 ∨ held ∨ s.get R.TS_LAST_LEN_LEN ≤ s.tb.pip + 1024 ∨ !s.running ∨ s.arr.start.isSome then .next s
  else .next { s with arr := { s.arr with start := some { turn := turn.toNat, op := none, waiting := 0 } } }

/-- COMMON_START_CONFIRM (R665): a member's confirmation or refusal reaches the initiator; at a member that has confirmed, a refusal
withdraws the start. -/
def execCommonStartConfirm (dev : Fin 8) (ok : Bool) (s : State) : Host.Outcome State Fault Refusal :=
  match s.arr.start with
  | none => .next s
  | some c =>
    let drop : State := { s with arr := { s.arr with start := none } }
    if !c.sent then .next s
    else if !ok then .next (if c.op.isNone ∨ bit c.waiting dev.val then drop.endOpAt c.op stRefusedState dev.val else s)
    else .next { s with arr := { s.arr with start := some { c with waiting := clearBit c.waiting dev.val } } }

/-- The value that a common start loads at the boundary now taken, if it does (R665). -/
def State.commonLoad (s : State) : Option Nat := (s.arr.start.filter (fun c => c.sent && c.waiting == 0)).map (·.turn)

/-- The common start after a boundary: done, timed out, or still to be sent. -/
def State.commonStartAtTurn (s : State) : State :=
  match s.arr.start with
  | none => s
  | some c =>
    let t : State := { s with arr := { s.arr with start := none } }
    if !c.sent then s
    else if c.waiting = 0 then (({ t with arr := { t.arr with lastLoad := c.turn } } : State).put R.NC_ARRAY_ALIGNED 1).endOpAt c.op stOk 0
    else t.endOpAt c.op stTimeout ((bitsOf 8 c.waiting).headD 0)

/-! ### Trigger messages (R662) -/

/-- PEER_TRIGGER_MESSAGE: peer trigger input 56 + k rises for one pip. -/
def execPeerTriggerMessage (dev : Fin 8) (k : Fin 8) (s : State) : Host.Outcome State Fault Refusal :=
  if dev.val ≠ s.devId ∧ bit (s.get R.NC_ARRAY_MEMBERS) dev.val then .next (s.pulse (56 + k.val)) else .next s

/-! ### Forwarded images (R666, R667, R797, R802) -/

/-- UP_ARRAY_FORWARD (0x0C06). -/
def cmdUpArrayForward : Cmd where
  code := 0x0C06
  long := true
  lenOk := lenIs 4
  lenReq := 4
  checks := fun s mb r =>
    let p := r.payload
    [failIf (!bit (le p 0 1) 0 && s.get R.SC_UPDATE_STATE != 2) stRefusedState 0, onlyMailboxes mb upMailboxes,
     param 0 (decide (le p 0 1 ≤ 1)), reserved0 p 1 3] ++ upRefusals s
     ++ [(s.gaf.ops.find? (fun o => o.command == 0x0C06)).map (fun o => (stBusy, o.mb))]
  act := fun s mb r => accept s mb r [] []

def execUpArrayForward (mb : Fin 16) (req : Request) (s : State) : Host.Outcome State Fault Refusal := commandRow cmdUpArrayForward mb req s

/-- Why a member refuses a forwarded image. -/
def imageRefused (s : State) : Bool :=
  (firstFail ([alarmHold s, failIf (decide (3 ≤ s.get R.SC_UPDATE_STATE)) stRefusedState 0, recordRefused s] ++ upRefusals s)).isSome

/-- ARRAY_IMAGE_CHUNK (R797): chunk `i` of the origin's image, with its length and hash; chunk 0 acts as UP_BEGIN, every chunk as
UP_CHUNK. A refused chunk changes nothing. -/
def execArrayImageChunk (i : Fin 128) (len : BitVec 24) (sha : BitVec 256) (data : List Byte) (readBack : Bool) (s : State) :
    Host.Outcome State Fault Refusal :=
  let n := len.toNat
  if !s.running ∨ imageRefused s ∨ n = 0 ∨ 0x800000 < n then .next s
  else
    let s := if i.val = 0 then s.beginDownload n sha else s
    let st := s.get R.SC_UPDATE_STATE
    if (st ≠ 1 ∧ st ≠ 2) ∨ chunkCount s.sec.imageLen ≤ i.val ∨ data.length ≠ s.chunkLen i.val then .next s
    else .next (s.writeChunk i.val data readBack).1

/-- UP_ARRAY_FORWARD_COMPLETE (R667): the last member has acknowledged, or one has refused with a status. -/
def execUpArrayForwardComplete (refused : Option (Fin 8 × BitVec 16)) (s : State) : Host.Outcome State Fault Refusal :=
  match refused with
  | none => .next (s.endOps 0x0C06 stOk s.otherMembers)
  | some (d, st) => .next (s.endOps 0x0C06 st.toNat d.val)

/-! ### Requests forwarded to peers (R658) -/

/-- The request that a mailbox has forwarded is over. -/
def State.dropForward (s : State) (mb : Nat) : State :=
  { s with gaf := { s.gaf with forwards := s.gaf.forwards.filter (fun f => f.mb != mb) } }

/-- PEER_RESPONSE_ARRIVAL: the peer's response is written; a late one is discarded. -/
def execPeerResponseArrival (mb : Fin 16) (resp : Response) (s : State) : Host.Outcome State Fault Refusal :=
  let n := mb.val
  match s.gaf.forwards.find? (fun f => f.mb == n) with
  | none => .next s
  | some f =>
    let b := responseBytes true resp.command.toNat resp.tag.toNat resp.status.toNat resp.detail.toNat resp.turn.toNat resp.pip.toNat
      resp.payload
    let s := (s.dropForward n).respond n true f.command f.tag resp.status.toNat resp.detail.toNat []
    let s := { s with mbuf := cellsSet 0 s.mbuf (rspBuf n) b }
    if resp.status = 1 then .next { s with gaf := { s.gaf with peerOps := s.gaf.peerOps ++ [{ mb := n, tag := f.tag, command := f.command }] } } else .next s

/-- PEER_COMPLETION_NOTICE. -/
def execPeerCompletionNotice (mb : Fin 16) (tag status : BitVec 16) (s : State) : Host.Outcome State Fault Refusal :=
  match s.gaf.peerOps.find? (fun o => o.mb == mb.val && o.tag == tag.toNat) with
  | some o => .next (s.endPeerOp o status.toNat)
  | none => .next s

/-- FORWARD_TIMEOUT. -/
def execForwardTimeout (mb : Fin 16) (s : State) : Host.Outcome State Fault Refusal :=
  match s.gaf.forwards.find? (fun f => f.mb == mb.val) with
  | none => .next s
  | some f => .next ((s.dropForward mb.val).respond mb.val false f.command f.tag stTimeout 0xFFFE [])

end Sys2Proof.Machine
end

