-- ==== Sys2Proof/Machine/Release.lean ====
section
/-!
DEFINITION. Machine/Release.lean: the release of claims (R104-R107, R165), the reset of a mailbox's source (R96, R112,
R113), and the writes of the mailbox registers (R59, R63-R65).
-/

namespace Sys2Proof.Machine

open Sys2Proof

/-! ### Releasing claims -/

/-- R105: is a resource in use? -/
def State.inUse (s : State) (key : Nat) : Bool :=
  let i := key % 65536
  let cls := key / 65536
  if cls = 2 then decide (qArmed ≤ s.queueState i) && decide (s.queueState i ≤ qPost)
  else if cls = 3 then s.engineState i == 2
  else if cls = 4 then s.regionPlaced i
  else if cls = 5 then s.has R.TG_STATUS_ARMED
  else false

/-- The placements that cover a region. -/
def State.placementsOver (s : State) (r : Nat) : List Nat :=
  (s.fab.placements.filter (fun e => e.2.regions.contains r)).map Prod.fst

/-- R106: the stop of a resource that is in use is scheduled, and the turn at which it becomes free (R107). An engine is
free once it has stopped (`State.freeStopped`). -/
def State.scheduleStop (s : State) (key : Nat) : State :=
  let i := key % 65536
  let cls := key / 65536
  if cls = 2 then s.latch [.queueStop i 7 true, .claimFree key]
  else if cls = 3 then s.askStop i 9 s.effectTurn
  else
    let stops : List Edit := if cls = 4 then (s.placementsOver i).map Edit.unplace else [.trigDisarm]
    s.latch (stops ++ [.claimFree key])

/-- R316: a replay engine that is released while it does not run becomes IDLE. A start that is pending finds it so (R317). -/
def State.idleEngine (s : State) (key : Nat) : State := if key / 65536 = 3 then s.unbindEngine (key % 65536) else s

/-- R105, R165: a resource that is not in use is free at once. -/
def State.releaseKey (s : State) (key : Nat) : State := ((s.clearSchedFor key).idleEngine key).dropClaim key

/-- R106, R107: a forced release. -/
def State.forceRelease (s : State) (mb key : Nat) : State :=
  if s.inUse key then ((s.clearSchedFor key).setClaim key { mb := mb, releasing := true }).scheduleStop key
  else s.releaseKey key

/-- R107: at a turn boundary an engine of a forced release that has stopped becomes free. -/
def State.freeStopped (s : State) : State :=
  forEach (s.gaf.claims.filter (fun e => e.1 / 65536 == 3 && e.2.releasing && s.engineState (e.1 % 65536) != 2))
    (fun e t => (t.idleEngine e.1).dropClaim e.1) s

/-- The entries of a claim payload that R885 lets reach check 6. -/
def validEntries (p : List Byte) : List (Nat × ClaimEntry) :=
  (numbered (claimEntries p)).filter (fun (_, e) =>
    decide (0 < e.count) && decide (e.first + e.count ≤ classSize e.cls))

/-- SYS_RELEASE (R104-R106). A test lane that the variant lacks is answered at check 9 (R885). -/
def cmdSysRelease : Cmd where
  code := 0x0103
  lenOk := claimLen
  lenReq := 0xFFFF
  checks := fun s mb r =>
    let p := r.payload
    let all := (validEntries p).flatMap (fun (i, e) => (entryKeys e).map (fun k => (i, k)))
    let keys := all.filter (fun k => !s.laneAbsent k.2)
    owned s mb keys
      :: (claimParams 1 r
        ++ [(if bit (le p 2 1) 0 then none
             else (keys.find? (fun k => s.inUse k.2)).map (fun k => (stRefusedArmed, k.1))),
            all.findSome? (fun k => if s.laneAbsent k.2 then some (stNoResource, k.1) else notInOperation s [k])])
  act := fun s mb r =>
    let keys := (claimEntries r.payload).flatMap entryKeys
    replyOk (forEach keys (fun k t => t.forceRelease mb k) s) []

def execSysRelease (mb : Fin 16) (req : Request) (s : State) : Host.Outcome State Fault Refusal :=
  commandRow cmdSysRelease mb req s

/-! ### The reset of a source -/

/-- R96: one mailbox of a source that is reset: IDLE, no notices, its claims released, its operations' notices dropped. -/
def State.resetMailbox (s : State) (mb : Nat) : State :=
  let s := (s.put (R.MB_STATUS_STATE mb) 0).setNotices mb []
  let g := s.gaf
  let s := { s with gaf := { g with
    ops := g.ops.map (fun o => if o.mb = mb then { o with quiet := true } else o),
    forwards := g.forwards.filter (fun f => f.mb != mb),
    peerOps := g.peerOps.map (fun o => if o.mb = mb then { o with quiet := true } else o),
    resetAfterAck := g.resetAfterAck.filter (· != mb) } }
  forEach ((g.claims.filter (fun e => e.2.mb == mb && !e.2.releasing)).map Prod.fst) (fun k t => t.forceRelease mb k) s

/-- The mailboxes of a source (R57, R96, R659). -/
def sourceMailboxes : MailboxSource → List Nat
  | .host => [0, 1, 2, 3]
  | .debug => [9]
  | .peer p => [10 + p.val]
  | .everyPeer => [10, 11, 12, 13, 14, 15]

/-- R96: a mailbox source is reset. -/
def State.resetSource (s : State) (src : MailboxSource) : State :=
  forEach (sourceMailboxes src) (fun n t => t.resetMailbox n) s

/-- MAILBOX_SOURCE_RESET (R96). -/
def execMailboxSourceReset (src : MailboxSource) (s : State) : Host.Outcome State Fault Refusal :=
  .next (s.resetSource src)

/-- R57: the row of the source table that a mailbox stands in. -/
def mailboxRow (mb : Nat) : Nat := if mb < 4 then 0 else if mb < 8 then 1 else if mb = 8 then 2 else if mb = 9 then 3 else 4

/-- SYS_RESET_MAILBOX (R112, R113). -/
def cmdSysResetMailbox : Cmd where
  code := 0x0106
  lenOk := lenIs 4
  lenReq := 4
  checks := fun _ mb r =>
    let t := le r.payload 0 1
    [param 0 (decide (t < 16) && mailboxRow t == mailboxRow mb), reserved0 r.payload 1 3]
  act := fun s mb r =>
    let t := le r.payload 0 1
    replyOk (if t = mb then { s with gaf := { s.gaf with resetAfterAck := mb :: s.gaf.resetAfterAck } }
             else s.resetMailbox t) []

def execSysResetMailbox (mb : Fin 16) (req : Request) (s : State) : Host.Outcome State Fault Refusal :=
  commandRow cmdSysResetMailbox mb req s

/-! ### The mailbox registers -/

/-- CANCEL (R63, R64): a PENDING request is withdrawn. -/
def cancel (s : State) (mb : Nat) : State :=
  if s.get (R.MB_STATUS_STATE mb) = 1 then s.put (R.MB_STATUS_STATE mb) 0 else s

/-- ACK (R63, R64, R113): DONE becomes IDLE; a mailbox that asked for its own reset is reset. -/
def acknowledge (s : State) (mb : Nat) : State :=
  if s.get (R.MB_STATUS_STATE mb) = 3 then
    let s := s.put (R.MB_STATUS_STATE mb) 0
    if s.gaf.resetAfterAck.contains mb then s.resetMailbox mb else s
  else s

/-- POP (R59): the oldest completion notice is discarded. -/
def popNotice (s : State) (mb : Nat) : State := s.setNotices mb ((tblGet (fun _ => []) s.gaf.notices mb).drop 1)

/-- MB_DOORBELL_RING (R63, R64). -/
def execMbDoorbellRing (mb : Fin 16) (s : State) : Host.Outcome State Fault Refusal := .next (ring s mb.val)

/-- MB_DOORBELL_CANCEL (R63, R64). -/
def execMbDoorbellCancel (mb : Fin 16) (s : State) : Host.Outcome State Fault Refusal := .next (cancel s mb.val)

/-- MB_ACK (R63, R113). -/
def execMbAck (mb : Fin 16) (s : State) : Host.Outcome State Fault Refusal := .next (acknowledge s mb.val)

/-- MB_CPL_POP (R59). -/
def execMbCplPop (mb : Fin 16) (s : State) : Host.Outcome State Fault Refusal := .next (popNotice s mb.val)

/-- GAFFER_TL_BURST_DEFERRED (R150): the burst that was held goes to the shadows once the turn may begin one. -/
def execGafferTlBurstDeferred (s : State) : Host.Outcome State Fault Refusal :=
  if s.late then .next s else .next s.writeHeld

end Sys2Proof.Machine
end

