-- ==== Sys2Proof/Machine/Control.lean ====
section
/-!
DEFINITION. Machine/Control.lean: the control space (R13-R18, R41): reads and writes of its registers by every requester, the
mailbox registers and buffers (R57-R62), the MSI-X table (R826, R839), the DMA channel registers (R834-R836), U00's mailbox
port (R364-R366).
-/

namespace Sys2Proof.Machine

open Sys2Proof

/-! ### Messages of masked vectors (R839) -/

/-- May a message go to the host now (R825, R839)? -/
def State.msixFlows (s : State) : Bool :=
  s.host.msixEnable && !s.host.functionMask && s.host.dlActive && s.host.busMaster && !s.host.d3hot

/-- An entry of the MSI-X table; every vector is masked after reset, as PCI Express lays out. -/
def State.msixEntry (s : State) (v : Nat) : MsixEntry := tblGet (fun _ => {}) s.host.msix v

/-- R839: a vector whose PBA bit is set sends one message once nothing holds it back. -/
def State.sendPending (s : State) (v : Nat) : State :=
  if s.msixFlows && bit s.host.pba v && !(s.msixEntry v).masked then
    ({ s with host := { s.host with pba := clearBit s.host.pba v } } : State).msix v
  else s

/-- Every pending vector that may be sent is sent. -/
def State.sendAllPending (s : State) : State := forEach (List.range 64) (fun v t => t.sendPending v) s

/-- MSIX_UNMASK (R839): a vector is unmasked. -/
def execMsixUnmask (v : Fin 64) (s : State) : Host.Outcome State Fault Refusal :=
  let e := { s.msixEntry v.val with masked := false }
  .next (({ s with host := { s.host with msix := tblSet (fun _ => {}) s.host.msix v.val e } } : State).sendPending v.val)

/-- A word of the MSI-X table or of the PBA. -/
def msixRead (s : State) (off : Nat) : Nat :=
  if off < 0x3FA400 then
    let e := s.msixEntry ((off - 0x3FA000) / 16)
    let k := off % 16 / 4
    if k = 0 then e.addr % 2 ^ 32 else if k = 1 then e.addr / 2 ^ 32 % 2 ^ 32 else if k = 2 then e.data else b2n e.masked
  else if off = 0x3FA400 then s.host.pba % 2 ^ 32 else s.host.pba / 2 ^ 32 % 2 ^ 32

/-- A word of the MSI-X table is written; the PBA is read-only. -/
def msixWrite (s : State) (off v : Nat) : State :=
  if 0x3FA400 ≤ off then s
  else
    let n := (off - 0x3FA000) / 16
    let k := off % 16 / 4
    let e := s.msixEntry n
    let e : MsixEntry := if k = 0 then { e with addr := 2 ^ 32 * (e.addr / 2 ^ 32) + v / 4 * 4 }
      else if k = 1 then { e with addr := e.addr % 2 ^ 32 + 2 ^ 32 * v }
      else if k = 2 then { e with data := v } else { e with masked := bit v 0 }
    ({ s with host := { s.host with msix := tblSet (fun _ => {}) s.host.msix n e } } : State).sendPending n

/-- Does an offset lie in the MSI-X table or the PBA (R826)? -/
def inMsix (off : Nat) : Bool := decide (0x3FA000 ≤ off) && decide (off < 0x3FA408)

/-! ### DMA channel registers (R834, R836, R856) -/

/-- STATE of a channel: 0 IDLE, 1 RUNNING, 2 HALTED. A halt stands until EN is set again. -/
def State.showDma (s : State) (c : Nat) : State :=
  if s.get (R.HP_DMA_CTRL_STATE c) = 2 then s
  else s.put (R.HP_DMA_CTRL_STATE c)
    (b2n (s.has (R.HP_DMA_CTRL_EN c) && s.get (R.HP_DMA_PROD_INDEX c) != s.get (R.HP_DMA_CONS_INDEX c)))

/-- A write of HP_DMA_CTRL. LOG2 changes only while EN is 0, and within 4-12; EN from 0 to 1 starts the channel at CONS. -/
def writeDmaCtrl (s : State) (c v : Nat) : State :=
  let was := s.has (R.HP_DMA_CTRL_EN c)
  let lg := bits v 1 4
  let s := if !was && decide (4 ≤ lg) && decide (lg ≤ 12) then s.put (R.HP_DMA_CTRL_LOG2 c) lg else s
  let s := (s.put (R.HP_DMA_CTRL_VECTOR c) (bits v 8 6)).put (R.HP_DMA_CTRL_EN c) (bits v 0 1)
  let s := if !was && bit v 0 then s.put (R.HP_DMA_CTRL_STATE c) 0 else s
  s.showDma c

/-- HP_DMA_CTRL_ENABLE (R836). -/
def execHpDmaCtrlEnable (c : Fin 8) (v : BitVec 32) (s : State) : Host.Outcome State Fault Refusal := .next (writeDmaCtrl s c.val v.toNat)

/-- A write of HP_DMA_PROD. -/
def writeDmaProd (s : State) (c v : Nat) : State := (s.put (R.HP_DMA_PROD_INDEX c) v).showDma c

/-- HP_DMA_PROD_WRITE (R834): with EN set the channel has descriptors to perform. -/
def execHpDmaProdWrite (c : Fin 8) (v : BitVec 16) (s : State) : Host.Outcome State Fault Refusal := .next (writeDmaProd s c.val v.toNat)

/-! ### Mailbox registers and buffers -/

/-- The mailbox whose registers or buffers an offset lies in. -/
def mailboxAt (off : Nat) : Option Nat :=
  if 0x010000 ≤ off ∧ off < 0x010400 then some ((off - 0x010000) / 0x40)
  else if 0x800000 ≤ off ∧ off < 0x820000 then some ((off - 0x800000) / 0x2000)
  else none

/-- R57: is a requester the source of a mailbox? The gaffer reaches all of them; MB9 is reached in a debug session. -/
def mailboxSource (s : State) (who : Requester) (n : Nat) : Bool :=
  match who with
  | .host => decide (n < 4)
  | .gaffer => true
  | .spi => n == 8
  | .debug => n == 9 && s.pins.session
  | .noc _ => false

/-- A read by a mailbox's source. -/
def mailboxRead (s : State) (off : Nat) : Nat × Nat :=
  if 0x800000 ≤ off then (rOk, le (cellsGet 0 s.mbuf off 4) 0 4)
  else match regAt off with
    | some (row, _, _) => (rOk, if row.wo = 0 then s.reg off else 0)
    | none => (rUnmapped, 0)

/-- A write by a mailbox's source. RING acts alone when CANCEL is written with it (R65); the request buffer takes no write in
PENDING (R63); the response buffer takes the gaffer's alone (R62). -/
def mailboxWrite (s : State) (gaffer : Bool) (n off v : Nat) : State × Nat :=
  let store : State := { s with mbuf := cellsSet 0 s.mbuf off (toLE 4 v) }
  if 0x800000 ≤ off then
    if rspBuf n ≤ off then (if gaffer then (store, rOk) else (s, rDenied))
    else if s.get (R.MB_STATUS_STATE n) = 1 then (s.put (R.MB_STATUS_ACCESS_DENIED n) 1, rOk)
    else (store, rOk)
  else if off = R.MB_DOORBELL n then
    (if bit v 0 then ring s n else if bit v 1 then cancel s n else s, rOk)
  else if off = R.MB_ACK n then (if bit v 0 then acknowledge s n else s, rOk)
  else if off = R.MB_CPL_POP n then (if bit v 0 then popNotice s n else s, rOk)
  else match regAt off with
    | some (row, _, _) =>
      let old := s.reg off
      let go := if gaffer then row.go else 0
      let w := old - (old &&& go) + (v &&& go)
      (s.setReg off (w - (w &&& (v &&& row.w1c))), rOk)
    | none => (s, rUnmapped)

/-! ### What registers read -/

/-- Registers that a variant, or a controller's kind, does not have: what they read (R8, R246, R520, R558, R559, R601, and the
lane registers' own rule). They ignore writes. -/
def absentWord (s : State) (row : RegRow) (i : Nat) : Option Nat :=
  let b := row.base
  if s.is48 ∧ 0x080000 ≤ b ∧ b < 0x080080 ∧ 48 ≤ i ∧ i < 96 then some (if b = R.LN_STATUS 0 then 0x80000000 else 0)
  else if s.is48 ∧ 0x100000 ≤ b ∧ b < 0x100040 ∧ 48 ≤ i then some 0
  else if s.is48 ∧ 0x200000 ≤ b ∧ b < 0x200040 ∧ 16 ≤ i then some 0
  else if s.is48 ∧ b = R.SM_SEG_MAP 0 ∧ 128 ≤ i then some 0
  else if s.is48 ∧ b = R.QC_STATUS 0 ∧ 112 ≤ i then some 2
  else if 0x290100 ≤ b ∧ b < 0x290200 ∧ 96 ≤ i then some 0
  else if 0x381000 ≤ b ∧ b < 0x381020 ∧ !endpointFitted i then some 0
  else none

/-- R857: an I/O cell. IN is what the cell drives, else what the board shows: a free value (log entry 1), and so is OE under EXTEST and CLAMP, where the boundary
register drives it (R844); HIGHZ turns it off. -/
def ioPin (s : State) (n : Nat) : Nat :=
  let v := s.peekFree
  let active := decide (mOperate ≤ s.mode) && decide (s.mode ≤ mLehr)
  let ir := s.pins.jtagIr
  let st := (tblFind n s.fab.ioStatic).getD 0
  let oe := if ir = 5 then false else if ir = 3 ∨ ir = 4 then bit v 1 else active && st != 0 && s.ioEnabled n
  let parked := active && st != 0 && s.ioParked n && !s.ioKept n
  let seen := if oe && ir != 3 && ir != 4 then b2n (s.ioLevel n) else bits v 0 1
  bits st 0 12 + 2 ^ 16 * seen + 2 ^ 17 * b2n oe + 2 ^ 18 * b2n parked + 2 ^ 20 * s.tapOf n

/-- The OR of the channels' sharer masks of a window (R603). -/
def State.sharersOf (s : State) (w : Nat) : Nat :=
  (s.noc.sharers.filter (fun e => e.1 / 64 == w)).foldl (fun m e => m ||| e.2) 0

/-- A register as it reads now. Measured loads are free values (log entry 1). -/
def viewWord (s : State) (row : RegRow) (i off : Nat) : State × Nat :=
  let b := row.base
  match absentWord s row i with
  | some v => (s, v)
  | none =>
    if b = R.TS_PIP_LIVE then (s, s.tb.pip)
    else if b = R.GAF_LOAD ∨ b = R.SM_CH_BUSY 0 then (s.drawn, percents 1 s.peekFree)
    else if b = R.NC_RT_BUSY 0 then (s.drawn, percents 4 s.peekFree)
    else if b = R.NC_RT_STALL 0 then (s.drawn, s.peekFree % 2 ^ 32)
    else if b = R.IO_PIN 0 then (s.drawn, ioPin s i)
    else if b = R.IO_BANK_STATUS 0 then
      (s, withBits (s.reg off) 12 1 (b2n (bit (s.get R.CF_IO_MISMATCH_BANKS) i)))
    else if b = R.NC_EP_STATUS 0 then
      let mine := (s.noc.out.filter (fun o => o.src == i)).length
      let his := (s.noc.out.filter (fun o => o.dst == i && o.answer.isNone)).length
      (s, withBits (withBits (s.reg off) 8 8 (min mine 255)) 16 8 (min his 255))
    else if b = R.NC_COH_SHARERS_LO 0 then (s, s.sharersOf i % 2 ^ 32)
    else if b = R.NC_COH_SHARERS_HI 0 then (s, s.sharersOf i / 2 ^ 32)
    else (s, if row.wo = 0xFFFFFFFF then 0 else s.reg off - (s.reg off &&& row.wo))

/-! ### Snapshots (R17) -/

/-- The registers whose reading snapshots others, and how far above them those lie. -/
def snapRows : List (Nat × List Nat) :=
  [(R.TS_TURN_LO, [4, 8]), (R.GU_FRAMES_LO 0, [4]), (R.CQ_TRIG_TS0 0, [4, 8]), (R.CQ_RECORDS_LO 0, [4]), (R.RP_LAUNCHED_LO 0, [4]),
   (R.QC_OPS_LO 0, [4]), (R.LN_PRBS_BITS_LO 0, [4]), (R.LN_PRBS_ERR_LO 0, [4]), (R.NC_SEAM_TXCNT_LO 0, [4]),
   (R.NC_SEAM_RXCNT_LO 0, [4]), (R.CK_FM_RES_LO 0, [4]), (R.SC_NONCE_LO 0, [4]), (R.QC_PORT_DATA_LO 0, [4])]

/-- What a read of this row snapshots. -/
def snapsOf (row : RegRow) : List Nat := (snapRows.find? (fun e => e.1 == row.base)).elim [] Prod.snd

/-- Does a row read as a snapshot? -/
def isSnapshot (row : RegRow) : Bool := snapRows.any (fun e => e.2.any (fun d => e.1 + d == row.base))

def snapKey (path off : Nat) : Nat := 2 ^ 24 * path + off

/-- R17: the snapshots that a read of a LO register takes for an access path. -/
def State.takeSnaps (s : State) (path off : Nat) (deltas : List Nat) : State :=
  forEach deltas (fun d t =>
    let v := if off = R.TS_TURN_LO then (if d = 4 then t.tb.turn / 2 ^ 32 else t.tb.pip) else t.reg (off + d)
    { t with snaps := tblPut (snapKey path (off + d)) (BitVec.ofNat 32 v) t.snaps }) s

/-- The snapshot that a path reads; before it has taken one it reads 0, and QC_PORT_DATA_HI the word written to it. -/
def State.readSnap (s : State) (path : Nat) (row : RegRow) (off : Nat) : Nat :=
  match tblFind (snapKey path off) s.snaps with
  | some v => v.toNat
  | none => if row.base = R.QC_PORT_DATA_HI 0 then s.reg off else 0

/-! ### Reading and writing -/

/-- The attestation report window (R781). -/
def inReport (off : Nat) : Bool := decide (0x3E8000 ≤ off) && decide (off < 0x3EC4C0)

/-- The region apertures, which no access to the control space itself reaches (R568). -/
def inAperture (off : Nat) : Bool := decide (0xC00000 ≤ off) && decide (off < 0xF00000)

/-- A read of the word at a control-space offset: the response code of R575 and the data (0 on an error; R15, R41, R58). -/
def ctlRead (s : State) (who : Requester) (off : Nat) : State × Nat × Nat :=
  let path := requesterPath who
  if off % 4 ≠ 0 then (s, rMalformed, 0)
  else match mailboxAt off with
  | some n => if mailboxSource s who n then (s, (mailboxRead s off).1, (mailboxRead s off).2) else (s, rDenied, 0)
  | none =>
    if inReport off then (s, rOk, le ((s.sec.report.drop (off - 0x3E8000)).take 4) 0 4)
    else if inMsix off then (s, rOk, msixRead s off)
    else if inAperture off then (s, rDenied, 0)
    else match regAt off with
    | none => (s, rUnmapped, 0)
    | some (row, i, _) =>
      if row.base = R.TE_RAMDATA 0 then
        (if s.teRamOpen i then (stepRamIndex s i, rOk, teRamRead s i) else (s, rDenied, 0))
      else if row.base = R.QC_PORT_DATA_LO 0 then
        let t := readPortLo s i who
        (t, rOk, t.reg off)
      else if isSnapshot row then (s, rOk, s.readSnap path row off)
      else if row.base = R.TS_TURN_LO then (s.takeSnaps path off (snapsOf row), rOk, s.tb.turn % 2 ^ 32)
      else
        let t_v := viewWord s row i off
        let t := t_v.1
        let v := t_v.2
        (t.takeSnaps path off (snapsOf row), rOk, v)

/-- R18: a write acts by the access classes of the register's bits. Turn-latched bits go to the shadow. -/
def classWrite (s : State) (gaffer : Bool) (row : RegRow) (off v : Nat) : State :=
  let set := row.rw ||| (if gaffer then row.go else 0)
  let late := set &&& row.tl
  let now := set - late
  let old := s.reg off
  let w := old - (old &&& now) + (v &&& now)
  let s := s.setReg off (w - (w &&& (v &&& row.w1c)))
  if late = 0 then s else { s with gaf := { s.gaf with shadow := s.gaf.shadow ++ [.reg off late (v &&& late)] } }

/-- R720, R722: the forced gates that a write of CK_FORCE withdraws (`was`: the word before) let their clocks run again, unless the mode
gates them. -/
def State.unforce (s : State) (m was : Nat) : State :=
  if (s.running || s.mode == mStartUp || s.mode == mStop) && s.regionClocked then
    let g := s.reg (R.CK_GATED m)
    s.setGates m (g - (g &&& (was - (was &&& s.reg (R.CK_FORCE m)))))
  else s

/-- Writes with a rule of their own. -/
def ruledWrite (s : State) (who : Requester) (row : RegRow) (i j v : Nat) : Option (State × Nat) :=
  let b := row.base
  let ident := requesterIdent who
  if b = R.SB_OWNER 0 then
    some (writeOwner s i (v % 256) who, if ident = 0xF0 ∨ s.get (R.SB_OWNER_OWNER i) = ident then rOk else rDenied)
  else if b = R.QC_PORT_DATA_HI 0 then some (writePortHi s i v who, rOk)
  else if b = R.QC_WIN_CFG 0 0 then some (writeWinCfg s i j v who, if windowWriter i who then rOk else rDenied)
  else if b = R.QC_WIN_BASE 0 0 then some (writeWinBase s i j v who, if windowWriter i who then rOk else rDenied)
  else if b = R.QC_WIN_LEN 0 0 then some (writeWinLen s i j v who, if windowWriter i who then rOk else rDenied)
  else if b = R.CK_FM_CTRL 0 then some (writeMeter s i v who, rOk)
  else if b = R.TE_CTRL 0 then
    let s := if bit v 0 then restartEngine s i else s
    some (if bit v 1 then stopEngineAt s i else s, rOk)
  else if b = R.TE_RAMDATA 0 then some (if s.teRamOpen i then (teRamWrite s i v, rOk) else (s, rDenied))
  else if b = R.TE_NIN_BASE 0 then some (writeRingBase s i false v, rOk)
  else if b = R.TE_NOUT_BASE 0 then some (writeRingBase s i true v, rOk)
  else if b = R.TE_NIN_CTRL 0 then some (writeRingCtrl s i false v, rOk)
  else if b = R.TE_NOUT_CTRL 0 then some (writeRingCtrl s i true v, rOk)
  else if b = R.TE_EVQ_POP then some (if bit v 0 then popEvq s else s, rOk)
  -- R19: the lock clears only at power-on reset or through PROG_N
  else if b = R.SC_ALARM_CTRL then some (if who = .gaffer ∧ bit v 0 then s.put R.SC_ALARM_CTRL_LOCK 1 else s, rOk)
  else if b = R.CK_FORCE 0 then some ((classWrite s (decide (who = .gaffer)) row (R.CK_FORCE i) v).unforce i (s.reg (R.CK_FORCE i)), rOk)
  else if b = R.HP_DMA_CTRL 0 then some (writeDmaCtrl s i v, rOk)
  else if b = R.HP_DMA_PROD 0 then some (writeDmaProd s i (v % 2 ^ 16), rOk)
  else none

/-- A write of the word at a control-space offset (R15, R18, R41, R58). -/
def ctlWrite (s : State) (who : Requester) (off v : Nat) : State × Nat :=
  if off % 4 ≠ 0 then (s, rMalformed)
  else match mailboxAt off with
  | some n => if mailboxSource s who n then mailboxWrite s (decide (who = .gaffer)) n off v else (s, rDenied)
  | none =>
    if inReport off then (s, rOk)
    else if inMsix off then (msixWrite s off v, rOk)
    else if inAperture off then (s, rDenied)
    else match regAt off with
    | none => (s, rUnmapped)
    | some (row, i, j) =>
      if (absentWord s row i).isSome then (s, rOk)
      else match ruledWrite s who row i j v with
      | some r => r
      | none => (classWrite s (decide (who = .gaffer)) row off v, rOk)

/-- SNAPSHOT_READ (R17): a requester reads a register. -/
def execSnapshotRead (off : BitVec 24) (who : Requester) (s : State) : Host.Outcome State Fault Refusal :=
  let t_code_v := ctlRead s who off.toNat
  let t := t_code_v.1
  let code := t_code_v.2.1
  let v := t_code_v.2.2
  .next (t.answer (requesterPath who) code (toLE 4 v))

/-- REGISTER_WRITE (R18): a requester writes a register. -/
def execRegisterWrite (off : BitVec 24) (v : BitVec 32) (who : Requester) (s : State) : Host.Outcome State Fault Refusal :=
  let t_code := ctlWrite s who off.toNat v.toNat
  let t := t_code.1
  let code := t_code.2
  .next (t.answer (requesterPath who) code [])

/-! ### U00's mailbox port (R364-R366) -/

/-- The control-space offset that the port's signals name: register offset / 4, or buffer offset / 4. -/
def mbpOffset (n : Nat) (buffers : Bool) (addr : Nat) : Nat := if buffers then reqBuf n + 4 * addr else 0x010000 + 0x40 * n + 4 * addr

/-- R364, R366: an access has been performed; MBP_ACK, MBP_RDATA and MBP_ERR reach a region that takes part. -/
def State.mbpAnswer (s : State) (live : Bool) (code v : Nat) (data : List Byte) : State :=
  if live then
    ({ s with fab := { s.fab with mbp := { ack := true, data := v, err := code != rOk } } } : State).answer 4 code data
  else s

/-- MBP_ACCESS (R364): an access to MB4-MB7, with MBP_ERR where it was not performed (R58, R62, R15). The port shows no request
unless U00 runs and the port's line has edges, nor in the dead cycle of a switch (R366, R389); an access that was outstanding then is
performed, and not acknowledged (R366). -/
def execMbpAccess (sel : MbpSelect) (buffers we : Bool) (addr : BitVec 11) (data : BitVec 32) (s : State) :
    Host.Outcome State Fault Refusal :=
  let n := 4 + sel.sel.toNat
  let off := mbpOffset n buffers addr.toNat
  let live := s.regionLive 0 && s.portRuns 0 .mailbox
  if !live ∧ !sel.begun then .next s
  else if !buffers ∧ 16 ≤ addr.toNat then .next (s.mbpAnswer live rUnmapped 0 (zeros 4))
  else if we then
    let t_code := mailboxWrite s false n off data.toNat
    let t := t_code.1
    let code := t_code.2
    .next (t.mbpAnswer live code 0 [])
  else
    let code_v := mailboxRead s off
    let code := code_v.1
    let v := code_v.2
    .next (s.mbpAnswer live code v (toLE 4 v))

end Sys2Proof.Machine
end

