-- ==== Sys2Proof/Machine/Serial.lean ====
section
/-!
DEFINITION. Machine/Serial.lean: the management SPI (R840-R842), JTAG and the punty port (R843-R847).
-/

namespace Sys2Proof.Machine

open Sys2Proof

/-! ### Management SPI -/

/-- R841: the status byte. -/
def mspiStatus (s : State) : Byte :=
  let done : Bool := s.get (R.MB_STATUS_STATE 8) == 3 || s.has (R.MB_STATUS_CPL_COUNT 8)
  BitVec.ofNat 8 (128 + 64 * b2n s.pins.mspiRefused + 2 * b2n done + s.get R.GAF_STATUS_READY)

/-- LAST_REFUSED takes a value. -/
def State.setRefused (s : State) (b : Bool) : State := { s with pins := { s.pins with mspiRefused := b } }

/-- R842: may the management SPI read an offset? -/
def mspiMayRead (s : State) (off : Nat) : Bool :=
  s.mode != mPowerOn && off % 4 == 0 && !inAperture off && (mailboxAt off).all (· == 8)

/-- R842: may it write an offset: MB8's registers and request buffer, EV_STATUS0-8, GAF_SCRATCH0-3? -/
def mspiMayWrite (s : State) (off : Nat) : Bool :=
  s.mode != mPowerOn && off % 4 == 0 &&
    ((mailboxAt off == some 8 && decide (off < rspBuf 8)) || (decide (R.EV_STATUS 0 ≤ off) && decide (off ≤ R.EV_STATUS 8))
      || (decide (0x38 ≤ off) && decide (off ≤ 0x44)))

/-- MSPI_READ_FRAME: the status byte, then words from the address upward. -/
def execMspiReadFrame (addr : BitVec 24) (words : BitVec 16) (s : State) : Host.Outcome State Fault Refusal :=
  let first := mspiStatus s
  let t_data := (List.range words.toNat).foldl (fun (acc : State × List Byte) i =>
    let off := (addr.toNat + 4 * i) % 2 ^ 24
    if mspiMayRead acc.1 off then
      let r := ctlRead acc.1 .spi off
      (r.1, acc.2 ++ toLE 4 r.2.2)
    else (acc.1.setRefused true, acc.2 ++ zeros 4)) (s.setRefused false, [])
  let t := t_data.1
  let data := t_data.2
  .next (t.answer 2 rOk (first :: data))

/-- MSPI_WRITE_FRAME: each word is performed as its last bit arrives. -/
def execMspiWriteFrame (addr : BitVec 24) (words : List (BitVec 32)) (s : State) : Host.Outcome State Fault Refusal :=
  .next (forEach (numbered words) (fun iw t =>
    let off := (addr.toNat + 4 * iw.1) % 2 ^ 24
    if mspiMayWrite t off then (ctlWrite t .spi off iw.2.toNat).1 else t.setRefused true) s)

/-- MSPI_STATUS_FRAME (R841): `n` status bytes; LAST_REFUSED is cleared once the first has been sent. -/
def execMspiStatusFrame (n : BitVec 8) (s : State) : Host.Outcome State Fault Refusal :=
  if n = 0 then .next s
  else
    let t := s.setRefused false
    .next (t.answer 2 rOk (mspiStatus s :: List.replicate (n.toNat - 1) (mspiStatus t)))

/-- MSPI_UNKNOWN_FRAME (R840): ignored to its end. -/
def execMspiUnknownFrame (_first : Byte) (s : State) : Host.Outcome State Fault Refusal := .next s

/-! ### JTAG (R843, R844) -/

/-- An instruction is in the instruction register. What the balls are driven by under EXTEST, CLAMP and HIGHZ follows from it. -/
def State.loadIr (s : State) (code : Nat) : State := { s with pins := { s.pins with jtagIr := code } }

/-- JTAG_IDCODE: the identification register, with the stepping's letter in bits 31:28. -/
def execJtagIdcode (s : State) : Host.Outcome State Fault Refusal :=
  .next ((s.loadIr 1).answer 3 rOk (toLE 4 (0x0F0961A5 + 2 ^ 28 * bits (s.get R.ID_VARIANT_STEPPING) 4 4)))

/-- JTAG_SAMPLE_PRELOAD: the boundary register captures the balls (free values, log entry 1) and takes the cells shifted in. -/
def execJtagSamplePreload (cells : List Bool) (s : State) : Host.Outcome State Fault Refusal :=
  let t := ({ s with pins := { s.pins with jtagIr := 2, boundary := cells.foldr (fun b n => b2n b + 2 * n) 0 } } : State)
  .next (t.drawn.answer 3 rOk (toLE ((cells.length + 7) / 8) (s.peekFree % 2 ^ cells.length)))

/-- JTAG_EXTEST: the balls are driven from the boundary register. -/
def execJtagExtest (s : State) : Host.Outcome State Fault Refusal := .next (s.loadIr 3)

/-- JTAG_CLAMP: the balls hold the boundary register's outputs, BYPASS is selected. -/
def execJtagClamp (s : State) : Host.Outcome State Fault Refusal := .next (s.loadIr 4)

/-- JTAG_HIGHZ: the boundary outputs are at high impedance. -/
def execJtagHighz (s : State) : Host.Outcome State Fault Refusal := .next (s.loadIr 5)

/-- JTAG_BYPASS. -/
def execJtagBypass (s : State) : Host.Outcome State Fault Refusal := .next (s.loadIr 0xFF)

/-! ### The punty port (R845-R847) -/

/-- PUNTY_SESSION_BEGIN (R846): PUNTY is loaded; a session begins while DEBUG_OPEN is 1. -/
def execPuntySessionBegin (s : State) : Host.Outcome State Fault Refusal :=
  let t := s.loadIr 0x20
  .next (if s.has R.GAF_LIFECYCLE_DEBUG_OPEN then { t with pins := { t.pins with session := true } } else t)

/-- The result of an access, for the next Capture-DR: DATA and STATUS. -/
def State.puntyResult (s : State) (status data : Nat) : State :=
  ({ s with pins := { s.pins with punty := 2 ^ 24 * (data % 2 ^ 32) + 2 ^ 56 * status } } : State).answer 3 status (toLE 4 data)

/-- R845: STATUS of an access: FAILED under R15, R41 and R58, else DENIED. -/
def puntyStatus (off code : Nat) : Nat :=
  if code = rOk then 0 else if code = rUnmapped ∨ code = rMalformed ∨ (mailboxAt off).any (· != 9) then 3 else 2

/-- PUNTY_ACCESS (R845, R847): outside a session, anything but offsets 0x000-0x01C is denied and raises the LIFECYCLE alarm. -/
def execPuntyAccess (dr : BitVec 64) (s : State) : Host.Outcome State Fault Refusal :=
  let v := dr.toNat
  let op := bits v 0 2
  let off := 4 * bits v 2 22
  let last := bits s.pins.punty 24 32
  if s.pins.jtagIr ≠ 0x20 ∨ op = 0 ∨ op = 3 then .next s
  else if !s.pins.session ∧ 0x1C < off then .next ((s.puntyResult 2 (if op = 1 then 0 else last)).raiseAlarm 4)
  else if op = 1 then
    let t_code_d := ctlRead s .debug off
    let t := t_code_d.1
    let code := t_code_d.2.1
    let d := t_code_d.2.2
    .next (t.puntyResult (puntyStatus off code) d)
  else
    let t_code := ctlWrite s .debug off (bits v 24 32)
    let t := t_code.1
    let code := t_code.2
    .next (t.puntyResult (puntyStatus off code) last)

/-- TEST_LOGIC_RESET (R843, R846): IDCODE is loaded; a session ends, MB9 is reset, and in OWNED DEBUG_OPEN is cleared. -/
def execTestLogicReset (s : State) : Host.Outcome State Fault Refusal :=
  let t := s.loadIr 1
  if s.pins.session then
    let t := ({ t with pins := { t.pins with session := false } } : State).resetSource .debug
    .next (if t.life = 2 then t.put R.GAF_LIFECYCLE_DEBUG_OPEN 0 else t)
  else .next t

end Sys2Proof.Machine
end

