-- ==== Sys2Proof/Machine/Noc.lean ====
section
/-!
DEFINITION. Machine/Noc.lean: requests, responses and snoops of the on-chip network (R563-R604, R641-R642, R653-R661): address
decode, delivery, what the targets perform, line caches and coherent windows, endpoint states.
-/

namespace Sys2Proof.Machine

open Sys2Proof

/-! ### Sources and destinations -/

/-- R564: the region whose NoC port an endpoint is. -/
def regionOf (e : Nat) : Option Nat := (List.range 48).find? (fun r => regionEndpoint r == e)

/-- R564: the device seam port that an endpoint is. -/
def portOf (e : Nat) : Option Nat := (List.range 4).find? (fun p => seamEndpoint p == e)

/-- What the interface unit stamps on a request (R567, R641): IDENT, IDENT2; the bit of the sharer masks that stands for the source
(R598, R661), if it has one; whether it is a peer's. -/
structure Issuer where
  ident : Nat
  ident2 : Nat := 0xFF
  sharer : Option Nat := none
  peer : Bool := false
  deriving DecidableEq, Repr

/-- The identity of a source endpoint; `none` where an endpoint issues no requests. -/
def issuerOf (src dev : Nat) (col : Option Nat) : Option Issuer :=
  if src = gafferEndpoint then some { ident := 0xF0, sharer := some 48 }
  else if src = selfTestEndpoint then some { ident := 0xF1 }
  else if src = hostEndpoint then some { ident := 0xF2 }
  else if src = configEndpoint then some { ident := 0xF3 }
  else if src = sweepEndpoint then some { ident := 0xF4 }
  else match portOf src with
  | some _ => some { ident := 0xC0 + dev, sharer := some (56 + dev), peer := true }
  | none => (regionOf src).map (fun r =>
      { ident := r, ident2 := col.elim 0xFF (fun c => 0x40 + 2 * r + c), sharer := some r })

/-- R568: what a request's address names. -/
inductive Target where
  | nowhere
  | away (port : Nat)
  | stack
  | sram (c : Nat)
  | aperture (r : Nat)
  | control
  | host
  deriving DecidableEq, Repr

/-- R39, R568: the part of the local address map that a local address lies in. -/
def addrClass (l : Nat) : Target :=
  if l < 0x1000000000 then .stack
  else if 0x4000000000 ≤ l ∧ l < 0x4006000000 then .sram ((l - 0x4000000000) / 2 ^ 20)
  else if 0x8000000000 ≤ l ∧ l < 0x8001000000 then
    (if inAperture (l - 0x8000000000) then .aperture ((l - 0x8000000000 - 0xC00000) / 0x10000) else .control)
  else if 0xC000000000 ≤ l ∧ l < 0xC040000000 then .host
  else .nowhere

/-- R568, R11, R37, R38, R653: the destination of a request to `n` bytes at a global address. A span across the end of a mapped range has none
(R42). -/
def targetOf (s : State) (a n : Nat) : Target :=
  let dev := a / 2 ^ 40
  let l := a % 2 ^ 40
  if dev ≠ s.devId then .away (exitPort s.devId dev)
  else match addrClass l with
  | .stack => if l + n ≤ 0x10000000 * s.segments then .stack else .nowhere
  | .control => if l + n ≤ 0x8001000000 then .control else .nowhere
  | .host => if l + n ≤ 0xC040000000 then .host else .nowhere
  | t => t

/-- The destination endpoint. -/
def targetEndpoint (s : State) (t : Target) (l : Nat) : Nat :=
  match t with
  | .nowhere => 0
  | .away p => seamEndpoint p
  | .stack => channelEndpoint (s.channelOf l)
  | .sram c => clusterEndpoint c
  | .aperture r => regionEndpoint r
  | .control => controlEndpoint
  | .host => hostEndpoint

/-- R570: is a request well formed? A window request goes to an SRAM cluster, at a whole word. -/
def wellFormedRequest (l n : Nat) (window : Bool) : Bool :=
  if window then
    (match addrClass l with
     | .sram _ => decide (8 ≤ n) && decide (n ≤ 64) && n % 8 == 0 && l % 8 == 0
     | _ => false)
  else match addrClass l with
  | .stack => decide (1 ≤ n) && decide (n ≤ 256) && decide (l % 256 + n ≤ 256)
  | .sram _ => decide (1 ≤ n) && decide (n ≤ 64) && decide (l % 64 + n ≤ 64)
  | .aperture _ => decide (1 ≤ n) && decide (n ≤ 64) && decide (l % 64 + n ≤ 64)
  | .control => decide (4 ≤ n) && decide (n ≤ 64) && n % 4 == 0 && l % 4 == 0
  | .host => decide (1 ≤ n) && decide (n ≤ 256)
  | .nowhere => true
  | .away _ => true

/-! ### Links (R576, R588, R589) -/

/-- The router and inbound port that a link direction (router * 4 + N 0, E 1, S 2, W 3) leads to. -/
def linkEnd (x : Nat) : Nat × Nat :=
  let r := x / 4
  if x % 4 = 0 then (r + 10, 2) else if x % 4 = 1 then (r + 1, 3) else if x % 4 = 2 then (r - 10, 0) else (r - 1, 1)

/-- The link directions of a request's way and of its response's. -/
def Packet.ways (p : Packet) : List Nat := route p.src p.dst ++ route p.dst p.src

/-- Is a link direction of a packet's way FAILED? -/
def State.wayFailed (s : State) (way : List Nat) : Bool :=
  way.any (fun x => bit (s.get (R.NC_RT_STATUS_FAILED (linkEnd x).1)) (linkEnd x).2)

/-- A packet goes its way, link by link, and every flit of it arrives as `l` says. A FAILED link carries nothing. -/
def State.linkFaults (s : State) (way : List Nat) (p : Packet) (l : List LinkFault) : State :=
  way.foldl (fun t x =>
    if t.wayFailed (way.takeWhile (· != x) ++ [x]) then t
    else forEach (l.filter (fun f => linkEnd x == (f.router.val, f.port.val) && decide (f.flit.val < p.flitCount)))
      (fun f t => t.linkFault p.kind.code f) t) s

/-! ### What the targets perform -/

/-- What a request asks for. -/
inductive Access where
  | read
  | write (data : List Byte)
  | window (op w : Nat) (words : List Nat)
  deriving DecidableEq, Repr

def Access.isWrite : Access → Bool
  | .write _ => true
  | _ => false

def Access.isWindow : Access → Bool
  | .window _ _ _ => true
  | _ => false

/-- Does an OK answer carry data (R574)? -/
def Access.hasData : Access → Bool
  | .read => true
  | .write _ => false
  | .window op _ _ => op == 1 || op == 2

/-- The requester of a control-space access over the network (R17, R567). -/
def nocRequester (ident : Nat) : Requester := if ident = 0xF0 then .gaffer else if ident = 0xF2 then .host else .noc (BitVec.ofNat 8 ident)

/-- R570: words of the control space, each a register access; the first error is the answer. No mailbox belongs to a requester over
the network but the gaffer (R57). -/
def controlAccess (s : State) (q : Issuer) (off n : Nat) (act : Access) : State × Nat × List Byte :=
  let who := nocRequester q.ident
  let t_code_d := (List.range (n / 4)).foldl (fun (acc : State × Nat × List Byte) i =>
    let o := off + 4 * i
    let t_c_v := if (mailboxAt o).isSome ∧ q.ident ≠ 0xF0 then (acc.1, rDenied, 0)
      else match act with
        | .write b =>
          let r := ctlWrite acc.1 who o (le b (4 * i) 4)
          (r.1, r.2, 0)
        | _ => ctlRead acc.1 who o
    let t := t_c_v.1
    let c := t_c_v.2.1
    let v := t_c_v.2.2
    (t, if acc.2.1 = rOk then c else acc.2.1, acc.2.2 ++ toLE 4 v)) (s, rOk, [])
  let t := t_code_d.1
  let code := t_code_d.2.1
  let d := t_code_d.2.2
  (t, code, if code = rOk then d else zeros n)

/-- R503, R515, R642: an SRAM cluster. Peers reach it only through windows. -/
def sramAccess (s : State) (q : Issuer) (c off n : Nat) (act : Access) : State × Nat × List Byte :=
  match act with
  | .window op w words =>
    let t_code_l := windowMulti s c w op (if op = 2 ∨ op = 3 then off / 8 else 0) words q.ident q.ident2
    let t := t_code_l.1
    let code := t_code_l.2.1
    let l := t_code_l.2.2
    (t, code, if code = rOk then l.flatMap (toLE 8) else [])
  | .read =>
    if q.peer then (s.sbDenied c (s.wordPlace c (off / 8)).1 q.ident 0 false, rDenied, zeros n)
    else sramRead s c off n q.ident q.ident2 0
  | .write b =>
    if q.peer then (s.sbDenied c (s.wordPlace c (off / 8)).1 q.ident 0 true, rDenied, [])
    else
      let t_code := sramWrite s c off b q.ident q.ident2 0
      let t := t_code.1
      let code := t_code.2
      (t, code, [])

/-- A request performed at a target of this device that answers by itself. -/
def perform (s : State) (q : Issuer) (t : Target) (a n : Nat) (act : Access) (write : Option (Nat × Nat × Nat)) :
    State × Nat × List Byte :=
  let l := a % 2 ^ 40
  match t with
  | .stack =>
    (match act with
     | .write b =>
       let t_code := stackWrite s q.ident q.sharer l b write
       let t := t_code.1
       let code := t_code.2
       (t, code, [])
     | _ =>
       let t_code_d := stackRead s q.ident l n
       let t := t_code_d.1
       let code := t_code_d.2.1
       let d := t_code_d.2.2
       (match q.sharer with
        | some b => if code = rOk then t.shareLines b a n else t
        | none => t, code, d))
  | .sram c => sramAccess s q c (l % 2 ^ 20) n act
  | .control => if q.peer then (s, rDenied, zeros n) else controlAccess s q (l - 0x8000000000) n act
  | _ => (s, rUnmapped, zeros n)

/-- R825: is the host reachable for DMA and aperture requests? -/
def State.hostReachable (s : State) : Bool := s.host.dlActive && s.host.busMaster && !s.host.d3hot

/-! ### Requests -/

/-- R591: a cullet sink discards a posted write. -/
def State.sunkPosted (s : State) (e : Nat) : State := (s.bump (R.NC_EP_SUNK_POSTED e)).raise 270

/-- A request becomes outstanding. -/
def State.addOut (s : State) (o : Outstanding) : State := { s with noc := { s.noc with out := s.noc.out ++ [o] } }

/-- The outstanding request of a source with a tag. -/
def State.outOf (s : State) (src dev tag : Nat) : Option Outstanding :=
  s.noc.out.find? (fun o => o.src == src && o.tag == tag && ((portOf src).isNone || o.dev == dev))

/-- The state of an endpoint (R590). -/
def State.epState (s : State) (e : Nat) : Nat := s.get (R.NC_EP_STATUS_STATE e)

/-- The device that a request comes from: a peer where its source is a seam port's endpoint. -/
def nocDevice (s : State) (r : NocRequest) : Nat := if (portOf r.src.val).isSome then r.dev.val else s.devId

/-- A request is answered at its source; a posted write is not. -/
def nocFail (s : State) (r : NocRequest) (act : Access) (posted : Bool) (code : Nat) : State :=
  if posted then s else s.answer (16 + r.src.val) code (if act.hasData then zeros r.len.toNat else [])

/-- What a request asks for, as a TYPE. -/
def Access.kind : Access → PacketKind
  | .read => .read
  | .write _ => .write
  | .window op _ _ => if op = 0 then .winPush else if op = 1 then .winPop else if op = 2 then .winPeek else .winPoke

/-- R567, R572, R582, R584: the packet of a request to endpoint `dst`. A window operation that takes no place has the cluster's base
address. -/
def nocPacket (s : State) (r : NocRequest) (act : Access) (posted : Bool) (q : Issuer) (dst : Nat) : Packet :=
  { kind := act.kind, pri := s.priOf r.src.val r.pri.toNat, rsv := s.reserved r.src.val dst r.len.toNat, posted := posted,
    poison := r.poison, src := r.src.val, dst := dst, dev := nocDevice s r,
    plane := (regionOf r.src.val).elim 0 (fun g => s.get (R.CF_CTX_STATE_ACTIVE g)), tag := r.tag.toNat, ident := q.ident,
    ident2 := q.ident2, len := r.len.toNat,
    win := (match act with
      | .window _ w _ => w
      | _ => 0),
    addr := (match act with
      | .window op _ _ => if op ≤ 1 then r.addr.toNat - r.addr.toNat % 2 ^ 20 else r.addr.toNat
      | _ => r.addr.toNat),
    data := (match act with
      | .write b => b
      | .window op _ words => if op = 0 ∨ op = 3 then words.flatMap (toLE 8) else []
      | .read => []) }

/-- The entry of the request of packet `p` that is outstanding at endpoint `dst`. -/
def nocEntry (s : State) (r : NocRequest) (act : Access) (p : Packet) (dst : Nat) (ans : Option (Nat × List Byte)) (away store : Bool) :
    Outstanding :=
  { src := r.src.val, dev := nocDevice s r, tag := r.tag.toNat, dst := dst, addr := r.addr.toNat, len := r.len.toNat,
    plane := (regionOf r.src.val).elim 0 (fun g => s.get (R.CF_CTX_STATE_ACTIVE g)), read := act.hasData, answer := ans,
    away := away, store := store, pri := p.pri, rsv := p.rsv }

/-- A request becomes outstanding with an answer; a posted write does not. -/
def nocAdd (s : State) (posted : Bool) (o : Outstanding) : State := if posted then s else s.addOut o

/-- R590, R591: an isolated target's cullet sink takes the request. -/
def nocSunk (s : State) (r : NocRequest) (act : Access) (p : Packet) (e : Nat) : State :=
  if p.posted then s.sunkPosted e
  else (s.bump (R.NC_EP_SUNK_REQUESTS e)).addOut (nocEntry s r act p e (some (rIsolated, [])) false false)

/-- R597, R599: a coherent read that the source's cache answers. -/
def nocHit (s : State) (r : NocRequest) (act : Access) (q : Issuer) : Option (State × List Byte) :=
  match q.sharer, act with
  | some u, .read => if u ≤ 48 ∧ s.inWindow r.addr.toNat then s.cacheHit u r.addr.toNat r.len.toNat else none
  | _, _ => none

/-- R38, R642, R655: a request for another device, by exit port `p`; without a link the port's seam endpoint `e` answers. -/
def nocAway (s : State) (r : NocRequest) (act : Access) (posted : Bool) (q : Issuer) (p e : Nat) : State :=
  let fromPeer := (portOf r.src.val).isSome
  let k := nocPacket s r act posted q e
  if !s.seamLive p then
    if posted then s.sunkPosted e
    else if fromPeer then s.addOut (nocEntry s r act k e (some (rUnmapped, [])) false false)
    else nocFail s r act posted rUnmapped
  else
    let way := route r.src.val e
    let t := (s.inject k).linkFaults way k r.faults
    if t.wayFailed way then nocAdd t posted (nocEntry s r act k 240 none true false)
    else if t.epState e ≠ epOpen then nocSunk t r act k e
    else
      let t := t.sendPacket p k
      if fromPeer then t
      else nocAdd t posted (nocEntry s r act k e none true (!act.isWindow && act == .read && s.inWindow r.addr.toNat && q.sharer.isSome))

/-- R569: does the active plane of region `g` enable the completer side of its NoC port? -/
def State.completes (s : State) (g : Nat) : Bool := ((s.activeImage g).map (·.completer)).getD false

/-- R361, R574, R589-R591: a request for this device's target `t` at endpoint `e`. -/
def nocHere (s : State) (r : NocRequest) (act : Access) (posted : Bool) (q : Issuer) (t : Target) (e : Nat) : State :=
  let a := r.addr.toNat
  let n := r.len.toNat
  if s.epState e = 0 then nocFail s r act posted rUnmapped
  else if s.mustWait a n act.isWrite ∧ t = .stack then s
  else
    let k := nocPacket s r act posted q e
    let way := route r.src.val e
    let u := (s.inject k).linkFaults way k r.faults
    if u.wayFailed way then nocAdd u posted (nocEntry s r act k 240 none false false)
    else if u.epState e ≠ epOpen then nocSunk u r act k e
    else if r.poison then nocAdd u posted (nocEntry s r act k e (some (rIntegrity, [])) false false)
    else match t with
    | .aperture g => nocAdd u posted (nocEntry s r act k e (if u.completes g then none else some (rUnmapped, [])) false false)
    | .host =>
      let ans : Option (Nat × List Byte) := if q.peer then some (rDenied, [])
        else if !u.has R.HP_APER_CTRL_EN ∨ !u.hostReachable then some (rUnmapped, [])
        else if act.isWrite then some (rOk, []) else none
      nocAdd u posted (nocEntry s r act k e ans false false)
    | _ =>
      let x := perform u q t a n act (if posted then none else some (r.src.val, nocDevice s r, r.tag.toNat))
      nocAdd x.1 posted (nocEntry s r act k e (some (x.2.1, if x.2.1 = rOk then x.2.2 else [])) false false)

/-- R349, R361, R389: does the fabric of a region issue a request now, on a line that has edges? Its Tap Engines issue theirs by themselves. -/
def State.mayIssue (s : State) (src : Nat) (col : Option (Fin 2)) : Bool :=
  match regionOf src with
  | some g => col.isSome || (s.regionLive g && s.portRuns g .noc)
  | none => true

/-- R361, R568-R570, R574, R589-R591, R642, R655: a request is checked and injected at its source, and performed at its target.
What it is answered waits for the RESP or DATA that carries it back. -/
def nocRequest (s : State) (r : NocRequest) (act : Access) (posted : Bool) : State :=
  let src := r.src.val
  let dev := nocDevice s r
  match issuerOf src r.dev.val (r.col.map Fin.val) with
  | none => s
  | some q =>
    if s.epState src ≠ epOpen ∨ (s.outOf src dev r.tag.toNat).isSome ∨ !s.mayIssue src r.col then s
    else if (portOf src).isSome ∧ (dev = s.devId ∨ !(portOf src).all s.seamLive) then s
    else if !wellFormedRequest (r.addr.toNat % 2 ^ 40) r.len.toNat act.isWindow then nocFail s r act posted rMalformed
    else
      let t := targetOf s r.addr.toNat r.len.toNat
      let e := targetEndpoint s t (r.addr.toNat % 2 ^ 40)
      if t = .nowhere then nocFail s r act posted rUnmapped
      else match nocHit s r act q with
      | some x => x.1.answer (16 + src) rOk x.2
      | none =>
        match t with
        | .away p => nocAway s r act posted q p e
        | _ => nocHere s r act posted q t e

/-- READ (R574). -/
def execRead (r : NocRequest) (s : State) : Host.Outcome State Fault Refusal := .next (nocRequest s r .read false)

/-- WRITE (R574). -/
def execWrite (r : NocRequest) (posted : Bool) (data : List Byte) (s : State) : Host.Outcome State Fault Refusal :=
  .next (nocRequest s r (.write (fit r.len.toNat data)) posted)

/-- The words that a window request of `n` bytes carries. -/
def windowWords (n : Nat) (data : List (BitVec 64)) : List Nat := (List.range (n / 8)).map (fun i => (data.getD i 0).toNat)

/-- WIN_PUSH (R515, R574). -/
def execWinPush (r : NocRequest) (win : Fin 8) (data : List (BitVec 64)) (s : State) : Host.Outcome State Fault Refusal :=
  .next (nocRequest s r (.window 0 win.val (windowWords r.len.toNat data)) false)

/-- WIN_POP (R515, R574). -/
def execWinPop (r : NocRequest) (win : Fin 8) (s : State) : Host.Outcome State Fault Refusal :=
  .next (nocRequest s r (.window 1 win.val (windowWords r.len.toNat [])) false)

/-- WIN_PEEK (R515, R574). -/
def execWinPeek (r : NocRequest) (win : Fin 8) (s : State) : Host.Outcome State Fault Refusal :=
  .next (nocRequest s r (.window 2 win.val (windowWords r.len.toNat [])) false)

/-- WIN_POKE (R515, R574). -/
def execWinPoke (r : NocRequest) (win : Fin 8) (data : List (BitVec 64)) (s : State) : Host.Outcome State Fault Refusal :=
  .next (nocRequest s r (.window 3 win.val (windowWords r.len.toNat data)) false)

/-- HOST_APERTURE_REQUEST (R833): a request to the host memory aperture. -/
def execHostApertureRequest (r : NocRequest) (write : Option (List Byte)) (posted : Bool) (s : State) :
    Host.Outcome State Fault Refusal :=
  if addrClass (r.addr.toNat % 2 ^ 40) ≠ .host then .next s
  else match write with
  | some b => .next (nocRequest s r (.write (fit r.len.toNat b)) posted)
  | none => .next (nocRequest s r .read false)

/-! ### Responses -/

/-- A request is no longer outstanding. -/
def State.dropOut (s : State) (o : Outstanding) : State := { s with noc := { s.noc with out := s.noc.out.erase o } }

/-- R572, R582: the packet of a response with a code and its data. The fields that the rules give no response are 0 (log entry 102). -/
def Outstanding.response (o : Outstanding) (code : Nat) (d : List Byte) : Packet :=
  { kind := if o.read ∧ code = rOk then .data else .resp, pri := o.pri, rsv := o.rsv, src := o.dst, dst := o.src, dev := o.dev,
    plane := o.plane, status := code, tag := o.tag, len := o.len, data := d }

/-- R363, R591: a response reaches its source: a sink discards it, and so does a region's port whose plane has changed. -/
def State.delivered (s : State) (o : Outstanding) (code : Nat) (d : List Byte) : State :=
  let s := s.dropOut o
  let st := s.epState o.src
  if st ≠ epOpen ∧ st ≠ epClosing then s
  else match regionOf o.src with
  | some g =>
    if s.get (R.CF_CTX_STATE_ACTIVE g) ≠ o.plane then (s.bump (R.NC_EP_ERRS_STALE o.src)).raise 271
    else s.answer (16 + o.src) code d
  | none =>
    match portOf o.src with
    | some _ =>
      let p := exitPort s.devId o.dev
      if s.seamLive p then (s.answer (16 + o.src) code d).sendPacket p (o.response code (if code = rOk then d else [])) else s
    | none => s.answer (16 + o.src) code d

/-- Is the answer decided outside the block: by a region's fabric, or by another device? -/
def Outstanding.outside (o : Outstanding) : Bool := o.away || (regionOf o.dst).isSome

/-- A response in transit between two seam ports (R653). -/
def State.transit (s : State) (p : NocResponse) (kind : PacketKind) (status : Nat) (d : List Byte) : State :=
  let q := exitPort s.devId p.dev.val
  if (portOf p.src.val).any s.seamLive ∧ p.dev.val ≠ s.devId ∧ s.seamLive q then
    s.sendPacket q { kind := kind, src := p.src.val, dst := seamEndpoint q, dev := p.dev.val, status := status, tag := p.tag.toNat,
                     len := d.length, data := d }
  else s

/-- Does a response travel back now? Not while an invalidate of its write is unanswered (R598), and not
over a FAILED link; a request that waits before one (destination 240) is never answered (R589). -/
def State.returns (s : State) (o : Outstanding) : Bool :=
  decide (o.dst < 240) && !s.noc.locked.any (fun e => e.write == some (o.src, o.dev, o.tag)) && !s.wayFailed (route o.dst o.src)

/-- A response travels back to its source, which takes it where it arrives (`take`). -/
def State.sendBack (s : State) (o : Outstanding) (code : Nat) (d : List Byte) (l : List LinkFault) (take : State → State) : State :=
  if s.returns o then
    let p := o.response code (if code = rOk then d else [])
    let t := (s.inject p).linkFaults (route o.dst o.src) p l
    if t.returns o then take t else t
  else s

/-- RESP (R574): a completion, or an error response. -/
def execResp (p : NocResponse) (status : BitVec 4) (s : State) : Host.Outcome State Fault Refusal :=
  match s.outOf p.src.val p.dev.val p.tag.toNat with
  | none => .next (s.transit p .resp status.toNat [])
  | some o =>
    let code := match o.answer with
      | some (c, _) => some c
      | none => if o.outside ∧ status.toNat ≤ 9 then some status.toNat else none
    match code with
    | none => .next s
    | some c =>
      if o.read ∧ c = rOk then .next s
      else
        let d := if o.read then zeros o.len else []
        .next (s.sendBack o c [] p.faults (fun t => t.delivered o c d))

/-- R597, R599: the lines of another member's window that a read brought are stored. -/
def State.storeAway (s : State) (o : Outstanding) (d : List Byte) (key : Nat) : State :=
  match (if o.src = gafferEndpoint then some 48 else regionOf o.src) with
  | some u =>
    if !o.store then s
    else forEach (numbered (globalLines o.addr o.len)) (fun ix t =>
      t.insertLine ⟨u, ix.2, key, (d.drop (64 * ix.1)).take 64⟩) s
  | none => s

/-- DATA (R574): data with STATUS OK. A read of another member's window brings whole lines, with their key identifier. -/
def execData (p : NocResponse) (data : List Byte) (key : BitVec 4) (s : State) : Host.Outcome State Fault Refusal :=
  match s.outOf p.src.val p.dev.val p.tag.toNat with
  | none => .next (s.transit p .data rOk data)
  | some o =>
    let whole := fit (64 * (globalLines o.addr o.len).length) data
    let got := match o.answer with
      | some (c, d) => if c = rOk then some d else none
      | none => if !o.outside then none else if o.store then some ((whole.drop (o.addr % 64)).take o.len) else some (fit o.len data)
    match got with
    | none => .next s
    | some d =>
      if !o.read then .next s
      else .next (s.sendBack o rOk d p.faults (fun t => (t.storeAway o whole key.toNat).delivered o rOk d))

/-- A source gives up a request (R593): TIMEOUT; a later response finds nothing. -/
def State.timedOut (s : State) (o : Outstanding) : State :=
  ((s.delivered o rTimeout (if o.read then zeros o.len else [])).bump (R.NC_EP_ERRS_TIMEOUT o.src)).raise 269

/-- REQUEST_TIMEOUT (R593). -/
def execRequestTimeout (p : NocResponse) (s : State) : Host.Outcome State Fault Refusal :=
  match s.outOf p.src.val p.dev.val p.tag.toNat with
  | some o => .next (if o.away then s else s.timedOut o)
  | none => .next s

/-- ARRAY_REQUEST_TIMEOUT (R656). -/
def execArrayRequestTimeout (p : NocResponse) (s : State) : Host.Outcome State Fault Refusal :=
  match s.outOf p.src.val p.dev.val p.tag.toNat with
  | some o => .next (if o.away then s.timedOut o else s)
  | none => .next s

/-! ### Host completions (R833) -/

/-- The answer of an aperture request that the host has not completed yet. -/
def State.hostAnswer (s : State) (p : NocResponse) (code : Nat) (d : List Byte) : Option State :=
  match s.outOf p.src.val p.dev.val p.tag.toNat with
  | some o =>
    if o.dst = hostEndpoint ∧ o.answer.isNone ∧ !o.away then
      some { s with noc := { s.noc with out := s.noc.out.map (fun x => if x = o then { o with answer := some (code, fit o.len d) } else x) } }
    else none
  | none => none

/-- HOST_COMPLETION_ARRIVAL (R833). -/
def execHostCompletionArrival (p : NocResponse) (outcome : HostCompletion) (s : State) : Host.Outcome State Fault Refusal :=
  match outcome.outcome with
  | .ok => .next ((s.hostAnswer p rOk outcome.data).getD s)
  | .poisoned => .next ((s.hostAnswer p rIntegrity []).elim s (fun t => t.bump R.HP_ERR2_POISONED))
  | .refused => .next ((s.hostAnswer p rUnmapped []).getD s)
  | .timeout => .next ((s.hostAnswer p rTimeout []).elim s (fun t => t.bump R.HP_ERR2_TIMEOUTS))

/-- HOST_COMPLETION_TIMEOUT (R833): no completion within 32 µs. -/
def execHostCompletionTimeout (p : NocResponse) (s : State) : Host.Outcome State Fault Refusal :=
  .next ((s.hostAnswer p rTimeout []).elim s (fun t => t.bump R.HP_ERR2_TIMEOUTS))

/-! ### Snoops (R598, R599, R661) -/

/-- The caching units (R596). -/
def cachingUnits : List Nat := List.range 49

/-- The endpoint of a caching unit. -/
def unitEndpoint (u : Nat) : Nat := if u < 48 then regionEndpoint u else gafferEndpoint

/-- Where the snoops of a line, or of a key identifier of a device, come from: the channel of the line, the gaffer (log entry 102), or the
seam port toward the other device. -/
def State.snoopSource (s : State) (line : Nat) (key : Option Nat) : Nat :=
  let dev := if key.isSome then line else line / 2 ^ 34
  if dev ≠ s.devId then seamEndpoint (exitPort s.devId dev)
  else if key.isSome then gafferEndpoint else channelEndpoint (s.channelOf (64 * line % 2 ^ 40))

/-- R572, R582: the packet of a snoop to a unit (INV or KEY_DROP), or of its acknowledgement. -/
def State.snoopPacket (s : State) (u line : Nat) (key : Option Nat) (ack : Bool) : Packet :=
  let src := s.snoopSource line key
  let dst := unitEndpoint u
  { kind := if ack then .invAck else if key.isSome then .keyDrop else .inv, pri := 3, src := if ack then dst else src,
    dst := if ack then src else dst, dev := if key.isSome then line else line / 2 ^ 34, len := 64, addr := key.getD (64 * line) }

/-- A snoop reaches its unit, which acknowledges it. -/
def State.snooped (s : State) (u line : Nat) (key : Option Nat) : State :=
  let s := s.inject (s.snoopPacket u line key false)
  let noc := { s.noc with snoops := s.noc.snoops.erase (u, line, key), acks := s.noc.acks ++ [(u, line, key)] }
  ({ s with noc := noc } : State).bump (R.NC_EP_CACHE_INVS (unitEndpoint u))

/-- A peer's snoop reaches the seam port, which passes it to every caching unit (R661). -/
def State.fanOut (s : State) (line : Nat) (key : Option Nat) : State :=
  { s with noc := { s.noc with snoops := s.noc.snoops ++ cachingUnits.map (fun u => (u, line, key)) } }

/-- Does an outstanding read of a unit cover a line? -/
def Outstanding.reads (o : Outstanding) (u line : Nat) : Bool := o.src == unitEndpoint u && (globalLines o.addr o.len).contains line

/-- INV (R599): the unit drops the line; a read of it that is outstanding is delivered but not stored. With no unit: a peer's INV. -/
def execInv (dst : Option (Fin 49)) (line : BitVec 37) (s : State) : Host.Outcome State Fault Refusal :=
  let x := line.toNat
  match dst with
  | some u =>
    if s.noc.snoops.contains (u.val, x, none) then
      let s := (s.snooped u.val x none).dropLines u.val (fun c => c.line == x)
      let out := s.noc.out.map (fun o => if o.reads u.val x then { o with store := false } else o)
      .next { s with noc := { s.noc with out := out } }
    else .next s
  | none => .next (if x / 2 ^ 34 = s.devId then s else s.fanOut x none)

/-- KEY_DROP (R599, R661): the unit drops every line of a device under a key identifier. With no unit: a peer's KEY_DROP. -/
def execKeyDrop (dst : Option (Fin 49)) (dev : Fin 8) (key : BitVec 4) (s : State) : Host.Outcome State Fault Refusal :=
  let k := key.toNat
  match dst with
  | some u =>
    if s.noc.snoops.contains (u.val, dev.val, some k) then
      .next (((s.snooped u.val dev.val (some k)).dropLines u.val (fun c => c.key == k && c.line / 2 ^ 34 == dev.val)).showSlots)
    else .next s
  | none => .next (if dev.val = s.devId then s else s.fanOut dev.val (some k))

/-- R598: a sharer has acknowledged the INV of a line: with the last one the line is unlocked. -/
def State.unlock (s : State) (sharer line : Nat) : State :=
  let l := s.noc.locked.map (fun e => if e.line = line then { e with awaiting := e.awaiting.erase sharer } else e)
  { s with noc := { s.noc with locked := l.filter (fun e => !e.awaiting.isEmpty) } }

/-- INV_ACK (R598, R599, R661). The acknowledgements for a peer are gathered at its seam port and answered once. -/
def execInvAck (sharer : Fin 64) (line : BitVec 37) (key : Option (BitVec 4)) (s : State) : Host.Outcome State Fault Refusal :=
  let b := sharer.val
  let x := line.toNat
  let k := key.map BitVec.toNat
  let item := (b, x, k)
  let dev := if k.isSome then x else x / 2 ^ 34
  let here : Bool := if b ≤ 48 then s.noc.acks.contains item else s.noc.snoops.contains item
  if !here then .next s
  else
    let noc := if b ≤ 48 then { s.noc with acks := s.noc.acks.erase item } else { s.noc with snoops := s.noc.snoops.erase item }
    let s : State := { s with noc := noc }
    let s := if b ≤ 48 then s.inject (s.snoopPacket b x k true) else s
    if dev ≠ s.devId then
      let left := (s.noc.snoops ++ s.noc.acks).any (fun e => e.2 == (x, k))
      let p := exitPort s.devId dev
      .next (if !left && s.seamLive p then s.sendPacket p { s.snoopPacket b x k true with dst := seamEndpoint p } else s)
    else .next (if k.isSome then s.showSlots else s.unlock b x)

/-! ### Endpoint states (R590-R594) -/

/-- ENDPOINT_DEAD (R592): its sink answers what was delivered to it. -/
def execEndpointDead (e : Fin 240) (s : State) : Host.Outcome State Fault Refusal :=
  let k := e.val
  if s.epState k = epOpen ∨ s.epState k = epClosing then
    let open_ (o : Outstanding) : Bool := o.dst == k && o.answer.isNone
    let s := s.bumpBy (R.NC_EP_SUNK_REQUESTS k) ((s.noc.out.filter open_).length)
    let out := s.noc.out.map (fun o => if open_ o then { o with answer := some (rIsolated, []), away := false } else o)
    let s : State := { s with noc := { s.noc with out := out } }
    .next ((((s.put (R.NC_EP_CTRL_OPEN k) 0).put (R.NC_EP_STATUS_STATE k) epDead).put (R.NC_EP_STATUS_DEAD_SEEN k) 1).raise 264)
  else .next s

/-- ENDPOINT_CLOSED (R590, R594): nothing is outstanding in either direction. -/
def execEndpointClosed (e : Fin 240) (s : State) : Host.Outcome State Fault Refusal :=
  let k := e.val
  let busy := s.noc.out.any (fun o => o.src == k || (o.dst == k && o.answer.isNone))
  if s.epState k = epClosing ∧ !busy then
    .next (((s.put (R.NC_EP_STATUS_STATE k) epIsolated).put (R.NC_EP_STATUS_CLOSED_SEEN k) 1).raise 265)
  else .next s

end Sys2Proof.Machine
end

