-- ==== Sys2Proof/Machine/HostPort.lean ====
section
/-!
DEFINITION. Machine/HostPort.lean: the PCI Express host port (R822-R839): resets and link, BAR0, BAR2, DMA.
-/

namespace Sys2Proof.Machine

open Sys2Proof

/-! ### Link, configuration space and resets (R823-R825) -/

/-- HP_LINK shows what the host port holds. -/
def State.showHost (s : State) : State :=
  let h := s.host
  (((s.put R.HP_LINK_DL_UP (b2n h.dlActive)).put R.HP_LINK_BME (b2n h.busMaster)).put R.HP_LINK_MSIX_EN (b2n h.msixEnable)).put
    R.HP_LINK_D3 (b2n h.d3hot)

/-- The link leaves DL_Active. -/
def State.linkDown (s : State) : State :=
  if s.host.dlActive then
    let s : State := { s with host := { s.host with dlActive := false } }
    (((s.put R.HP_LINK_SPEED 0).put R.HP_LINK_WIDTH 0).put R.HP_FLAGS_DOWN_SEEN 1).showHost
  else s

/-- R824: what every reset of the function does. -/
def State.resetHost (s : State) : State :=
  let h := s.host
  let s : State := { s with host := { h with busMaster := false, d3hot := false, msixEnable := false, functionMask := false, msix := [],
                                             pba := 0 } }
  let s := (s.showHost.put R.HP_BAR2_SIZE_LOG2 0x1E).put R.HP_FLAGS_RESET_SEEN 1
  let s := iterate 8 (fun c t =>
    ((t.put (R.HP_DMA_CTRL_EN c) 0).put (R.HP_DMA_CTRL_STATE c) 2).put (R.HP_DMA_CONS_INDEX c) 0) s
  s.resetSource .host

/-- PERST_N_ASSERT (R824). -/
def execPerstNAssert (s : State) : Host.Outcome State Fault Refusal :=
  let s : State := { s with pins := { s.pins with perstN := false }, host := { s.host with ready := false } }
  .next ((s.put R.HP_LINK_PERST_PIN 0).linkDown.resetHost)

/-- PERST_N_RELEASE (R823): the port is ready to train. -/
def execPerstNRelease (s : State) : Host.Outcome State Fault Refusal :=
  let s : State := { s with pins := { s.pins with perstN := true }, host := { s.host with ready := true } }
  .next (s.put R.HP_LINK_PERST_PIN 1)

/-- HOT_RESET (R824): it comes over the link. -/
def execHotReset (s : State) : Host.Outcome State Fault Refusal := if s.host.dlActive then .next s.linkDown.resetHost else .next s

/-- FUNCTION_LEVEL_RESET (R824): the link stays up. -/
def execFunctionLevelReset (s : State) : Host.Outcome State Fault Refusal := if s.host.dlActive then .next s.resetHost else .next s

/-- PCIE_LINK_STATE_CHANGE (R822, R825): the link enters DL_Active at a speed and width, or leaves it. -/
def execPcieLinkStateChange (active : Bool) (speed : Fin 5) (width : Fin 9) (s : State) : Host.Outcome State Fault Refusal :=
  if !active then .next s.linkDown
  else if !s.host.ready ∨ speed.val = 0 ∨ ! [1, 2, 4, 8].contains width.val then .next s
  else
    let t : State := { s with host := { s.host with dlActive := true } }
    .next (((t.put R.HP_LINK_SPEED speed.val).put R.HP_LINK_WIDTH width.val).showHost.sendAllPending)

/-- PCIE_CONFIG_WRITE (R825, R839): with MSI-X Enable at 0 nothing is held pending. -/
def execPcieConfigWrite (busMaster d3hot msixEnable functionMask : Bool) (s : State) : Host.Outcome State Fault Refusal :=
  if !s.host.dlActive then .next s
  else
    let t : State := { s with host := { s.host with busMaster := busMaster, d3hot := d3hot, msixEnable := msixEnable,
                                                    functionMask := functionMask, pba := if msixEnable then s.host.pba else 0 } }
    .next t.showHost.sendAllPending

/-- Does the host reach the BARs? -/
def State.barReachable (s : State) : Bool := s.host.dlActive && !s.host.d3hot

/-! ### BAR0 (R826, R827) -/

/-- A Completer Abort. -/
def State.abort (s : State) (path code : Nat) : State := (s.bump R.HP_ERR_ABORTS).answer path code []

/-- Writes that are discarded. -/
def State.discard (s : State) (n : Nat) : State :=
  if n = 0 then s else (s.bumpBy R.HP_ERR_DISCARDS n).put R.HP_FLAGS_DISCARD_SEEN 1

/-- R569: one word of a region aperture, as the fabric answers it (none: with an error); ISOLATED from a sink. -/
def apertureWord (s : State) (off : Nat) (fabric : Option (BitVec 32)) : State × Nat × Nat :=
  let e := regionEndpoint ((off - 0xC00000) / 0x10000)
  if s.epState e ≠ epOpen then (s.bump (R.NC_EP_SUNK_REQUESTS e), rIsolated, 0)
  else match fabric with
  | some v => (s, rOk, v.toNat)
  | none => (s, rUnmapped, 0)

/-- The words of a BAR0 read. -/
def bar0Read (s : State) (off dws : Nat) (fabric : List (Option (BitVec 32))) : State × Nat × List Byte :=
  (List.range dws).foldl (fun (acc : State × Nat × List Byte) i =>
    let o := off + 4 * i
    let t_c_v := if inAperture o then apertureWord acc.1 o (fabric.getD i none) else ctlRead acc.1 .host o
    let t := t_c_v.1
    let c := t_c_v.2.1
    let v := t_c_v.2.2
    (t, if acc.2.1 = rOk then c else acc.2.1, acc.2.2 ++ toLE 4 v)) (s, rOk, [])

/-- The words of a BAR0 write, and how many of them fail. -/
def bar0Write (s : State) (off dws : Nat) (words : List (BitVec 32)) (fabric : List (Option (BitVec 32))) : State × Nat :=
  (List.range dws).foldl (fun (acc : State × Nat) i =>
    let o := off + 4 * i
    let t_c := if inAperture o then
        let r := apertureWord acc.1 o (fabric.getD i none)
        (r.1, r.2.1)
      else ctlWrite acc.1 .host o (words.getD i 0).toNat
    let t := t_c.1
    let c := t_c.2
    (t, acc.2 + b2n (c != rOk))) (s, 0)

/-- BAR0_REQUEST (R827): 1-16 DW with every byte enable set; `fabric` is what a region's completer answers for each word that lies in
an aperture. -/
def execBar0Request (off : BitVec 24) (dws : Fin 64) (enables : Bool) (write : Option (List (BitVec 32)))
    (fabric : List (Option (BitVec 32))) (s : State) : Host.Outcome State Fault Refusal :=
  let o := off.toNat
  let n := dws.val
  let ok : Bool := enables && decide (1 ≤ n) && decide (n ≤ 16) && o % 4 == 0 && decide (o + 4 * n ≤ 2 ^ 24)
  if !s.barReachable then .next s
  else match write with
  | some w =>
    if ok then
      let t_bad := bar0Write s o n w fabric
      let t := t_bad.1
      let bad := t_bad.2
      .next (t.discard bad)
    else .next (s.discard 1)
  | none =>
    if ok then
      let t_code_d := bar0Read s o n fabric
      let t := t_code_d.1
      let code := t_code_d.2.1
      let d := t_code_d.2.2
      .next (if code = rOk then t.answer 0 rOk d else t.abort 0 code)
    else .next (s.abort 0 rMalformed)

/-! ### Local requests of the host port (R570, R831, R837) -/

/-- The pieces (offset, length) of `n` bytes at `a`, none across a boundary of `size` bytes. -/
def splitAtBounds (size a n : Nat) : List (Nat × Nat) :=
  if n = 0 then []
  else (List.range ((a + n - 1) / size - a / size + 1)).map (fun i =>
    let lo := max a ((a / size + i) * size)
    let hi := min (a + n) ((a / size + i + 1) * size)
    (lo - a, hi - lo))

/-- The host's identity (R567). -/
def hostIssuer : Issuer := { ident := 0xF2 }

/-- R567, R582, R584: the packet of a request of the host port. -/
def hostPacket (s : State) (a n : Nat) (act : Access) (dst : Nat) : Packet :=
  { kind := act.kind, pri := s.priOf hostEndpoint 0, rsv := s.reserved hostEndpoint dst n, src := hostEndpoint, dst := dst, dev := s.devId, ident := 0xF2, ident2 := 0xFF,
    len := n, addr := a, data := match act with
      | .write b => b
      | _ => [] }

/-- R589, R593: a request of the host port whose way, there or back, crosses a FAILED link is answered TIMEOUT at its source. -/
def State.hostTimeout (s : State) (n : Nat) : State × Nat × List Byte :=
  ((s.bump (R.NC_EP_ERRS_TIMEOUT hostEndpoint)).raise 269, rTimeout, zeros n)

/-- One request of the host port; what another device, the host or a region's fabric answers is `remote`. -/
def hostRequest (s : State) (a n : Nat) (act : Access) (remote : Option (BitVec 4 × List Byte)) : State × Nat × List Byte :=
  let l := a % 2 ^ 40
  let t := targetOf s a n
  let e := targetEndpoint s t l
  let k := hostPacket s a n act e
  let far := remote.elim (rTimeout, []) (fun r => (r.1.toNat, r.2))
  if s.epState hostEndpoint ≠ epOpen then (s, rIsolated, zeros n)
  else if !wellFormedRequest l n false then (s, rMalformed, zeros n)
  else if t = .nowhere then (s, rUnmapped, zeros n)
  else match t with
  | .away p =>
    if !s.seamLive p then (s, rUnmapped, zeros n)
    else if s.wayFailed k.ways then (s.inject k).hostTimeout n
    else ((s.inject k).sendPacket p k, far.1, fit n far.2)
  | _ =>
    let u := s.inject k
    if s.epState e = 0 then (s, rUnmapped, zeros n)
    else if s.wayFailed k.ways then u.hostTimeout n
    else if s.epState e ≠ epOpen then (u.bump (R.NC_EP_SUNK_REQUESTS e), rIsolated, zeros n)
    else match t with
    | .aperture _ => (u, far.1, fit n far.2)
    | .host => if s.has R.HP_APER_CTRL_EN && s.hostReachable then (u, far.1, fit n far.2) else (u, rUnmapped, zeros n)
    | _ => perform u hostIssuer t a n act none

/-! ### BAR2 (R828-R832) -/

/-- The enabled window that holds an access whole. -/
def State.barWindow (s : State) (off n : Nat) : Option Nat :=
  (List.range 8).find? (fun w => s.has (R.HP_WIN_LOCAL_EN w) && decide (2 ^ 20 * s.get (R.HP_WIN_OFFSET_OFFSET_MIB w) ≤ off)
    && decide (off + n ≤ 2 ^ 20 * (s.get (R.HP_WIN_OFFSET_OFFSET_MIB w) + s.get (R.HP_WIN_SIZE_SIZE_MIB w))))

/-- The global address that a window gives an offset. -/
def State.barAddress (s : State) (w off : Nat) : Nat :=
  2 ^ 40 * s.devId + 2 ^ 20 * s.get (R.HP_WIN_LOCAL_BASE_MIB w) + (off - 2 ^ 20 * s.get (R.HP_WIN_OFFSET_OFFSET_MIB w))

/-- The requests of a BAR2 read: a failing one but for INTEGRITY decides the completion. -/
def bar2Read (s : State) (a n : Nat) : State × Nat × List Byte :=
  (splitAtBounds 256 a n).foldl (fun (acc : State × Nat × List Byte) p =>
    let t_c_d := hostRequest acc.1 (a + p.1) p.2 .read none
    let t := t_c_d.1
    let c := t_c_d.2.1
    let d := t_c_d.2.2
    (t, if acc.2.1 = rOk ∨ (acc.2.1 = rIntegrity ∧ c ≠ rOk) then c else acc.2.1, acc.2.2 ++ d)) (s, rOk, [])

/-- The requests of a BAR2 write, and whether one failed. -/
def bar2Write (s : State) (a : Nat) (b : List Byte) : State × Bool :=
  (splitAtBounds 256 a b.length).foldl (fun (acc : State × Bool) p =>
    let t_c := hostRequest acc.1 (a + p.1) p.2 (.write ((b.drop p.1).take p.2)) none
    let t := t_c.1
    let c := t_c.2.1
    (t, acc.2 || c != rOk)) (s, false)

/-- BAR2_ACCESS (R831). An access to a line that is locked waits (R598). -/
def execBar2Access (off : BitVec 36) (len : BitVec 13) (write : Option (List Byte)) (s : State) : Host.Outcome State Fault Refusal :=
  let o := off.toNat
  let n := len.toNat
  if !s.barReachable ∨ n = 0 ∨ 2 ^ s.get R.HP_BAR2_SIZE_LOG2 < o + n then .next s
  else match s.barWindow o n, write with
  | none, none => .next (s.abort 1 rUnmapped)
  | none, some _ => .next (s.discard 1)
  | some w, none =>
    let a := s.barAddress w o
    if s.mustWait a n false then .next s
    else
      let t_code_d := bar2Read s a n
      let t := t_code_d.1
      let code := t_code_d.2.1
      let d := t_code_d.2.2
      .next (if code = rOk ∨ code = rIntegrity then t.answer 1 code d else t.abort 1 code)
  | some w, some b =>
    let a := s.barAddress w o
    if s.has (R.HP_WIN_LOCAL_READ_ONLY w) then .next (s.discard 1)
    else if s.mustWait a n true then .next s
    else
      let t_bad := bar2Write s a (fit n b)
      let t := t_bad.1
      let bad := t_bad.2
      .next (if bad then t.discard 1 else t)

/-- BAR2_RESIZE (R828, R832): 256 MiB to 64 GiB (32 GiB on LF96-48); windows beyond the new size are disabled. -/
def execBar2Resize (log2 : Fin 64) (s : State) : Host.Outcome State Fault Refusal :=
  let k := log2.val
  if !s.host.dlActive ∨ k < 28 ∨ (if s.is48 then 35 else 36) < k then .next s
  else .next (iterate 8 (fun w t =>
    if 2 ^ (k - 20) < t.get (R.HP_WIN_OFFSET_OFFSET_MIB w) + t.get (R.HP_WIN_SIZE_SIZE_MIB w) then t.put (R.HP_WIN_LOCAL_EN w) 0 else t)
    (s.put R.HP_BAR2_SIZE_LOG2 k))

/-! ### DMA (R834-R837) -/

/-- The state of a transfer: the next state, the first failing code, the bytes moved to the host, the remote answers left. -/
structure DmaRun where
  next : State
  code : Nat := 0
  data : List Byte := []
  remote : List (BitVec 4 × List Byte)

/-- Does a request of the transfer need a remote answer? -/
def needsRemote (s : State) (a n : Nat) : Bool :=
  match targetOf s a n with
  | .away p => s.seamLive p
  | .aperture _ => true
  | .host => true
  | _ => false

/-- R836, R837: the local requests of a descriptor, in address order, up to the first that fails; of one line each, so that what lies
before a failing line is transferred and nothing after it. -/
def dmaLocal (s : State) (a n : Nat) (write : Option (List Byte)) (remote : List (BitVec 4 × List Byte)) : DmaRun :=
  (splitAtBounds 64 a n).foldl (fun (r : DmaRun) p =>
    if r.code ≠ rOk then r
    else
      let x := a + p.1
      let act : Access := match write with
        | some b => .write ((b.drop p.1).take p.2)
        | none => .read
      let far := needsRemote r.next x p.2
      let t_c_d := hostRequest r.next x p.2 act (if far then r.remote.head? else none)
      let t := t_c_d.1
      let c := t_c_d.2.1
      let d := t_c_d.2.2
      { next := t, code := c, data := if c = rOk ∧ write.isNone then r.data ++ d else r.data,
        remote := if far then r.remote.drop 1 else r.remote }) { next := s, remote := remote }

/-- R835: CODE of what the host answers. -/
def hostCode (o : HostOutcome) : Nat :=
  match o with
  | .ok => 0
  | .refused => 0x10
  | .poisoned => 0x11
  | .timeout => 0x12

/-- R856: the host's errors count. -/
def State.hostErrors (s : State) (o : HostOutcome) : State :=
  match o with
  | .poisoned => s.bump R.HP_ERR2_POISONED
  | .timeout => s.bump R.HP_ERR2_TIMEOUTS
  | _ => s

/-- The transfer of a descriptor: DIR 0 from the host, DIR 1 to it. -/
def dmaTransfer (s : State) (d : DmaDescriptor) (fromHost : HostCompletion) (remote : List (BitVec 4 × List Byte)) : DmaRun :=
  let a := d.loc.toNat % 2 ^ 43
  let n := d.len.toNat
  if bit d.flags.toNat 0 then dmaLocal s a n none remote
  else
    let have_ := if fromHost.outcome = .ok then n else min n fromHost.data.length
    let r := dmaLocal s a have_ (some (fit have_ fromHost.data)) remote
    if r.code = rOk then { r with next := r.next.hostErrors fromHost.outcome, code := hostCode fromHost.outcome } else r

/-- DMA_DESCRIPTOR_COMPLETE (R834-R836): the descriptor at CONS is performed and written back. Answer path 8 + c shows its CODE and
what it sends to the host. -/
def execDmaDescriptorComplete (c : Fin 8) (d : DmaDescriptor) (fromHost : HostCompletion) (remote : List (BitVec 4 × List Byte))
    (s : State) : Host.Outcome State Fault Refusal :=
  let k := c.val
  if s.get (R.HP_DMA_CTRL_STATE k) ≠ 1 ∨ !s.hostReachable ∨ s.mustWait (d.loc.toNat % 2 ^ 43) d.len.toNat (!bit d.flags.toNat 0) then .next s
  else
    let r := dmaTransfer s d fromHost remote
    let t := (r.next.answer (8 + k) r.code r.data).put (R.HP_DMA_CONS_INDEX k) (s.get (R.HP_DMA_CONS_INDEX k) + 1)
    let halted := r.code != 0
    let t := if halted then (t.put (R.HP_DMA_CTRL_STATE k) 2).put (R.HP_DMA_CTRL_ERR k) r.code else t
    let t := if halted || bit d.flags.toNat 1 then t.msix (t.get (R.HP_DMA_CTRL_VECTOR k)) else t
    .next (t.showDma k)

end Sys2Proof.Machine
end

