-- ==== Sys2Proof/Machine/Boundary.lean ====
section
/-!
DEFINITION. Machine/Boundary.lean: what happens at a turn boundary, in the order of R148, and the firing of schedule
entries (R157-R164).
-/

namespace Sys2Proof.Machine

open Sys2Proof

/-! ### Schedule entries fire (R158, R161-R164) -/

/-- R161: the effect of an entry. -/
def State.fireAction (s : State) (idx : Nat) (e : SchedEntry) : State :=
  if e.action = 8 then ((s.raise 40).put R.TS_SCHED_CODE_CODE e.arg).put R.TS_SCHED_CODE_INDEX idx
  else if !s.running then s
  else if e.action = 2 then s.fireSwitch idx e.target (e.arg % 8) (e.owner == 0xFF)
  else if e.action = 3 then s.closeGate e.target
  else if e.action = 4 then s.openGate e.target
  else if e.action = 5 then s.armTrigger
  else if e.action = 6 then s.startEngine e.target s.tb.now
  else if e.action = 7 then s.startPulse e.target e.arg
  else s

/-- An entry takes a firing: it counts, and it has fired in this turn (R157). -/
def State.countFiring (s : State) (idx : Nat) (e : SchedEntry) : State :=
  { s with tb := { s.tb with sched := tblPut idx { e with fired := 1, left := e.left - 1 } s.tb.sched } }

/-- The entries of this turn that have not fired yet and whose pip is at most `p`. -/
def State.dueEntries (s : State) (p : Nat) : List (Nat × SchedEntry) :=
  s.tb.sched.filter (fun x => x.2.fired == 0 && entryFires x.2 s.tb.turn && decide (x.2.pip ≤ p))

/-- R158: does entry `a` execute before entry `b`? -/
def firesBefore (a b : Nat × SchedEntry) : Bool :=
  decide (a.2.pip < b.2.pip) || (a.2.pip == b.2.pip
    && (decide (a.2.action < b.2.action) || (a.2.action == b.2.action && decide (a.1 < b.1))))

/-- Put an entry in its place in the order of R158. -/
def insertEntry (a : Nat × SchedEntry) : List (Nat × SchedEntry) → List (Nat × SchedEntry)
  | [] => [a]
  | b :: t => if firesBefore a b then a :: b :: t else b :: insertEntry a t

/-- The entries that are due by now execute, in the order of R158. -/
def State.fireDue (s : State) : State :=
  forEach ((s.dueEntries s.tb.pip).foldr insertEntry []) (fun x t => (t.countFiring x.1 x.2).fireAction x.1 x.2) s

/-- R160: the entries whose pip the turn did not reach are missed. -/
def State.missEntries (s : State) : State :=
  forEach (s.tb.sched.filter (fun x => x.2.fired == 0 && entryFires x.2 s.tb.turn))
    (fun x t => ((t.countFiring x.1 x.2).bump R.TS_COUNT_B_MISS).raise 41) s

/-- R157: has the last firing of an entry passed in turn `t`? -/
def entrySpent (e : SchedEntry) (t : Nat) : Bool :=
  (e.count != 0 && e.left == 0) || (e.period == 0 && (e.fired != 0 || entryPassed e t))

/-- R156, R157: the entries whose last firing has passed are freed; the others may fire in the next turn. -/
def State.retireEntries (s : State) : State :=
  let l := (s.tb.sched.filter (fun x => !entrySpent x.2 s.tb.turn)).map (fun x => (x.1, { x.2 with fired := 0 }))
  ({ s with tb := { s.tb with sched := l } }).showSched

/-! ### The turn counter and the flywheel's history (R143, R147, R148) -/

/-- R143: the mean of 16 lengths, rounded to the nearest pip, halves up; 0 until 16 are held. -/
def meanOf (l : List Nat) : Nat := if l.length < 16 then 0 else (l.foldl (· + ·) 0 + 8) / 16

/-- R143: the lengths held become `l`; with 16, LEARNING becomes TRACKING. -/
def State.setHistory (s : State) (l : List Nat) : State :=
  let s := ({ s with tb := { s.tb with history := l } }).setReg R.TS_MEAN_LEN (meanOf l)
  if s.get R.TS_STATUS_FLY_STATE = 1 ∧ l.length = 16 then s.put R.TS_STATUS_FLY_STATE 2 else s

/-- R143: the length of the turn that ends enters the history when it began and ended at real boundaries with the PLL
locked. -/
def State.noteLength (s : State) (real : Bool) (len : Nat) : State :=
  let s := s.setReg R.TS_LAST_LEN len
  if s.tb.beganReal && real && s.has R.TS_STATUS_PIP_LOCK then s.setHistory ((len :: s.tb.history).take 16) else s

/-- The value that the turn counter takes in place of an increment (R147): the common release (R663), a common start (R665),
a load of TB_SET_SOURCE (R170). -/
def State.turnLoad (s : State) : Option Nat :=
  if s.releaseLoads then some 0
  else match s.commonLoad with
    | some t => some t
    | none => s.tb.load

/-- R148, step 1. -/
def State.nextTurn (s : State) (len : Nat) : State :=
  let turn := s.turnLoad.getD (s.tb.turn + 1) % 2 ^ 48
  let loads := s.turnLoad.isSome
  let wraps := !loads && s.tb.turn + 1 == 2 ^ 48
  let s := if s.releaseLoads then ({ s with arr := { s.arr with lastLoad := 0 } }).put R.NC_ARRAY_ALIGNED 1 else s
  let now := s.tb.now + (len - s.tb.pip)
  let gone : PastTurn := ⟨s.tb.turn, s.tb.turnStart, s.has R.TS_STATUS_TURN_SYNTH⟩
  let s := { s with tb := { s.tb with turn := turn, pip := 0, now := now, turnStart := now, load := none,
                                      past := gone :: s.tb.past },
                    gaf := { s.gaf with yieldedNow := [] } }
  let s := if loads then s.raise 42 else s
  if wraps then s.raise 39 else s

/-- R129, R141: the new turn is synthetic when its boundary was inserted, or when the PLL is not locked. -/
def State.markTurn (s : State) (real : Bool) : State :=
  let lock := s.has R.TS_STATUS_PIP_LOCK
  let s := { s with tb := { s.tb with beganReal := real && lock } }
  let s := (s.put R.TS_STATUS_TURN_SYNTH (b2n (!(real && lock)))).put R.TS_STATUS_SRC_REAL (b2n real)
  let s := if real then s else ((s.put R.TS_STATUS_SYNTH_SEEN 1).bump R.TS_COUNT_A_SYNTH).raise 33
  s.raise 32

/-! ### The shadows become active (R148, step 2) -/

/-- R216: a lane for which GU_CONFIGURE or GU_SET_FRAMING has written gather settings (every one of GU_ but LOSSLESS): the frame in
progress is cut. -/
def State.cutGathered (s : State) (es : List Edit) : State :=
  let lanes := (es.filterMap (fun e => match e with
    | .reg off mask _ => if 0x100000 ≤ off ∧ off < 0x101800 ∧ mask ≠ 0x100 then some ((off - 0x100000) / 0x40) else none
    | _ => none)).eraseDups
  forEach lanes (fun n t => t.cutFrame n) s

/-- R595: endpoints whose OPEN has changed open or close. -/
def State.endpointsApply (s old : State) (es : List Edit) : State :=
  forEach ((es.filterMap endpointOf).eraseDups) (fun e t =>
    if old.get (R.NC_EP_CTRL_OPEN e) = t.get (R.NC_EP_CTRL_OPEN e) then t
    else if t.has (R.NC_EP_CTRL_OPEN e) then t.openEndpoint e else t.closeEndpoint e) s

/-- The settings of the turn source, of whose change R143 empties the history. -/
def State.sourceSettings (s : State) : List Nat :=
  [s.get R.TS_CTRL_SOURCE, s.get R.TS_CTRL_PIP_REF, s.get R.TS_CTRL_SYNC_EDGE, s.get R.TS_CTRL_MARKER_LANE,
   s.get R.TS_CTRL_MARKER_K, s.reg R.TS_PERIOD, s.reg R.TS_PPS_DIV, s.reg R.TS_MARKER_PAT, s.reg R.TS_MARKER_MASK]

/-- R131: the latency of the active source; that of a marker lane is a free value from 40 to 90 pips. -/
def State.showLatency (s old : State) : State :=
  let src := s.get R.TS_CTRL_SOURCE
  if src = 2 then
    if old.get R.TS_CTRL_SOURCE = 2 ∧ old.get R.TS_CTRL_MARKER_LANE = s.get R.TS_CTRL_MARKER_LANE then s
    else (s.put R.TS_SRC_LATENCY_LAT (40 + s.peekFree % 51)).drawn
  else s.put R.TS_SRC_LATENCY_LAT (if src = 1 ∨ src = 3 then 8 else 0)

/-- R138, R142, R143: settings of the timebase have become active. -/
def State.timebaseApply (s old : State) : State :=
  let s := s.showLatency old
  let on := s.has R.TS_CTRL_FLY_EN
  let changed := s.sourceSettings != old.sourceSettings
  let s := if changed then { s with tb := { s.tb with ppsLeft := 0 } } else s
  let s := if changed || (on && !old.has R.TS_CTRL_FLY_EN) then s.setHistory [] else s
  let s := if !on then s.put R.TS_STATUS_FLY_STATE 0
    else if changed || !old.has R.TS_CTRL_FLY_EN then s.put R.TS_STATUS_FLY_STATE 1 else s
  -- EV_TURN_SRC_RELOCK (R168): the flywheel leaves HOLDOVER
  if old.get R.TS_STATUS_FLY_STATE = 3 ∧ s.get R.TS_STATUS_FLY_STATE ≠ 3 then s.raise 36 else s

/-- R148, step 2: every shadow becomes active, with what each settings group does then. -/
def State.applyShadows (s : State) (es : List Edit) : State :=
  let s := s.settleBuckets.cutGathered es
  let old := s
  let s := forEach es (fun e t => t.applyShadow e) s
  let s := (((s.endpointsApply old es).timebaseApply old).lanesApply old).fpllApply old
  s.seamsApply old

/-! ### The other edits -/

/-- An edit that is no register takes effect. -/
def State.applyEdit (s : State) (e : Edit) : State :=
  match e with
  | .sched i none => { s with tb := { s.tb with sched := tblDel i s.tb.sched } }
  | .sched i (some x) =>
    let first := if x.rel then (s.tb.turn + x.start) % 2 ^ 48 else x.start
    { s with tb := { s.tb with sched := tblPut i { x with first := first, left := x.count, fired := 0 } s.tb.sched } }
  | .turnLoad t => { s with tb := { s.tb with load := some t } }
  | .queueArm q o => s.armQueue q o
  | .queueStop q cause sealing =>
    let s := s.stopQueue q cause
    if sealing && cause == 7 then s.sealQueue q else s
  | .trigArm => s.armTrigger
  | .trigDisarm => s.disarmTrigger
  | .replayStart k => s.startEngine k s.tb.now
  | .claimFree k => s.dropClaim k
  | .laneClear n => s.clearLane n
  | .unplace id => s.unplaceNow id
  | .bankOwner b o => s.handBank b o
  | .windowLen k len => s.applyWindowLen (k / 8) (k % 8) len
  | .cohWindow k b n en => s.setWindow k b n en
  | _ => s

/-- Lines that wait are tried again (R551). Engines whose stop is due (R318), or whose last character has left (R316), stop, and with the last of them a stop sequence goes on
(R184); AT starts whose instant has come start (R317). -/
def State.startsDue (s : State) : State :=
  let s := s.retryLines.stopsTaken.replayEnds.stopProgress
  forEach (s.rep.engines.filter (fun x => match x.2.at_ with
      | some (t, p) => t != s.tb.turn || decide (p ≤ s.tb.pip)
      | none => false))
    (fun x t => t.startAt x.1) s

/-- R731: LEHR is entered at the boundary, where the mode still allows it. -/
def State.lehrAtTurn (s : State) (es : List Edit) : State :=
  if es.contains .lehr then
    if s.lehrFrom then s.enterLehr else (s.causeIgnored 0x16).endOps 0x0203 stRefusedState 0
  else s

/-- What the gaffer and the units have set for the boundary, once shadows and edits are active. -/
def State.turnWork (s : State) (es : List Edit) : State :=
  let s := s.startsDue.fabricReleases.migrationsAtTurn.fabricSwitches
  let s := (s.startUpAtTurn.commonStartAtTurn.lehrAtTurn es).sliceAtTurn.freeStopped
  s.showSources (2 ^ 96 - 1)

/-- R148: a turn boundary, real or synthetic, which ends a turn of `len` pips. -/
def State.boundary (s : State) (real : Bool) (len : Nat) : State :=
  let s := ((s.missEntries.retireEntries.noteLength real len).nextTurn len).markTurn real
  let es := s.gaf.shadow
  let s := { s with gaf := { s.gaf with shadow := [] } }
  let s := forEach es (fun e t => t.applyEdit e) ((s.applyClassifierEdits es).applyShadows es)
  (s.showSched.turnWork es).fireDue

end Sys2Proof.Machine
end

