-- ==== Sys2Proof/Machine/Turns.lean ====
section
/-!
DEFINITION. Machine/Turns.lean: pips pass; boundaries from the source and the flywheel (R129-R144, R882); the rows of the
timebase and of the schedule's actions.
-/

namespace Sys2Proof.Machine

open Sys2Proof

/-! ### A pip within the turn -/

/-- R150: a burst held since an earlier turn has been written by pip 256; `q` is the pip that the turn now reaches. -/
def State.burstDue (s : State) (q : Nat) : State := if s.tb.pip < 256 ∧ 256 ≤ q then s.writeHeld else s

/-- R368: the events that wait for an event line's next toggle go out. -/
def State.eventLines (s : State) : State := forEach s.evWait (fun l t => if t.lineReady l then t.toggleLine l else t) s

/-- The pip that begins at instant `now`: TRIG_OUT pulses end and timers count down. -/
def State.beginPip (s : State) (now : Nat) : State :=
  ({ s with cap := { s.cap with sampled := false, tout := s.cap.tout.filter (fun e => decide (now < e.2)) } }).countTimers

/-- The turn goes on: the next pip has number `q`; starts and schedule entries that are due act. -/
def State.enterPip (s : State) (q : Nat) : State :=
  if q ≤ s.tb.pip then s
  else
    let now := s.tb.now + (q - s.tb.pip)
    let s := (s.burstDue q).beginPip now
    ({ s with tb := { s.tb with pip := q, now := now } } : State).startsDue.fireDue

/-- The turn ends at the edge that would have begun pip `len` (R133). -/
def State.endTurn (s : State) (real : Bool) (len : Nat) : State :=
  ((s.burstDue len).beginPip (s.tb.now + (len - s.tb.pip))).boundary real len

/-! ### Boundaries -/

/-- W of R144. -/
def State.flyWindow (s : State) : Nat := s.get R.TS_FLY_WINDOW_W

/-- MEAN (R143). -/
def State.flyMean (s : State) : Nat := s.reg R.TS_MEAN_LEN

/-- The pip at which a synthetic boundary is inserted (R140, R144). The pip counter's range bounds it in every state. -/
def State.synthAt (s : State) : Nat :=
  let f := s.get R.TS_STATUS_FLY_STATE
  min (2 ^ 32 - 1) (if f = 2 then s.flyMean + s.flyWindow else if f = 3 then s.flyMean else 2 ^ 32 - 1)

/-- R140, R141, R144: a synthetic boundary; in TRACKING the flywheel enters HOLDOVER. -/
def State.synthetic (s : State) (len : Nat) : State :=
  let s := if s.get R.TS_STATUS_FLY_STATE = 2 then (s.put R.TS_STATUS_FLY_STATE 3).raise 35 else s
  s.endTurn false len

/-- R144: the flywheel returns to TRACKING. -/
def State.relock (s : State) : State := (s.put R.TS_STATUS_FLY_STATE 2).raise 36

/-- R134, R144, R882: a boundary of the source arrives at pip `p`. Where W is above MEAN / 2 the two rows of RELOCK 0 can both hold: the real
boundary is taken (log entry 117). -/
def State.arrive (s : State) (p : Nat) : State :=
  let f := s.get R.TS_STATUS_FLY_STATE
  if s.synthAt ≤ p then (if f = 3 then s.relock else s).endTurn true p
  else if f ≠ 3 then
    if p < 1024 then ((s.bump R.TS_COUNT_A_EARLY).raise 34).enterPip p else s.endTurn true p
  else if !s.has R.TS_CTRL_RELOCK then
    if s.flyMean - s.flyWindow ≤ p ∧ p < s.flyMean ∧ 1024 ≤ p then s.relock.endTurn true p
    else if p < s.flyWindow then s.relock.enterPip p
    else ((s.bump R.TS_COUNT_B_STRAY).raise 37).enterPip p
  else if 1024 ≤ p then s.relock.endTurn true p
  else s.relock.enterPip p

/-- R136: pips between derived boundaries. -/
def State.ppsStep (s : State) : Nat := 1250000000 / s.get R.TS_PPS_DIV_DIV

/-- Does a derived PPS boundary fall at instant `now` (R136)? -/
def State.ppsDue (s : State) (now : Nat) : Bool :=
  s.get R.TS_CTRL_SOURCE == 3 && decide (0 < s.tb.ppsLeft) && decide (s.tb.ppsAt + s.ppsStep ≤ now)

/-- A derived boundary is taken: the next follows it. -/
def State.ppsNext (s : State) (now : Nat) : State :=
  { s with tb := { s.tb with ppsAt := now, ppsLeft := s.tb.ppsLeft - 1 } }

/-- Does the internal generator give a boundary at pip `p` (R131, R135)? -/
def State.periodDue (s : State) (p : Nat) : Bool := s.get R.TS_CTRL_SOURCE == 0 && decide (s.reg R.TS_PERIOD ≤ p)

/-- The pip that runs is sampled by the trigger matrix, unless a row has sampled it; the fabric's clocks have their edges. -/
def State.finishPip (s : State) : State := ((if s.cap.sampled then s else triggerSample s 0).eventLines.fabricEdges.loadPip).fabricTick.sendStart

/-- One pip passes: the turn goes on, or it ends at a boundary of the generator, of PPS subdivision or of the sequencer. -/
def State.tick (s : State) : State :=
  let s := s.finishPip
  let p := s.tb.pip + 1
  let now := s.tb.now + 1
  if s.periodDue p then s.arrive p
  else if s.ppsDue now then (s.ppsNext now).arrive p
  else if s.synthAt ≤ p then s.synthetic p
  else s.enterPip p

/-- `n` pips pass. -/
def State.pass (s : State) (n : Nat) : State := iterate n (fun _ t => t.tick) s

/-- The block with no command waiting: a pip passes once the counters count (R130). -/
def idlePip (s : State) : State := if s.tb.counting then s.tick else s

/-- A boundary of the source arrives `n` pips from now. -/
def State.arriveIn (s : State) (n : Nat) : State :=
  if n = 0 then s.arrive s.tb.pip
  else
    let s := (s.pass (n - 1)).finishPip
    s.arrive (s.tb.pip + 1)

/-- R131: the turn source that is active, while the counters count. -/
def State.sourceIs (s : State) (src : Nat) : Bool := s.tb.counting && s.get R.TS_CTRL_SOURCE == src

/-- SYNC_IN_EDGE (R131): the edge at the balls in pip `pip` gives a boundary 8 pips later. -/
def execSyncInEdge (rising : Bool) (pip : BitVec 32) (s : State) : Host.Outcome State Fault Refusal :=
  if s.sourceIs 1 && (rising != s.has R.TS_CTRL_SYNC_EDGE) then .next (s.arriveIn (pip.toNat + 8 - s.tb.pip)) else .next s

/-- PPS_IN_EDGE (R131, R136, R138): the edge gives a boundary 8 pips later; K - 1 derived ones follow it, in place of those that
would still follow the edge before. K is the one in force once the boundary's settings are active. -/
def execPpsInEdge (pip : BitVec 32) (s : State) : Host.Outcome State Fault Refusal :=
  if s.sourceIs 3 then
    let n := pip.toNat + 8 - s.tb.pip
    let at_ := s.tb.now + n
    let s := s.arriveIn n
    .next (if s.get R.TS_CTRL_SOURCE = 3 then
        { s with tb := { s.tb with ppsAt := at_, ppsLeft := s.get R.TS_PPS_DIV_DIV - 1 } } else s)
  else .next s

/-- R137: does the marker match? In raw mode `word` holds the 32 bits at the offset of the match. -/
def State.markerMatches (s : State) (lane word kflags : Nat) : Bool :=
  let pat := s.reg R.TS_MARKER_PAT
  let mask := s.reg R.TS_MARKER_MASK
  if s.has (R.LN_CTRL_MODE lane) then (word &&& mask) == (pat &&& mask)
  else (List.range 4).all (fun i =>
    bits mask (8 * i) 8 != 0xFF
      || (bits word (8 * i) 8 == bits pat (8 * i) 8 && bit kflags i == bit (s.get R.TS_CTRL_MARKER_K) i))

/-- MARKER_MATCH (R131, R137, R634): the marker's first symbol at the lane's pins in pip `pip`; none counts while the lane's LOCK
is 0. -/
def execMarkerMatch (lane : Fin 96) (word : BitVec 32) (kflags : BitVec 4) (pip : BitVec 32) (s : State) :
    Host.Outcome State Fault Refusal :=
  if s.sourceIs 2 && s.get R.TS_CTRL_MARKER_LANE == lane.val && s.has (R.LN_STATUS_LOCK lane.val)
      && s.markerMatches lane.val word.toNat kflags.toNat then
    .next (s.arriveIn (pip.toNat + s.get R.TS_SRC_LATENCY_LAT - s.tb.pip))
  else .next s

/-- INTERNAL_PERIOD_BOUNDARY (R131, R135): the rest of the period passes, and the generator gives a boundary. -/
def execInternalPeriodBoundary (s : State) : Host.Outcome State Fault Refusal :=
  if s.sourceIs 0 then .next (s.arriveIn (s.reg R.TS_PERIOD - s.tb.pip)) else .next s

/-- PPS_SUBDIVISION_BOUNDARY (R136): the time to the next derived boundary passes. -/
def execPpsSubdivisionBoundary (s : State) : Host.Outcome State Fault Refusal :=
  if s.sourceIs 3 && decide (0 < s.tb.ppsLeft) then
    let at_ := max s.tb.now (s.tb.ppsAt + s.ppsStep)
    .next ((s.ppsNext at_).arriveIn (at_ - s.tb.now))
  else .next s

/-- The turn runs to the pip at which a synthetic boundary is inserted; none is when a boundary of the source came first. -/
def State.runOut (s : State) : State :=
  let n := s.synthAt - s.tb.pip
  if n = 0 then s.synthetic s.tb.pip
  else
    let t := (s.pass (n - 1)).finishPip
    if t.synthAt ≤ t.tb.pip + 1 then t.synthetic (t.tb.pip + 1) else t

/-- SYNTHETIC_BOUNDARY (R140): with the flywheel OFF or LEARNING. -/
def execSyntheticBoundary (s : State) : Host.Outcome State Fault Refusal :=
  if s.tb.counting && decide (s.get R.TS_STATUS_FLY_STATE ≤ 1) then .next s.runOut else .next s

/-- FLYWHEEL_HOLDOVER_ENTRY (R144): in TRACKING. -/
def execFlywheelHoldoverEntry (s : State) : Host.Outcome State Fault Refusal :=
  if s.tb.counting && s.get R.TS_STATUS_FLY_STATE == 2 then .next s.runOut else .next s

/-- HOLDOVER_SYNTHETIC_BOUNDARY (R144): in HOLDOVER. -/
def execHoldoverSyntheticBoundary (s : State) : Host.Outcome State Fault Refusal :=
  if s.tb.counting && s.get R.TS_STATUS_FLY_STATE == 3 then .next s.runOut else .next s

/-! ### The pip PLL (R127-R130) -/

/-- PIP_PLL_LOCK (R130): the PLL locks; at its first lock, in BOOT, the counters begin to count. In POWER-ON it does not run. -/
def execPipPllLock (s : State) : Host.Outcome State Fault Refusal :=
  if s.mode = mPowerOn then .next s
  else
    .next (({ s with tb := { s.tb with counting := true, locks := (s.tb.now, true) :: s.tb.locks } }).put R.TS_STATUS_PIP_LOCK 1)

/-- PIP_PLL_UNLOCK (R129). -/
def execPipPllUnlock (s : State) : Host.Outcome State Fault Refusal :=
  if s.has R.TS_STATUS_PIP_LOCK then
    let s := { s with tb := { s.tb with locks := (s.tb.now, false) :: s.tb.locks } }
    .next (((s.put R.TS_STATUS_PIP_LOCK 0).put R.TS_STATUS_UNLOCK_SEEN 1).raise 38)
  else .next s

/-! ### Schedule rows (R157-R164) -/

/-- An entry comes due: the pips up to its own pass, in which it executes. A row that names an entry of another action, one
that does not fire in this turn, or one that has fired, has no effect. -/
def scheduled (action : Nat) (idx : Fin 4096) (s : State) : Host.Outcome State Fault Refusal :=
  match tblFind idx.val s.tb.sched with
  | some e =>
    if s.tb.counting && e.action == action && entryFires e s.tb.turn && e.fired == 0 then
      .next ((s.pass (e.pip - s.tb.pip)).fireDue)
    else .next s
  | none => .next s

def execSchedCtxSwitch (idx : Fin 4096) (s : State) : Host.Outcome State Fault Refusal := scheduled 2 idx s

def execSchedGateClose (idx : Fin 4096) (s : State) : Host.Outcome State Fault Refusal := scheduled 3 idx s

def execSchedGateOpen (idx : Fin 4096) (s : State) : Host.Outcome State Fault Refusal := scheduled 4 idx s

def execSchedTrigArm (idx : Fin 4096) (s : State) : Host.Outcome State Fault Refusal := scheduled 5 idx s

def execSchedReplayLaunch (idx : Fin 4096) (s : State) : Host.Outcome State Fault Refusal := scheduled 6 idx s

def execSchedTrigOut (idx : Fin 4096) (s : State) : Host.Outcome State Fault Refusal := scheduled 7 idx s

def execSchedEvent (idx : Fin 4096) (s : State) : Host.Outcome State Fault Refusal := scheduled 8 idx s

end Sys2Proof.Machine
end

