-- ==== Sys2Proof/Machine/Serve.lean ====
section
/-!
DEFINITION. Machine/Serve.lean: the event commands (R848-R852), the index of commands, and the gaffer's service of pending requests
(R63, R76).
-/

namespace Sys2Proof.Machine

open Sys2Proof

/-! ### Event commands (R852) -/

/-- R849: how many targets a KIND has. -/
def routeTargets (kind : Nat) : Nat := if kind = 1 then 64 else if kind = 2 then 32 else if kind = 3 then 8 else 1

/-- The route entries of EV_ROUTE_SET. -/
def routeEntries (p : List Byte) : List (List Byte) := entriesOf p 4 4 (le p 0 2)

def routeKind (e : List Byte) : Nat := bits (le e 2 1) 0 2

/-- Is a route entry valid: SOURCE, KIND and EN, TARGET? -/
def routeValid (e : List Byte) : Bool :=
  decide (le e 0 2 < 288) && bits (le e 2 1) 2 5 == 0 && decide (le e 3 1 < routeTargets (routeKind e))

/-- May a mailbox set a route of this kind? -/
def routeAllowed (s : State) (mb kind : Nat) : Bool :=
  if kind = 1 then decide (mb < 4) else if kind = 2 then decide (mb < 8) else if kind = 3 then s.holds mb (claimKey 5 0) else true

/-- EV_ROUTE_SET (0x0E04). -/
def cmdEvRouteSet : Cmd where
  code := 0x0E04
  lenOk := fun r => r.length.toNat == 4 + 4 * le r.payload 0 2
  lenReq := 0xFFFF
  checks := fun s mb r =>
    let p := r.payload
    ((numbered (routeEntries p)).find? (fun x => routeValid x.2 && !routeAllowed s mb (routeKind x.2))).map (fun x => (stNotOwner, x.1))
      :: param 0 (decide (1 ≤ le p 0 2) && decide (le p 0 2 ≤ 288)) :: reserved0 p 2 2
      :: (numbered (routeEntries p)).flatMap (fun (i, e) =>
        [param (4 + 4 * i) (decide (le e 0 2 < 288)), param (6 + 4 * i) (bits (le e 2 1) 2 5 == 0),
         param (7 + 4 * i) (decide (le e 3 1 < routeTargets (routeKind e)))])
  act := fun s _ r =>
    replyOk (forEach (routeEntries r.payload) (fun e t =>
      t.setReg (R.EV_ROUTE (le e 0 2)) (routeKind e + 256 * le e 3 1 + 2 ^ 31 * bits (le e 2 1) 7 1)) s) []

def execEvRouteSet (mb : Fin 16) (req : Request) (s : State) : Host.Outcome State Fault Refusal := commandRow cmdEvRouteSet mb req s

/-- The route entry of a source. -/
def routeEntry (s : State) (i : Nat) : List Byte :=
  toLE 2 i ++ toLE 1 (s.get (R.EV_ROUTE_KIND i) + 128 * s.get (R.EV_ROUTE_EN i)) ++ toLE 1 (s.get (R.EV_ROUTE_TARGET i))

/-- EV_ROUTE_GET (0x0E05). -/
def cmdEvRouteGet : Cmd where
  code := 0x0E05
  lenOk := fun r => r.length.toNat == 4
  lenReq := 4
  checks := fun _ _ r =>
    [param 0 (decide (le r.payload 0 2 < 288)), param 2 (decide (1 ≤ le r.payload 2 2) && decide (le r.payload 2 2 ≤ 288))]
  act := fun s _ r =>
    let first := le r.payload 0 2
    let k := min (le r.payload 2 2) (288 - first)
    replyOk s (toLE 4 k ++ (List.range k).flatMap (fun i => routeEntry s (first + i)))

def execEvRouteGet (mb : Fin 16) (req : Request) (s : State) : Host.Outcome State Fault Refusal := commandRow cmdEvRouteGet mb req s

/-- R852: the report of EV_SNAPSHOT. -/
def eventReport (s : State) : List Byte :=
  (List.range 9).flatMap (fun m => toLE 4 (s.reg (R.EV_STATUS m))) ++ (List.range 288).flatMap (fun i => toLE 2 (s.get (R.EV_COUNT_COUNT i)))

/-- EV_SNAPSHOT (0x0E06). -/
def cmdEvSnapshot : Cmd where
  code := 0x0E06
  lenOk := fun r => r.length.toNat == 4
  lenReq := 4
  checks := fun _ mb r =>
    [failIf (bit (le r.payload 0 1) 0 && ! [0, 1, 2, 3, 8].contains mb) stNotOwner 0xFFFF, param 0 (decide (le r.payload 0 1 < 2)),
     reserved0 r.payload 1 3]
  act := fun s _ r =>
    let t := if bit (le r.payload 0 1) 0 then
        iterate 288 (fun i t => t.put (R.EV_COUNT_COUNT i) 0) (iterate 9 (fun m t => t.setReg (R.EV_STATUS m) 0) s)
      else s
    replyOk t (eventReport s)

def execEvSnapshot (mb : Fin 16) (req : Request) (s : State) : Host.Outcome State Fault Refusal := commandRow cmdEvSnapshot mb req s

/-! ### The index of commands -/

def commands0 : List Cmd :=
  [cmdSysNop, cmdSysGetInfo, cmdSysClaim, cmdSysRelease, cmdSysListClaims, cmdSysOpStatus, cmdSysResetMailbox,
   cmdSysMailboxEnable, cmdModeGet, cmdModeStop, cmdModeResume, cmdModeEnterLehr, cmdModeWake, cmdModeSafeHoldExit,
   cmdModeSetPfailPolicy, cmdModeGetYields, cmdPlcLibraryAdd, cmdPlcLibraryRemove, cmdPlcLibraryList, cmdPlcPlace,
   cmdPlcUnplace, cmdPlcMigrate, cmdPlcReport, cmdPlcSetHints, cmdCtxLoad, cmdCtxSwitchRequest, cmdCtxGroupDefine,
   cmdCtxStatus, cmdCtxScrubStatus, cmdCfgStreamLoad, cmdCfgGetStatus, cmdCqCreate]

def commands1 : List Cmd :=
  [cmdCqDelete, cmdCqArm, cmdCqStop, cmdCqSeal, cmdCqStatus, cmdCqReadIndex, cmdGuConfigure, cmdGuSetFraming, cmdGuStatus,
   cmdCqSetLossless, cmdClKeySet, cmdClExactInsert, cmdClExactDelete, cmdClTernaryWrite, cmdClCountersRead,
   cmdClTableStatus, cmdTgMatrixSet, cmdTgSeqLoad, cmdTgArm, cmdTgDisarm, cmdTgStatus, cmdRpPatternBind, cmdRpConfigure,
   cmdRpStart, cmdRpStop, cmdRpStatus, cmdRpSetUpdaters, cmdRpPassthroughSet, cmdRpSubstituteSet, cmdTbSetSource,
   cmdTbSetFlywheel, cmdTbGetTime]

def commands2 : List Cmd :=
  [cmdTbSchedWrite, cmdTbSchedRead, cmdTbSchedClear, cmdTbStatus, cmdMemAlloc, cmdMemFree, cmdMemMapBar2, cmdMemStatus,
   cmdMemPoisonList, cmdMemRekey, cmdMemScrub, cmdLnConfigure, cmdLnSetRate, cmdLnPower, cmdLnLoopback, cmdLnPrbsSet,
   cmdLnPrbsRead, cmdLnEyeScan, cmdLnStatus, cmdLnInject, cmdThRead, cmdThGetZones, cmdThSetHysteresis, cmdPwReadRails,
   cmdPwGetBudget, cmdPwSetLimit, cmdThResume, cmdScAttest, cmdScGetLifecycle, cmdScSetLifecycle, cmdScPresentCredential,
   cmdScSetAlarmPolicy]

def commands3 : List Cmd :=
  [cmdScZeroise, cmdScLoadOwnerKey, cmdScSetOwnerLock, cmdScStoreReset, cmdUpBegin, cmdUpChunk, cmdUpStatus, cmdUpActivate,
   cmdUpConfirm, cmdUpAbort, cmdUpArrayForward, cmdBtRun, cmdBtSetSchedule, cmdBtStatus, cmdBtResults, cmdBtSetPolicy,
   cmdBtUnitMap, cmdLogRead, cmdLogClear, cmdLogSetLevel, cmdLogGetInfo, cmdEvRouteSet, cmdEvRouteGet, cmdEvSnapshot,
   cmdArDiscover, cmdArStatus, cmdArSetMode, cmdArLinkRekey, cmdArCoherentWindow, cmdArCommonStart]

/-- The command with a code, if the index has one. -/
def commandOf (code : Nat) : Option Cmd := (commands0 ++ commands1 ++ commands2 ++ commands3).find? (fun c => c.code == code)

/-! ### Service (R63, R76) -/

/-- GAFFER_TAKE_REQUEST (R76): the next pending request is taken from its buffer and served. -/
def execGafferTakeRequest (s : State) : Host.Outcome State Fault Refusal :=
  if !s.serving then .next s
  else match nextMailbox s with
  | none => .next s
  | some n =>
    let r := fittedRequest (parseRequest (cellsGet 0 s.mbuf (reqBuf n) 4096))
    .next ((serveRequest (commandOf r.command.toNat) (takeMailbox s n r) n r).debugAlarm s)

end Sys2Proof.Machine
end

