-- ==== Sys2Proof/Machine/Dispatch.lean ====
section
/-! DEFINITION. Machine/Dispatch.lean: one arm per command; each arm is one direct call of the command's meaning. -/

namespace Sys2Proof.Machine

open Sys2Proof

/-- The effect of a command on everything but the queue of waiting commands. -/
def exec (i : Instr) (s : State) : Host.Outcome State Fault Refusal :=
  match i with
  | .mbDoorbellRing mb => Sys2Proof.Machine.execMbDoorbellRing mb s
  | .mbDoorbellCancel mb => Sys2Proof.Machine.execMbDoorbellCancel mb s
  | .mbAck mb => Sys2Proof.Machine.execMbAck mb s
  | .mbCplPop mb => Sys2Proof.Machine.execMbCplPop mb s
  | .gafferTakeRequest => Sys2Proof.Machine.execGafferTakeRequest s
  | .gafferTlBurstDeferred => Sys2Proof.Machine.execGafferTlBurstDeferred s
  | .mailboxSourceReset src => Sys2Proof.Machine.execMailboxSourceReset src s
  | .peerResponseArrival mb resp => Sys2Proof.Machine.execPeerResponseArrival mb resp s
  | .peerCompletionNotice mb tag status => Sys2Proof.Machine.execPeerCompletionNotice mb tag status s
  | .forwardTimeout mb => Sys2Proof.Machine.execForwardTimeout mb s
  | .lockstepMismatch => Sys2Proof.Machine.execLockstepMismatch s
  | .watchdogExpiry => Sys2Proof.Machine.execWatchdogExpiry s
  | .gafferSramUe => Sys2Proof.Machine.execGafferSramUe s
  | .warmRestartComplete => Sys2Proof.Machine.execWarmRestartComplete s
  | .gafferHeartbeatTick => Sys2Proof.Machine.execGafferHeartbeatTick s
  | .sysNop mb req => Sys2Proof.Machine.execSysNop mb req s
  | .sysGetInfo mb req => Sys2Proof.Machine.execSysGetInfo mb req s
  | .sysClaim mb req => Sys2Proof.Machine.execSysClaim mb req s
  | .sysRelease mb req => Sys2Proof.Machine.execSysRelease mb req s
  | .sysListClaims mb req => Sys2Proof.Machine.execSysListClaims mb req s
  | .sysOpStatus mb req => Sys2Proof.Machine.execSysOpStatus mb req s
  | .sysResetMailbox mb req => Sys2Proof.Machine.execSysResetMailbox mb req s
  | .sysMailboxEnable mb req => Sys2Proof.Machine.execSysMailboxEnable mb req s
  | .logRead mb req => Sys2Proof.Machine.execLogRead mb req s
  | .logClear mb req => Sys2Proof.Machine.execLogClear mb req s
  | .logSetLevel mb req => Sys2Proof.Machine.execLogSetLevel mb req s
  | .logGetInfo mb req => Sys2Proof.Machine.execLogGetInfo mb req s
  | .modeGet mb req => Sys2Proof.Machine.execModeGet mb req s
  | .modeStop mb req => Sys2Proof.Machine.execModeStop mb req s
  | .modeResume mb req => Sys2Proof.Machine.execModeResume mb req s
  | .modeEnterLehr mb req => Sys2Proof.Machine.execModeEnterLehr mb req s
  | .modeWake mb req => Sys2Proof.Machine.execModeWake mb req s
  | .modeSafeHoldExit mb req => Sys2Proof.Machine.execModeSafeHoldExit mb req s
  | .modeSetPfailPolicy mb req => Sys2Proof.Machine.execModeSetPfailPolicy mb req s
  | .modeGetYields mb req => Sys2Proof.Machine.execModeGetYields mb req s
  | .fabricStopAckEnd => Sys2Proof.Machine.execFabricStopAckEnd s
  | .pfailNFall => Sys2Proof.Machine.execPfailNFall s
  | .pfailFilterExpiry => Sys2Proof.Machine.execPfailFilterExpiry s
  | .pfailNRise => Sys2Proof.Machine.execPfailNRise s
  | .pfailAutoResume => Sys2Proof.Machine.execPfailAutoResume s
  | .porNLow => Sys2Proof.Machine.execPorNLow s
  | .coreSupplyBelowReset k => Sys2Proof.Machine.execCoreSupplyBelowReset k s
  | .progNLow => Sys2Proof.Machine.execProgNLow s
  | .porNRise cfgMode devId iopull => Sys2Proof.Machine.execPorNRise cfgMode devId iopull s
  | .furnaceQualified => Sys2Proof.Machine.execFurnaceQualified s
  | .railGood k mv => Sys2Proof.Machine.execRailGood k mv s
  | .railOutOfBand k mv => Sys2Proof.Machine.execRailOutOfBand k mv s
  | .railOvervoltageCut k => Sys2Proof.Machine.execRailOvervoltageCut k s
  | .bootSelfTestEnd fails => Sys2Proof.Machine.execBootSelfTestEnd fails s
  | .bootTestWindowTimeout units => Sys2Proof.Machine.execBootTestWindowTimeout units s
  | .configStreamReceived stream => Sys2Proof.Machine.execConfigStreamReceived stream s
  | .streamPassOn len => Sys2Proof.Machine.execStreamPassOn len s
  | .endRecordReceived => Sys2Proof.Machine.execEndRecordReceived s
  | .configChainTimeout => Sys2Proof.Machine.execConfigChainTimeout s
  | .doneSample level => Sys2Proof.Machine.execDoneSample level s
  | .startupTimeout => Sys2Proof.Machine.execStartupTimeout s
  | .cfgStreamLoad mb req => Sys2Proof.Machine.execCfgStreamLoad mb req s
  | .cfgStreamCheckComplete => Sys2Proof.Machine.execCfgStreamCheckComplete s
  | .cfgGetStatus mb req => Sys2Proof.Machine.execCfgGetStatus mb req s
  | .syncInEdge rising pip => Sys2Proof.Machine.execSyncInEdge rising pip s
  | .ppsInEdge pip => Sys2Proof.Machine.execPpsInEdge pip s
  | .markerMatch lane word kflags pip => Sys2Proof.Machine.execMarkerMatch lane word kflags pip s
  | .internalPeriodBoundary => Sys2Proof.Machine.execInternalPeriodBoundary s
  | .ppsSubdivisionBoundary => Sys2Proof.Machine.execPpsSubdivisionBoundary s
  | .syntheticBoundary => Sys2Proof.Machine.execSyntheticBoundary s
  | .flywheelHoldoverEntry => Sys2Proof.Machine.execFlywheelHoldoverEntry s
  | .holdoverSyntheticBoundary => Sys2Proof.Machine.execHoldoverSyntheticBoundary s
  | .pipPllLock => Sys2Proof.Machine.execPipPllLock s
  | .pipPllUnlock => Sys2Proof.Machine.execPipPllUnlock s
  | .schedCtxSwitch idx => Sys2Proof.Machine.execSchedCtxSwitch idx s
  | .schedGateClose idx => Sys2Proof.Machine.execSchedGateClose idx s
  | .schedGateOpen idx => Sys2Proof.Machine.execSchedGateOpen idx s
  | .schedTrigArm idx => Sys2Proof.Machine.execSchedTrigArm idx s
  | .schedReplayLaunch idx => Sys2Proof.Machine.execSchedReplayLaunch idx s
  | .schedTrigOut idx => Sys2Proof.Machine.execSchedTrigOut idx s
  | .schedEvent idx => Sys2Proof.Machine.execSchedEvent idx s
  | .trigOutPulseEnd out => Sys2Proof.Machine.execTrigOutPulseEnd out s
  | .tbSetSource mb req => Sys2Proof.Machine.execTbSetSource mb req s
  | .tbSetFlywheel mb req => Sys2Proof.Machine.execTbSetFlywheel mb req s
  | .tbGetTime mb req => Sys2Proof.Machine.execTbGetTime mb req s
  | .tbSchedWrite mb req => Sys2Proof.Machine.execTbSchedWrite mb req s
  | .tbSchedRead mb req => Sys2Proof.Machine.execTbSchedRead mb req s
  | .tbSchedClear mb req => Sys2Proof.Machine.execTbSchedClear mb req s
  | .tbStatus mb req => Sys2Proof.Machine.execTbStatus mb req s
  | .frameReceived lane chars gu => Sys2Proof.Machine.execFrameReceived lane chars gu s
  | .reinsertedFrame lane frame gu => Sys2Proof.Machine.execReinsertedFrame lane frame gu s
  | .classifierEntryRewrite ternary idx => Sys2Proof.Machine.execClassifierEntryRewrite ternary idx s
  | .dropMarkerWrite lane q => Sys2Proof.Machine.execDropMarkerWrite lane q s
  | .padRecordTimer q => Sys2Proof.Machine.execPadRecordTimer q s
  | .captureLineIntegrity q line => Sys2Proof.Machine.execCaptureLineIntegrity q line s
  | .cqCreate mb req => Sys2Proof.Machine.execCqCreate mb req s
  | .cqDelete mb req => Sys2Proof.Machine.execCqDelete mb req s
  | .cqArm mb req => Sys2Proof.Machine.execCqArm mb req s
  | .cqStop mb req => Sys2Proof.Machine.execCqStop mb req s
  | .cqSeal mb req => Sys2Proof.Machine.execCqSeal mb req s
  | .cqSealComplete mb tag => Sys2Proof.Machine.execCqSealComplete mb tag s
  | .cqStatus mb req => Sys2Proof.Machine.execCqStatus mb req s
  | .cqReadIndex mb req => Sys2Proof.Machine.execCqReadIndex mb req s
  | .guConfigure mb req => Sys2Proof.Machine.execGuConfigure mb req s
  | .guSetFraming mb req => Sys2Proof.Machine.execGuSetFraming mb req s
  | .guStatus mb req => Sys2Proof.Machine.execGuStatus mb req s
  | .cqSetLossless mb req => Sys2Proof.Machine.execCqSetLossless mb req s
  | .clKeySet mb req => Sys2Proof.Machine.execClKeySet mb req s
  | .clExactInsert mb req => Sys2Proof.Machine.execClExactInsert mb req s
  | .clExactDelete mb req => Sys2Proof.Machine.execClExactDelete mb req s
  | .clTernaryWrite mb req => Sys2Proof.Machine.execClTernaryWrite mb req s
  | .clCountersRead mb req => Sys2Proof.Machine.execClCountersRead mb req s
  | .clTableStatus mb req => Sys2Proof.Machine.execClTableStatus mb req s
  | .tgMatrixSet mb req => Sys2Proof.Machine.execTgMatrixSet mb req s
  | .tgSeqLoad mb req => Sys2Proof.Machine.execTgSeqLoad mb req s
  | .tgArm mb req => Sys2Proof.Machine.execTgArm mb req s
  | .tgDisarm mb req => Sys2Proof.Machine.execTgDisarm mb req s
  | .tgStatus mb req => Sys2Proof.Machine.execTgStatus mb req s
  | .trigInEdge pin level => Sys2Proof.Machine.execTrigInEdge pin level s
  | .triggerTransition fabLines => Sys2Proof.Machine.execTriggerTransition fabLines s
  | .triggerTimerExpiry t => Sys2Proof.Machine.execTriggerTimerExpiry t s
  | .triggerCounterLimit c => Sys2Proof.Machine.execTriggerCounterLimit c s
  | .peerTriggerMessage dev k => Sys2Proof.Machine.execPeerTriggerMessage dev k s
  | .rpPatternBind mb req => Sys2Proof.Machine.execRpPatternBind mb req s
  | .rpConfigure mb req => Sys2Proof.Machine.execRpConfigure mb req s
  | .rpStart mb req => Sys2Proof.Machine.execRpStart mb req s
  | .rpStop mb req => Sys2Proof.Machine.execRpStop mb req s
  | .rpStatus mb req => Sys2Proof.Machine.execRpStatus mb req s
  | .rpSetUpdaters mb req => Sys2Proof.Machine.execRpSetUpdaters mb req s
  | .rpPassthroughSet mb req => Sys2Proof.Machine.execRpPassthroughSet mb req s
  | .rpSubstituteSet mb req => Sys2Proof.Machine.execRpSubstituteSet mb req s
  | .replayStartInstant e => Sys2Proof.Machine.execReplayStartInstant e s
  | .patternFetchReturn e lines => Sys2Proof.Machine.execPatternFetchReturn e lines s
  | .recordLaunch e fetchDelayed => Sys2Proof.Machine.execRecordLaunch e fetchDelayed s
  | .replayRecordBoundaryStop e => Sys2Proof.Machine.execReplayRecordBoundaryStop e s
  | .substitutionSlot e chars rdBefore rdAfter => Sys2Proof.Machine.execSubstitutionSlot e chars rdBefore rdAfter s
  | .passthroughResume lane => Sys2Proof.Machine.execPassthroughResume lane s
  | .contextSwitch r => Sys2Proof.Machine.execContextSwitch r s
  | .ctxLoad mb req => Sys2Proof.Machine.execCtxLoad mb req s
  | .ctxSwitchRequest mb req => Sys2Proof.Machine.execCtxSwitchRequest mb req s
  | .ctxGroupDefine mb req => Sys2Proof.Machine.execCtxGroupDefine mb req s
  | .ctxStatus mb req => Sys2Proof.Machine.execCtxStatus mb req s
  | .ctxScrubStatus mb req => Sys2Proof.Machine.execCtxScrubStatus mb req s
  | .configLoadStart => Sys2Proof.Machine.execConfigLoadStart s
  | .configLoadComplete fail => Sys2Proof.Machine.execConfigLoadComplete fail s
  | .scrubFrame r p frame bad pass => Sys2Proof.Machine.execScrubFrame r p frame bad pass s
  | .riserIllegalDecode pair edge => Sys2Proof.Machine.execRiserIllegalDecode pair edge s
  | .mbpAccess sel buffers we addr data => Sys2Proof.Machine.execMbpAccess sel buffers we addr data s
  | .ioDelayLoad io v => Sys2Proof.Machine.execIoDelayLoad io v s
  | .ioDelayInc io both => Sys2Proof.Machine.execIoDelayInc io both s
  | .ioDelayDec io both => Sys2Proof.Machine.execIoDelayDec io both s
  | .plcLibraryAdd mb req => Sys2Proof.Machine.execPlcLibraryAdd mb req s
  | .libraryAddComplete => Sys2Proof.Machine.execLibraryAddComplete s
  | .plcLibraryRemove mb req => Sys2Proof.Machine.execPlcLibraryRemove mb req s
  | .plcLibraryList mb req => Sys2Proof.Machine.execPlcLibraryList mb req s
  | .plcPlace mb req => Sys2Proof.Machine.execPlcPlace mb req s
  | .plcUnplace mb req => Sys2Proof.Machine.execPlcUnplace mb req s
  | .plcMigrate mb req => Sys2Proof.Machine.execPlcMigrate mb req s
  | .bankCopyStart => Sys2Proof.Machine.execBankCopyStart s
  | .bankCopyEnd => Sys2Proof.Machine.execBankCopyEnd s
  | .plcReport mb req => Sys2Proof.Machine.execPlcReport mb req s
  | .plcSetHints mb req => Sys2Proof.Machine.execPlcSetHints mb req s
  | .selfTestDrain kind => Sys2Proof.Machine.execSelfTestDrain kind s
  | .sliceTestEnd fail detail => Sys2Proof.Machine.execSliceTestEnd fail detail s
  | .halt e w cond => Sys2Proof.Machine.execHalt e w cond s
  | .mac e w cond => Sys2Proof.Machine.execMac e w cond s
  | .tapmv e w cond => Sys2Proof.Machine.execTapmv e w cond s
  | .mov e w cond => Sys2Proof.Machine.execMov e w cond s
  | .ld e w cond => Sys2Proof.Machine.execLd e w cond s
  | .st e w cond => Sys2Proof.Machine.execSt e w cond s
  | .loop e w cond => Sys2Proof.Machine.execLoop e w cond s
  | .br e w cond => Sys2Proof.Machine.execBr e w cond s
  | .sync e w cond => Sys2Proof.Machine.execSync e w cond s
  | .ev e w cond => Sys2Proof.Machine.execEv e w cond s
  | .nop e w cond => Sys2Proof.Machine.execNop e w cond s
  | .illegalOpcode e op w => Sys2Proof.Machine.execIllegalOpcode e op w s
  | .teStreamQuadIn e quad => Sys2Proof.Machine.execTeStreamQuadIn e quad s
  | .teRingReadResponse e fail => Sys2Proof.Machine.execTeRingReadResponse e fail s
  | .teRingWriteResponse e fail => Sys2Proof.Machine.execTeRingWriteResponse e fail s
  | .teStallRelease e taken cycles => Sys2Proof.Machine.execTeStallRelease e taken cycles s
  | .teCtrlRestart e => Sys2Proof.Machine.execTeCtrlRestart e s
  | .teCtrlStop e => Sys2Proof.Machine.execTeCtrlStop e s
  | .teRamdataAccess e v who => Sys2Proof.Machine.execTeRamdataAccess e v who s
  | .teRingEnable e out v => Sys2Proof.Machine.execTeRingEnable e out v s
  | .teNinProdWrite e v => Sys2Proof.Machine.execTeNinProdWrite e v s
  | .teNoutConsWrite e v => Sys2Proof.Machine.execTeNoutConsWrite e v s
  | .teEvqPop => Sys2Proof.Machine.execTeEvqPop s
  | .smRead c port addr upset stale stalls => Sys2Proof.Machine.execSmRead c port addr upset stale stalls s
  | .smWrite c port addr data be upset stalls => Sys2Proof.Machine.execSmWrite c port addr data be upset stalls s
  | .smPush c port win data stalls => Sys2Proof.Machine.execSmPush c port win data stalls s
  | .smPop c port win upset stalls => Sys2Proof.Machine.execSmPop c port win upset stalls s
  | .smPeek c port win o upset stalls => Sys2Proof.Machine.execSmPeek c port win o upset stalls s
  | .smPoke c port win o data be upset stalls => Sys2Proof.Machine.execSmPoke c port win o data be upset stalls s
  | .smInvalidOp c port => Sys2Proof.Machine.execSmInvalidOp c port s
  | .sbOwnerWrite bank owner who => Sys2Proof.Machine.execSbOwnerWrite bank owner who s
  | .qcPortDataHiWrite q v who => Sys2Proof.Machine.execQcPortDataHiWrite q v who s
  | .qcPortDataLoRead q who upset => Sys2Proof.Machine.execQcPortDataLoRead q who upset s
  | .qcWinCfgWrite q win v who => Sys2Proof.Machine.execQcWinCfgWrite q win v who s
  | .sramScrubWord bank upset => Sys2Proof.Machine.execSramScrubWord bank upset s
  | .stackLineRead line errs recordBad => Sys2Proof.Machine.execStackLineRead line errs recordBad s
  | .stackLineWrite line off bytes errs => Sys2Proof.Machine.execStackLineWrite line off bytes errs s
  | .channelRetrainFail ch => Sys2Proof.Machine.execChannelRetrainFail ch s
  | .sweepPage recordBad => Sys2Proof.Machine.execSweepPage recordBad s
  | .slotZeroise slot => Sys2Proof.Machine.execSlotZeroise slot s
  | .patrolScrubLine line errs => Sys2Proof.Machine.execPatrolScrubLine line errs s
  | .memScrubComplete => Sys2Proof.Machine.execMemScrubComplete s
  | .memAlloc mb req => Sys2Proof.Machine.execMemAlloc mb req s
  | .memFree mb req => Sys2Proof.Machine.execMemFree mb req s
  | .memMapBar2 mb req => Sys2Proof.Machine.execMemMapBar2 mb req s
  | .memStatus mb req => Sys2Proof.Machine.execMemStatus mb req s
  | .memPoisonList mb req => Sys2Proof.Machine.execMemPoisonList mb req s
  | .memRekey mb req => Sys2Proof.Machine.execMemRekey mb req s
  | .memScrub mb req => Sys2Proof.Machine.execMemScrub mb req s
  | .read r => Sys2Proof.Machine.execRead r s
  | .write r posted data => Sys2Proof.Machine.execWrite r posted data s
  | .winPush r win data => Sys2Proof.Machine.execWinPush r win data s
  | .winPop r win => Sys2Proof.Machine.execWinPop r win s
  | .winPeek r win => Sys2Proof.Machine.execWinPeek r win s
  | .winPoke r win data => Sys2Proof.Machine.execWinPoke r win data s
  | .resp p status => Sys2Proof.Machine.execResp p status s
  | .data p data key => Sys2Proof.Machine.execData p data key s
  | .inv dst line => Sys2Proof.Machine.execInv dst line s
  | .keyDrop dst dev key => Sys2Proof.Machine.execKeyDrop dst dev key s
  | .invAck sharer line key => Sys2Proof.Machine.execInvAck sharer line key s
  | .endpointDead e => Sys2Proof.Machine.execEndpointDead e s
  | .requestTimeout p => Sys2Proof.Machine.execRequestTimeout p s
  | .arrayRequestTimeout p => Sys2Proof.Machine.execArrayRequestTimeout p s
  | .endpointClosed e => Sys2Proof.Machine.execEndpointClosed e s
  | .signalDetect lane => Sys2Proof.Machine.execSignalDetect lane s
  | .signalLoss lane => Sys2Proof.Machine.execSignalLoss lane s
  | .cdrLockAcquired lane off => Sys2Proof.Machine.execCdrLockAcquired lane off s
  | .cdrUnlock lane => Sys2Proof.Machine.execCdrUnlock lane s
  | .commaAlign lane comma moved => Sys2Proof.Machine.execCommaAlign lane comma moved s
  | .alignmentLoss lane => Sys2Proof.Machine.execAlignmentLoss lane s
  | .eyeCalibrationDone lane lat => Sys2Proof.Machine.execEyeCalibrationDone lane lat s
  | .quadPllLock q => Sys2Proof.Machine.execQuadPllLock q s
  | .prbsSyncAcquired lane => Sys2Proof.Machine.execPrbsSyncAcquired lane s
  | .prbsSyncLoss lane compared errors => Sys2Proof.Machine.execPrbsSyncLoss lane compared errors s
  | .errorInjection lane => Sys2Proof.Machine.execErrorInjection lane s
  | .eyeScanLaneDone valid counts => Sys2Proof.Machine.execEyeScanLaneDone valid counts s
  | .lnConfigure mb req => Sys2Proof.Machine.execLnConfigure mb req s
  | .lnSetRate mb req => Sys2Proof.Machine.execLnSetRate mb req s
  | .lnPower mb req => Sys2Proof.Machine.execLnPower mb req s
  | .lnLoopback mb req => Sys2Proof.Machine.execLnLoopback mb req s
  | .lnPrbsSet mb req => Sys2Proof.Machine.execLnPrbsSet mb req s
  | .lnPrbsRead mb req => Sys2Proof.Machine.execLnPrbsRead mb req s
  | .lnEyeScan mb req => Sys2Proof.Machine.execLnEyeScan mb req s
  | .lnStatus mb req => Sys2Proof.Machine.execLnStatus mb req s
  | .lnInject mb req => Sys2Proof.Machine.execLnInject mb req s
  | .clockMonitorWindow src n => Sys2Proof.Machine.execClockMonitorWindow src n s
  | .clockNodeSwitch node => Sys2Proof.Machine.execClockNodeSwitch node s
  | .basePllSlewEnd => Sys2Proof.Machine.execBasePllSlewEnd s
  | .fpllRelock n => Sys2Proof.Machine.execFpllRelock n s
  | .refclkMeasured ref count => Sys2Proof.Machine.execRefclkMeasured ref count s
  | .sysclkQualifyTimeout => Sys2Proof.Machine.execSysclkQualifyTimeout s
  | .freqMeterStart c v who => Sys2Proof.Machine.execFreqMeterStart c v who s
  | .freqMeterGateEnd c count => Sys2Proof.Machine.execFreqMeterGateEnd c count s
  | .freqMeterTimeout c => Sys2Proof.Machine.execFreqMeterTimeout c s
  | .gafferPeriodicUpdate u => Sys2Proof.Machine.execGafferPeriodicUpdate u s
  | .avsUrgentRaise tier mv => Sys2Proof.Machine.execAvsUrgentRaise tier mv s
  | .autoClockGate col => Sys2Proof.Machine.execAutoClockGate col s
  | .forcedGateClose unit => Sys2Proof.Machine.execForcedGateClose unit s
  | .gateRefused unit => Sys2Proof.Machine.execGateRefused unit s
  | .pmbAlert addr status failed => Sys2Proof.Machine.execPmbAlert addr status failed s
  | .supplyOkChange level => Sys2Proof.Machine.execSupplyOkChange level s
  | .thermalSample t => Sys2Proof.Machine.execThermalSample t s
  | .sensorSelfTest failed => Sys2Proof.Machine.execSensorSelfTest failed s
  | .throttleStepRise zone => Sys2Proof.Machine.execThrottleStepRise zone s
  | .throttleStepFall zone => Sys2Proof.Machine.execThrottleStepFall zone s
  | .powerReading p => Sys2Proof.Machine.execPowerReading p s
  | .powerStepRise limit => Sys2Proof.Machine.execPowerStepRise limit s
  | .powerStepFall limit => Sys2Proof.Machine.execPowerStepFall limit s
  | .thermalTrip sensor first second => Sys2Proof.Machine.execThermalTrip sensor first second s
  | .thRead mb req => Sys2Proof.Machine.execThRead mb req s
  | .thGetZones mb req => Sys2Proof.Machine.execThGetZones mb req s
  | .thSetHysteresis mb req => Sys2Proof.Machine.execThSetHysteresis mb req s
  | .pwReadRails mb req => Sys2Proof.Machine.execPwReadRails mb req s
  | .pwGetBudget mb req => Sys2Proof.Machine.execPwGetBudget mb req s
  | .pwSetLimit mb req => Sys2Proof.Machine.execPwSetLimit mb req s
  | .thResume mb req => Sys2Proof.Machine.execThResume mb req s
  | .alarmShield => Sys2Proof.Machine.execAlarmShield s
  | .alarmVoltage rail mv => Sys2Proof.Machine.execAlarmVoltage rail mv s
  | .alarmClock => Sys2Proof.Machine.execAlarmClock s
  | .alarmTemperature t => Sys2Proof.Machine.execAlarmTemperature t s
  | .alarmPulseEnd => Sys2Proof.Machine.execAlarmPulseEnd s
  | .zeroiseClearComplete => Sys2Proof.Machine.execZeroiseClearComplete s
  | .scAttest mb req => Sys2Proof.Machine.execScAttest mb req s
  | .attestReportComplete => Sys2Proof.Machine.execAttestReportComplete s
  | .scGetLifecycle mb req => Sys2Proof.Machine.execScGetLifecycle mb req s
  | .scSetLifecycle mb req => Sys2Proof.Machine.execScSetLifecycle mb req s
  | .lifecycleFusesBlown verified => Sys2Proof.Machine.execLifecycleFusesBlown verified s
  | .scPresentCredential mb req => Sys2Proof.Machine.execScPresentCredential mb req s
  | .scSetAlarmPolicy mb req => Sys2Proof.Machine.execScSetAlarmPolicy mb req s
  | .scZeroise mb req => Sys2Proof.Machine.execScZeroise mb req s
  | .scLoadOwnerKey mb req => Sys2Proof.Machine.execScLoadOwnerKey mb req s
  | .ownerKeyLoadComplete verified => Sys2Proof.Machine.execOwnerKeyLoadComplete verified s
  | .scSetOwnerLock mb req => Sys2Proof.Machine.execScSetOwnerLock mb req s
  | .scStoreReset mb req => Sys2Proof.Machine.execScStoreReset mb req s
  | .upBegin mb req => Sys2Proof.Machine.execUpBegin mb req s
  | .upChunk mb req => Sys2Proof.Machine.execUpChunk mb req s
  | .upChunkComplete readBack => Sys2Proof.Machine.execUpChunkComplete readBack s
  | .upStatus mb req => Sys2Proof.Machine.execUpStatus mb req s
  | .upActivate mb req => Sys2Proof.Machine.execUpActivate mb req s
  | .upConfirm mb req => Sys2Proof.Machine.execUpConfirm mb req s
  | .upAbort mb req => Sys2Proof.Machine.execUpAbort mb req s
  | .upArrayForward mb req => Sys2Proof.Machine.execUpArrayForward mb req s
  | .arrayImageChunk idx len sha data readBack => Sys2Proof.Machine.execArrayImageChunk idx len sha data readBack s
  | .upArrayForwardComplete refused => Sys2Proof.Machine.execUpArrayForwardComplete refused s
  | .btRun mb req => Sys2Proof.Machine.execBtRun mb req s
  | .testModeEnd fails => Sys2Proof.Machine.execTestModeEnd fails s
  | .btSetSchedule mb req => Sys2Proof.Machine.execBtSetSchedule mb req s
  | .btStatus mb req => Sys2Proof.Machine.execBtStatus mb req s
  | .btResults mb req => Sys2Proof.Machine.execBtResults mb req s
  | .btSetPolicy mb req => Sys2Proof.Machine.execBtSetPolicy mb req s
  | .btUnitMap mb req => Sys2Proof.Machine.execBtUnitMap mb req s
  | .seamFrameReceived port cls cntOk tagOk ack => Sys2Proof.Machine.execSeamFrameReceived port cls cntOk tagOk ack s
  | .seamNackReceived port cls frames again => Sys2Proof.Machine.execSeamNackReceived port cls frames again s
  | .seamAckTimer port => Sys2Proof.Machine.execSeamAckTimer port s
  | .seamCounterRekey port => Sys2Proof.Machine.execSeamCounterRekey port s
  | .seamKeySwitch port sent => Sys2Proof.Machine.execSeamKeySwitch port sent s
  | .seamTrainingDone port same => Sys2Proof.Machine.execSeamTrainingDone port same s
  | .seamTrainingTimeout port => Sys2Proof.Machine.execSeamTrainingTimeout port s
  | .seamKeyingDone port derived peer => Sys2Proof.Machine.execSeamKeyingDone port derived peer s
  | .seamLaneLockTimeout port lane => Sys2Proof.Machine.execSeamLaneLockTimeout port lane s
  | .commonStartMessage turn => Sys2Proof.Machine.execCommonStartMessage turn s
  | .commonStartConfirm dev ok => Sys2Proof.Machine.execCommonStartConfirm dev ok s
  | .arDiscover mb req => Sys2Proof.Machine.execArDiscover mb req s
  | .arDiscoverComplete answered => Sys2Proof.Machine.execArDiscoverComplete answered s
  | .arStatus mb req => Sys2Proof.Machine.execArStatus mb req s
  | .arSetMode mb req => Sys2Proof.Machine.execArSetMode mb req s
  | .arLinkRekey mb req => Sys2Proof.Machine.execArLinkRekey mb req s
  | .arCoherentWindow mb req => Sys2Proof.Machine.execArCoherentWindow mb req s
  | .arCommonStart mb req => Sys2Proof.Machine.execArCommonStart mb req s
  | .bar0Request off dws enables write fabric => Sys2Proof.Machine.execBar0Request off dws enables write fabric s
  | .bar2Access off len write => Sys2Proof.Machine.execBar2Access off len write s
  | .bar2Resize log2 => Sys2Proof.Machine.execBar2Resize log2 s
  | .perstNAssert => Sys2Proof.Machine.execPerstNAssert s
  | .hotReset => Sys2Proof.Machine.execHotReset s
  | .functionLevelReset => Sys2Proof.Machine.execFunctionLevelReset s
  | .hostApertureRequest r write posted => Sys2Proof.Machine.execHostApertureRequest r write posted s
  | .hostCompletionTimeout p => Sys2Proof.Machine.execHostCompletionTimeout p s
  | .hpDmaProdWrite c v => Sys2Proof.Machine.execHpDmaProdWrite c v s
  | .hpDmaCtrlEnable c v => Sys2Proof.Machine.execHpDmaCtrlEnable c v s
  | .dmaDescriptorComplete c d fromHost remote => Sys2Proof.Machine.execDmaDescriptorComplete c d fromHost remote s
  | .msixUnmask v => Sys2Proof.Machine.execMsixUnmask v s
  | .evRouteSet mb req => Sys2Proof.Machine.execEvRouteSet mb req s
  | .evRouteGet mb req => Sys2Proof.Machine.execEvRouteGet mb req s
  | .evSnapshot mb req => Sys2Proof.Machine.execEvSnapshot mb req s
  | .mspiReadFrame addr words => Sys2Proof.Machine.execMspiReadFrame addr words s
  | .mspiWriteFrame addr words => Sys2Proof.Machine.execMspiWriteFrame addr words s
  | .mspiStatusFrame n => Sys2Proof.Machine.execMspiStatusFrame n s
  | .mspiUnknownFrame first => Sys2Proof.Machine.execMspiUnknownFrame first s
  | .jtagIdcode => Sys2Proof.Machine.execJtagIdcode s
  | .jtagSamplePreload cells => Sys2Proof.Machine.execJtagSamplePreload cells s
  | .jtagExtest => Sys2Proof.Machine.execJtagExtest s
  | .jtagClamp => Sys2Proof.Machine.execJtagClamp s
  | .jtagHighz => Sys2Proof.Machine.execJtagHighz s
  | .jtagBypass => Sys2Proof.Machine.execJtagBypass s
  | .puntySessionBegin => Sys2Proof.Machine.execPuntySessionBegin s
  | .puntyAccess dr => Sys2Proof.Machine.execPuntyAccess dr s
  | .testLogicReset => Sys2Proof.Machine.execTestLogicReset s
  | .debugOpenTimeout => Sys2Proof.Machine.execDebugOpenTimeout s
  | .snapshotRead off who => Sys2Proof.Machine.execSnapshotRead off who s
  | .registerWrite off v who => Sys2Proof.Machine.execRegisterWrite off v who s
  | .fwFaultRestart => Sys2Proof.Machine.execFwFaultRestart s
  | .progNRelease => Sys2Proof.Machine.execProgNRelease s
  | .perstNRelease => Sys2Proof.Machine.execPerstNRelease s
  | .pcieLinkStateChange active speed width => Sys2Proof.Machine.execPcieLinkStateChange active speed width s
  | .pcieConfigWrite busMaster d3hot msixEnable functionMask => Sys2Proof.Machine.execPcieConfigWrite busMaster d3hot msixEnable functionMask s
  | .hostCompletionArrival p outcome => Sys2Proof.Machine.execHostCompletionArrival p outcome s
  | .quadPllUnlock q => Sys2Proof.Machine.execQuadPllUnlock q s
  | .pllLossOfLock pll => Sys2Proof.Machine.execPllLossOfLock pll s
  | .initNHigh => Sys2Proof.Machine.execInitNHigh s
  | .laneCodeError lane viol => Sys2Proof.Machine.execLaneCodeError lane viol s
  | .prbsBitError lane compared => Sys2Proof.Machine.execPrbsBitError lane compared s

end Sys2Proof.Machine
end

