-- ==== Sys2Proof/WellFormed.lean ====
section
/-!
DEFINITION. WellFormed.lean: the form of a command, as one check that can be evaluated: the lengths that a message states agree
with the data it carries.
-/

namespace Sys2Proof

/-- R68: the payload that a request carries is as long as LENGTH says, as far as the buffer holds it (4,064 bytes). -/
def requestOk (r : Request) : Bool := r.payload.length == min r.length.toNat 4064

/-- R69: a response's payload fits its buffer and is whole words. -/
def responseOk (r : Response) : Bool := decide (r.payload.length ≤ 4064) && r.payload.length % 4 == 0

/-- No number twice. -/
def unitsOnce : List Nat → Bool
  | [] => true
  | a :: t => !t.contains a && unitsOnce t

/-- The bad symbols of a codeword: no symbol twice, and each differs from what was stored (its XOR is not 0). -/
def symbolsOk (errs : List (Fin 72 × Byte)) : Bool :=
  unitsOnce (errs.map (fun e => e.1.val)) && errs.all (fun e => e.2 != 0)

/-- R572: a window request carries one word for each 8 bytes of its length. -/
def dataWordsOk (r : NocRequest) (data : List (BitVec 64)) : Bool := 8 * data.length == r.len.toNat

/-- A write carries as much data as its length says; a read carries none. -/
def writeOk {α : Type} (n : Nat) (w : Option (List α)) : Bool :=
  match w with
  | some l => l.length == n
  | none => true

/-- A completion carries at most the data that was asked for. -/
def completionOk (n : Nat) (c : HostCompletion) : Bool := decide (c.data.length ≤ n)

/-- Is a command well-formed: do its operands agree with each other and with the format of its message? What the spec answers to
an operand out of range (BAD_PARAM, MALFORMED, UNMAPPED) is no matter of form: such a command is well-formed and has its effect. -/
def wellFormed : Instr → Bool
  | .mbDoorbellRing _ => true
  | .mbDoorbellCancel _ => true
  | .mbAck _ => true
  | .mbCplPop _ => true
  | .gafferTakeRequest => true
  | .gafferTlBurstDeferred => true
  | .mailboxSourceReset _ => true
  | .peerResponseArrival _ resp => responseOk resp
  | .peerCompletionNotice _ _ _ => true
  | .forwardTimeout _ => true
  | .lockstepMismatch => true
  | .watchdogExpiry => true
  | .gafferSramUe => true
  | .warmRestartComplete => true
  | .gafferHeartbeatTick => true
  | .sysNop _ req => requestOk req
  | .sysGetInfo _ req => requestOk req
  | .sysClaim _ req => requestOk req
  | .sysRelease _ req => requestOk req
  | .sysListClaims _ req => requestOk req
  | .sysOpStatus _ req => requestOk req
  | .sysResetMailbox _ req => requestOk req
  | .sysMailboxEnable _ req => requestOk req
  | .logRead _ req => requestOk req
  | .logClear _ req => requestOk req
  | .logSetLevel _ req => requestOk req
  | .logGetInfo _ req => requestOk req
  | .modeGet _ req => requestOk req
  | .modeStop _ req => requestOk req
  | .modeResume _ req => requestOk req
  | .modeEnterLehr _ req => requestOk req
  | .modeWake _ req => requestOk req
  | .modeSafeHoldExit _ req => requestOk req
  | .modeSetPfailPolicy _ req => requestOk req
  | .modeGetYields _ req => requestOk req
  | .fabricStopAckEnd => true
  | .pfailNFall => true
  | .pfailFilterExpiry => true
  | .pfailNRise => true
  | .pfailAutoResume => true
  | .porNLow => true
  | .coreSupplyBelowReset _ => true
  | .progNLow => true
  | .porNRise _ _ _ => true
  | .furnaceQualified => true
  | .railGood _ _ => true
  | .railOutOfBand _ _ => true
  | .railOvervoltageCut _ => true
  | .bootSelfTestEnd fails => unitsOnce (fails.map (fun f => f.1.toNat))
  | .bootTestWindowTimeout units => unitsOnce (units.map (fun u => u.toNat))
  | .configStreamReceived _ => true
  | .streamPassOn _ => true
  | .endRecordReceived => true
  | .configChainTimeout => true
  | .doneSample _ => true
  | .startupTimeout => true
  | .cfgStreamLoad _ req => requestOk req
  | .cfgStreamCheckComplete => true
  | .cfgGetStatus _ req => requestOk req
  | .syncInEdge _ _ => true
  | .ppsInEdge _ => true
  | .markerMatch _ _ _ _ => true
  | .internalPeriodBoundary => true
  | .ppsSubdivisionBoundary => true
  | .syntheticBoundary => true
  | .flywheelHoldoverEntry => true
  | .holdoverSyntheticBoundary => true
  | .pipPllLock => true
  | .pipPllUnlock => true
  | .schedCtxSwitch _ => true
  | .schedGateClose _ => true
  | .schedGateOpen _ => true
  | .schedTrigArm _ => true
  | .schedReplayLaunch _ => true
  | .schedTrigOut _ => true
  | .schedEvent _ => true
  | .trigOutPulseEnd _ => true
  | .tbSetSource _ req => requestOk req
  | .tbSetFlywheel _ req => requestOk req
  | .tbGetTime _ req => requestOk req
  | .tbSchedWrite _ req => requestOk req
  | .tbSchedRead _ req => requestOk req
  | .tbSchedClear _ req => requestOk req
  | .tbStatus _ req => requestOk req
  | .frameReceived _ line _ => !line.isEmpty
  | .reinsertedFrame _ frame _ => !frame.beats.isEmpty
  | .classifierEntryRewrite _ _ => true
  | .dropMarkerWrite _ _ => true
  | .padRecordTimer _ => true
  | .captureLineIntegrity _ _ => true
  | .cqCreate _ req => requestOk req
  | .cqDelete _ req => requestOk req
  | .cqArm _ req => requestOk req
  | .cqStop _ req => requestOk req
  | .cqSeal _ req => requestOk req
  | .cqSealComplete _ _ => true
  | .cqStatus _ req => requestOk req
  | .cqReadIndex _ req => requestOk req
  | .guConfigure _ req => requestOk req
  | .guSetFraming _ req => requestOk req
  | .guStatus _ req => requestOk req
  | .cqSetLossless _ req => requestOk req
  | .clKeySet _ req => requestOk req
  | .clExactInsert _ req => requestOk req
  | .clExactDelete _ req => requestOk req
  | .clTernaryWrite _ req => requestOk req
  | .clCountersRead _ req => requestOk req
  | .clTableStatus _ req => requestOk req
  | .tgMatrixSet _ req => requestOk req
  | .tgSeqLoad _ req => requestOk req
  | .tgArm _ req => requestOk req
  | .tgDisarm _ req => requestOk req
  | .tgStatus _ req => requestOk req
  | .trigInEdge _ _ => true
  | .triggerTransition _ => true
  | .triggerTimerExpiry _ => true
  | .triggerCounterLimit _ => true
  | .peerTriggerMessage _ _ => true
  | .rpPatternBind _ req => requestOk req
  | .rpConfigure _ req => requestOk req
  | .rpStart _ req => requestOk req
  | .rpStop _ req => requestOk req
  | .rpStatus _ req => requestOk req
  | .rpSetUpdaters _ req => requestOk req
  | .rpPassthroughSet _ req => requestOk req
  | .rpSubstituteSet _ req => requestOk req
  | .replayStartInstant _ => true
  | .patternFetchReturn _ _ => true
  | .recordLaunch _ _ => true
  | .replayRecordBoundaryStop _ => true
  | .substitutionSlot _ _ _ _ => true
  | .passthroughResume _ => true
  | .contextSwitch _ => true
  | .ctxLoad _ req => requestOk req
  | .ctxSwitchRequest _ req => requestOk req
  | .ctxGroupDefine _ req => requestOk req
  | .ctxStatus _ req => requestOk req
  | .ctxScrubStatus _ req => requestOk req
  | .configLoadStart => true
  | .configLoadComplete _ => true
  | .scrubFrame _ _ _ _ _ => true
  | .riserIllegalDecode _ _ => true
  | .mbpAccess _ _ _ _ _ => true
  | .ioDelayLoad _ _ => true
  | .ioDelayInc _ _ => true
  | .ioDelayDec _ _ => true
  | .plcLibraryAdd _ req => requestOk req
  | .libraryAddComplete => true
  | .plcLibraryRemove _ req => requestOk req
  | .plcLibraryList _ req => requestOk req
  | .plcPlace _ req => requestOk req
  | .plcUnplace _ req => requestOk req
  | .plcMigrate _ req => requestOk req
  | .bankCopyStart => true
  | .bankCopyEnd => true
  | .plcReport _ req => requestOk req
  | .plcSetHints _ req => requestOk req
  | .selfTestDrain _ => true
  | .sliceTestEnd _ _ => true
  | .halt _ _ _ => true
  | .mac _ _ _ => true
  | .tapmv _ _ _ => true
  | .mov _ _ _ => true
  | .ld _ _ _ => true
  | .st _ _ _ => true
  | .loop _ _ _ => true
  | .br _ _ _ => true
  | .sync _ _ _ => true
  | .ev _ _ _ => true
  | .nop _ _ _ => true
  | .illegalOpcode _ _ _ => true
  | .teStreamQuadIn _ _ => true
  | .teRingReadResponse _ _ => true
  | .teRingWriteResponse _ _ => true
  | .teStallRelease _ _ _ => true
  | .teCtrlRestart _ => true
  | .teCtrlStop _ => true
  | .teRamdataAccess _ _ _ => true
  | .teRingEnable _ _ _ => true
  | .teNinProdWrite _ _ => true
  | .teNoutConsWrite _ _ => true
  | .teEvqPop => true
  | .smRead _ _ _ _ _ _ => true
  | .smWrite _ _ _ _ _ _ _ => true
  | .smPush _ _ _ _ _ => true
  | .smPop _ _ _ _ _ => true
  | .smPeek _ _ _ _ _ _ => true
  | .smPoke _ _ _ _ _ _ _ _ => true
  | .smInvalidOp _ _ => true
  | .sbOwnerWrite _ _ _ => true
  | .qcPortDataHiWrite _ _ _ => true
  | .qcPortDataLoRead _ _ _ => true
  | .qcWinCfgWrite _ _ _ _ => true
  | .sramScrubWord _ _ => true
  | .stackLineRead _ errs _ => symbolsOk errs
  | .stackLineWrite _ off bytes errs => symbolsOk errs && !bytes.isEmpty && decide (off.val + bytes.length ≤ 64)
  | .channelRetrainFail _ => true
  | .sweepPage _ => true
  | .slotZeroise _ => true
  | .patrolScrubLine _ errs => symbolsOk errs
  | .memScrubComplete => true
  | .memAlloc _ req => requestOk req
  | .memFree _ req => requestOk req
  | .memMapBar2 _ req => requestOk req
  | .memStatus _ req => requestOk req
  | .memPoisonList _ req => requestOk req
  | .memRekey _ req => requestOk req
  | .memScrub _ req => requestOk req
  | .read _ => true
  | .write r _ data => data.length == r.len.toNat
  | .winPush r _ data => dataWordsOk r data
  | .winPop _ _ => true
  | .winPeek _ _ => true
  | .winPoke r _ data => dataWordsOk r data
  | .resp _ _ => true
  | .data _ data _ => !data.isEmpty && decide (data.length ≤ 256)
  | .inv _ _ => true
  | .keyDrop _ _ _ => true
  | .invAck _ _ _ => true
  | .endpointDead _ => true
  | .requestTimeout _ => true
  | .arrayRequestTimeout _ => true
  | .endpointClosed _ => true
  | .signalDetect _ => true
  | .signalLoss _ => true
  | .cdrLockAcquired _ _ => true
  | .cdrUnlock _ => true
  | .commaAlign _ _ _ => true
  | .alignmentLoss _ => true
  | .eyeCalibrationDone _ _ => true
  | .quadPllLock _ => true
  | .prbsSyncAcquired _ => true
  | .prbsSyncLoss _ _ _ => true
  | .errorInjection _ => true
  | .eyeScanLaneDone _ _ => true
  | .lnConfigure _ req => requestOk req
  | .lnSetRate _ req => requestOk req
  | .lnPower _ req => requestOk req
  | .lnLoopback _ req => requestOk req
  | .lnPrbsSet _ req => requestOk req
  | .lnPrbsRead _ req => requestOk req
  | .lnEyeScan _ req => requestOk req
  | .lnStatus _ req => requestOk req
  | .lnInject _ req => requestOk req
  | .clockMonitorWindow _ _ => true
  | .clockNodeSwitch _ => true
  | .basePllSlewEnd => true
  | .fpllRelock _ => true
  | .refclkMeasured _ _ => true
  | .sysclkQualifyTimeout => true
  | .freqMeterStart _ _ _ => true
  | .freqMeterGateEnd _ _ => true
  | .freqMeterTimeout _ => true
  | .gafferPeriodicUpdate _ => true
  | .avsUrgentRaise _ _ => true
  | .autoClockGate _ => true
  | .forcedGateClose _ => true
  | .gateRefused _ => true
  | .pmbAlert _ _ _ => true
  | .supplyOkChange _ => true
  | .thermalSample _ => true
  | .sensorSelfTest _ => true
  | .throttleStepRise _ => true
  | .throttleStepFall _ => true
  | .powerReading _ => true
  | .powerStepRise _ => true
  | .powerStepFall _ => true
  | .thermalTrip _ _ _ => true
  | .thRead _ req => requestOk req
  | .thGetZones _ req => requestOk req
  | .thSetHysteresis _ req => requestOk req
  | .pwReadRails _ req => requestOk req
  | .pwGetBudget _ req => requestOk req
  | .pwSetLimit _ req => requestOk req
  | .thResume _ req => requestOk req
  | .alarmShield => true
  | .alarmVoltage _ _ => true
  | .alarmClock => true
  | .alarmTemperature _ => true
  | .alarmPulseEnd => true
  | .zeroiseClearComplete => true
  | .scAttest _ req => requestOk req
  | .attestReportComplete => true
  | .scGetLifecycle _ req => requestOk req
  | .scSetLifecycle _ req => requestOk req
  | .lifecycleFusesBlown _ => true
  | .scPresentCredential _ req => requestOk req
  | .scSetAlarmPolicy _ req => requestOk req
  | .scZeroise _ req => requestOk req
  | .scLoadOwnerKey _ req => requestOk req
  | .ownerKeyLoadComplete _ => true
  | .scSetOwnerLock _ req => requestOk req
  | .scStoreReset _ req => requestOk req
  | .upBegin _ req => requestOk req
  | .upChunk _ req => requestOk req
  | .upChunkComplete _ => true
  | .upStatus _ req => requestOk req
  | .upActivate _ req => requestOk req
  | .upConfirm _ req => requestOk req
  | .upAbort _ req => requestOk req
  | .upArrayForward _ req => requestOk req
  | .arrayImageChunk _ len _ data _ => data.length == len.toNat
  | .upArrayForwardComplete _ => true
  | .btRun _ req => requestOk req
  | .testModeEnd fails => unitsOnce (fails.map (fun f => f.1.toNat))
  | .btSetSchedule _ req => requestOk req
  | .btStatus _ req => requestOk req
  | .btResults _ req => requestOk req
  | .btSetPolicy _ req => requestOk req
  | .btUnitMap _ req => requestOk req
  | .seamFrameReceived _ _ _ _ _ => true
  | .seamNackReceived _ _ _ _ => true
  | .seamAckTimer _ => true
  | .seamCounterRekey _ => true
  | .seamKeySwitch _ _ => true
  | .seamTrainingDone _ _ => true
  | .seamTrainingTimeout _ => true
  | .seamKeyingDone _ _ _ => true
  | .seamLaneLockTimeout _ _ => true
  | .commonStartMessage _ => true
  | .commonStartConfirm _ _ => true
  | .arDiscover _ req => requestOk req
  | .arDiscoverComplete _ => true
  | .arStatus _ req => requestOk req
  | .arSetMode _ req => requestOk req
  | .arLinkRekey _ req => requestOk req
  | .arCoherentWindow _ req => requestOk req
  | .arCommonStart _ req => requestOk req
  | .bar0Request _ dws _ write fabric => writeOk dws.val write && fabric.length == dws.val
  | .bar2Access _ len write => writeOk len.toNat write
  | .bar2Resize _ => true
  | .perstNAssert => true
  | .hotReset => true
  | .functionLevelReset => true
  | .hostApertureRequest r write _ => writeOk r.len.toNat write
  | .hostCompletionTimeout _ => true
  | .hpDmaProdWrite _ _ => true
  | .hpDmaCtrlEnable _ _ => true
  | .dmaDescriptorComplete _ d fromHost _ => completionOk d.len.toNat fromHost
  | .msixUnmask _ => true
  | .evRouteSet _ req => requestOk req
  | .evRouteGet _ req => requestOk req
  | .evSnapshot _ req => requestOk req
  | .mspiReadFrame _ _ => true
  | .mspiWriteFrame _ words => !words.isEmpty
  | .mspiStatusFrame _ => true
  | .mspiUnknownFrame _ => true
  | .jtagIdcode => true
  | .jtagSamplePreload _ => true
  | .jtagExtest => true
  | .jtagClamp => true
  | .jtagHighz => true
  | .jtagBypass => true
  | .puntySessionBegin => true
  | .puntyAccess _ => true
  | .testLogicReset => true
  | .debugOpenTimeout => true
  | .snapshotRead _ _ => true
  | .registerWrite _ _ _ => true
  | .fwFaultRestart => true
  | .progNRelease => true
  | .perstNRelease => true
  | .pcieLinkStateChange active speed width => !active || (decide (1 ≤ speed.val) && [1, 2, 4, 8].contains width.val)
  | .pcieConfigWrite _ _ _ _ => true
  | .hostCompletionArrival _ outcome => completionOk 256 outcome
  | .quadPllUnlock _ => true
  | .pllLossOfLock _ => true
  | .initNHigh => true
  | .laneCodeError _ _ => true
  | .prbsBitError _ _ => true

end Sys2Proof
end

