-- ==== Sys2Proof/Safety.lean ====
section
/-!
DEFINITION. Safety.lean: the terms in which claims about the device are stated: the canonical form of its sparse memories, what no
command changes, the rows of the mailbox commands and when their own action runs, and what an access leaves alone.
-/

namespace Sys2Proof.Machine

open Sys2Proof

/-! ### Canonical form -/

/-- A table of registers: rising offsets, and no word that equals its reset word. -/
def wordsCanonical (t : Tbl Word) : Prop := tblWf resetWord t = true

/-- A memory whose unlisted bytes read 0. -/
def bytesCanonical (m : List Host.Cell) : Prop := tblWf (fun _ => 0) m = true

/-- The flash, whose unlisted bytes read 0xFF (R782). -/
def flashCanonical (m : List Host.Cell) : Prop := tblWf (fun _ => 0xFF) m = true

/-- Every sparse memory of the device is in canonical form: registers, mailbox buffers, stack memory, SRAM and flash. -/
def State.canonical (s : State) : Prop :=
  wordsCanonical s.regs ∧ bytesCanonical s.mbuf ∧ bytesCanonical s.mem.data ∧ bytesCanonical s.sram.data ∧ flashCanonical s.sec.flash

/-- What stands in fuses that no rule blows after manufacture: the device secret, the Ralheuth credential key, and the revoke bits of
the owner rows (R762, R766). -/
def State.fuses (s : State) : BitVec 256 × BitVec 256 × Nat := (s.sec.deviceSecret, s.sec.ralKey, s.sec.rowsRevoked)

/-- Every command that waits is one that its sender can spell. -/
def State.queueFormed (s : State) : Prop := ∀ c ∈ s.pending, wellFormed c = true

/-- The invariant of a step. -/
def State.Inv (fuses : BitVec 256 × BitVec 256 × Nat) (s : State) : Prop := s.canonical ∧ s.queueFormed ∧ s.fuses = fuses

/-! ### Events and frames -/

/-- The status bit of event source `e` (R848). -/
def State.eventSet (s : State) (e : Nat) : Bool := bit (s.reg (R.EV_STATUS (e / 32))) (e % 32)

/-- Every register whose offset is not among `offs` holds what it held. -/
def sameWords (s t : State) (offs : List Nat) : Prop := ∀ off, off ∉ offs → t.reg off = s.reg off

/-- Everything but the registers, the host port, the event lines, the trigger pulses, and the log is as it was: what raising events and
showing them may not touch. -/
def sameStores (s t : State) : Prop :=
  t.mem = s.mem ∧ t.sram = s.sram ∧ t.mbuf = s.mbuf ∧ t.sec = s.sec ∧ t.noc = s.noc ∧ t.fab = s.fab ∧ t.rep = s.rep ∧ t.te = s.te
    ∧ t.tb = s.tb ∧ t.arr = s.arr ∧ t.phys = s.phys ∧ t.pins = s.pins ∧ t.pending = s.pending

/-! ### The rows of the mailbox commands -/

/-- The row of a mailbox command: the mailbox, the request, the command. -/
def plainRow : Instr → Option (Fin 16 × Request × Cmd)
  | .sysNop mb req => some (mb, req, cmdSysNop)
  | .sysGetInfo mb req => some (mb, req, cmdSysGetInfo)
  | .sysClaim mb req => some (mb, req, cmdSysClaim)
  | .sysRelease mb req => some (mb, req, cmdSysRelease)
  | .sysListClaims mb req => some (mb, req, cmdSysListClaims)
  | .sysOpStatus mb req => some (mb, req, cmdSysOpStatus)
  | .sysResetMailbox mb req => some (mb, req, cmdSysResetMailbox)
  | .sysMailboxEnable mb req => some (mb, req, cmdSysMailboxEnable)
  | .logRead mb req => some (mb, req, cmdLogRead)
  | .logClear mb req => some (mb, req, cmdLogClear)
  | .logSetLevel mb req => some (mb, req, cmdLogSetLevel)
  | .logGetInfo mb req => some (mb, req, cmdLogGetInfo)
  | .modeGet mb req => some (mb, req, cmdModeGet)
  | .modeStop mb req => some (mb, req, cmdModeStop)
  | .modeResume mb req => some (mb, req, cmdModeResume)
  | .modeEnterLehr mb req => some (mb, req, cmdModeEnterLehr)
  | .modeWake mb req => some (mb, req, cmdModeWake)
  | .modeSetPfailPolicy mb req => some (mb, req, cmdModeSetPfailPolicy)
  | .modeGetYields mb req => some (mb, req, cmdModeGetYields)
  | .cfgStreamLoad mb req => some (mb, req, cmdCfgStreamLoad)
  | .cfgGetStatus mb req => some (mb, req, cmdCfgGetStatus)
  | .tbSetSource mb req => some (mb, req, cmdTbSetSource)
  | .tbSetFlywheel mb req => some (mb, req, cmdTbSetFlywheel)
  | .tbGetTime mb req => some (mb, req, cmdTbGetTime)
  | .tbSchedWrite mb req => some (mb, req, cmdTbSchedWrite)
  | .tbSchedRead mb req => some (mb, req, cmdTbSchedRead)
  | .tbSchedClear mb req => some (mb, req, cmdTbSchedClear)
  | .tbStatus mb req => some (mb, req, cmdTbStatus)
  | .cqCreate mb req => some (mb, req, cmdCqCreate)
  | .cqDelete mb req => some (mb, req, cmdCqDelete)
  | .cqArm mb req => some (mb, req, cmdCqArm)
  | .cqStop mb req => some (mb, req, cmdCqStop)
  | .cqSeal mb req => some (mb, req, cmdCqSeal)
  | .cqStatus mb req => some (mb, req, cmdCqStatus)
  | .cqReadIndex mb req => some (mb, req, cmdCqReadIndex)
  | .guConfigure mb req => some (mb, req, cmdGuConfigure)
  | .guSetFraming mb req => some (mb, req, cmdGuSetFraming)
  | .guStatus mb req => some (mb, req, cmdGuStatus)
  | .cqSetLossless mb req => some (mb, req, cmdCqSetLossless)
  | .clKeySet mb req => some (mb, req, cmdClKeySet)
  | .clExactInsert mb req => some (mb, req, cmdClExactInsert)
  | .clExactDelete mb req => some (mb, req, cmdClExactDelete)
  | .clTernaryWrite mb req => some (mb, req, cmdClTernaryWrite)
  | .clCountersRead mb req => some (mb, req, cmdClCountersRead)
  | .clTableStatus mb req => some (mb, req, cmdClTableStatus)
  | .tgMatrixSet mb req => some (mb, req, cmdTgMatrixSet)
  | .tgSeqLoad mb req => some (mb, req, cmdTgSeqLoad)
  | .tgArm mb req => some (mb, req, cmdTgArm)
  | .tgDisarm mb req => some (mb, req, cmdTgDisarm)
  | .tgStatus mb req => some (mb, req, cmdTgStatus)
  | .rpPatternBind mb req => some (mb, req, cmdRpPatternBind)
  | .rpConfigure mb req => some (mb, req, cmdRpConfigure)
  | .rpStart mb req => some (mb, req, cmdRpStart)
  | .rpStop mb req => some (mb, req, cmdRpStop)
  | .rpStatus mb req => some (mb, req, cmdRpStatus)
  | .rpSetUpdaters mb req => some (mb, req, cmdRpSetUpdaters)
  | .rpPassthroughSet mb req => some (mb, req, cmdRpPassthroughSet)
  | .rpSubstituteSet mb req => some (mb, req, cmdRpSubstituteSet)
  | .ctxLoad mb req => some (mb, req, cmdCtxLoad)
  | .ctxSwitchRequest mb req => some (mb, req, cmdCtxSwitchRequest)
  | .ctxGroupDefine mb req => some (mb, req, cmdCtxGroupDefine)
  | .ctxStatus mb req => some (mb, req, cmdCtxStatus)
  | .ctxScrubStatus mb req => some (mb, req, cmdCtxScrubStatus)
  | .plcLibraryAdd mb req => some (mb, req, cmdPlcLibraryAdd)
  | .plcLibraryRemove mb req => some (mb, req, cmdPlcLibraryRemove)
  | .plcLibraryList mb req => some (mb, req, cmdPlcLibraryList)
  | .plcPlace mb req => some (mb, req, cmdPlcPlace)
  | .plcUnplace mb req => some (mb, req, cmdPlcUnplace)
  | .plcMigrate mb req => some (mb, req, cmdPlcMigrate)
  | .plcReport mb req => some (mb, req, cmdPlcReport)
  | .plcSetHints mb req => some (mb, req, cmdPlcSetHints)
  | .memAlloc mb req => some (mb, req, cmdMemAlloc)
  | .memFree mb req => some (mb, req, cmdMemFree)
  | .memMapBar2 mb req => some (mb, req, cmdMemMapBar2)
  | .memStatus mb req => some (mb, req, cmdMemStatus)
  | .memPoisonList mb req => some (mb, req, cmdMemPoisonList)
  | .memRekey mb req => some (mb, req, cmdMemRekey)
  | .memScrub mb req => some (mb, req, cmdMemScrub)
  | .lnConfigure mb req => some (mb, req, cmdLnConfigure)
  | .lnSetRate mb req => some (mb, req, cmdLnSetRate)
  | .lnPower mb req => some (mb, req, cmdLnPower)
  | .lnLoopback mb req => some (mb, req, cmdLnLoopback)
  | .lnPrbsSet mb req => some (mb, req, cmdLnPrbsSet)
  | .lnPrbsRead mb req => some (mb, req, cmdLnPrbsRead)
  | .lnEyeScan mb req => some (mb, req, cmdLnEyeScan)
  | .lnStatus mb req => some (mb, req, cmdLnStatus)
  | .lnInject mb req => some (mb, req, cmdLnInject)
  | .thRead mb req => some (mb, req, cmdThRead)
  | .thGetZones mb req => some (mb, req, cmdThGetZones)
  | .thSetHysteresis mb req => some (mb, req, cmdThSetHysteresis)
  | .pwReadRails mb req => some (mb, req, cmdPwReadRails)
  | .pwGetBudget mb req => some (mb, req, cmdPwGetBudget)
  | .pwSetLimit mb req => some (mb, req, cmdPwSetLimit)
  | .thResume mb req => some (mb, req, cmdThResume)
  | .scAttest mb req => some (mb, req, cmdScAttest)
  | .scGetLifecycle mb req => some (mb, req, cmdScGetLifecycle)
  | .scZeroise mb req => some (mb, req, cmdScZeroise)
  | .scLoadOwnerKey mb req => some (mb, req, cmdScLoadOwnerKey)
  | .upChunk mb req => some (mb, req, cmdUpChunk)
  | .upStatus mb req => some (mb, req, cmdUpStatus)
  | .upActivate mb req => some (mb, req, cmdUpActivate)
  | .upAbort mb req => some (mb, req, cmdUpAbort)
  | .upArrayForward mb req => some (mb, req, cmdUpArrayForward)
  | .btRun mb req => some (mb, req, cmdBtRun)
  | .btStatus mb req => some (mb, req, cmdBtStatus)
  | .btResults mb req => some (mb, req, cmdBtResults)
  | .arDiscover mb req => some (mb, req, cmdArDiscover)
  | .arStatus mb req => some (mb, req, cmdArStatus)
  | .arSetMode mb req => some (mb, req, cmdArSetMode)
  | .arLinkRekey mb req => some (mb, req, cmdArLinkRekey)
  | .arCoherentWindow mb req => some (mb, req, cmdArCoherentWindow)
  | .arCommonStart mb req => some (mb, req, cmdArCommonStart)
  | .evRouteSet mb req => some (mb, req, cmdEvRouteSet)
  | .evRouteGet mb req => some (mb, req, cmdEvRouteGet)
  | .evSnapshot mb req => some (mb, req, cmdEvSnapshot)
  | _ => none

/-- The row of a mailbox command that can raise the debug-credential alarm (R194): the mailbox, the request, the command. -/
def credentialRow : Instr → Option (Fin 16 × Request × Cmd)
  | .modeSafeHoldExit mb req => some (mb, req, cmdModeSafeHoldExit)
  | .scSetLifecycle mb req => some (mb, req, cmdScSetLifecycle)
  | .scPresentCredential mb req => some (mb, req, cmdScPresentCredential)
  | .scSetAlarmPolicy mb req => some (mb, req, cmdScSetAlarmPolicy)
  | .scSetOwnerLock mb req => some (mb, req, cmdScSetOwnerLock)
  | .scStoreReset mb req => some (mb, req, cmdScStoreReset)
  | .upBegin mb req => some (mb, req, cmdUpBegin)
  | .upConfirm mb req => some (mb, req, cmdUpConfirm)
  | .btSetSchedule mb req => some (mb, req, cmdBtSetSchedule)
  | .btSetPolicy mb req => some (mb, req, cmdBtSetPolicy)
  | .btUnitMap mb req => some (mb, req, cmdBtUnitMap)
  | _ => none

/-- The row of any mailbox command, and whether it can raise the debug-credential alarm. -/
def rowOf (i : Instr) : Option (Fin 16 × Request × Cmd × Bool) :=
  match plainRow i, credentialRow i with
  | some (mb, req, c), _ => some (mb, req, c, false)
  | none, some (mb, req, c) => some (mb, req, c, true)
  | none, none => none

/-- After a row that can raise it, the debug-credential alarm has been raised where CRED_FAILS has just reached 3 (R194). -/
def settled (alarm : Bool) (old t : State) : State := if alarm then t.debugAlarm old else t

/-- The mailbox is IDLE, the gaffer serves requests, and no other PENDING mailbox comes first (R76): a request that is written and rung is
taken at once. -/
def State.takesAtOnce (s : State) (mb : Fin 16) : Prop :=
  s.get (R.MB_STATUS_STATE mb.val) = 0 ∧ s.serving = true ∧ nextMailbox (s.put (R.MB_STATUS_STATE mb.val) 1) = some mb.val

/-- The state in which the gaffer has taken a request that its mailbox's source wrote and rang (R60, R63). -/
def requestTaken (s : State) (mb : Fin 16) (r : Request) : State := takeMailbox (ring (writeRequest s mb.val r) mb.val) mb.val r

/-- Checks 1 to 9 of R72, after R74's: the state in which the last of them is made (a credential check leaves a fresh nonce, R769), and
the status and DETAIL of the first that fails. -/
def verdict (c : Cmd) (s : State) (mb : Fin 16) (r : Request) : State × Chk :=
  let t := requestTaken s mb r
  let need := c.creds t mb.val r
  let nonce := if need.isEmpty then t else t.freshNonce mb.val
  if t.has (R.MB_CONFIG_ENABLED mb.val) = false then (t, some (stRefusedState, 0))
  else if r.version ≠ 1 then (t, some (stBadCommand, 0))
  else if (firstFail [checkLen c r, checkHeader t mb.val r]).isSome then (t, firstFail [checkLen c r, checkHeader t mb.val r])
  else if need.isEmpty = false ∧ credOk t mb.val r need = false then
    ((t.authFailed r.credSlot.toNat).freshNonce mb.val, some (stAuthFail, 0))
  else (nonce, firstFail (checksAfterAuth c nonce mb.val r))

/-- The command's own action runs: the request is for this device, every check passes, and CHECK_ONLY is not set. -/
def commandRuns (c : Cmd) (s : State) (mb : Fin 16) (r : Request) : Prop :=
  s.takesAtOnce mb ∧ forwardsTo s r = none ∧ (verdict c s mb r).2 = none ∧ bit r.flags.toNat 0 = false

/-- What a command's own action answers, in the state in which its checks have passed. -/
def actionOf (c : Cmd) (s : State) (mb : Fin 16) (r : Request) : Reply := c.act (verdict c s mb r).1 mb.val r

/-- The state that a command's own action leaves, with the operation it starts outstanding. -/
def actedOn (c : Cmd) (s : State) (mb : Fin 16) (r : Request) : State :=
  match (actionOf c s mb r).op with
  | some o => (actionOf c s mb r).next.startOp o
  | none => (actionOf c s mb r).next

end Sys2Proof.Machine
end

