-- ==== Sys2Proof/Certificates/Slice0/Obligations.lean ====
section
/-!
DEFINITION. Certificates/Slice0/Obligations.lean: the statements for the provers, in the order of OBLIGATIONS.json.
-/

open Sys2Proof Sys2Proof.Machine

/-! ### The machine, registers, events, mailboxes -/

/-- O1. A step with a command at the front of the queue is that command on the state with the queue's rest. -/
def Obligations.StepTakesTheFrontCommand : Prop :=
  ∀ (c : Instr) (rest : List Instr) (s : State), step { s with pending := c :: rest } = exec c { s with pending := rest }

/-- O2. On an empty queue one pip passes (the model's choice, log entry 6). -/
def Obligations.EmptyQueueLetsOnePipPass : Prop := ∀ s : State, s.pending = [] → step s = .next (idlePip s)

/-- O3. No command ends in a fault or a refusal: whatever the state and the operands, a next state is answered. -/
def Obligations.EveryCommandAnswersANextState : Prop := ∀ (i : Instr) (s : State), ∃ t, exec i s = .next t

/-- O4. The invariant of a step: canonical memories, a queue of commands that their senders can spell, and what stands in fuses. -/
def Obligations.EveryStepKeepsTheInvariant : Prop :=
  ∀ (fuses : BitVec 256 × BitVec 256 × Nat) (s t : State), s.Inv fuses → step s = .next t → t.Inv fuses

/-- O5. The invariant holds at reset. -/
def Obligations.ResetMeetsTheInvariant : Prop := State.reset.Inv State.reset.fuses

/-- O6. A field that is written holds the value, cut to its width; every other register, every field apart from it in its own register, and
every memory keep what they held (R14). -/
def Obligations.WritingAFieldWritesThatFieldOnly : Prop :=
  ∀ (s : State) (f : RF) (v : Nat), f.lo + f.w ≤ 32 →
    (s.put f v).get f = v % 2 ^ f.w
      ∧ sameWords s (s.put f v) [f.off]
      ∧ (∀ g : RF, g.off = f.off → g.lo + g.w ≤ f.lo ∨ f.lo + f.w ≤ g.lo → (s.put f v).get g = s.get g)
      ∧ sameStores s (s.put f v) ∧ (s.put f v).host = s.host ∧ (s.put f v).cap = s.cap ∧ (s.put f v).gaf = s.gaf

/-- O7. R368, R848, R849: an event that occurs sets its status bit, counts up to 0xFFFF, and goes out on its route; on an event line that has
toggled within the last 16 ns it waits for the line's next toggle. -/
def Obligations.EventsAreSetCountedAndDelivered : Prop :=
  ∀ (s : State) (e : Nat), e < 288 → s.eventAbsent e = false →
    let t := s.raise e
    let k := s.get (R.EV_ROUTE_KIND e)
    let on := s.has (R.EV_ROUTE_EN e)
    t.eventSet e = true ∧ t.get (R.EV_COUNT_COUNT e) = min (s.get (R.EV_COUNT_COUNT e) + 1) 0xFFFF
      ∧ (∀ f, f < 288 → f ≠ e → t.eventSet f = s.eventSet f)
      ∧ sameWords s t [R.EV_STATUS (e / 32), R.EV_COUNT e]
      ∧ t.evLines = (if on = true ∧ k = 2 ∧ s.lineReady (s.get (R.EV_ROUTE_TARGET e) % 32) = true then
          s.evLines ^^^ 2 ^ (s.get (R.EV_ROUTE_TARGET e) % 32) else s.evLines)
      ∧ (on = true → k = 2 → s.lineReady (s.get (R.EV_ROUTE_TARGET e) % 32) = false →
          t.evWait.contains (s.get (R.EV_ROUTE_TARGET e) % 32) = true)
      ∧ t.cap = (if on = true ∧ k = 3 then { s.cap with pulses := setBit s.cap.pulses (32 + s.get (R.EV_ROUTE_TARGET e) % 8) } else s.cap)
      ∧ t.host = (if on = true ∧ k = 1 ∧ s.eventSet e = false then (s.msix (s.get (R.EV_ROUTE_TARGET e))).host else s.host)
      ∧ t.gaf = s.gaf ∧ sameStores s t

/-- O8. R9: on LF96-48, EV_128 to EV_175 are never set. -/
def Obligations.AbsentEventsAreNeverSet : Prop :=
  ∀ (s : State) (e : Nat), s.is48 = true → 128 ≤ e → e ≤ 175 → s.raise e = s

/-- O9. R63: a RING of an IDLE mailbox, a CANCEL in PENDING and an ACK in DONE; a POP takes the oldest completion notice (R59). -/
def Obligations.DoorbellsMoveTheMailbox : Prop :=
  ∀ (s : State) (mb : Fin 16),
    (s.get (R.MB_STATUS_STATE mb) = 0 → exec (.mbDoorbellRing mb) s
        = .next (State.put { s with gaf := { s.gaf with rungAt := tblPut mb.val s.tb.now s.gaf.rungAt } } (R.MB_STATUS_STATE mb) 1))
    ∧ (s.get (R.MB_STATUS_STATE mb) = 1 → exec (.mbDoorbellCancel mb) s = .next (s.put (R.MB_STATUS_STATE mb) 0))
    ∧ (s.get (R.MB_STATUS_STATE mb) = 3 → s.gaf.resetAfterAck.contains mb.val = false →
        exec (.mbAck mb) s = .next (s.put (R.MB_STATUS_STATE mb) 0))
    ∧ (s.get (R.MB_STATUS_STATE mb) = 3 → s.gaf.resetAfterAck.contains mb.val = true →
        exec (.mbAck mb) s = .next ((s.put (R.MB_STATUS_STATE mb) 0).resetMailbox mb))
    ∧ ∀ (n : Notice) (rest : List Notice), tblGet (fun _ => []) s.gaf.notices mb.val = n :: rest → rest.length < 16 →
        ∃ t, exec (.mbCplPop mb) s = .next t ∧ tblGet (fun _ => []) t.gaf.notices mb.val = rest
          ∧ t.get (R.MB_STATUS_CPL_COUNT mb) = rest.length
          ∧ t.get (R.MB_CPL_TAG mb) = (rest.head?.elim 0xFFFF Notice.tag) % 2 ^ 16
          ∧ t.get (R.MB_CPL_STATUS mb) = (rest.head?.elim 0 Notice.status) % 2 ^ 16
          ∧ sameWords s t [R.MB_STATUS mb, R.MB_CPL mb] ∧ sameStores s t

/-- O10. R64: a RING outside IDLE, a CANCEL outside PENDING and an ACK outside DONE are ignored; only the RING sets RING_LOST. -/
def Obligations.IgnoredDoorbells : Prop :=
  ∀ (s : State) (mb : Fin 16),
    (s.get (R.MB_STATUS_STATE mb) ≠ 0 → exec (.mbDoorbellRing mb) s = .next (s.put (R.MB_STATUS_RING_LOST mb) 1))
    ∧ (s.get (R.MB_STATUS_STATE mb) ≠ 1 → exec (.mbDoorbellCancel mb) s = .next s)
    ∧ (s.get (R.MB_STATUS_STATE mb) ≠ 3 → exec (.mbAck mb) s = .next s)

/-- O11. R65: when RING and CANCEL are written together, RING acts alone. -/
def Obligations.RingWrittenWithCancelActsAlone : Prop :=
  ∀ (s : State) (mb : Fin 16) (v : BitVec 32) (who : Requester), mailboxSource s who mb = true → bit v.toNat 0 = true → bit v.toNat 1 = true →
    exec (.registerWrite (BitVec.ofNat 24 (R.MB_DOORBELL mb)) v who) s = .next ((ring s mb).answer (requesterPath who) rOk [])

/-- O12. R66: EV_016 + n is set when mailbox n enters DONE, and when a completion notice is pushed to it. -/
def Obligations.DoneAndNoticesSetTheMailboxEvent : Prop :=
  ∀ (s : State) (mb : Fin 16),
    (∀ (fwd : Bool) (command tag status detail : Nat) (payload : List Byte),
      let t := s.respond mb fwd command tag status detail payload
      t.get (R.MB_STATUS_STATE mb) = 3 ∧ t.eventSet (16 + mb) = true)
    ∧ ∀ tag status : Nat, (s.pushNotice mb tag status).eventSet (16 + mb) = true

/-- O13. R61, R63, R69, R92: a response is written to the mailbox's response buffer and to nothing else that is stored; one that comes more
than 1 s (1,250,000,000 pips) after its RING is a yield of guarantee 7. -/
def Obligations.AResponseFillsItsOwnBufferOnly : Prop :=
  ∀ (s : State) (mb : Fin 16) (fwd : Bool) (command tag status detail : Nat) (payload : List Byte),
    let b := responseBytes fwd command tag status detail s.tb.turn s.tb.pip payload
    let t := s.respond mb fwd command tag status detail payload
    let rung := tblGet (fun _ => s.tb.now) s.gaf.rungAt mb.val
    (∀ i, i < b.length → cellGet 0 t.mbuf (rspBuf mb + i) = b.getD i 0)
      ∧ (∀ a, a < rspBuf mb ∨ rspBuf mb + b.length ≤ a → cellGet 0 t.mbuf a = cellGet 0 s.mbuf a)
      ∧ t.mem = s.mem ∧ t.sram = s.sram ∧ t.sec = s.sec ∧ t.fab = s.fab ∧ t.rep = s.rep ∧ t.te = s.te ∧ t.noc = s.noc
      ∧ (s.tb.now ≤ rung + 1250000000 →
          sameWords s t [R.MB_STATUS mb, R.MB_STATS mb, R.EV_STATUS 0, R.EV_COUNT (16 + mb)] ∧ t.gaf = s.gaf)
      ∧ (rung + 1250000000 < s.tb.now →
          t.get R.GAF_YIELD_CODE = 7 ∧ t.gaf.yields.getD 6 0 = satAdd 32 (s.gaf.yields.getD 6 0) 1 ∧ t.gaf.ops = s.gaf.ops)

/-- O14. R72: a mailbox command whose checks pass does its own action and answers what the action gives. -/
def Obligations.MailboxCommandsRun : Prop :=
  ∀ (i : Instr) (s : State) (mb : Fin 16) (req : Request) (c : Cmd) (alarm : Bool), rowOf i = some (mb, req, c, alarm) →
    let r := rowRequest c req
    commandRuns c s mb r →
      exec i s = .next (settled alarm s ((actedOn c s mb r).respond mb false r.command.toNat r.tag.toNat (actionOf c s mb r).status
        (actionOf c s mb r).detail (actionOf c s mb r).payload))

/-- O15. R72: a mailbox command answers with the status of the first check that fails, and does nothing else. -/
def Obligations.RefusedCommandsOnlyAnswer : Prop :=
  ∀ (i : Instr) (s : State) (mb : Fin 16) (req : Request) (c : Cmd) (alarm : Bool) (x : Nat × Nat), rowOf i = some (mb, req, c, alarm) →
    let r := rowRequest c req
    s.takesAtOnce mb → forwardsTo s r = none → (verdict c s mb r).2 = some x →
      exec i s = .next (settled alarm s ((verdict c s mb r).1.respond mb false r.command.toNat r.tag.toNat x.1 x.2 []))

/-- O16. R73: with CHECK_ONLY the checks are made and the command does not act: OK if every check passes. -/
def Obligations.CheckOnlyDoesNotAct : Prop :=
  ∀ (i : Instr) (s : State) (mb : Fin 16) (req : Request) (c : Cmd) (alarm : Bool), rowOf i = some (mb, req, c, alarm) →
    let r := rowRequest c req
    s.takesAtOnce mb → forwardsTo s r = none → bit r.flags.toNat 0 = true → (verdict c s mb r).2 = none →
      exec i s = .next (settled alarm s ((verdict c s mb r).1.respond mb false r.command.toNat r.tag.toNat stOk 0
        (c.dry (verdict c s mb r).1 mb r)))

/-- O17. R74: a request on a mailbox that is not enabled is answered REFUSED_STATE before any other check. -/
def Obligations.ADisabledMailboxRefusesEveryRequest : Prop :=
  (∀ (i : Instr) (s : State) (mb : Fin 16) (req : Request) (c : Cmd) (alarm : Bool), rowOf i = some (mb, req, c, alarm) →
    let r := rowRequest c req
    s.takesAtOnce mb → s.get (R.MB_CONFIG_ENABLED mb) = 0 →
      exec i s = .next ((requestTaken s mb r).respond mb false r.command.toNat r.tag.toNat stRefusedState 0 []))
  ∧ ∀ (s : State) (n : Nat), s.serving = true → nextMailbox s = some n → s.get (R.MB_CONFIG_ENABLED n) = 0 →
      let r := fittedRequest (parseRequest (cellsGet 0 s.mbuf (reqBuf n) 4096))
      exec .gafferTakeRequest s = .next ((takeMailbox s n r).respond n false r.command.toNat r.tag.toNat stRefusedState 0 [])

/-- O18. R75: before GAF_STATUS.READY, and during a warm restart, a rung request stays in PENDING. -/
def Obligations.BeforeReadyARequestStaysPending : Prop :=
  ∀ s : State, s.get R.GAF_STATUS_READY = 0 ∨ s.gaf.restarting.isSome = true →
    (∀ (i : Instr) (mb : Fin 16) (req : Request) (c : Cmd) (alarm : Bool), rowOf i = some (mb, req, c, alarm) →
      s.get (R.MB_STATUS_STATE mb) = 0 → ∃ t, exec i s = .next t ∧ t.get (R.MB_STATUS_STATE mb) = 1)
    ∧ exec .gafferTakeRequest s = .next s

/-- O19. R64: a mailbox command on a mailbox that is not IDLE loses its RING, and nothing is answered. -/
def Obligations.ABusyMailboxLosesTheRing : Prop :=
  ∀ (i : Instr) (s : State) (mb : Fin 16) (req : Request) (c : Cmd) (alarm : Bool), rowOf i = some (mb, req, c, alarm) →
    s.get (R.MB_STATUS_STATE mb) ≠ 0 →
      ∃ t, exec i s = .next t ∧ t.get (R.MB_STATUS_STATE mb) = s.get (R.MB_STATUS_STATE mb) ∧ t.get (R.MB_STATUS_RING_LOST mb) = 1
        ∧ sameWords s t [R.MB_STATUS mb] ∧ t.gaf = s.gaf ∧ t.mem = s.mem ∧ t.sram = s.sram ∧ t.sec = s.sec ∧ t.fab = s.fab
        ∧ t.noc = s.noc ∧ t.te = s.te ∧ t.rep = s.rep ∧ t.cap = s.cap ∧ t.phys = s.phys

/-- O20. R658: a request for a peer is passed on, and its mailbox stays in RUNNING. -/
def Obligations.ARequestForAPeerIsForwarded : Prop :=
  ∀ (i : Instr) (s : State) (mb : Fin 16) (req : Request) (c : Cmd) (alarm : Bool) (d : Nat), rowOf i = some (mb, req, c, alarm) →
    let r := rowRequest c req
    s.takesAtOnce mb → s.has (R.MB_CONFIG_ENABLED mb) = true → r.version = 1 →
    firstFail [checkLen c r, checkHeader s mb r] = none → forwardsTo s r = some d →
    firstFail (if c.long && !bit r.flags.toNat 0 then (checkLimits s mb).take 1 else []) = none →
      ∃ t, exec i s = .next t ∧ t.get (R.MB_STATUS_STATE mb) = 2
        ∧ t.gaf = { s.gaf with forwards := s.gaf.forwards ++ [⟨mb, r.tag.toNat, r.command.toNat, d⟩],
                               rungAt := tblPut mb.val s.tb.now s.gaf.rungAt }
        ∧ t.get (R.MB_ACTIVE_COMMAND mb) = r.command.toNat ∧ t.get (R.MB_ACTIVE_TAG mb) = r.tag.toNat
        ∧ sameWords s t [R.MB_STATUS mb, R.MB_ACTIVE mb, R.MB_RR_LAST]

/-- O21. R76: the gaffer takes the request of the mailbox whose turn it is. -/
def Obligations.TheGafferServesTheNextMailbox : Prop :=
  ∀ (s : State) (n : Nat), s.serving = true → nextMailbox s = some n →
    let r := fittedRequest (parseRequest (cellsGet 0 s.mbuf (reqBuf n) 4096))
    exec .gafferTakeRequest s = .next ((serveRequest (commandOf r.command.toNat) (takeMailbox s n r) n r).debugAlarm s)
      ∧ s.get (R.MB_STATUS_STATE n) = 1 ∧ (takeMailbox s n r).get R.MB_RR_LAST_LAST = n

/-! ### Restarts, modes, power-on, power fail -/

/-- O22. R49-R51, R56, R812: each cause of a warm restart starts one, in any mode but POWER-ON: its bit of GAF_RESTART_CAUSE, the count,
READY, and the instant it began; a slice in progress is abandoned. -/
def Obligations.WarmRestartCausesStartARestart : Prop :=
  ∀ s : State, s.mode ≠ mPowerOn →
    ∀ x ∈ [(Instr.lockstepMismatch, 2), (.watchdogExpiry, 3), (.gafferSramUe, 4), (.fwFaultRestart, 5)],
      (∀ sl : Slice, s.bist.slice = some sl →
        let l := if x.2 = 2 then s.put R.GAF_STATUS_LOCKSTEP_OK 0 else s
        let u := State.abandonSlice (((l.setReg R.GAF_RESTART_CAUSE (setBit (l.reg R.GAF_RESTART_CAUSE) x.2)).bump
          R.GAF_RESTART_COUNT_COUNT).put R.GAF_STATUS_READY 0) sl.unit
        exec x.1 s = .next { u with gaf := { u.gaf with restarting := some u.tb.now,
                                                        lastRestart := u.gaf.restarting.elim u.gaf.lastRestart some } })
      ∧ (s.bist.slice = none → ∃ t, exec x.1 s = .next t ∧ bit (t.reg R.GAF_RESTART_CAUSE) x.2 = true
        ∧ (∀ b, b < 32 → b ≠ x.2 → bit (t.reg R.GAF_RESTART_CAUSE) b = bit (s.reg R.GAF_RESTART_CAUSE) b)
        ∧ t.get R.GAF_RESTART_COUNT_COUNT = min (s.get R.GAF_RESTART_COUNT_COUNT + 1) 0xFFFF
        ∧ t.get R.GAF_STATUS_READY = 0 ∧ t.gaf.restarting = some s.tb.now ∧ t.mode = s.mode
        ∧ t.get R.GAF_STATUS_LOCKSTEP_OK = (if x.2 = 2 then 0 else s.get R.GAF_STATUS_LOCKSTEP_OK)
        ∧ t.mem = s.mem ∧ t.sram = s.sram ∧ t.mbuf = s.mbuf ∧ t.fab = s.fab ∧ t.rep = s.rep ∧ t.te = s.te ∧ t.tb = s.tb
        ∧ t.gaf.claims = s.gaf.claims ∧ t.gaf.ops = s.gaf.ops)

/-- O23. R52, R54, R55, R180: a warm restart ends: what was in progress is answered INTERNAL, and the gaffer is READY again outside BOOT; the
second within 10 s, and in BOOT a running image that does not verify, lead to SAFE HOLD. In another mode a restart whose image does not verify
does not end (log entry 68). Where nothing was in progress nothing else moves. -/
def Obligations.AWarmRestartEnds : Prop :=
  ∀ (s : State) (start : Nat), s.gaf.restarting = some start →
    let a := State.restartAnswers { s with gaf := { s.gaf with restarting := none, lastRestart := some start } }
    let b := ((a.put R.GAF_STATUS_WARM 1).put R.GAF_STATUS_LOCKSTEP_OK 1).raise 4
    let u := b.logAlways 2 0x00 0x0001 0 (b.reg R.GAF_RESTART_CAUSE) (b.get R.GAF_RESTART_COUNT_COUNT) 0
    let runs := s.imageRuns = true ∨ s.mode = mBoot ∨ s.mode = mPowerOn
    (s.imageRuns = false → s.mode ≠ mBoot → s.mode ≠ mPowerOn → exec .warmRestartComplete s = .next s)
    ∧ (runs → u.mode ≠ mPowerOn → u.imageRuns = false → exec .warmRestartComplete s = .next (u.enterSafeHold 0x14))
    ∧ (runs → u.mode ≠ mPowerOn → u.imageRuns = true → (∃ p, s.gaf.lastRestart = some p ∧ start ≤ p + tenSeconds) →
        exec .warmRestartComplete s = .next ((u.enterSafeHold 0x1F).put R.GAF_STATUS_READY 1))
    ∧ (runs → u.mode ≠ mPowerOn → u.imageRuns = true → (∀ p, s.gaf.lastRestart = some p → p + tenSeconds < start) →
        exec .warmRestartComplete s = .next (if u.mode = mBoot then u else u.put R.GAF_STATUS_READY 1))
    ∧ (s.gaf.ops = [] → s.gaf.forwards = [] → s.gaf.peerOps = [] →
        u.mode = s.mode ∧ u.gaf.restarting = none ∧ u.gaf.lastRestart = some start ∧ u.get R.GAF_STATUS_WARM = 1
        ∧ u.get R.GAF_STATUS_LOCKSTEP_OK = 1 ∧ u.eventSet 4 = true ∧ u.mem = s.mem ∧ u.sram = s.sram ∧ u.fab = s.fab ∧ u.tb = s.tb
        ∧ u.mbuf = s.mbuf ∧ u.sec = s.sec)

/-- O24. R56, R96, R150, R454: the other rows of the gaffer itself. -/
def Obligations.GafferRowsAct : Prop :=
  ∀ s : State,
    (s.serving = true → s.mode ≠ mLehr → (s.mode = mSafeHold → s.cause ≠ 0x14) →
      ∃ t, exec .gafferHeartbeatTick s = .next t ∧ t.get R.GAF_HEARTBEAT_COUNT = (s.get R.GAF_HEARTBEAT_COUNT + 1) % 2 ^ 32
        ∧ sameWords s t [R.GAF_HEARTBEAT] ∧ sameStores s t ∧ t.gaf = s.gaf)
    ∧ (∀ src : MailboxSource, exec (.mailboxSourceReset src) s = .next (forEach (sourceMailboxes src) (fun n t => t.resetMailbox n) s))
    ∧ (s.tb.pip ≤ 256 → exec .gafferTlBurstDeferred s
        = .next { s with gaf := { s.gaf with shadow := s.gaf.shadow ++ s.gaf.held, held := [] } })
    ∧ (256 < s.tb.pip → exec .gafferTlBurstDeferred s = .next s)

/-- O25. R180, R866: POR_N, PROG_N and a core supply take the device to POWER-ON from any mode; everything but fuses, vault store, flash,
balls and the board's rails is as after power-on reset. -/
def Obligations.PowerOnIsEnteredFromEveryMode : Prop :=
  ∀ s : State,
    (∃ t, exec .porNLow s = .next t ∧ t.mode = mPowerOn ∧ t.cause = 0 ∧ t.pins.porN = false ∧ t.reg R.GAF_RESTART_CAUSE = 1
      ∧ t.gaf = {} ∧ t.tb = {} ∧ t.cap = {} ∧ t.mem = {} ∧ t.noc = {} ∧ t.sram = {} ∧ t.mbuf = [] ∧ t.fab = {} ∧ t.rep = {} ∧ t.te = {}
      ∧ t.arr = {} ∧ t.phys = {} ∧ t.sec.flash = s.sec.flash ∧ t.sec.keys = s.sec.keys ∧ t.sec.deviceSecret = s.sec.deviceSecret
      ∧ t.life = s.life ∧ t.pending = s.pending)
    ∧ (∃ t, exec .progNLow s = .next t ∧ t.mode = mPowerOn ∧ t.cause = 1 ∧ t.pins.progN = false ∧ t.pins.porN = s.pins.porN
      ∧ t.reg R.GAF_RESTART_CAUSE = 2 ∧ t.gaf = {} ∧ t.tb = {} ∧ t.cap = {} ∧ t.mem = {} ∧ t.noc = {} ∧ t.sram = {} ∧ t.mbuf = []
      ∧ t.fab = {} ∧ t.rep = {} ∧ t.te = {} ∧ t.arr = {} ∧ t.phys = {} ∧ t.sec.flash = s.sec.flash ∧ t.sec.keys = s.sec.keys
      ∧ t.life = s.life ∧ t.pending = s.pending)
    ∧ ∀ k : Fin 21, exec (.coreSupplyBelowReset k) s
        = .next (if boardRail k then (s.enterPowerOn 0).put (R.PW_RAIL_STATE_STATE k) 3 else s.enterPowerOn 0).tryBoot

/-- O26. R180, R702, R866: POWER-ON is left for BOOT when POR_N and PROG_N are high, the board's core rails are good and the furnace has
qualified; the straps are sampled as POR_N rises. -/
def Obligations.PowerOnIsLeftWhenItsConditionsHold : Prop :=
  ∀ s : State,
    (s.pins.porN = false → ∀ (cfgMode devId : BitVec 3) (iopull : Bool),
      ∃ t, exec (.porNRise cfgMode devId iopull) s = .next t.tryBoot ∧ t.pins.porN = true ∧ t.pins.iopull = iopull
        ∧ t.pins.devId = devId.toNat ∧ t.get R.CF_CFG_STATUS_CFG_MODE = cfgMode.toNat ∧ t.get R.NC_ARRAY_DEV_ID = devId.toNat
        ∧ t.get R.NC_ARRAY_COL = devId.toNat % 4 ∧ t.get R.NC_ARRAY_ROW = devId.toNat / 4 ∧ t.get R.NC_ARRAY_MEMBERS = 2 ^ devId.toNat
        ∧ sameWords s t [R.CF_CFG_STATUS, R.NC_ARRAY] ∧ t.gaf = s.gaf ∧ t.mem = s.mem)
    ∧ exec .progNRelease s = .next (State.tryBoot { s with pins := { s.pins with progN := true } })
    ∧ exec .furnaceQualified s = .next (State.tryBoot { s with pins := { s.pins with furnace := true } })
    ∧ (s.mode = mPowerOn → s.pins.porN = true → s.pins.progN = true → s.pins.furnace = true → s.railGood 0 = true → s.railGood 1 = true →
        s.tryBoot = s.enterBoot 2 true)
    ∧ (s.mode = mPowerOn → s.pins.porN = false ∨ s.pins.progN = false ∨ s.pins.furnace = false ∨ s.railGood 0 = false
        ∨ s.railGood 1 = false → s.tryBoot = s)

/-- O27. R183: what each mode change records. -/
def Obligations.AModeChangeIsRecorded : Prop :=
  ∀ (s : State) (m cause : Nat) (keep : Bool), m < 12 → cause < 256 →
    let t := s.modeStep m cause keep
    t.mode = m ∧ t.get R.GAF_MODE_PREV = s.mode ∧ t.cause = (if keep then s.cause else cause)
      ∧ t.get R.GAF_MODE_CHANGES = min (s.get R.GAF_MODE_CHANGES + 1) 255 ∧ t.eventSet 0 = true
      ∧ (∃ e ∈ t.gaf.log, e.seq = s.gaf.logNext ∧ e.severity = 2 ∧ e.group = 0x02)
      ∧ t.gaf.modeTurn = s.tb.turn ∧ t.gaf.modePip = s.tb.pip ∧ (m ≠ mOperate → m ≠ mThrottled → t.get R.TG_STATUS_ARMED = 0)
      ∧ (∀ o ∈ t.gaf.ops, opSpared m cause o = true)

/-- O28. R184, R201-R203: the rows of the power-fail warning and of the orderly stop. -/
def Obligations.PowerFailRowsAct : Prop :=
  ∀ s : State,
    (∃ t, exec .pfailNFall s = .next t ∧ t.pins.pfailLow = true ∧ t.pins.pfailTaken = false ∧ t.get R.PW_STATUS_PFAIL_PIN = 0
      ∧ sameWords s t [R.PW_STATUS] ∧ t.gaf = s.gaf ∧ t.mem = s.mem ∧ t.cap = s.cap)
    ∧ (s.pins.pfailLow = true → s.pins.pfailTaken = false → s.mode ≠ mPowerOn → s.gaf.pfailAction = 1 → s.gaf.logLevels.getD 2 1 ≤ 3 →
        ∃ t, exec .pfailFilterExpiry s = .next t ∧ t.eventSet 2 = true ∧ t.mode = s.mode ∧ t.pins.pfailTaken = true
          ∧ (∃ e ∈ t.gaf.log, e.seq = s.gaf.logNext ∧ e.severity = 3) ∧ t.mem = s.mem ∧ t.rep = s.rep ∧ t.fab = s.fab)
    ∧ (s.pins.pfailLow = true → s.pins.pfailTaken = false → s.gaf.pfailAction = 0 → s.running = true →
        exec .pfailFilterExpiry s = .next ((State.raise { s with pins := { s.pins with pfailTaken := true } } 2).enterPfail))
    ∧ (s.sec.recordDue = false →
        ∃ t, exec .pfailNRise s = .next t ∧ t.pins.pfailLow = false ∧ t.get R.PW_STATUS_PFAIL_PIN = 1 ∧ t.mode = s.mode
          ∧ sameWords s t [R.PW_STATUS] ∧ t.gaf = s.gaf ∧ t.mem = s.mem)
    ∧ (s.gaf.pfailAuto = true → s.pins.pfailLow = false → s.mode = mStop → s.get R.GAF_MODE_STOP_DONE = 1 → s.cause = 0x0C →
        exec .pfailAutoResume s = .next s.beginResume)
    ∧ (s.mode = mStop → s.get R.GAF_MODE_STOP_DONE = 0 → s.phys.stopping = false → exec .fabricStopAckEnd s = .next s.stopSequence)
    ∧ (s.mode = mStartUp → s.phys.wakeAt = none → s.cfState = cfReleased → s.phys.doneHigh = false →
        exec .startupTimeout s = .next (s.enterSafeHold 0x11))

/-- O29. R132: the timebase after power-on reset and after PROG_N. -/
def Obligations.TheTimebaseAfterReset : Prop :=
  ∀ t : State, (t = State.reset ∨ ∃ s, exec .porNLow s = .next t ∨ exec .progNLow s = .next t) →
    t.get R.TS_CTRL_SOURCE = 0 ∧ t.reg R.TS_PERIOD = 1250000 ∧ t.get R.TS_CTRL_PIP_REF = 0 ∧ t.get R.TS_CTRL_FLY_EN = 0
      ∧ t.entryAt 0 = some entryZero ∧ ∀ i, i ≠ 0 → t.entryAt i = none

/-! ### Clocks, rails, configuration, self-test, turns -/

/-- O30. R701, R708, R709, R713, R715, R738: the rows of the clock monitor, the base PLLs and the fractional PLLs. -/
def Obligations.ClockRowsAct : Prop :=
  ∀ s : State, s.mode ≠ mPowerOn →
    (s.qualified 5 = false → ∀ n : BitVec 32, 0 < n.toNat → Machine.dist (n.toNat * 10) (s.nominal10 5 n.toNat) ≤ 10000 →
      ∃ t, exec (.clockMonitorWindow 5 n) s = .next t ∧ bit (t.get R.CK_STATUS_QUAL) 5 = true ∧ t.eventSet 50 = true ∧ t.mem = s.mem)
    ∧ (∀ src : Fin 6, src ≠ 0 → bit s.phys.dead src = false →
        ∃ t : State, exec (.clockMonitorWindow src 0) s = .next (t.tripSource src) ∧ bit t.phys.dead src = true ∧ t.regs = s.regs)
    ∧ (s.qualified 1 = false → s.qualified 0 = true → bit s.phys.dead 1 = false → s.nodeSource 0 = 1 →
        ∃ t, exec (.clockNodeSwitch 0) s = .next t ∧ t.get R.CK_BASE_SRC_SLEWING = 1 ∧ t.get R.GAF_STATUS_CLK_SRC = 0 ∧ t.eventSet 49 = true
          ∧ t.mem = s.mem ∧ t.gaf = s.gaf)
    ∧ (∃ t, exec .basePllSlewEnd s = .next t ∧ t.get R.CK_BASE_SRC_SLEWING = 0 ∧ t.get R.CK_STATUS_BASE_LOCK = 7
        ∧ sameWords s t [R.CK_BASE_SRC, R.CK_STATUS] ∧ sameStores s t)
    ∧ (∀ n : Fin 8, s.has (R.CK_FPLL_CFG_EN n) = true → s.qualified (s.nodeSource (3 + n)) = true → s.mode ≠ mLehr →
        ∃ t, exec (.fpllRelock n) s = .next t ∧ t.get (R.CK_FPLL_STATUS_LOCK n) = 1 ∧ t.get (R.CK_FPLL_STATUS_STOPPED n) = 0
          ∧ bit (t.get R.CK_STATUS_FPLL_LOCK) n = true ∧ sameWords s t [R.CK_FPLL_STATUS n, R.CK_STATUS] ∧ sameStores s t)
    ∧ (∀ (ref : Fin 2) (count : BitVec 32), 100 * Machine.dist count.toNat 8192 ≤ 8192 * 5 →
        (∀ q, q < 28 → s.get (R.LN_Q_CTRL_REF_SEL q) = ref.val → s.get (R.LN_Q_CTRL_REF_FREQ q) = 0) →
        ∃ t, exec (.refclkMeasured ref count) s = .next t
          ∧ t.get (if ref = 0 then R.CK_STATUS_REF0_VALID else R.CK_STATUS_REF1_VALID) = 1
          ∧ t.get (if ref = 0 then R.CK_STATUS_REF0_FREQ else R.CK_STATUS_REF1_FREQ) = 0 ∧ sameWords s t [R.CK_STATUS] ∧ sameStores s t)
    ∧ (s.mode = mBoot → s.qualified 1 = false → exec .sysclkQualifyTimeout s = .next (s.log 3 0x0A 1 0 0))
    ∧ (∀ pll : Fin 11, pll.val < 3 → bit (s.get R.CK_STATUS_BASE_LOCK) pll = true →
        ∃ t, exec (.pllLossOfLock pll) s = .next t ∧ bit (t.get R.CK_STATUS_BASE_LOCK) pll = false ∧ t.get R.CK_FLAGS_UNLOCK_SEEN = 1
          ∧ t.eventSet 51 = true ∧ sameStores s t)

/-- O31. R721-R723, R730: gating, the frequency meter and the supply of the logic tiers. -/
def Obligations.GatingAndMeteringRowsAct : Prop :=
  ∀ s : State,
    (∀ col : Fin 96, bit (s.reg (R.CK_AUTO_EN ((48 + col) / 32))) ((48 + col) % 32) = true →
        (∀ i, i < 16 → s.teState (16 * col + i) ≠ teRunning) →
        ∃ t, exec (.autoClockGate col) s = .next t ∧ bit (t.reg (R.CK_GATED ((48 + col) / 32))) ((48 + col) % 32) = true
          ∧ sameWords s t [R.CK_GATED ((48 + col) / 32)] ∧ sameStores s t)
    ∧ (∀ unit : Fin 264, s.gateForced unit = true →
        (unit.val < 168 → ∃ t, exec (.forcedGateClose unit) s = .next t ∧ bit (t.reg (R.CK_GATED (unit / 32))) (unit % 32) = true
          ∧ sameWords s t [R.CK_GATED (unit / 32)] ∧ sameStores s t)
        ∧ (168 ≤ unit.val → exec (.forcedGateClose unit) s = .next (s.put (R.SB_CL_STATUS_READY (unit - 168)) 0))
        ∧ ∃ t, exec (.gateRefused unit) s = .next t ∧ t.get R.CK_GATE_REFUSALS_COUNT = min (s.get R.CK_GATE_REFUSALS_COUNT + 1)
            (2 ^ R.CK_GATE_REFUSALS_COUNT.w - 1) ∧ t.eventSet 52 = true ∧ sameStores s t)
    ∧ (∀ (c : Fin 8) (v : BitVec 32) (who : Requester), who ≠ .spi → exec (.freqMeterStart c v who) s = .next (writeMeter s c v.toNat who))
    ∧ (∀ (c : Fin 8) (v : BitVec 32), exec (.freqMeterStart c v .spi) s = .next { s with pins := { s.pins with mspiRefused := true } })
    ∧ (∀ (c : Fin 8) (count : BitVec 48), bit s.phys.gates c = true →
        ∃ t, exec (.freqMeterGateEnd c count) s = .next t ∧ t.reg (R.CK_FM_RES_LO c) = count.toNat % 2 ^ 32
          ∧ t.reg (R.CK_FM_RES_HI c) = count.toNat / 2 ^ 32 ∧ t.get (R.CK_FM_CTRL_DONE c) = 1 ∧ bit t.phys.gates c = false ∧ t.mem = s.mem)
    ∧ (∀ c : Fin 8, bit s.phys.gates c = true →
        ∃ t, exec (.freqMeterTimeout c) s = .next t ∧ t.get (R.CK_FM_CTRL_ABORT c) = 1 ∧ bit t.phys.gates c = false ∧ t.mem = s.mem)
    ∧ (∀ u : PeriodicUpdate, s.mode ≠ mPowerOn → s.mode ≠ mLehr → s.qualified 1 = true →
        ∃ t, exec (.gafferPeriodicUpdate u) s = .next t ∧ t.get R.CK_FURNACE_TRIM = s.peekFree % 2 ^ R.CK_FURNACE_TRIM.w
          ∧ t.get R.CK_FURNACE_OFFSET = u.offset.toNat % 2 ^ R.CK_FURNACE_OFFSET.w ∧ t.get R.CK_FURNACE_REFERENCED = 1 ∧ t.mem = s.mem)
    ∧ (∀ (tier : Fin 2) (mv : BitVec 12), s.get (R.PW_RAIL_CTRL_TARGET_MV (7 + tier)) < mv.toNat →
        exec (.avsUrgentRaise tier mv) s = .next (s.avs (7 + tier) mv.toNat))

/-- O32. R726-R729: the rows of the rails, the PMBus and the board's supply. -/
def Obligations.RailRowsAct : Prop :=
  ∀ s : State,
    (∀ (k : Fin 21) (mv : BitVec 12), s.inBand k mv.toNat = true → s.get (R.PW_RAIL_STATE_STATE k) = 1 →
      ∃ t : State, exec (.railGood k mv) s = .next t.railAdvance.tryBoot ∧ t.get (R.PW_RAIL_STATE_STATE k) = 2
        ∧ t.get (R.PW_RAIL_MEAS_MV k) = mv.toNat ∧ t.gaf = s.gaf ∧ t.mem = s.mem)
    ∧ (∀ (k : Fin 21) (mv : BitVec 12), s.get (R.PW_RAIL_STATE_STATE k) = 2 → s.inBand k mv.toNat = false →
        ∃ t, exec (.railOutOfBand k mv) s = .next t
          ∧ t.get (R.PW_RAIL_STATE_STATE k) = (if mv.toNat < s.get (R.PW_RAIL_CTRL_TARGET_MV k) then 3 else 4)
          ∧ t.get (R.PW_RAIL_MEAS_MV k) = mv.toNat ∧ t.get R.PW_FLAGS_RAIL_SEEN = 1 ∧ t.eventSet 54 = true ∧ t.mode = s.mode ∧ t.mem = s.mem)
    ∧ (∀ k : Fin 21, boardRail k = false → s.get (R.PW_RAIL_STATE_STATE k) ≠ 0 →
        exec (.railOvervoltageCut k) s = .next (s.enterPowerOn 0).tryBoot)
    ∧ (∀ (addr : BitVec 7) (status : BitVec 16), s.mode ≠ mPowerOn →
        ∃ t, exec (.pmbAlert addr status false) s = .next t ∧ t.get R.PW_FLAGS_ALERT_SEEN = 1 ∧ t.get R.PW_STATUS_ALERT_PIN = 1
          ∧ t.eventSet 55 = true ∧ t.mode = s.mode ∧ t.mem = s.mem)
    ∧ (∀ level : Bool, s.has R.PW_STATUS_SUPPLY_OK_PIN ≠ level →
        ∃ t, exec (.supplyOkChange level) s = .next t ∧ t.get R.PW_STATUS_SUPPLY_OK_PIN = b2n level ∧ t.eventSet 58 = true
          ∧ t.mode = s.mode ∧ sameStores s t)

/-- O33. R676, R679, R687, R689, R693, R698: the rows of the configuration chain and of a stream's check and load. -/
def Obligations.ConfigurationRowsAct : Prop :=
  ∀ s : State,
    (s.awaitsStream = true → ∀ stream : List Byte, bits (le stream 7 1) 0 3 = s.get R.NC_ARRAY_DEV_ID →
      exec (.configStreamReceived stream) s = .next ((s.setReg R.CF_CFG_BYTES (min stream.length 0xFFFFFFFF)).takeStream stream))
    ∧ (∀ n : BitVec 64, exec (.streamPassOn n) s = .next (s.forwardBytes n.toNat))
    ∧ (s.awaitsStream = false → (s.mode ≠ mConfigure ∨ s.onChain = false ∨ s.cfState ≠ cfFailed) →
        exec .endRecordReceived s = .next (s.forwardBytes 256))
    ∧ (s.mode = mConfigure → s.onChain = true → s.cfState ≤ cfReceiving →
        exec .configChainTimeout s = .next ((s.cfgError ⟨cfgTimeout, 0xFFFF, 0⟩).cfgFatal true))
    ∧ (s.mode = mStartUp → s.phys.wakeAt = none → s.cfState = cfReleased → ∀ level : Bool,
        ∃ t, exec (.doneSample level) s = .next t ∧ t.get R.CF_CFG_STATUS_DONE_PIN = b2n level ∧ t.phys.doneHigh = (level || s.phys.doneHigh)
          ∧ sameWords s t [R.CF_CFG_STATUS] ∧ t.mem = s.mem ∧ t.gaf = s.gaf)
    ∧ (∀ o : Op, s.gaf.ops.find? (fun o => o.command == 0x030D) = some o → s.mode ≠ mConfigure →
        let r := stackRead s 0xF0 (o.args.getD 0 0) (o.args.getD 1 0)
        r.1.mode ≠ mConfigure → r.2.1 = rOk → exec .cfgStreamCheckComplete s = .next (r.1.verified o (streamCheck r.1 r.2.2).1))
    ∧ (s.get R.CF_CFG_STATUS_INIT_DRIVE = 0 → s.mode = mConfigure → s.onChain = true → s.cfState = cfWaitInit →
        ∃ t, exec .initNHigh s = .next t ∧ t.get R.CF_CFG_STATUS_INIT_PIN = 1 ∧ t.cfState = cfReceiving ∧ t.mode = s.mode ∧ t.mem = s.mem)

/-- O34. R454, R805, R806, R810, R815: the rows of boot self-test, of slices and of TEST. -/
def Obligations.SelfTestRowsAct : Prop :=
  ∀ s : State,
    (∀ fails : List (BitVec 10 × BitVec 16), s.mode = mBoot → s.get R.PW_STATUS_SEQ = 3 →
      s.failedUnits (fails.map (fun x => (x.1.toNat, x.2.toNat))) = [] →
      exec (.bootSelfTestEnd fails) s = .next ((s.testsDone (s.units.filter (fun u => !s.unitMapped u)) [] false).endBoot []))
    ∧ (∀ u : BitVec 10, s.mode = mBoot → s.unitAbsent u.toNat = false → s.unitMapped u.toNat = false →
        (s.testsDone [] [(u.toNat, 0)] false).lf40 = false →
        exec (.bootTestWindowTimeout [u]) s = .next ((s.testsDone [] [(u.toNat, 0)] false).endBoot [(u.toNat, 0)]))
    ∧ (∀ (kind : Fin 6) (u : Nat), s.life = 2 → s.mode = mOperate → s.exponent kind ≠ 0 → s.bist.slice = none → s.serving = true →
        tblGet (fun _ => 0) s.bist.lastSlice kind = 0 → s.oldestUnit kind = some u →
        exec (.selfTestDrain kind) s = .next (s.startSlice u false))
    ∧ (∀ (sl : Slice) (detail : BitVec 16), s.bist.slice = some sl → sl.handed = true → sl.back = false → s.windowOpen sl.unit = true →
        exec (.sliceTestEnd false detail) s
          = .next (((s.reinit sl.unit).testResult sl.unit 0 0 sl.user).setSlice (some { sl with back := true })))
    ∧ (∀ fails : List (BitVec 10 × BitVec 16), s.mode = mTest → s.failedUnits (fails.map (fun x => (x.1.toNat, x.2.toNat))) = [] →
        let t := (s.testsDone (s.units.filter (fun u => !s.unitMapped u)) [] true).put R.BT_STATUS_PHASE 0
        exec (.testModeEnd fails) s = .next ((t.endOps 0x0D00 stOk 0).enterBoot 0x1A false))
    ∧ (∀ (fails : List (BitVec 10 × BitVec 16)) (f : Nat × Nat) (l : List (Nat × Nat)), s.mode = mTest →
        s.failedUnits (fails.map (fun x => (x.1.toNat, x.2.toNat))) = f :: l →
        let t := s.testsDone (s.units.filter (fun u => !s.unitMapped u)) (f :: l) true
        t.lf40 = false → exec (.testModeEnd fails) s = .next (((t.put R.BT_STATUS_PHASE 0).endOps 0x0D00 stIntegrity f.1).enterSafeHold 0x0D))

/-- O35. R129-R147: a boundary of the active source, of PPS subdivision or of the sequencer ends the turn; the pip PLL's lock. -/
def Obligations.TurnRowsAct : Prop :=
  ∀ s : State,
    (s.tb.counting = true → s.get R.TS_CTRL_SOURCE = 1 → ∀ (rising : Bool) (pip : BitVec 32), rising ≠ s.has R.TS_CTRL_SYNC_EDGE →
      exec (.syncInEdge rising pip) s = .next (s.arriveIn (pip.toNat + 8 - s.tb.pip)))
    ∧ (s.tb.counting = true → s.get R.TS_CTRL_SOURCE = 3 → ∀ pip : BitVec 32,
        let n := pip.toNat + 8 - s.tb.pip
        let u := s.arriveIn n
        u.get R.TS_CTRL_SOURCE = 3 → exec (.ppsInEdge pip) s
          = .next { u with tb := { u.tb with ppsAt := s.tb.now + n, ppsLeft := u.get R.TS_PPS_DIV_DIV - 1 } })
    ∧ (s.tb.counting = true → s.get R.TS_CTRL_SOURCE = 2 → ∀ (lane : Fin 96) (word : BitVec 32) (kflags : BitVec 4) (pip : BitVec 32),
        s.get R.TS_CTRL_MARKER_LANE = lane → s.has (R.LN_STATUS_LOCK lane) = true → s.markerMatches lane word.toNat kflags.toNat = true →
        exec (.markerMatch lane word kflags pip) s = .next (s.arriveIn (pip.toNat + s.get R.TS_SRC_LATENCY_LAT - s.tb.pip)))
    ∧ (s.tb.counting = true → s.get R.TS_CTRL_SOURCE = 0 →
        exec .internalPeriodBoundary s = .next (s.arriveIn (s.reg R.TS_PERIOD - s.tb.pip)))
    ∧ (s.tb.counting = true → s.get R.TS_CTRL_SOURCE = 3 → 0 < s.tb.ppsLeft →
        let at_ := max s.tb.now (s.tb.ppsAt + s.ppsStep)
        exec .ppsSubdivisionBoundary s = .next ((s.ppsNext at_).arriveIn (at_ - s.tb.now)))
    ∧ (s.tb.counting = true → s.get R.TS_STATUS_FLY_STATE ≤ 1 → exec .syntheticBoundary s = .next s.runOut)
    ∧ (s.tb.counting = true → s.get R.TS_STATUS_FLY_STATE = 2 → exec .flywheelHoldoverEntry s = .next s.runOut)
    ∧ (s.tb.counting = true → s.get R.TS_STATUS_FLY_STATE = 3 → exec .holdoverSyntheticBoundary s = .next s.runOut)
    ∧ (s.mode ≠ mPowerOn → ∃ t, exec .pipPllLock s = .next t
        ∧ t.tb = { s.tb with counting := true, locks := (s.tb.now, true) :: s.tb.locks } ∧ t.get R.TS_STATUS_PIP_LOCK = 1
        ∧ sameWords s t [R.TS_STATUS] ∧ t.mem = s.mem ∧ t.gaf = s.gaf)
    ∧ (s.get R.TS_STATUS_PIP_LOCK = 1 → ∃ t, exec .pipPllUnlock s = .next t ∧ t.get R.TS_STATUS_PIP_LOCK = 0
        ∧ t.get R.TS_STATUS_UNLOCK_SEEN = 1 ∧ t.eventSet 38 = true ∧ t.tb = { s.tb with locks := (s.tb.now, false) :: s.tb.locks }
        ∧ sameStores s { t with tb := s.tb })

/-- O36. R139: the turn counter wraps after 0xFFFF_FFFF_FFFF and raises EV_TURN_WRAP. -/
def Obligations.TheTurnCounterWraps : Prop :=
  ∀ (s : State) (len : Nat), s.turnLoad = none →
    (s.tb.turn = 2 ^ 48 - 1 → (s.nextTurn len).tb.turn = 0 ∧ (s.nextTurn len).eventSet 39 = true)
    ∧ (s.tb.turn < 2 ^ 48 - 1 → (s.nextTurn len).tb.turn = s.tb.turn + 1 ∧ (s.nextTurn len).eventSet 39 = s.eventSet 39)

/-- O37. R161, R164: each schedule row passes the time to its entry's pip and fires what is due there. -/
def Obligations.ScheduleRowsFire : Prop :=
  ∀ (s : State) (idx : Fin 4096) (e : SchedEntry), s.tb.counting = true → tblFind idx s.tb.sched = some e →
    entryFires e s.tb.turn = true → e.fired = 0 →
      ∀ x ∈ [(Instr.schedCtxSwitch idx, 2), (.schedGateClose idx, 3), (.schedGateOpen idx, 4), (.schedTrigArm idx, 5),
          (.schedReplayLaunch idx, 6), (.schedTrigOut idx, 7), (.schedEvent idx, 8)],
        e.action = x.2 → exec x.1 s = .next (s.pass (e.pip - s.tb.pip)).fireDue

/-- O38. R161, R163, R164: what an entry does as it fires; outside OPERATE and THROTTLED only EVENT entries act. -/
def Obligations.FiringEntriesAct : Prop :=
  ∀ (s : State) (idx : Nat) (e : SchedEntry),
    (e.action = 8 → e.arg < 65536 → idx < 4096 →
      (s.fireAction idx e).eventSet 40 = true ∧ (s.fireAction idx e).get R.TS_SCHED_CODE_CODE = e.arg
        ∧ (s.fireAction idx e).get R.TS_SCHED_CODE_INDEX = idx ∧ sameStores s (s.fireAction idx e))
    ∧ (s.running = false → e.action ≠ 8 → s.fireAction idx e = s)
    ∧ (s.running = true →
        (e.action = 2 → e.owner ≠ 0xFF → s.fireAction idx e = requestSwitch s e.target (e.arg % 8) 1 none)
        ∧ (e.action = 2 → e.owner = 0xFF → (∀ a ∈ s.fab.after, a.index ≠ some idx) →
            s.fireAction idx e = requestSwitch s e.target (e.arg % 8) 0 none)
        ∧ (e.action = 3 → s.fireAction idx e = s.closeGate e.target) ∧ (e.action = 4 → s.fireAction idx e = s.openGate e.target)
        ∧ (e.action = 5 → s.fireAction idx e = s.armTrigger)
        ∧ (e.action = 6 → s.fireAction idx e = s.startEngine e.target s.tb.now)
        ∧ (e.action = 7 → s.fireAction idx e = s.startPulse e.target e.arg))

/-! ### Capture, trigger, replay, contexts, placement -/

/-- O39. R28, R212-R217, R221, R224, R228, R244, R245, R253, R319, R357-R360: the rows of gather units and capture queues, each with
the next state of its own effect: line words of a locked lane are decoded, reach its receive port and framing, each frame that they close
is classified and written, and under pass-through they are forwarded; the beats that the driving region offers are taken while the store
has room; the drop marker and the pad record are written (their fields: the model's choices, log entries 93 and 95); the lanes of a
failed line count their frames, and the entry of its MiB carries INTEGRITY; CQ_SEAL's queues are sealed and its notice is pushed. -/
def Obligations.CaptureRowsAct : Prop :=
  ∀ s : State,
    (∀ (lane : Fin 96) (line : List (BitVec 10 × Timestamp)) (gu : GatherCond), lane.val < s.lanes → s.has (R.LN_STATUS_LOCK lane) = true →
      let c := s.lineChars lane (s.rxPort lane).rd line
      let l := c.1.map (fun x => (x.1, s.atBalls lane x.2))
      let d := s.setDisparity lane c.2
      let v := d.forward lane l
      let u := v.receive lane l
      (v.gatherClocked = false → exec (.frameReceived lane line gu) s = .next v)
      ∧ (v.gatherClocked = true → u.framesChars lane = false → exec (.frameReceived lane line gu) s = .next u)
      ∧ (v.gatherClocked = true → u.framesChars lane = true →
          let f := frameChars u lane (u.get (R.GU_CTRL_FRAMING lane) == 3) (tblFind lane.val u.cap.open_) l
          exec (.frameReceived lane line gu) s = .next
            ((forEach f.2 (fun c t => t.closeFrame lane (u.get (R.GU_CTRL_FRAMING lane) - 1) c false none gu) u).setOpen lane f.1))
      ∧ (s.has (R.RP_PT_CTRL_EN lane) = false ∨ s.rep.broken.contains lane.val = true → v = d)
      ∧ (s.has (R.RP_PT_CTRL_EN lane) = true → s.rep.broken.contains lane.val = false →
          v = forEach l (fun c t => t.forwardChar lane c) { d with rep := { d.rep with
            forwarded := tblSet (fun _ => []) d.rep.forwarded lane
              ((tblGet (fun _ => []) d.rep.forwarded lane).filter (fun f => decide (d.nowFine ≤ f.out))) } }))
    ∧ (∀ (lane : Fin 96) (frame : Reinserted) (gu : GatherCond) (r : Nat), lane.val < s.lanes → s.has (R.GU_CTRL_ENABLE lane) = true →
        s.get (R.GU_CTRL_FRAMING lane) = 2 → s.gatherClocked = true → s.reinsertDriver lane = some r →
        let held := tblGet (fun _ => 0) s.cap.stored lane
        let beats := frame.beats.take (32 - held)
        exec (.reinsertedFrame lane frame gu) s = .next (forEach beats (fun b t => t.takeBeat lane r b gu)
          { s with cap := { s.cap with stored := tblSet (fun _ => 0) s.cap.stored lane (min frame.left.val (held + beats.length)) } }))
    ∧ (∀ (lane : Fin 96) (q : Fin 1024) (d : Drops), tblFind (1024 * lane + q) s.cap.drops = some d → s.queueLive q = true →
        s.linearFull q 32 = false →
        let t : State := { s with cap := { s.cap with drops := tblDel (1024 * lane + q) s.cap.drops } }
        let r : Rec := { lane := lane, ts := d.first, source := lane + 256 * (s.get (R.GU_CTRL_FRAMING lane) - 1), len := 0,
                         classRes := d.count, flags := 16 + 32 * b2n (t.synthStamp d.first) + contextFlags t lane d.first }
        exec (.dropMarkerWrite lane q) s = .next ((((appendRecord t q r).raise 200).notifyQueue q).checkPost q))
    ∧ (∀ q : Fin 1024, (s.queue q).half.length % 64 ≠ 0 → s.queueLive q = true ∨ s.queueState q = qStopped → s.linearFull q 32 = false →
        let r : Rec := { lane := 127, ts := s.nowStamp, source := 0x7F + 0x300, len := 0, classRes := 0x30000,
                         flags := 4096 + 32 * b2n (s.synthStamp s.nowStamp) }
        exec (.padRecordTimer q) s = .next ((appendRecord s q r).checkPost q))
    ∧ (∀ (q : Fin 1024) (frames : List (Fin 96 × Timestamp)), s.queueLive q = true ∨ s.queueState q = qStopped →
        let u := forEach frames (fun (f : Fin 96 × Timestamp) t =>
          let v := t.countDrop f.1.val q f.2
          if v.has (R.GU_CTRL_LOSSLESS f.1.val) then v.yielded 4 3 f.1.val else v) s
        let m := (s.queue q).total / 2 ^ 20
        let x := u.queue q
        let failed : State → State := fun w => ((w.put (R.CQ_STATE_INT_ERR q) 1).bump (R.QC_INT_FAILS_COUNT (w.homeOf q))).raise 209
        (x.total / 2 ^ 20 = m → exec (.captureLineIntegrity q { frames := frames }) s
          = .next (failed (u.setQueue q { x with acc := { x.acc with integrity := true } })))
        ∧ (x.total / 2 ^ 20 = m → 0 < m →
            let a := { x.prev with integrity := true }
            exec (.captureLineIntegrity q { frames := frames, before := true }) s
              = .next (failed ((u.setQueue q { x with prev := a }).writeIndex q (m - 1) a false))))
    ∧ (∀ (mb : Fin 16) (tag : BitVec 16) (o : Op), s.opOf mb tag.toNat = some o → o.command = 0x0404 →
        (∀ q ∈ o.args, s.sealPending q = false) →
        exec (.cqSealComplete mb tag) s = .next ((forEach o.args (fun q t => t.sealQueue q) s).endOp o stOk 0))

/-- O40. R245: a line of a queue that fails its write counts, marks the queue, and raises its event. -/
def Obligations.ALineWriteFailureMarksTheQueue : Prop :=
  ∀ (s : State) (q : Fin 1024), s.queueLive q = true →
    ∃ t, exec (.captureLineIntegrity q {}) s = .next t ∧ t.get (R.CQ_STATE_INT_ERR q) = 1 ∧ t.eventSet 209 = true
      ∧ (t.queue q).acc.integrity = true ∧ (∀ p : Fin 1024, p ≠ q → t.queue p = s.queue p)
      ∧ t.mem = s.mem ∧ t.sram = s.sram ∧ t.gaf = s.gaf

/-- O41. R272, R277-R283: the rows of the classifier and of the trigger matrix. -/
def Obligations.TriggerRowsAct : Prop :=
  ∀ s : State,
    (∀ (idx : BitVec 15) (e : TernEntry), tblFind idx.toNat s.cap.tern = none → tblFind idx.toNat s.cap.ternCopy = some e →
      ∃ t, exec (.classifierEntryRewrite true idx) s = .next t ∧ tblFind idx.toNat t.cap.tern = some e
        ∧ (∀ j, j ≠ idx.toNat → tblFind j t.cap.tern = tblFind j s.cap.tern) ∧ t.cap.exact = s.cap.exact ∧ t.mem = s.mem)
    ∧ (∀ (idx : BitVec 15) (e : ExactEntry), tblFind idx.toNat s.cap.exact = none → tblFind idx.toNat s.cap.exactCopy = some e →
        ∃ t, exec (.classifierEntryRewrite false idx) s = .next t ∧ tblFind idx.toNat t.cap.exact = some e
          ∧ (∀ j, j ≠ idx.toNat → tblFind j t.cap.exact = tblFind j s.cap.exact) ∧ t.cap.tern = s.cap.tern ∧ t.mem = s.mem)
    ∧ (∀ out : Fin 8, ∃ t, exec (.trigOutPulseEnd out) s = .next t ∧ tblFind out.val t.cap.tout = none
        ∧ (∀ j, j ≠ out.val → tblFind j t.cap.tout = tblFind j s.cap.tout) ∧ t.regs = s.regs ∧ sameStores s t)
    ∧ (∀ (pin : Fin 8) (level : Bool), bits (s.reg R.TG_TIN_CFG) (2 * pin) 2 = 0 → bit s.cap.trigIn pin = false → level = true →
        ∃ t, exec (.trigInEdge pin level) s = .next t ∧ bit t.cap.trigIn pin = true ∧ bit t.cap.pulses (16 + pin) = true
          ∧ t.regs = s.regs ∧ sameStores s t)
    ∧ (∀ lines : Byte, (s.cap.sampled = false → exec (.triggerTransition lines) s = .next (triggerSample s lines.toNat))
        ∧ (s.cap.sampled = true → exec (.triggerTransition lines) s = .next s)
        ∧ (s.get R.TG_STATUS_ARMED = 0 → (triggerSample s lines.toNat).regs = s.regs ∧ (triggerSample s lines.toNat).cap.timers = s.cap.timers
          ∧ (triggerSample s lines.toNat).cap.pulses = 0 ∧ (triggerSample s lines.toNat).gaf = s.gaf ∧ sameStores s (triggerSample s lines.toNat)))
    ∧ (∀ n : Fin 4, s.cap.timers.contains n.val = true →
        ∃ t, exec (.triggerTimerExpiry n) s = .next t ∧ t.reg (R.TG_TMR n) = 0 ∧ t.cap.timers.contains n.val = false
          ∧ bit t.cap.pulses (44 + n) = true ∧ sameWords s t [R.TG_TMR n] ∧ sameStores s t)
    ∧ (∀ c : Fin 4, s.get R.TG_STATUS_ARMED = 1 → s.get (R.TG_CNT_SRC_EN c) = 1 → s.reg (R.TG_CNT c) < s.reg (R.TG_CNT_LIMIT c) →
        ∃ t, exec (.triggerCounterLimit c) s = .next t ∧ t.reg (R.TG_CNT c) = s.reg (R.TG_CNT_LIMIT c) ∧ t.eventSet 223 = true
          ∧ sameStores s t)

/-- O42. R303-R323: the rows of replay engines and of pass-through. -/
def Obligations.ReplayRowsAct : Prop :=
  ∀ (s : State) (e : Fin 32),
    (∀ t p i, (s.engine e).at_ = some (t, p) → s.instantOf t p = some i →
      let u := s.setEngine e { s.engine e with at_ := none }
      exec (.replayStartInstant e) s = .next (if u.running = true then u.startEngine e i else u))
    ∧ (∀ n : BitVec 12, s.engineState e ≠ 0 → s.replayClocked e = true →
        exec (.patternFetchReturn e { lines := n }) s = .next ((iterate n.toNat (fun _ t => t.fetchLine e) s).showPrimed e)
        ∧ ∀ c : Fin 32, exec (.patternFetchReturn e { lines := n, fromNoc := some c }) s
            = .next ((iterate n.toNat (fun _ t => t.fetchLine e) (s.yielded 6 5 c)).showPrimed e))
    ∧ (s.engineState e = 2 → s.substLane e = none → (s.engine e).ending = none → s.replayClocked e = true → ∀ d : Bool,
        (∀ cause, s.stopDue e = some cause → exec (.recordLaunch e d) s = .next (s.stopAfter e cause))
        ∧ (s.stopDue e = none →
          (∀ r : PatRecord, s.nextRecord e = .record r → exec (.recordLaunch e d) s = .next (s.launch e r d))
          ∧ (s.nextRecord e = .ended → exec (.recordLaunch e d) s = .next (s.stopAfter e 1))
          ∧ (s.nextRecord e = .failed → exec (.recordLaunch e d) s = .next (s.stopEngine e 5))
          ∧ (s.nextRecord e = .bad → exec (.recordLaunch e d) s = .next (s.stopEngine e 4))))
    ∧ (∀ cause, s.stopDue e = some cause → exec (.replayRecordBoundaryStop e) s = .next (s.stopAfter e cause))
    ∧ (∀ cause, let last := s.lastEnd e
        (last ≤ s.nowFine → s.stopAfter e cause = s.stopEngine e cause)
        ∧ (s.nowFine < last → (s.stopAfter e cause).engineState e = s.engineState e
            ∧ ((s.stopAfter e cause).engine e).ending = some (last, cause) ∧ (s.stopAfter e cause).regs = s.regs))
    ∧ (∀ (n : Nat) (chars : BitVec 21) (a b : Bool), s.substLane e = some n → s.engineState e = 2 → s.slotReady n = true → (s.engine e).ending = none →
        s.replayClocked e = true → s.stopDue e = none →
        s.nextRecord e = .ended → exec (.substitutionSlot e chars a b) s = .next (s.stopAfter e 1))
    ∧ (∀ lane : Fin 96, s.has (R.LN_STATUS_CDR_LOCK lane) = true →
        ∃ t, exec (.passthroughResume lane) s = .next t ∧ t.rep.broken.contains lane.val = false ∧ t.rep.engines = s.rep.engines
          ∧ t.regs = s.regs ∧ t.gaf = s.gaf ∧ t.mem = s.mem)

/-- O43. R316, R318: an engine that stops shows STOPPED and the cause, and every other engine goes on. -/
def Obligations.AStoppedEngineShowsItsCause : Prop :=
  ∀ (s : State) (e : Fin 32) (cause : Nat), s.engineState e = 2 → cause < 16 →
    (s.stopEngine e cause).engineState e = 3 ∧ (s.stopEngine e cause).get (R.RP_STATE_STOP_CAUSE e) = cause
      ∧ (s.stopEngine e cause).get (R.RP_STATE_DEPTH e) = 0 ∧ (s.stopEngine e cause).eventSet (232 + e / 4) = true
      ∧ (∀ k : Fin 32, k ≠ e → (s.stopEngine e cause).engineState k = s.engineState k) ∧ (s.stopEngine e cause).mem = s.mem

/-- O44. R322-R324: an engine's next frame is sent in a slot that begins at or after its instant and, under INSERT, is long enough for it; a
frame of one record that fits goes out from the slot's first character on, under REPLACE with IDLE up to the slot's end. -/
def Obligations.ASubstitutionSlotSendsTheRecord : Prop :=
  ∀ (s : State) (e : Fin 32) (n : Nat) (chars : BitVec 21) (before after : Bool) (r : PatRecord) (sched : Nat),
    s.substLane e = some n → s.engineState e = 2 → s.slotReady n = true → (s.engine e).ending = none → s.replayClocked e = true →
    s.stopDue e = none →
    s.nextRecord e = .record r → s.scheduledAt e r = some sched → 0 < chars.toNat → sched < s.nowFine + 64 →
    (s.has (R.RP_CFG_SUB_MODE e) = true → s.chainLength e ≤ chars.toNat) →
    let at_ := max s.nowFine sched
    let t := s.substitute e n at_ chars.toNat r before after
    exec (.substitutionSlot e chars before after) s = .next t
      ∧ (bit r.source 11 = false →
          let o := s.outputPayload e r
          let syms := symbolsOf false r.flags o.2
          let idle := s.get (R.RP_CFG_IDLE e)
          let all := syms ++ if s.has (R.RP_CFG_SUB_MODE e) then [] else
            List.replicate (chars.toNat - syms.length) (bit idle 8, BitVec.ofNat 8 idle)
          syms.length ≤ chars.toNat → ∃ x, tblFind n t.rep.sent = some x ∧ x.engine = e.val ∧ x.symbols = all ∧ x.launch = at_)

/-- O45. R388, R405, R408, R344, R376, R377: the rows of context planes and of the fabric's I/O. -/
def Obligations.ContextRowsAct : Prop :=
  ∀ s : State,
    (∀ (r : Fin 48) (g : Nat) (p : PendSwitch), s.groupOf r = some g ∨ (s.groupOf r = none ∧ g = 128 + r.val) →
      tblFind g s.fab.pend = some p → p.members.contains r.val = true → p.at_ + 4 ≤ s.tb.now → s.inDead r = false →
      s.switchEdge r p.plane = true →
      (p.began = false → s.switchAllowed p.members p.plane = true → s.activeOf r ≠ p.plane →
        let todo := p.members.filter (fun m => s.activeOf m != p.plane)
        exec (.contextSwitch r) s = .next ((s.beginSwitch p todo).switchRegion g r p todo))
      ∧ (p.began = true → exec (.contextSwitch r) s = .next ((s.beginSwitch p p.members).switchRegion g r p p.members)))
    ∧ (s.get R.CF_LOAD_STATUS_BUSY = 0 → exec .configLoadStart s = .next s.beginLoad)
    ∧ (∀ (l : Load) (rest : List Load) (fail : Bool), s.fab.loads = l :: rest → s.get R.CF_LOAD_STATUS_BUSY = 1 →
        (l.kind = .boot → exec (.configLoadComplete fail) s = .next (s.bootLoaded l fail))
        ∧ (l.kind = .migrate → exec (.configLoadComplete fail) s
            = .next (migrateLoaded (State.showLoad { s with fab := { s.fab with loads := rest } } false) l fail))
        ∧ (l.kind ≠ .boot → l.kind ≠ .migrate → exec (.configLoadComplete fail) s = .next (loadComplete s fail)))
    ∧ (∀ (r : Fin 48) (p : Fin 8) (frame : Fin 14400) (us : BitVec 32), s.mode ≠ mLehr →
        s.scrubTurn (16384 * (8 * r + p) + frame) = true →
        ∃ t, exec (.scrubFrame r p frame 0 (some us)) s = .next t
          ∧ t.reg R.CF_SCRUB_PERIOD = us.toNat ∧ sameWords s t [R.CF_SCRUB_PERIOD, R.CF_SCRUB_STATUS] ∧ t.mem = s.mem ∧ t.gaf = s.gaf)
    ∧ (∀ (r : Fin 48) (p : Fin 8) (frame : Fin 14400), s.mode ≠ mLehr → s.planeState r p = plValid →
        s.scrubTurn (16384 * (8 * r + p) + frame) = true →
        ∃ t, exec (.scrubFrame r p frame 1 none) s = .next t ∧ t.get R.CF_SCRUB_STATUS_CORR_SEEN = 1
          ∧ t.get R.CF_SCRUB_CORRECTED_COUNT = min (s.get R.CF_SCRUB_CORRECTED_COUNT + 1) (2 ^ R.CF_SCRUB_CORRECTED_COUNT.w - 1)
          ∧ t.eventSet 274 = true ∧ t.mem = s.mem ∧ t.gaf = s.gaf)
    ∧ (∀ (pair : Fin 24) (x : RiserSite), s.planeState (if x.upper then pair else 24 + pair) (s.activeOf (24 + pair)) = plValid →
        let k := riserKey pair x.tile x.upper x.riser
        let key := s.riserFrame pair x
        tblFind k s.fab.illegal = none →
        ∃ t, exec (.riserIllegalDecode pair x) s = .next t ∧ t.eventSet 279 = true
          ∧ t.fab = { s.fab with scrubFirst := s.fab.scrubFirst.filter (fun y => y != key) ++ [key], illegal := tblPut k key s.fab.illegal }
          ∧ t.mem = s.mem ∧ t.gaf = s.gaf)
    ∧ (∀ io : Fin 288, s.ioDriven io = true →
        (∀ v : BitVec 9, exec (.ioDelayLoad io v) s = .next (s.setTap io v.toNat))
        ∧ exec (.ioDelayInc io false) s = .next (s.setTap io (min 511 (s.tapOf io + 1)))
        ∧ exec (.ioDelayDec io false) s = .next (s.setTap io (s.tapOf io - 1))
        ∧ exec (.ioDelayInc io true) s = .next s ∧ exec (.ioDelayDec io true) s = .next s)

/-- O46. R387, R388, R401: at its switching edge a region shows the new plane as ACTIVE, where it runs SWITCHING until its dead cycle ends, and is
asked for no other; where no reinserted frame of it is in progress (R360), it counts the switch, and the other regions stay. -/
def Obligations.ASwitchTakesTheNewPlane : Prop :=
  ∀ (s : State) (r : Fin 48) (plane : Nat), plane < 8 →
    let t := s.takePlane r plane
    t.activeOf r = plane ∧ t.rgState r = (if s.runs r = true then rgSwitching else s.rgState r) ∧ t.get (R.CF_CTX_STATE_PEND r) = 0
      ∧ ((∀ e ∈ s.cap.open_, e.2.origin = 1 → e.2.region ≠ r.val) →
          t.get (R.CF_CTX_SWITCHES_COUNT r) = min (s.get (R.CF_CTX_SWITCHES_COUNT r) + 1) (2 ^ (R.CF_CTX_SWITCHES_COUNT r).w - 1)
          ∧ ∀ m : Fin 48, m ≠ r → t.activeOf m = s.activeOf m ∧ t.rgState m = s.rgState m)

/-- O47. R398: a switch whose target is not VALID in every member switches no member. -/
def Obligations.ARefusedSwitchSwitchesNoRegion : Prop :=
  ∀ (s : State) (r : Fin 48) (p : PendSwitch), s.groupOf r = none → tblFind (128 + r.val) s.fab.pend = some p → p.members = [r.val] →
    p.began = false → p.at_ + 4 ≤ s.tb.now → s.inDead r = false → s.switchEdge r p.plane = true → s.switchAllowed [r.val] p.plane = false →
      ∃ t, exec (.contextSwitch r) s = .next t ∧ (∀ m : Fin 48, t.activeOf m = s.activeOf m)
        ∧ t.get (R.CF_CTX_REFUSED_REFUSED r) = min (s.get (R.CF_CTX_REFUSED_REFUSED r) + 1) (2 ^ (R.CF_CTX_REFUSED_REFUSED r).w - 1)
        ∧ t.eventSet 273 = true ∧ t.mem = s.mem

/-- O48. R400, R432, R451, R454: the rows of the context library, of migrations and of the sets that a drain moves. -/
def Obligations.PlacementRowsAct : Prop :=
  ∀ s : State,
    (256 ≤ s.tb.pip → ∃ t, exec .bankCopyStart s = .next t ∧ t.regs = s.regs ∧ t.gaf = s.gaf ∧ t.sram = s.sram
      ∧ (∀ m ∈ t.fab.migrations, m.moved = true → m.copied = false → m.copying = true)
      ∧ ∀ m ∈ t.fab.setMoves, m.copied = false → m.copying = true)
    ∧ (∀ m : Migration, s.fab.migrations.find? (fun m => m.copying) = some m →
        exec .bankCopyEnd s = .next (((forEach m.copies (fun x t => t.copySet x.1 x.2) s).setMigration
          { m with copying := false, copied := true }).migrationSwitch m m.ran))
    ∧ (∀ m : SetMove, s.fab.migrations.find? (fun m => m.copying) = none → s.fab.setMoves.find? (fun m => m.copying) = some m →
        ∃ t, exec .bankCopyEnd s = .next t
          ∧ t.fab.setMoves = s.fab.setMoves.map (fun x => if x = m then { m with copying := false, copied := true } else x)
          ∧ t.sram = (s.copySet m.old m.new).sram ∧ t.gaf = s.gaf ∧ t.mem = s.mem)
    ∧ (∀ (o : Op) (q : Piece),
        let u := s.dropDeadAdds
        let h := o.args.getD 2 0
        let p := pieceOutcome u (o.args.getD 0 0) q.manifest
        u.gaf.ops.find? (fun o => o.command == 0x0300) = some o → tblFind h u.fab.pieces = some q →
          (p.2.1 = stOk → exec .libraryAddComplete s = .next ((State.endOp { p.1 with fab := { p.1.fab with
            pieces := tblPut h { q with adding := false, frames := p.2.2.2 } p.1.fab.pieces } } o stOk 0).showPlaced))
          ∧ (p.2.1 ≠ stOk → exec .libraryAddComplete s = .next ((p.1.drawn.endOp (p.1.partChecked o) p.2.1 p.2.2.1).dropDeadAdds)))

/-! ### Tap Engines, SRAM -/

/-- O49. R472, R475-R484: the instructions of a Tap Engine, each at the PC of an engine that runs, with its fields in range and its streams
ready; an illegal opcode faults. -/
def Obligations.TapInstructionsIssue : Prop :=
  ∀ (s : State) (e : Fin 1536) (w : BitVec 44) (k : IssueCond), s.teState e = 1 → s.engineClocked e = true → k.ramUe = false →
    let n := w.toNat
    let u := s.taken e k.taken.toNat
    let at_ := fun (op : Nat) => ∀ x, s.teWord e (s.tePc e) = some x → x = 2 ^ 44 * op + n
    (at_ 0 → n = 0 → exec (.halt e w k) s = .next (halt u e) ∧ (halt u e).teState e = 3 ∧ (halt u e).tePc e = (s.tePc e + 1) % 256)
    ∧ (at_ 1 → macBad n = false → (bits n 31 2 = 1 → (u.teOf e).streamMet 0 1 = true) →
        (bits n 31 2 = 2 → (u.teOf e).streamMet 1 1 = true) → exec (.mac e w k) s = .next (mac u e n))
    ∧ (at_ 2 → macBad n = false → bits n 31 2 = 0 → exec (.tapmv e w k) s = .next (tapmv u e n))
    ∧ (at_ 3 → bits n 0 31 = 0 → bits n 39 3 ≤ 4 → (bit n 33 = true → bits n 39 3 ≤ 1 ∧ (u.teOf e).streamMet (2 + bits n 39 3) 1 = true) →
        exec (.mov e w k) s = .next (mov u e n))
    ∧ (at_ 4 → ldBad (u.teOf e) n = false → (bits n 37 3 = 3 → (u.teOf e).streamMet 0 1 = true) →
        (bits n 37 3 = 4 → (u.teOf e).streamMet 1 1 = true) → exec (.ld e w k) s = .next (ld u e n))
    ∧ (at_ 5 → bits n 37 3 ≤ 4 → bits n 24 11 = 0 → (bits n 37 3 = 3 ∨ bits n 0 24 = 0) → (bits n 37 3 = 0 → (u.teOf e).streamMet 0 1 = true) →
        (bits n 37 3 = 1 → (u.teOf e).streamMet 1 1 = true) → exec (.st e w k) s = .next (st u e n))
    ∧ (at_ 6 → bits n 0 20 = 0 → bits n 28 16 ≠ 0 → s.tePc e + 1 < bits n 20 8 → (s.teOf e).loops.length < 3 →
        exec (.loop e w k) s
          = .next (issued (u.setLoops e (⟨(s.tePc e + 1) % 256, bits n 20 8, bits n 28 16⟩ :: (s.teOf e).loops)) e ((s.tePc e + 1) % 256)))
    ∧ (at_ 8 → bits n 0 30 = 0 → bits n 40 4 ≤ 13 →
        exec (.br e w k) s = .next (if branchTaken u e n then
            issued (u.setLoops e ((s.teOf e).loops.filter (fun l => decide (l.start ≤ bits n 32 8) && decide (bits n 32 8 ≤ l.stop)))) e
              (bits n 32 8)
          else issued u e ((s.tePc e + 1) % 256)))
    ∧ (at_ 9 → bits n 0 37 = 0 → bits n 41 3 ≤ 3 → (u.teOf e).streamMet (bits n 41 3) (bits n 37 4 + 1) = true →
        exec (.sync e w k) s = .next (issued u e ((s.tePc e + 1) % 256)))
    ∧ (at_ 10 → bits n 39 3 ≤ 4 →
        let r := evTrue ((s.teOf e).accOf (bits n 42 2)) n
        let v := if bit n 37 then u.put (R.TE_STATUS_CMP e) (b2n r) else u
        exec (.ev e w k) s = .next (issued (if r && bit n 38 then v.teEvent e (s.tePc e) 0 else v) e ((s.tePc e + 1) % 256)))
    ∧ (at_ 11 → n = 0 → exec (.nop e w k) s = .next (issued u e ((s.tePc e + 1) % 256)))
    ∧ ∀ op : Fin 4, at_ (12 + op.val) → exec (.illegalOpcode e op w) s = .next (s.teFaults e 1)

/-- O50. R468, R470, R472, R473, R492, R493: the streams, the rings and the written registers of a Tap Engine. -/
def Obligations.TapStreamRowsAct : Prop :=
  ∀ (s : State) (e : Fin 1536),
    (∀ q : BitVec 96, s.regionLive (e / 32) = true → s.portRuns (e / 32) (.streamIn (e % 32)) = true → (s.teOf e).in0.length < 16 →
      exec (.teStreamQuadIn e q) s = .next (s.setTe e { s.teOf e with in0 := (s.teOf e).in0 ++ [quadOf q.toNat] }))
    ∧ (s.ringOpen e = true → s.mustWait (s.globalOf (s.ringInAt e)) 16 false = false → s.has (R.TE_NIN_CTRL_EN e) = true → s.get (R.TE_NIN_PROD_INDEX e) ≠ s.get (R.TE_NIN_CONS_INDEX e) → (s.teOf e).in1.length < 16 →
        let cons := s.get (R.TE_NIN_CONS_INDEX e)
        let x := ringRead s e (4096 * s.get (R.TE_NIN_BASE_BASE e) + cons % 2 ^ s.get (R.TE_NIN_CTRL_LOG2SIZE e) * 16)
        x.2.1 = rOk → exec (.teRingReadResponse e false) s
          = .next ((x.1.setTe e { x.1.teOf e with in1 := (x.1.teOf e).in1 ++ [(List.range 4).map (fun i => le x.2.2 (4 * i) 3)] }).put
              (R.TE_NIN_CONS_INDEX e) (cons + 1)))
    ∧ (∀ (q : OutQuad) (rest : List OutQuad), s.ringOpen e = true → s.mustWait (s.globalOf (s.ringOutAt e)) 16 true = false → (s.teOf e).out1 = q :: rest → bit (s.reg (R.TE_NOUT_CTRL e)) 31 = true →
        let prod := s.get (R.TE_NOUT_PROD_INDEX e)
        let size := 2 ^ bits (s.reg (R.TE_NOUT_CTRL e)) 0 4
        let x := ringWrite s e (4096 * bits (s.reg (R.TE_NOUT_BASE e)) 0 28 + prod % size * 16) (outBytes q)
        (65536 + prod - s.get (R.TE_NOUT_CONS_INDEX e)) % 65536 ≠ size → x.2 = rOk → exec (.teRingWriteResponse e false) s
          = .next ((x.1.setTe e { x.1.teOf e with out1 := rest }).put (R.TE_NOUT_PROD_INDEX e) (prod + 1)))
    ∧ (∀ (k : BitVec 5) (c : BitVec 32) (p n : Nat), s.teState e = 2 → s.engineClocked e = true → (s.teOf e).wait = some (p, n) →
        ((s.taken e k.toNat).teOf e).streamMet p n = true → exec (.teStallRelease e k c) s
          = .next (((s.taken e k.toNat).put (R.TE_STALLS_COUNT e) (s.get (R.TE_STALLS_COUNT e) + c.toNat)).setTe e
              { (s.taken e k.toNat).teOf e with wait := none } |>.teRuns e))
    ∧ (s.teState e = 3 ∨ s.teState e = 4 → exec (.teCtrlRestart e) s
        = .next (if s.engineClocked e then enterPage s e else s.setTe e { s.teOf e with restart := true }))
    ∧ (s.teState e = 1 → ∃ t, exec (.teCtrlStop e) s = .next t ∧ t.teState e = 3 ∧ sameWords s t [R.TE_STATUS e] ∧ sameStores s t)
    ∧ (∀ (v : BitVec 32) (who : Requester), s.teState e ∈ [0, 3, 4] →
        exec (.teRamdataAccess e (some v) who) s = .next ((teRamWrite s e v.toNat).answer (requesterPath who) rOk [])
        ∧ exec (.teRamdataAccess e none who) s = .next ((stepRamIndex s e).answer (requesterPath who) rOk (toLE 4 (teRamRead s e))))
    ∧ (∀ (out : Bool) (v : BitVec 32), exec (.teRingEnable e out v) s = .next (writeRingCtrl s e out v.toNat))
    ∧ (∀ v : BitVec 16, exec (.teNinProdWrite e v) s = .next (s.put (R.TE_NIN_PROD_INDEX e) v.toNat)
        ∧ exec (.teNoutConsWrite e v) s = .next (s.put (R.TE_NOUT_CONS_INDEX e) v.toNat))
    ∧ ∃ t, exec .teEvqPop s = .next t ∧ t.te.evq = s.te.evq.drop 1 ∧ t.get R.TE_EVQ_COUNT_COUNT = (s.te.evq.drop 1).length % 2 ^ R.TE_EVQ_COUNT_COUNT.w
        ∧ sameWords s t [R.TE_EVQ_HEAD, R.TE_EVQ_COUNT] ∧ t.te.engines = s.te.engines

/-- O51. R500, R501, R508, R512, R514, R518, R519: the ports, windows, queues and banks of the SRAM. -/
def Obligations.SramRowsAct : Prop :=
  ∀ s : State,
    (∀ (c : Fin 96) (port : Fin 3) (addr : BitVec 17), s.portReady c (port + 1) = true →
      let u := s.stalled c (port + 1) 0
      let x := sramRead (u.wordUpset (s.physWord c addr.toNat) 0) c (8 * addr.toNat) 8 (c / 2) 0xFF (port + 1)
      exec (.smRead c port addr 0 false 0) s = .next (x.1.answer (smPath c (port + 1)) x.2.1 x.2.2)
      ∧ exec (.smRead c port addr 0 true 0) s = .next (x.1.bump (R.SB_CL_DISCARDS_COUNT c)))
    ∧ (∀ (c : Fin 96) (port : Fin 3) (addr : BitVec 17) (d : BitVec 64) (be : Byte), s.portReady c (port + 1) = true →
        let u := (s.stalled c (port + 1) 0).wordUpset (s.physWord c addr.toNat) 0
        u.deniedBank c [addr.toNat] (c / 2) 0xFF = none →
        exec (.smWrite c port addr d be 0 0) s
          = .next ((writeWord u c addr.toNat d.toNat be.toNat).next.answer (smPath c (port + 1)) (writeWord u c addr.toNat d.toNat be.toNat).code []))
    ∧ (∀ (c : Fin 96) (port : Fin 3) (win : Fin 8) (o : BitVec 17) (d : BitVec 64) (be : Byte) (k : Fin 3), s.portReady c (port + 1) = true →
        let u := s.stalled c (port + 1) 0
        let push := windowOp u c win 0 0 d.toNat 255 (c / 2) 0xFF (port + 1)
        let pop := windowOp (u.wordUpset (u.windowWord c win 1 0) k) c win 1 0 0 255 (c / 2) 0xFF (port + 1)
        let peek := windowOp (u.wordUpset (u.windowWord c win 2 o.toNat) k) c win 2 o.toNat 0 255 (c / 2) 0xFF (port + 1)
        let poke := windowOp (u.wordUpset (u.windowWord c win 3 o.toNat) k) c win 3 o.toNat d.toNat be.toNat (c / 2) 0xFF (port + 1)
        exec (.smPush c port win d 0) s = .next (push.next.answer (smPath c (port + 1)) push.code [])
        ∧ exec (.smPop c port win k 0) s = .next (pop.next.answer (smPath c (port + 1)) pop.code (toLE 8 pop.data))
        ∧ exec (.smPeek c port win o k 0) s = .next (peek.next.answer (smPath c (port + 1)) peek.code (toLE 8 peek.data))
        ∧ exec (.smPoke c port win o d be k 0) s = .next (poke.next.answer (smPath c (port + 1)) poke.code []))
    ∧ (∀ (c : Fin 96) (port : Fin 3), s.portReady c (port + 1) = true → exec (.smInvalidOp c port) s = .next (s.answer (smPath c (port + 1)) rWindowOp []))
    ∧ (∀ (b : Fin 1536) (owner : Byte) (who : Requester), exec (.sbOwnerWrite b owner who) s = .next (writeOwner s b owner.toNat who))
    ∧ (∀ (q : Fin 128) (v : BitVec 32) (who : Requester), exec (.qcPortDataHiWrite q v who) s = .next (writePortHi s q v.toNat who))
    ∧ (∀ (q : Fin 128) (who : Requester), 96 ≤ q.val →
        exec (.qcPortDataLoRead q who 0) s
          = .next ((readPortLo s q who).answer (requesterPath who) rOk (toLE 4 ((readPortLo s q who).reg (R.QC_PORT_DATA_LO q)))))
    ∧ (∀ (q : Fin 128) (win : Fin 8) (v : BitVec 32) (who : Requester), exec (.qcWinCfgWrite q win v who) s = .next (writeWinCfg s q win v.toNat who))
    ∧ ∀ b : Fin 1536, s.clusterReady (b / 16) = true → tblGet (fun _ => 0) s.sram.bad (8192 * b + tblGet (fun _ => 0) s.sram.scrubbed b % 8192) = 0 →
        ∃ t, exec (.sramScrubWord b 0) s = .next t ∧ tblGet (fun _ => 0) t.sram.scrubbed b = tblGet (fun _ => 0) s.sram.scrubbed b + 1
          ∧ t.sram.data = s.sram.data ∧ sameWords s t [R.SB_CL_STATUS (b / 16)] ∧ t.mem = s.mem ∧ t.gaf = s.gaf

/-! ### Stack memory, the network, lanes -/

/-- O52. R532, R543, R545, R551-R554: lines, channels, the sweep, the key slots and the scrubs of stack memory. -/
def Obligations.StackMemoryRowsAct : Prop :=
  ∀ s : State,
    (∀ (line : BitVec 30) (errs : List (Fin 72 × Byte)), s.mem.ready = true → s.lineExists line.toNat = true →
      exec (.stackLineRead line errs false) s = .next (readLine (s.upset line.toNat errs) line.toNat).next
      ∧ exec (.stackLineRead line errs true) s = .next (readLine ((s.upset line.toNat errs).pageLost (line.toNat / 64)) line.toNat).next
      ∧ (s.mode ≠ mLehr → exec (.patrolScrubLine line errs) s = .next (patrolLine (s.upset line.toNat errs) line.toNat).1)
      ∧ ∀ (off : Fin 64) (b : List Byte), b ≠ [] →
          exec (.stackLineWrite line off b errs) s = .next (writeLine (s.upset line.toNat errs) line.toNat off (b.take (64 - off))).1)
    ∧ (∀ ch : Fin 32, s.get (R.SM_CH_STATUS_STATE ch) ≠ 0 →
        exec (.channelRetrainFail ch) s = .next (s.setChannelState ch 3) ∧ (s.setChannelState ch 3).get (R.SM_CH_STATUS_STATE ch) = 3)
    ∧ (∀ g, s.nextSweep = some g →
        let p := 65536 * g + tblGet (fun _ => 0) s.mem.sweepPos g
        let u : State := { s with mem := { s.mem with sweepNext := g + 1 } }
        exec (.sweepPage false) s = .next ((u.sweepPage p).markSwept p)
        ∧ exec (.sweepPage true) s = .next (((u.pageLost p).sweepPage p).markSwept p))
    ∧ (∀ n : Fin 16, s.get (R.MG_SLOT_STATE n) = 3 → s.slotInflight n = 0 → (s.put (R.MG_SLOT_INFLIGHT n) 0).slotInflight n = 0 →
        exec (.slotZeroise n) s
          = .next ((((s.put (R.MG_SLOT_INFLIGHT n) 0).setReg (R.MG_SLOT n) 0).raise 246).startWaiting))
    ∧ ∀ o : Op, s.gaf.ops.find? (fun o => o.command == 0x0806) = some o → s.has R.MG_STATUS_SWEEPING = false →
        s.scrubLines (o.args.getD 0 0) (o.args.getD 1 0) = [] → exec .memScrubComplete s = .next (s.endOp o stOk 0)

/-- O53. R515, R572, R574, R589-R591: a request that is well formed, is not answered by a cache, and has an open target of this device that
answers by itself, is performed there, and its answer waits at the target. -/
def Obligations.NetworkRequestsArePerformed : Prop :=
  ∀ (s : State) (r : NocRequest) (q : Issuer) (posted : Bool) (b : List Byte) (win : Fin 8) (words : List (BitVec 64)),
    let n := r.len.toNat
    ∀ x ∈ [(Instr.read r, Access.read, false), (.write r posted b, .write (fit n b), posted),
        (.winPush r win words, .window 0 win (windowWords n words), false), (.winPop r win, .window 1 win (windowWords n []), false),
        (.winPeek r win, .window 2 win (windowWords n []), false), (.winPoke r win words, .window 3 win (windowWords n words), false)],
      issuerOf r.src r.dev (r.col.map Fin.val) = some q → s.epState r.src = epOpen → s.outOf r.src (nocDevice s r) r.tag.toNat = none →
      portOf r.src = none → s.mayIssue r.src r.col = true → wellFormedRequest (r.addr.toNat % 2 ^ 40) n x.2.1.isWindow = true → nocHit s r x.2.1 q = none →
      r.poison = false → r.faults = [] → (targetOf s r.addr.toNat n = .stack ∨ targetOf s r.addr.toNat n = .control
        ∨ ∃ c, targetOf s r.addr.toNat n = .sram c) →
      let e := targetEndpoint s (targetOf s r.addr.toNat n) (r.addr.toNat % 2 ^ 40)
      s.epState e = epOpen → s.wayFailed (route r.src e) = false → s.mustWait r.addr.toNat n x.2.1.isWrite = false →
        let k := nocPacket s r x.2.1 x.2.2 q e
        let y := perform (s.inject k) q (targetOf s r.addr.toNat n) r.addr.toNat n x.2.1
          (if x.2.2 then none else some (r.src.val, nocDevice s r, r.tag.toNat))
        exec x.1 s = .next (nocAdd y.1 x.2.2 (nocEntry s r x.2.1 k e (some (y.2.1, if y.2.1 = rOk then y.2.2 else [])) false false))

/-- O54. R574, R591-R594, R598, R599, R656, R833: responses, snoops, timeouts, the ends of endpoints, and requests to the host memory
aperture: a read waits for the host's completion, a write is answered OK, and neither leaves where the aperture is shut or the host cannot be
reached. -/
def Obligations.NetworkAnswersArrive : Prop :=
  ∀ s : State,
    (∀ (p : NocResponse) (o : Outstanding) (c : Nat) (d : List Byte), s.outOf p.src p.dev p.tag.toNat = some o → o.answer = some (c, d) →
      s.returns o = true → p.faults = [] →
      (∀ st : BitVec 4, o.read = false ∨ c ≠ rOk →
        exec (.resp p st) s = .next ((s.inject (o.response c [])).delivered o c (if o.read then zeros o.len else [])))
      ∧ (∀ (b : List Byte) (key : BitVec 4), o.read = true → c = rOk → o.store = false →
          exec (.data p b key) s = .next ((s.inject (o.response rOk d)).delivered o rOk d)))
    ∧ (∀ (p : NocResponse) (o : Outstanding), s.outOf p.src p.dev p.tag.toNat = some o →
        (o.away = false → exec (.requestTimeout p) s = .next (s.timedOut o))
        ∧ (o.away = true → exec (.arrayRequestTimeout p) s = .next (s.timedOut o))
        ∧ ((s.timedOut o).eventSet 269 = true ∨ s.eventAbsent 269 = true))
    ∧ (∀ (u : Fin 49) (line : BitVec 37), s.noc.snoops.contains (u.val, line.toNat, none) = true →
        ∃ t, exec (.inv (some u) line) s = .next t ∧ (∀ c ∈ t.noc.caches, c.unit = u.val → c.line ≠ line.toNat)
          ∧ t.noc.acks = s.noc.acks ++ [(u.val, line.toNat, none)] ∧ t.mem = s.mem ∧ t.gaf = s.gaf)
    ∧ (∀ (u : Fin 49) (dev : Fin 8) (key : BitVec 4), s.noc.snoops.contains (u.val, dev.val, some key.toNat) = true →
        ∃ t, exec (.keyDrop (some u) dev key) s = .next t ∧ (∀ c ∈ t.noc.caches, c.unit = u.val → c.key = key.toNat → c.line / 2 ^ 34 ≠ dev.val)
          ∧ t.noc.acks = s.noc.acks ++ [(u.val, dev.val, some key.toNat)] ∧ t.mem = s.mem ∧ t.gaf = s.gaf)
    ∧ (∀ (b : Fin 64) (line : BitVec 37), b.val ≤ 48 → s.noc.acks.contains (b.val, line.toNat, none) = true → line.toNat / 2 ^ 34 = s.devId →
        let u : State := { s with noc := { s.noc with acks := s.noc.acks.erase (b.val, line.toNat, none) } }
        exec (.invAck b line none) s = .next (State.unlock (u.inject (u.snoopPacket b line.toNat none true)) b line.toNat))
    ∧ (∀ e : Fin 240, s.epState e = epOpen ∨ s.epState e = epClosing →
        ∃ t, exec (.endpointDead e) s = .next t ∧ t.epState e = epDead ∧ t.get (R.NC_EP_CTRL_OPEN e) = 0 ∧ t.get (R.NC_EP_STATUS_DEAD_SEEN e) = 1
          ∧ (∀ o ∈ t.noc.out, o.dst = e.val → o.answer.isSome = true) ∧ t.mem = s.mem ∧ t.sram = s.sram ∧ t.gaf = s.gaf)
    ∧ (∀ e : Fin 240, s.epState e = epClosing → (∀ o ∈ s.noc.out, o.src ≠ e.val ∧ (o.dst = e.val → o.answer.isSome = true)) →
        ∃ t, exec (.endpointClosed e) s = .next t ∧ t.epState e = epIsolated ∧ t.get (R.NC_EP_STATUS_CLOSED_SEEN e) = 1
          ∧ t.mem = s.mem ∧ t.sram = s.sram ∧ t.gaf = s.gaf ∧ t.noc = s.noc)
    ∧ (∀ (r : NocRequest) (posted : Bool) (b : List Byte), addrClass (r.addr.toNat % 2 ^ 40) = .host →
        (exec (.hostApertureRequest r none posted) s = exec (.read r) s
        ∧ exec (.hostApertureRequest r (some b) posted) s = exec (.write r posted b) s)
        ∧ ∀ q : Issuer,
          let n := r.len.toNat
          ∀ x ∈ [(Instr.hostApertureRequest r none posted, Access.read, false),
              (.hostApertureRequest r (some b) posted, .write (fit n b), posted)],
            issuerOf r.src r.dev (r.col.map Fin.val) = some q → s.epState r.src = epOpen →
            s.outOf r.src (nocDevice s r) r.tag.toNat = none → portOf r.src = none → s.mayIssue r.src r.col = true →
            wellFormedRequest (r.addr.toNat % 2 ^ 40) n false = true → nocHit s r x.2.1 q = none → r.poison = false → r.faults = [] →
            targetOf s r.addr.toNat n = .host → s.epState hostEndpoint = epOpen → s.wayFailed (route r.src hostEndpoint) = false →
              let k := nocPacket s r x.2.1 x.2.2 q hostEndpoint
              let ans : Option (Nat × List Byte) := if q.peer then some (rDenied, [])
                else if s.has R.HP_APER_CTRL_EN = false ∨ s.hostReachable = false then some (rUnmapped, [])
                else if x.2.1.isWrite then some (rOk, []) else none
              exec x.1 s = .next (nocAdd (s.inject k) x.2.2 (nocEntry s r x.2.1 k hostEndpoint ans false false)))
    ∧ ∀ (p : NocResponse) (t : State), 
        (s.hostAnswer p rTimeout [] = some t → exec (.hostCompletionTimeout p) s = .next (t.bump R.HP_ERR2_TIMEOUTS))
        ∧ ∀ b : List Byte,
          (s.hostAnswer p rOk b = some t → exec (.hostCompletionArrival p ⟨.ok, b⟩) s = .next t)
          ∧ (s.hostAnswer p rIntegrity [] = some t → exec (.hostCompletionArrival p ⟨.poisoned, b⟩) s = .next (t.bump R.HP_ERR2_POISONED))
          ∧ (s.hostAnswer p rUnmapped [] = some t → exec (.hostCompletionArrival p ⟨.refused, b⟩) s = .next t)
          ∧ (s.hostAnswer p rTimeout [] = some t → exec (.hostCompletionArrival p ⟨.timeout, b⟩) s = .next (t.bump R.HP_ERR2_TIMEOUTS))

/-- O55. R608-R615, R625, R628, R630, R631, R636: the receivers, the quad PLLs, the checkers and the eye scan. -/
def Obligations.LaneRowsAct : Prop :=
  ∀ (s : State) (n : Fin 120),
    (s.fitted n = true → s.get (R.LN_STATUS_PSTATE n) ≤ 1 → exec (.signalDetect n) s = .next (s.put (R.LN_STATUS_SIGNAL n) 1))
    ∧ (s.has (R.LN_STATUS_SIGNAL n) = true →
        exec (.signalLoss n) s = .next (if s.get (R.LN_STATUS_LOOP n) = 0 then (s.dropSignal n true).dropCdr n else s.dropSignal n true))
    ∧ (∀ off : BitVec 32, s.fitted n = true → s.get (R.LN_STATUS_PSTATE n) = 0 → s.has (R.LN_STATUS_PLL_LOCK n) = true →
        s.has (R.LN_STATUS_SIGNAL n) = true → (signed32 off.toNat).natAbs ≤ 10000 →
        exec (.cdrLockAcquired n off) s = .next (((s.setReg (R.LN_FREQ_OFF n) off.toNat).put (R.LN_STATUS_CDR_LOCK n) 1).showLock n))
    ∧ exec (.cdrUnlock n) s = .next (s.dropCdr n)
    ∧ (∀ (comma : Fin 3) (moved : Bool), s.has (R.LN_CTRL_MODE n) = false ∨ 96 ≤ n.val → s.has (R.LN_STATUS_CDR_LOCK n) = true →
        bit (s.get (R.LN_CTRL_COMMAS n)) comma = true → s.has (R.LN_STATUS_ALIGNED n) = false →
        exec (.commaAlign n comma moved) s = .next ((s.put (R.LN_STATUS_ALIGNED n) 1).showLock n))
    ∧ exec (.alignmentLoss n) s = .next ((s.put (R.LN_STATUS_ALIGNED n) 0).showLock n)
    ∧ (∀ lat : BitVec 16, s.has (R.LN_STATUS_LOCK n) = true → s.has (R.LN_STATUS_CAL_DONE n) = false → s.has (R.LN_CTRL_ADAPT n) = false →
        n.val < 96 → exec (.eyeCalibrationDone n lat) s
          = .next (((s.put (R.GU_LAT_LAT n) lat.toNat).put (R.LN_STATUS_CAL_DONE n) 1).laneFlag n 8))
    ∧ (∀ q : Fin 28, (s.has (R.LN_Q_STATUS_POWERED q) = true → exec (.quadPllLock q) s = .next (s.setPll q true))
        ∧ exec (.quadPllUnlock q) s = .next (s.unlockPll q))
    ∧ (s.has (R.LN_PRBS_CTRL_CHK_EN n) = true → s.has (R.LN_STATUS_LOCK n) = true →
        exec (.prbsSyncAcquired n) s = .next (s.put (R.LN_STATUS_PRBS_SYNC n) 1))
    ∧ (s.has (R.LN_STATUS_PRBS_SYNC n) = true → s.has (R.LN_STATUS_LOCK n) = true → ∀ a b : BitVec 32,
        exec (.prbsBitError n a) s = .next ((s.countPrbs n a.toNat 1).laneFlag n 5)
        ∧ exec (.prbsSyncLoss n a b) s
          = .next (((if b.toNat = 0 then s.countPrbs n a.toNat 0 else (s.countPrbs n a.toNat b.toNat).laneFlag n 5).put
              (R.LN_STATUS_PRBS_SYNC n) 0).laneFlag n 6))
    ∧ (∀ j : Injection, tblFind n.val s.phys.inj = some j → s.injectionDue n j = true →
        let acts := max s.nowFine (j.next.getD 0)
        let left := s.get (R.LN_INJ_LEFT n) - 1
        let done := tblPut n.val (s.get (R.LN_INJ_KIND n), acts) s.phys.injected
        (left = 0 → exec (.errorInjection n) s
          = .next ((State.put (State.put { s with phys := { s.phys with inj := tblDel n.val s.phys.inj, injected := done } }
              (R.LN_INJ_LEFT n) 0) (R.LN_STATUS_INJ_PEND n) 0).laneFlag n 7))
        ∧ (left ≠ 0 → exec (.errorInjection n) s
          = .next (State.put { s with phys := { s.phys with
              inj := tblPut n.val { j with next := some (acts + s.spacingFine n j.spacing) } s.phys.inj, injected := done } }
              (R.LN_INJ_LEFT n) left)))
    ∧ (∀ (e : EyeScan) (o : Op) (l : Nat) (valid : Bool) (counts : List (BitVec 32)), s.phys.scan = some e →
        s.opOf e.op.1 e.op.2 = some o → e.lanes = [l] →
        exec (.eyeScanLaneDone valid counts) s
          = .next (State.endOp { (stackWrite s 0xF0 (some 48) e.dest (eyeBytes s e l (valid && s.has (R.LN_STATUS_LOCK l)) counts) none).1 with
              phys := { (stackWrite s 0xF0 (some 48) e.dest (eyeBytes s e l (valid && s.has (R.LN_STATUS_LOCK l)) counts) none).1.phys with scan := none } }
              o stOk 0))
    ∧ (s.has (R.LN_STATUS_LOCK n) = true → s.has (R.LN_CTRL_MODE n) = false →
        exec (.laneCodeError n true) s
          = .next (if n.val < 96 then ((s.bump (R.LN_CNT_CODE_COUNT n)).laneFlag n 3).laneCondPulse n 2
              else (s.bump (R.LN_CNT_CODE_COUNT n)).laneFlag n 3)
        ∧ exec (.laneCodeError n false) s
          = .next (if n.val < 96 then ((s.bump (R.LN_CNT_DISP_COUNT n)).laneFlag n 2).laneCondPulse n 2
              else (s.bump (R.LN_CNT_DISP_COUNT n)).laneFlag n 2))

/-! ### Temperature and power, security, the array -/

/-- O56. R740, R742, R749, R750, R753-R756, R758, R859: sensors, zones, throttle steps, power limits and the trip. -/
def Obligations.ThermalAndPowerRowsAct : Prop :=
  ∀ s : State, s.mode ≠ mPowerOn →
    (∀ v : Vector (BitVec 12) 64, let u := s.takeSample (v.toList.map (fun (x : BitVec 12) => x.toNat))
      exec (.thermalSample v) s = .next (u.thermalCauses s).resumeCheck
        ∧ ∀ n : Fin 64, s.sensorState n ≠ 2 → u.get (R.TH_SENSOR_TEMP n) = tempCode v[n].toNat % 2 ^ (R.TH_SENSOR_TEMP n).w)
    ∧ (∀ f : BitVec 64, exec (.sensorSelfTest f) s
        = .next ((forEach (bitsOf 64 f.toNat) (fun n t => t.declareBroken n 2) s).thermalCauses s))
    ∧ (∀ z : Fin 20, bit (s.zone z).at_ 1 = true → s.zoneTemp z ≠ 0x800 → zoneLevel z 1 ≤ biased (s.zoneTemp z) → s.zoneStep z < 9 →
        exec (.throttleStepRise z) s = .next (s.setStep z (s.zoneStep z + 1)) ∧ (s.setStep z (s.zoneStep z + 1)).zoneStep z = s.zoneStep z + 1)
    ∧ (∀ z : Fin 20, bit (s.zone z).at_ 1 = false → s.brokenIn z = 0 → 0 < s.zoneStep z →
        exec (.throttleStepFall z) s = .next (s.setStep z (s.zoneStep z - 1)).throttleClear)
    ∧ (∀ p : PowerReading, s.mode ≠ mLehr → let u := s.takeReading p
        exec (.powerReading p) s
          = .next (if u.mode = mOperate ∧ u.powerActive = true ∧ s.powerActive = false then u.goMode mThrottled 0x07 else u)
        ∧ u.get R.TH_POWER_POWER_W = min 0xFFF (p.dw.toNat / 10) ∧ u.get (R.PW_RAIL_MEAS_IOUT 7) = p.iLL.toNat % 2 ^ (R.PW_RAIL_MEAS_IOUT 7).w)
    ∧ (∀ k : Fin 3, let p := s.powerLimit k
        (p.reached = true → p.above = true → p.step < 9 →
          exec (.powerStepRise k) s = .next ((s.setPowerLimit k { p with step := p.step + 1 }).powerSteps s))
        ∧ (p.reached = false → 0 < p.step →
          exec (.powerStepFall k) s = .next ((s.setPowerLimit k { p with step := p.step - 1 }).powerSteps s).throttleClear))
    ∧ ∀ (n : Fin 64) (a b : BitVec 12), s.sensorState n ≠ 2 → s.has R.TH_STATUS_TRIP = false →
        tempCode a.toNat ≠ 0x800 → tempCode b.toNat ≠ 0x800 → zoneLevel (sensorZone n) 3 ≤ biased a.toNat →
        zoneLevel (sensorZone n) 3 ≤ biased b.toNat →
          ∃ u : State, exec (.thermalTrip n a b) s = .next u.enterTrip ∧ u.pins.thermN = false ∧ u.get R.TH_STATUS_TRIP = 1
            ∧ u.get R.TH_FLAGS_TRIP_SEEN = 1 ∧ u.eventSet 67 = true ∧ u.mode = s.mode ∧ u.mem = s.mem

/-- O57. R192, R773, R775-R777, R793, R846: alarms, zeroise, attestation, fuses, the owner's keys and the update. -/
def Obligations.SecurityRowsAct : Prop :=
  ∀ s : State,
    (exec .alarmShield s = .next (s.raiseAlarm 0) ∧ exec .alarmClock s = .next (s.raiseAlarm 2)
      ∧ (∀ (k : Fin 3) (mv : BitVec 12),
          12 * s.get (R.PW_RAIL_CTRL_TARGET_MV (alarmRail k)) < 100 * Machine.dist mv.toNat (s.get (R.PW_RAIL_CTRL_TARGET_MV (alarmRail k))) →
          exec (.alarmVoltage k mv) s = .next (s.raiseAlarm 1))
      ∧ (∀ t : BitVec 12, 360 + biased t.toNat < 2048 ∨ deg 130 < biased t.toNat → exec (.alarmTemperature t) s = .next (s.raiseAlarm 3))
      ∧ ∀ k : Fin 6, bit (s.get R.SC_ALARM_STATUS_LATCHED) k = false → s.mode ≠ mPowerOn → s.alarmResponse k = 0 →
          bit ((s.raiseAlarm k).get R.SC_ALARM_STATUS_LATCHED) k = true ∧ (s.raiseAlarm k).eventSet 280 = true
          ∧ (s.raiseAlarm k).mode = s.mode ∧ (s.raiseAlarm k).sec = s.sec ∧ (s.raiseAlarm k).mem = s.mem)
    ∧ (s.pins.alarmHeld = false → exec .alarmPulseEnd s = .next (s.driveAlarm false))
    ∧ (s.mode = mZeroized → exec .zeroiseClearComplete s = .next (s.zeroiseClear.endOps 0x0B05 stOk 0))
    ∧ (∀ o : Op, s.gaf.ops.find? (fun o => o.command == 0x0B00) = some o →
        let u : State := { s with sec := { s.sec with report := o.data ++ fit 17088 (attestSignature o.data) } }
        let v := u.wrapInc R.SC_REPORT_SEQ_SEQ
        exec .attestReportComplete s = .next (v.endOp o stOk (v.reg R.SC_REPORT_SEQ % 65536)))
    ∧ (∀ o : Op, s.gaf.ops.find? (fun o => o.command == 0x0B02) = some o →
        exec (.lifecycleFusesBlown false) s = .next ((s.endOp o stInternal 0).raiseAlarm 4)
        ∧ (o.args.getD 0 0 = 4 → exec (.lifecycleFusesBlown true) s = .next ((s.eraseOwner.setLife 4).endOp o stOk 0))
        ∧ (o.args.getD 0 0 = 1 → s.life = 0 → s.mode = mProvision →
            exec (.lifecycleFusesBlown true) s = .next (((s.setLife 1).endOp o stOk 0).enterBoot 0x1D false)))
    ∧ (∀ o : Op, s.gaf.ops.find? (fun o => o.command == 0x0B06) = some o →
        (s.life = 1 → exec (.ownerKeyLoadComplete false) s = .next ((s.endOp o stInternal 0).raiseAlarm 4))
        ∧ (s.life = 1 → s.mode ≠ mZeroized →
            let t := s.storeOwner o.data
            let u : State := { t with sec := { t.sec with rows := tblPut (t.get R.SC_STATUS_OWNER_ROW) (sha256 t.sec.ownerPub) t.sec.rows } }
            ((u.setLife 2).endOp o stOk 0).mode ≠ mZeroized →
              exec (.ownerKeyLoadComplete true) s = .next ((u.setLife 2).endOp o stOk 0)))
    ∧ (s.life = 2 → s.pins.session = false →
        ∃ t, exec .debugOpenTimeout s = .next t ∧ t.get R.GAF_LIFECYCLE_DEBUG_OPEN = 0 ∧ sameWords s t [R.GAF_LIFECYCLE] ∧ sameStores s t)
    ∧ ∀ o : Op, s.gaf.ops.find? (fun o => o.command == 0x0C01) = some o → s.get R.SC_UPDATE_STATE = 1 ∨ s.get R.SC_UPDATE_STATE = 2 →
        let i := o.args.getD 0 0
        let x := stackRead s 0xF0 (o.args.getD 1 0) (s.chunkLen i)
        x.2.1 = rOk → sha256 x.2.2 = BitVec.ofNat 256 (le o.data 0 32) → ∀ back : Bool,
          exec (.upChunkComplete back) s
            = .next ((x.1.writeChunk i x.2.2 back).1.endOp o (x.1.writeChunk i x.2.2 back).2.1 (x.1.writeChunk i x.2.2 back).2.2)

/-- O58. R649-R652, R656, R658, R659, R664, R665, R667, R797: peers, seam links, common starts, discovery and the image that crosses the
array. -/
def Obligations.ArrayRowsAct : Prop :=
  ∀ s : State,
    (∀ (mb : Fin 16) (f : Forward), s.gaf.forwards.find? (fun f => f.mb == mb.val) = some f →
      exec (.forwardTimeout mb) s = .next ((s.dropForward mb).respond mb false f.command f.tag stTimeout 0xFFFE [])
      ∧ ∀ p : Response, p.status ≠ 1 → exec (.peerResponseArrival mb p) s
          = .next { (s.dropForward mb).respond mb true f.command f.tag p.status.toNat p.detail.toNat [] with
              mbuf := cellsSet 0 ((s.dropForward mb).respond mb true f.command f.tag p.status.toNat p.detail.toNat []).mbuf (rspBuf mb)
                (responseBytes true p.command.toNat p.tag.toNat p.status.toNat p.detail.toNat p.turn.toNat p.pip.toNat p.payload) })
    ∧ (∀ (mb : Fin 16) (f : Forward) (p : Response), s.gaf.forwards.find? (fun f => f.mb == mb.val) = some f → p.status = 1 →
        ∃ t, exec (.peerResponseArrival mb p) s = .next t
          ∧ t.gaf.peerOps = s.gaf.peerOps ++ [{ mb := mb.val, tag := f.tag, command := f.command }]
          ∧ t.get (R.MB_STATUS_STATE mb) = 3 ∧ t.mem = s.mem)
    ∧ (∀ (mb : Fin 16) (tag status : BitVec 16) (o : PeerOp),
        s.gaf.peerOps.find? (fun o => o.mb == mb.val && o.tag == tag.toNat) = some o →
        exec (.peerCompletionNotice mb tag status) s = .next (s.endPeerOp o status.toNat)
        ∧ (∀ x ∈ (s.endPeerOp o status.toNat).gaf.peerOps, (x.mb == o.mb && x.tag == o.tag) = false)
        ∧ (o.quiet = true → (s.endPeerOp o status.toNat).gaf.notices = s.gaf.notices))
    ∧ (∀ dev k : Fin 8, dev.val ≠ s.devId → bit (s.get R.NC_ARRAY_MEMBERS) dev = true →
        exec (.peerTriggerMessage dev k) s = .next (s.pulse (56 + k)))
    ∧ (∀ (i : Fin 128) (len : BitVec 24) (sha : BitVec 256) (data : List Byte) (back : Bool), s.running = true → imageRefused s = false →
        0 < len.toNat → len.toNat ≤ 0x800000 → 0 < i.val → s.get R.SC_UPDATE_STATE = 1 → i.val < chunkCount s.sec.imageLen →
        data.length = s.chunkLen i → exec (.arrayImageChunk i len sha data back) s = .next (s.writeChunk i data back).1)
    ∧ exec (.upArrayForwardComplete none) s = .next (s.endOps 0x0C06 stOk s.otherMembers)
    ∧ (∀ (d : Fin 8) (st : BitVec 16), exec (.upArrayForwardComplete (some (d, st))) s = .next (s.endOps 0x0C06 st.toNat d))
    ∧ (∀ (p cls : Fin 4), s.seamLive p = true →
        (∀ rtt : BitVec 16, let u := s.inc64 (R.NC_SEAM_RXCNT_LO p) (R.NC_SEAM_RXCNT_HI p) 1
          exec (.seamFrameReceived p cls true true none) s = .next ((u.setSeamFails (4 * p + cls) 0).countFrame p)
          ∧ exec (.seamFrameReceived p cls true true (some rtt)) s
            = .next (((u.setSeamFails (4 * p + cls) 0).setSeamFails (16 + (4 * p + cls)) 0).put (R.NC_SEAM_EPOCH_RTT p) rtt.toNat))
        ∧ (∀ n : Fin 64, exec (.seamNackReceived p cls n false) s
            = .next (((s.bumpBy (R.NC_SEAM_ERR_RETRIES p) (n + 1)).resend p cls (n + 1)).setSeamFails (16 + 4 * p + cls) 1))
        ∧ exec (.seamAckTimer p) s = .next (s.acknowledge p)
        ∧ ∀ lane : Fin 6, s.has (R.LN_STATUS_LOCK (96 + 6 * p + lane)) = false → exec (.seamLaneLockTimeout p lane) s
            = .next ((s.put (R.NC_SEAM_STATUS_LANES p) (clearBit (s.get (R.NC_SEAM_STATUS_LANES p)) lane)).setSeam p smDown).rekeysDone)
    ∧ (∀ p : Fin 4, s.seam p = smUp → rekeyAt ≤ s.seamCount (R.NC_SEAM_TXCNT_LO p) (R.NC_SEAM_TXCNT_HI p) →
        s.seamCount (R.NC_SEAM_RXCNT_LO p) (R.NC_SEAM_RXCNT_HI p) < rekeyAt → exec (.seamCounterRekey p) s = .next (s.beginRekey p true false))
    ∧ (∀ p : Fin 4, s.seam p = smRekeying → s.arr.keyGot.contains p.val = false → 
        let u := State.sendFrame { s with arr := { s.arr with keySent := p.val :: s.arr.keySent } } p 2 3 none (Config.arrayMessage 2 0)
        exec (.seamKeySwitch p true) s = .next (u.rekeySeam p true (s.get (R.NC_SEAM_EPOCH_EPOCH p) + 1)))
    ∧ (∀ p : Fin 4, s.seam p = smTraining →
        (s.portLocked p = true → exec (.seamTrainingDone p true) s = .next ((s.put (R.NC_SEAM_STATUS_LANES p) 0x3F).setSeam p smKeying))
        ∧ exec (.seamTrainingDone p false) s = .next (s.failSeam p 2) ∧ exec (.seamTrainingTimeout p) s = .next (s.failSeam p 1)
        ∧ (s.failSeam p 1).seam p = smFailed ∧ (s.failSeam p 1).get (R.NC_SEAM_STATUS_FAIL_CAUSE p) = 1)
    ∧ (∀ (p : Fin 4) (peer : Fin 8), s.seam p = smKeying → s.life = 2 → s.keysPresent = true → seamNeighbour s.devId p = some peer.val →
        ∃ t, exec (.seamKeyingDone p true peer) s = .next t ∧ t.seam p = smUp ∧ t.get (R.NC_SEAM_STATUS_PEER_ID p) = peer
          ∧ t.get (R.NC_SEAM_EPOCH_EPOCH p) = 0 ∧ t.reg (R.NC_SEAM_TXCNT_LO p) = 0 ∧ t.reg (R.NC_SEAM_RXCNT_HI p) = 0
          ∧ sameStores s { t with arr := s.arr })
    ∧ (∀ turn : BitVec 48, s.get R.TS_CTRL_SOURCE = 1 → s.claimOf (claimKey 6 0) = none → s.tb.pip + 1024 < s.get R.TS_LAST_LEN_LEN →
        s.running = true → s.arr.start = none →
        exec (.commonStartMessage turn) s = .next { s with arr := { s.arr with start := some { turn := turn.toNat, op := none, waiting := 0 } } })
    ∧ (∀ (c : CommonStart) (dev : Fin 8), s.arr.start = some c → c.sent = true →
        exec (.commonStartConfirm dev true) s
          = .next { s with arr := { s.arr with start := some { c with waiting := clearBit c.waiting dev } } })
    ∧ ∀ a : Byte, (∀ p, p < 4 → s.seam p ≠ smTraining ∧ s.seam p ≠ smKeying ∧ s.seamLive p = false ∧ s.seam p ≠ smFailed) →
        s.gaf.ops.any (fun o => o.command == 0x0F00) = true →
        exec (.arDiscoverComplete a) s = .next ((s.put R.NC_ARRAY_MEMBERS (2 ^ s.devId)).endOps 0x0F00 stOk (2 ^ s.devId))

/-! ### The host port, the serial ports -/

/-- O59. R17, R18, R364, R823-R825, R827, R828, R831, R834-R836, R839: the host port, its DMA channels, and accesses to registers. -/
def Obligations.HostPortRowsAct : Prop :=
  ∀ s : State,
    (∀ (off : BitVec 24) (n : Fin 64) (words : List (BitVec 32)) (fabric : List (Option (BitVec 32))), s.barReachable = true → 1 ≤ n.val →
      n.val ≤ 16 → off.toNat % 4 = 0 → off.toNat + 4 * n ≤ 2 ^ 24 →
      let w := bar0Write s off.toNat n words fabric
      let r := bar0Read s off.toNat n fabric
      exec (.bar0Request off n true (some words) fabric) s = .next (w.1.discard w.2)
      ∧ (r.2.1 = rOk → exec (.bar0Request off n true none fabric) s = .next (r.1.answer 0 rOk r.2.2)))
    ∧ (∀ (off : BitVec 36) (len : BitVec 13) (b : List Byte) (k : Nat), s.barReachable = true → 0 < len.toNat →
        off.toNat + len.toNat ≤ 2 ^ s.get R.HP_BAR2_SIZE_LOG2 → s.barWindow off.toNat len.toNat = some k →
        let a := s.barAddress k off.toNat
        (s.mustWait a len.toNat false = false → (bar2Read s a len.toNat).2.1 = rOk →
          exec (.bar2Access off len none) s = .next ((bar2Read s a len.toNat).1.answer 1 rOk (bar2Read s a len.toNat).2.2))
        ∧ (s.has (R.HP_WIN_LOCAL_READ_ONLY k) = false → s.mustWait a len.toNat true = false → (bar2Write s a (fit len.toNat b)).2 = false →
          exec (.bar2Access off len (some b)) s = .next (bar2Write s a (fit len.toNat b)).1))
    ∧ (∀ k : Fin 64, s.host.dlActive = true → 28 ≤ k.val → k.val ≤ (if s.is48 then 35 else 36) →
        exec (.bar2Resize k) s = .next (iterate 8 (fun w t =>
          if 2 ^ (k.val - 20) < t.get (R.HP_WIN_OFFSET_OFFSET_MIB w) + t.get (R.HP_WIN_SIZE_SIZE_MIB w) then t.put (R.HP_WIN_LOCAL_EN w) 0
          else t) (s.put R.HP_BAR2_SIZE_LOG2 k)))
    ∧ (∃ u : State, exec .perstNAssert s = .next u.linkDown.resetHost ∧ u.pins.perstN = false ∧ u.get R.HP_LINK_PERST_PIN = 0
        ∧ sameWords s u [R.HP_LINK] ∧ sameStores s { u with pins := s.pins })
    ∧ (s.host.dlActive = true → exec .hotReset s = .next s.linkDown.resetHost ∧ exec .functionLevelReset s = .next s.resetHost)
    ∧ (∃ t, exec .perstNRelease s = .next t ∧ t.pins.perstN = true ∧ t.host.ready = true ∧ t.get R.HP_LINK_PERST_PIN = 1
        ∧ sameWords s t [R.HP_LINK] ∧ sameStores s { t with pins := s.pins })
    ∧ (∀ (speed : Fin 5) (width : Fin 9), exec (.pcieLinkStateChange false speed width) s = .next s.linkDown
        ∧ (s.host.ready = true → speed.val ≠ 0 → width.val ∈ [1, 2, 4, 8] →
          exec (.pcieLinkStateChange true speed width) s
            = .next ((State.put { s with host := { s.host with dlActive := true } } R.HP_LINK_SPEED speed).put R.HP_LINK_WIDTH width).showHost.sendAllPending))
    ∧ (∀ bm d3 en fm : Bool, s.host.dlActive = true →
        ∃ u : State, exec (.pcieConfigWrite bm d3 en fm) s = .next u.showHost.sendAllPending
          ∧ u.host.busMaster = bm ∧ u.host.d3hot = d3 ∧ u.host.msixEnable = en ∧ u.host.functionMask = fm
          ∧ u.host.pba = (if en then s.host.pba else 0) ∧ u.regs = s.regs ∧ sameStores s u)
    ∧ (∀ (c : Fin 8) (d : DmaDescriptor) (h : HostCompletion) (rem : List (BitVec 4 × List Byte)), s.get (R.HP_DMA_CTRL_STATE c) = 1 →
        s.hostReachable = true → s.mustWait (d.loc.toNat % 2 ^ 43) d.len.toNat (!bit d.flags.toNat 0) = false →
        let r := dmaTransfer s d h rem
        r.code = 0 → bit d.flags.toNat 1 = false →
          exec (.dmaDescriptorComplete c d h rem) s
            = .next (((r.next.answer (8 + c) 0 r.data).put (R.HP_DMA_CONS_INDEX c) (s.get (R.HP_DMA_CONS_INDEX c) + 1)).showDma c))
    ∧ (∀ (c : Fin 8) (v : BitVec 16), exec (.hpDmaProdWrite c v) s = .next (writeDmaProd s c v.toNat))
    ∧ (∀ (c : Fin 8) (v : BitVec 32), exec (.hpDmaCtrlEnable c v) s = .next (writeDmaCtrl s c v.toNat))
    ∧ (∀ v : Fin 64, exec (.msixUnmask v) s = .next (State.sendPending
        { s with host := { s.host with msix := tblSet (fun _ => {}) s.host.msix v { s.msixEntry v with masked := false } } } v))
    ∧ (∀ (sel : MbpSelect) (addr : BitVec 11) (data : BitVec 32), s.regionLive 0 = true → s.portRuns 0 .mailbox = true →
        let n := 4 + sel.sel.toNat
        let off := mbpOffset n true addr.toNat
        let w := mailboxWrite s false n off data.toNat
        let r := mailboxRead s off
        exec (.mbpAccess sel true true addr data) s = .next (w.1.mbpAnswer true w.2 0 [])
        ∧ exec (.mbpAccess sel true false addr data) s = .next (s.mbpAnswer true r.1 r.2 (toLE 4 r.2)))
    ∧ ∀ (off : BitVec 24) (v : BitVec 32) (who : Requester),
        let r := ctlRead s who off.toNat
        let w := ctlWrite s who off.toNat v.toNat
        exec (.snapshotRead off who) s = .next (r.1.answer (requesterPath who) r.2.1 (toLE 4 r.2.2))
        ∧ exec (.registerWrite off v who) s = .next (w.1.answer (requesterPath who) w.2 [])

/-- O60. R840-R847: the management SPI, the boundary scan and the debug port. -/
def Obligations.SerialRowsAct : Prop :=
  ∀ s : State,
    (∀ (addr : BitVec 24) (v : BitVec 32), mspiMayWrite s addr.toNat = true →
      exec (.mspiWriteFrame addr [v]) s = .next (ctlWrite s .spi addr.toNat v.toNat).1)
    ∧ (∀ addr : BitVec 24, mspiMayRead (s.setRefused false) addr.toNat = true →
        let r := ctlRead (s.setRefused false) .spi addr.toNat
        exec (.mspiReadFrame addr 1) s = .next (r.1.answer 2 rOk (mspiStatus s :: toLE 4 r.2.2)))
    ∧ (∀ n : BitVec 8, 0 < n.toNat →
        exec (.mspiStatusFrame n) s
          = .next ((s.setRefused false).answer 2 rOk (mspiStatus s :: List.replicate (n.toNat - 1) (mspiStatus (s.setRefused false)))))
    ∧ (∀ b : Byte, exec (.mspiUnknownFrame b) s = .next s)
    ∧ exec .jtagIdcode s = .next ((s.loadIr 1).answer 3 rOk (toLE 4 (0x0F0961A5 + 2 ^ 28 * bits (s.get R.ID_VARIANT_STEPPING) 4 4)))
    ∧ (∀ cells : List Bool, ∃ t, exec (.jtagSamplePreload cells) s = .next t ∧ t.pins.jtagIr = 2 ∧ t.regs = s.regs
        ∧ (∀ i, i < cells.length → bit t.pins.boundary i = cells.getD i false) ∧ sameStores s { t with pins := s.pins })
    ∧ (∀ x ∈ [(Instr.jtagExtest, 3), (.jtagClamp, 4), (.jtagHighz, 5), (.jtagBypass, 0xFF)],
        ∃ t, exec x.1 s = .next t ∧ t.pins.jtagIr = x.2 ∧ t.pins.boundary = s.pins.boundary ∧ t.regs = s.regs ∧ t.gaf = s.gaf ∧ sameStores s { t with pins := s.pins })
    ∧ (∃ t, exec .puntySessionBegin s = .next t ∧ t.pins.jtagIr = 0x20
        ∧ t.pins.session = (s.has R.GAF_LIFECYCLE_DEBUG_OPEN || s.pins.session) ∧ t.regs = s.regs ∧ sameStores s { t with pins := s.pins })
    ∧ (∀ dr : BitVec 64, s.pins.jtagIr = 0x20 →
        let off := 4 * bits dr.toNat 2 22
        let r := ctlRead s .debug off
        let w := ctlWrite s .debug off (bits dr.toNat 24 32)
        (s.pins.session = true ∨ off ≤ 0x1C →
          (bits dr.toNat 0 2 = 1 → exec (.puntyAccess dr) s = .next (r.1.puntyResult (puntyStatus off r.2.1) r.2.2))
          ∧ (bits dr.toNat 0 2 = 2 → exec (.puntyAccess dr) s = .next (w.1.puntyResult (puntyStatus off w.2) (bits s.pins.punty 24 32))))
        ∧ (s.pins.session = false → 0x1C < off → bits dr.toNat 0 2 = 1 → exec (.puntyAccess dr) s = .next ((s.puntyResult 2 0).raiseAlarm 4)))
    ∧ (∃ t, exec .testLogicReset s = .next t ∧ t.pins.jtagIr = 1 ∧ t.pins.session = false ∧ (s.pins.session = false → t.regs = s.regs)
        ∧ (s.pins.session = true → s.life = 2 → t.get R.GAF_LIFECYCLE_DEBUG_OPEN = 0))
end

