-- ==== Sys2Proof/Laws/Bits.lean ====
section
/-!
SUPPORT. Laws/Bits.lean: bits and fields of a number: a field reads what was set, and the fields beside it keep their values.
-/

namespace Sys2Proof.Machine

open Sys2Proof

theorem withBits_eq (x lo w v : Nat) : withBits x lo w v = 2 ^ lo * (2 ^ w * (x / 2 ^ lo / 2 ^ w) + v % 2 ^ w) + x % 2 ^ lo := by
  unfold withBits bits
  have h1 := Nat.div_add_mod x (2 ^ lo)
  have h2 := Nat.div_add_mod (x / 2 ^ lo) (2 ^ w)
  generalize x / 2 ^ lo = q at *
  generalize x % 2 ^ lo = r at *
  generalize q / 2 ^ w = h at *
  generalize q % 2 ^ w = b at *
  generalize v % 2 ^ w = u at *
  subst h2
  subst h1
  rw [Nat.mul_add, Nat.mul_add]
  omega

/-- A field that is set holds the value's low bits. -/
theorem bits_withBits (x lo w v : Nat) : bits (withBits x lo w v) lo w = v % 2 ^ w := by
  have hlo : 0 < 2 ^ lo := Nat.two_pow_pos lo
  rw [withBits_eq]
  unfold bits
  rw [Nat.mul_add_div hlo, Nat.div_eq_of_lt (Nat.mod_lt _ hlo), Nat.add_zero, Nat.mul_add_mod, Nat.mod_mod]

/-- A field below the one that is set keeps its value. -/
theorem bits_withBits_below (x lo w v lo' w' : Nat) (h : lo' + w' ≤ lo) : bits (withBits x lo w v) lo' w' = bits x lo' w' := by
  obtain ⟨k, rfl⟩ := Nat.exists_eq_add_of_le h
  have e : ∀ A : Nat, bits (2 ^ (lo' + w' + k) * A + x % 2 ^ (lo' + w' + k)) lo' w' = bits x lo' w' := by
    intro A
    unfold bits
    have p : 0 < 2 ^ lo' := Nat.two_pow_pos _
    have hx := Nat.div_add_mod x (2 ^ (lo' + w' + k))
    generalize x / 2 ^ (lo' + w' + k) = q at hx
    generalize x % 2 ^ (lo' + w' + k) = r at hx ⊢
    subst hx
    rw [Nat.pow_add, Nat.pow_add]
    simp only [Nat.mul_assoc]
    rw [Nat.mul_add_div p, Nat.mul_add_div p, Nat.mul_add_mod, Nat.mul_add_mod]
  rw [withBits_eq]
  exact e _

/-- A field above the one that is set keeps its value. -/
theorem bits_withBits_above (x lo w v lo' w' : Nat) (h : lo + w ≤ lo') : bits (withBits x lo w v) lo' w' = bits x lo' w' := by
  obtain ⟨k, rfl⟩ := Nat.exists_eq_add_of_le h
  have plo : 0 < 2 ^ lo := Nat.two_pow_pos _
  have pw : 0 < 2 ^ w := Nat.two_pow_pos _
  rw [withBits_eq]
  unfold bits
  have key : (2 ^ lo * (2 ^ w * (x / 2 ^ lo / 2 ^ w) + v % 2 ^ w) + x % 2 ^ lo) / 2 ^ (lo + w + k) = x / 2 ^ (lo + w + k) := by
    rw [Nat.pow_add, Nat.pow_add, ← Nat.div_div_eq_div_mul, ← Nat.div_div_eq_div_mul, ← Nat.div_div_eq_div_mul,
      ← Nat.div_div_eq_div_mul, Nat.mul_add_div plo, Nat.div_eq_of_lt (Nat.mod_lt _ plo), Nat.add_zero, Nat.mul_add_div pw,
      Nat.div_eq_of_lt (Nat.mod_lt _ pw), Nat.add_zero]
  rw [key]

theorem withBits_lt (x lo w v n : Nat) (hx : x < 2 ^ n) (h : lo + w ≤ n) : withBits x lo w v < 2 ^ n := by
  rw [withBits_eq]
  obtain ⟨k, rfl⟩ := Nat.exists_eq_add_of_le h
  have plo : 0 < 2 ^ lo := Nat.two_pow_pos _
  have pw : 0 < 2 ^ w := Nat.two_pow_pos _
  have h1 : x / 2 ^ lo / 2 ^ w < 2 ^ k := by
    rw [Nat.div_div_eq_div_mul, ← Nat.pow_add]
    exact Nat.div_lt_of_lt_mul (by rwa [← Nat.pow_add])
  have h2 : v % 2 ^ w < 2 ^ w := Nat.mod_lt _ pw
  have h3 : x % 2 ^ lo < 2 ^ lo := Nat.mod_lt _ plo
  have h4 : 2 ^ w * (x / 2 ^ lo / 2 ^ w) + v % 2 ^ w < 2 ^ w * 2 ^ k := by
    calc _ < 2 ^ w * (x / 2 ^ lo / 2 ^ w) + 2 ^ w := by omega
      _ = 2 ^ w * (x / 2 ^ lo / 2 ^ w + 1) := by ring
      _ ≤ 2 ^ w * 2 ^ k := Nat.mul_le_mul_left _ h1
  calc _ < 2 ^ lo * (2 ^ w * (x / 2 ^ lo / 2 ^ w) + v % 2 ^ w) + 2 ^ lo := by omega
    _ = 2 ^ lo * (2 ^ w * (x / 2 ^ lo / 2 ^ w) + v % 2 ^ w + 1) := by ring
    _ ≤ 2 ^ lo * (2 ^ w * 2 ^ k) := Nat.mul_le_mul_left _ h4
    _ = 2 ^ (lo + w + k) := by rw [Nat.pow_add, Nat.pow_add]; ring

theorem setBit_clear {x i : Nat} (h : ¬bit x i = true) : setBit x i = 2 ^ i + x ∧ x / 2 ^ i % 2 = 0 := by
  refine ⟨if_neg h, ?_⟩
  unfold bit at h
  have : ¬x / 2 ^ i % 2 = 1 := by simpa using h
  omega

theorem div_setBit (x i : Nat) : (2 ^ i + x) / 2 ^ i = 1 + x / 2 ^ i := by
  have p : 0 < 2 ^ i := Nat.two_pow_pos i
  rw [Nat.add_div_left _ p, Nat.add_comm]

/-- A bit that is set reads 1. -/
@[simp] theorem bit_setBit_same (x i : Nat) : bit (setBit x i) i = true := by
  by_cases h : bit x i = true
  · unfold setBit
    rw [if_pos h, h]
  · obtain ⟨e, z⟩ := setBit_clear h
    unfold bit
    rw [e, div_setBit]
    have : (1 + x / 2 ^ i) % 2 = 1 := by omega
    rw [this]
    rfl

/-- Setting a bit leaves the others. -/
theorem bit_setBit_ne (x : Nat) {i j : Nat} (h : j ≠ i) : bit (setBit x i) j = bit x j := by
  by_cases b : bit x i = true
  · unfold setBit
    rw [if_pos b]
  · obtain ⟨e, z⟩ := setBit_clear b
    have key : (2 ^ i + x) / 2 ^ j % 2 = x / 2 ^ j % 2 := by
      rcases Nat.lt_or_gt_of_ne h with l | l
      · obtain ⟨k, rfl⟩ := Nat.exists_eq_add_of_lt l
        have p : 0 < 2 ^ j := Nat.two_pow_pos j
        have q : 2 ^ (j + k + 1) = 2 ^ j * (2 * 2 ^ k) := by rw [Nat.pow_succ, Nat.pow_add]; ring
        rw [q, Nat.mul_add_div p]
        omega
      · obtain ⟨k, rfl⟩ := Nat.exists_eq_add_of_lt l
        have q : 2 ^ (i + k + 1) = 2 ^ i * (2 * 2 ^ k) := by rw [Nat.pow_succ, Nat.pow_add]; ring
        rw [q, ← Nat.div_div_eq_div_mul, ← Nat.div_div_eq_div_mul, ← Nat.div_div_eq_div_mul, ← Nat.div_div_eq_div_mul, div_setBit]
        have : (1 + x / 2 ^ i) / 2 = x / 2 ^ i / 2 := by omega
        rw [this]
    unfold bit
    rw [e, key]

theorem setBit_lt (x i n : Nat) (hx : x < 2 ^ n) (hi : i < n) : setBit x i < 2 ^ n := by
  by_cases b : bit x i = true
  · unfold setBit
    rw [if_pos b]
    exact hx
  · obtain ⟨e, z⟩ := setBit_clear b
    rw [e]
    obtain ⟨k, rfl⟩ := Nat.exists_eq_add_of_lt hi
    have p : 0 < 2 ^ i := Nat.two_pow_pos i
    have q : 2 ^ (i + k + 1) = 2 ^ i * (2 * 2 ^ k) := by rw [Nat.pow_succ, Nat.pow_add]; ring
    rw [q] at hx ⊢
    have l : x / 2 ^ i < 2 * 2 ^ k := Nat.div_lt_of_lt_mul hx
    have u : x / 2 ^ i + 2 ≤ 2 * 2 ^ k := by omega
    have m := Nat.div_add_mod x (2 ^ i)
    have r := Nat.mod_lt x p
    calc 2 ^ i + x = 2 ^ i * (x / 2 ^ i + 1) + x % 2 ^ i := by rw [Nat.mul_add]; omega
      _ < 2 ^ i * (x / 2 ^ i + 1) + 2 ^ i := by omega
      _ = 2 ^ i * (x / 2 ^ i + 2) := by ring
      _ ≤ 2 ^ i * (2 * 2 ^ k) := Nat.mul_le_mul_left _ u

end Sys2Proof.Machine
end

