-- ==== Sys2Proof/Laws/Table.lean ====
section
/-!
SUPPORT. Laws/Table.lean: a table read after a write, and the canonical form: every operation on a table, and so every operation
on a sparse memory, keeps it.
-/

namespace Sys2Proof.Machine

open Sys2Proof

section Tables

variable {α : Type}

@[simp] theorem tblFind_nil (k : Nat) : tblFind k ([] : Tbl α) = none := rfl

theorem tblFind_cons (k k' : Nat) (v : α) (t : Tbl α) :
    tblFind k ((k', v) :: t) = if k' = k then some v else tblFind k t := rfl

@[simp] theorem tblFind_tblPut_same (k : Nat) (v : α) (t : Tbl α) : tblFind k (tblPut k v t) = some v := by
  induction t with
  | nil => simp [tblPut, tblFind]
  | cons e t ih =>
    obtain ⟨k', v'⟩ := e
    simp only [tblPut]
    split
    · simp [tblFind]
    · split
      · simp [tblFind]
      · rename_i h; simp [tblFind, ih, Ne.symm h]

theorem tblFind_tblPut_ne {k j : Nat} (h : j ≠ k) (v : α) (t : Tbl α) : tblFind j (tblPut k v t) = tblFind j t := by
  induction t with
  | nil => simp [tblPut, tblFind, Ne.symm h]
  | cons e t ih =>
    obtain ⟨k', v'⟩ := e
    simp only [tblPut]
    split
    · simp [tblFind, Ne.symm h]
    · split
      · rename_i hk; subst hk; simp [tblFind, Ne.symm h]
      · simp [tblFind, ih]

@[simp] theorem tblFind_tblDel_same (k : Nat) (t : Tbl α) : tblFind k (tblDel k t) = none := by
  induction t with
  | nil => rfl
  | cons e t ih =>
    obtain ⟨k', v'⟩ := e
    simp only [tblDel]
    split
    · exact ih
    · rename_i h; simp [tblFind, h, ih]

theorem tblFind_tblDel_ne {k j : Nat} (h : j ≠ k) (t : Tbl α) : tblFind j (tblDel k t) = tblFind j t := by
  induction t with
  | nil => rfl
  | cons e t ih =>
    obtain ⟨k', v'⟩ := e
    simp only [tblDel]
    split
    · rename_i hk; subst hk; simp [tblFind, Ne.symm h, ih]
    · simp [tblFind, ih]

variable [DecidableEq α]

/-- A read after a write to the same key gives the value written. -/
@[simp] theorem tblGet_tblSet_same (d : Nat → α) (t : Tbl α) (k : Nat) (v : α) : tblGet d (tblSet d t k v) k = v := by
  unfold tblGet tblSet
  split
  · rename_i h; simp [h]
  · simp

/-- A write leaves every other key alone. -/
theorem tblGet_tblSet_ne (d : Nat → α) (t : Tbl α) {k j : Nat} (h : j ≠ k) (v : α) :
    tblGet d (tblSet d t k v) j = tblGet d t j := by
  unfold tblGet tblSet
  split
  · rw [tblFind_tblDel_ne h]
  · rw [tblFind_tblPut_ne h]

theorem tblGet_tblSet (d : Nat → α) (t : Tbl α) (k j : Nat) (v : α) :
    tblGet d (tblSet d t k v) j = if j = k then v else tblGet d t j := by
  split
  · rename_i h; subst h; simp
  · rename_i h; exact tblGet_tblSet_ne d t h v

end Tables

/-! ### The canonical form -/

section Canonical

variable {α : Type}

/-- The keys of a table rise strictly, as a statement about pairs. -/
theorem tblRising_iff (t : Tbl α) : tblRising t = true ↔ t.Pairwise (fun a b => a.1 < b.1) := by
  induction t with
  | nil => simp [tblRising]
  | cons e t ih =>
    cases t with
    | nil => simp [tblRising]
    | cons f t =>
      obtain ⟨a, v⟩ := e
      obtain ⟨b, w⟩ := f
      simp only [tblRising, Bool.and_eq_true, decide_eq_true_eq, ih, List.pairwise_cons, List.mem_cons]
      constructor
      · rintro ⟨h, h2⟩
        refine ⟨?_, h2⟩
        rintro x (rfl | hx)
        · exact h
        · exact Nat.lt_trans h (h2.1 x hx)
      · rintro ⟨h, h2⟩
        exact ⟨h (b, w) (Or.inl rfl), h2⟩

theorem mem_tblDel {e : Nat × α} {k : Nat} {t : Tbl α} (h : e ∈ tblDel k t) : e ∈ t := by
  induction t with
  | nil => simp [tblDel] at h
  | cons f t ih =>
    obtain ⟨k', v'⟩ := f
    simp only [tblDel] at h
    split at h
    · exact List.mem_cons_of_mem _ (ih h)
    · rcases List.mem_cons.1 h with rfl | h
      · exact List.mem_cons_self
      · exact List.mem_cons_of_mem _ (ih h)

theorem mem_tblPut {e : Nat × α} {k : Nat} {v : α} {t : Tbl α} (h : e ∈ tblPut k v t) : e = (k, v) ∨ e ∈ t := by
  induction t with
  | nil => simpa [tblPut] using h
  | cons f t ih =>
    obtain ⟨k', v'⟩ := f
    simp only [tblPut] at h
    split at h
    · simpa using h
    · split at h
      · rcases List.mem_cons.1 h with rfl | h
        · exact Or.inl rfl
        · exact Or.inr (List.mem_cons_of_mem _ h)
      · rcases List.mem_cons.1 h with rfl | h
        · exact Or.inr List.mem_cons_self
        · rcases ih h with rfl | h
          · exact Or.inl rfl
          · exact Or.inr (List.mem_cons_of_mem _ h)

theorem pairwise_tblDel {k : Nat} {t : Tbl α} (h : t.Pairwise (fun a b => a.1 < b.1)) :
    (tblDel k t).Pairwise (fun a b => a.1 < b.1) := by
  induction t with
  | nil => simp [tblDel]
  | cons f t ih =>
    obtain ⟨k', v'⟩ := f
    rw [List.pairwise_cons] at h
    simp only [tblDel]
    split
    · exact ih h.2
    · exact List.pairwise_cons.2 ⟨fun e he => h.1 e (mem_tblDel he), ih h.2⟩

theorem pairwise_tblPut {k : Nat} {v : α} {t : Tbl α} (h : t.Pairwise (fun a b => a.1 < b.1)) :
    (tblPut k v t).Pairwise (fun a b => a.1 < b.1) := by
  induction t with
  | nil => simp [tblPut]
  | cons f t ih =>
    obtain ⟨k', v'⟩ := f
    rw [List.pairwise_cons] at h
    simp only [tblPut]
    split
    · rename_i hk
      refine List.pairwise_cons.2 ⟨?_, List.pairwise_cons.2 h⟩
      rintro e he
      rcases List.mem_cons.1 he with rfl | he
      · exact hk
      · exact Nat.lt_trans hk (h.1 e he)
    · split
      · rename_i hk
        subst hk
        exact List.pairwise_cons.2 ⟨h.1, h.2⟩
      · refine List.pairwise_cons.2 ⟨?_, ih h.2⟩
        intro e he
        rcases mem_tblPut he with rfl | he
        · simp only at *; omega
        · exact h.1 e he

variable [DecidableEq α]

theorem tblWf_iff (d : Nat → α) (t : Tbl α) :
    tblWf d t = true ↔ t.Pairwise (fun a b => a.1 < b.1) ∧ ∀ e ∈ t, e.2 ≠ d e.1 := by
  simp [tblWf, tblRising_iff]

/-- Setting a key keeps the canonical form. -/
theorem tblWf_tblSet {d : Nat → α} {t : Tbl α} (h : tblWf d t = true) (k : Nat) (v : α) :
    tblWf d (tblSet d t k v) = true := by
  rw [tblWf_iff] at h ⊢
  unfold tblSet
  split
  · exact ⟨pairwise_tblDel h.1, fun e he => h.2 e (mem_tblDel he)⟩
  · rename_i hv
    refine ⟨pairwise_tblPut h.1, fun e he => ?_⟩
    rcases mem_tblPut he with rfl | he
    · exact hv
    · exact h.2 e he

/-- Dropping entries keeps the canonical form. -/
theorem tblWf_filter {d : Nat → α} {t : Tbl α} (h : tblWf d t = true) (p : Nat × α → Bool) :
    tblWf d (t.filter p) = true := by
  rw [tblWf_iff] at h ⊢
  exact ⟨h.1.sublist List.filter_sublist, fun e he => h.2 e (List.mem_filter.1 he).1⟩

end Canonical

/-! ### Sparse memories -/

theorem cellGet_cellsSet_out (d : Byte) (m : List Host.Cell) (a : Nat) (l : List Byte) (x : Nat)
    (h : x < a ∨ a + l.length ≤ x) : cellGet d (cellsSet d m a l) x = cellGet d m x := by
  induction l generalizing m a with
  | nil => rfl
  | cons b bs ih =>
    simp only [cellsSet, List.length_cons] at h ⊢
    rw [ih _ _ (by omega)]
    exact tblGet_tblSet_ne _ _ (by omega) _

theorem cellGet_cellsSet_in (d : Byte) (m : List Host.Cell) (a : Nat) (l : List Byte) (i : Nat) (h : i < l.length) :
    cellGet d (cellsSet d m a l) (a + i) = l[i] := by
  induction l generalizing m a i with
  | nil => simp at h
  | cons b bs ih =>
    cases i with
    | zero =>
      simp only [cellsSet, List.getElem_cons_zero, Nat.add_zero]
      rw [cellGet_cellsSet_out _ _ _ _ _ (by omega)]
      exact tblGet_tblSet_same _ _ _ _
    | succ i =>
      simp only [cellsSet, List.getElem_cons_succ]
      have := ih (tblSet (fun _ => d) m a b) (a + 1) i (by simpa using h)
      rw [← this]; congr 1; omega

/-- Every write of bytes keeps a memory's canonical form. -/
theorem tblWf_cellsSet (d : Byte) (m : List Host.Cell) (a : Nat) (l : List Byte) (h : tblWf (fun _ => d) m = true) :
    tblWf (fun _ => d) (cellsSet d m a l) = true := by
  induction l generalizing m a with
  | nil => exact h
  | cons b bs ih => exact ih _ _ (tblWf_tblSet h _ _)

end Sys2Proof.Machine
end

