-- ==== Sys2Proof/Laws/SoundOps.lean ====
section
/-!
SUPPORT. Laws/SoundOps.lean: the shared operations keep every sparse memory in
canonical form, the queue of waiting commands, and what stands in fuses that no rule blows. One lemma for each function of the
state: a caller cites it and never unfolds the callee.
-/

namespace Sys2Proof.Machine

open Sys2Proof

/-- What no command changes: the queue of waiting commands, and what stands in fuses that no rule blows. -/
abbrev Fixed : Type := List Instr × BitVec 256 × BitVec 256 × Nat

/-- Every sparse memory is in canonical form, and what no command changes is as `fx` says. -/
def parts (fx : Fixed) (regs : Tbl Word) (mbuf data sram flash : List Host.Cell) (queue : List Instr)
    (device ralheuth : BitVec 256) (revoked : Nat) : Prop :=
  wordsCanonical regs ∧ bytesCanonical mbuf ∧ bytesCanonical data ∧ bytesCanonical sram ∧ flashCanonical flash
    ∧ (queue, device, ralheuth, revoked) = fx

/-- `parts` of a state. -/
def State.sound (s : State) (fx : Fixed) : Prop :=
  parts fx s.regs s.mbuf s.mem.data s.sram.data s.sec.flash s.pending s.sec.deviceSecret s.sec.ralKey s.sec.rowsRevoked

def soundOut (fx : Fixed) (o : Host.Outcome State Fault Refusal) : Prop :=
  match o with
  | .next t => t.sound fx
  | _ => True

variable {fx : Fixed}

@[simp] theorem soundOut_next (t : State) : soundOut fx (.next t) = t.sound fx := rfl

@[simp] theorem sound_mk (regs snaps mbuf gaf tb cap sec pins bist mem noc sram answers fab rep te host evLines evLast evWait arr phys free pending) :
    State.sound (State.mk regs snaps mbuf gaf tb cap sec pins bist mem noc sram answers fab rep te host evLines evLast evWait arr phys free pending) fx
      = parts fx regs mbuf mem.data sram.data sec.flash pending sec.deviceSecret sec.ralKey sec.rowsRevoked := Eq.trans rfl rfl

@[simp] theorem parts_fold (s : State) :
    parts fx s.regs s.mbuf s.mem.data s.sram.data s.sec.flash s.pending s.sec.deviceSecret s.sec.ralKey s.sec.rowsRevoked
      = s.sound fx := Eq.trans rfl rfl

section Parts

variable {t : Tbl Word} {b m r f : List Host.Cell} {q : List Instr} {d e : BitVec 256} {v : Nat}

@[simp] theorem parts_tblSet (h : parts fx t b m r f q d e v) (i : Nat) (w : Word) :
    parts fx (tblSet resetWord t i w) b m r f q d e v := ⟨tblWf_tblSet h.1 i w, h.2⟩

@[simp] theorem parts_filter (h : parts fx t b m r f q d e v) (p : Nat × Word → Bool) :
    parts fx (t.filter p) b m r f q d e v := ⟨tblWf_filter h.1 p, h.2⟩

@[simp] theorem parts_mbuf (h : parts fx t b m r f q d e v) (a : Nat) (l : List Byte) :
    parts fx t (cellsSet 0#8 b a l) m r f q d e v := ⟨h.1, tblWf_cellsSet 0 b a l h.2.1, h.2.2⟩

@[simp] theorem parts_data_tblSet (h : parts fx t b m r f q d e v) (i : Nat) (x : Byte) :
    parts fx t b (tblSet (fun _ => 0#8) m i x) r f q d e v := ⟨h.1, h.2.1, tblWf_tblSet h.2.2.1 i x, h.2.2.2⟩

@[simp] theorem parts_data_filter (h : parts fx t b m r f q d e v) (p : Host.Cell → Bool) :
    parts fx t b (m.filter p) r f q d e v := ⟨h.1, h.2.1, tblWf_filter h.2.2.1 p, h.2.2.2⟩

@[simp] theorem parts_data_cellsSet (h : parts fx t b m r f q d e v) (a : Nat) (l : List Byte) :
    parts fx t b (cellsSet 0#8 m a l) r f q d e v := ⟨h.1, h.2.1, tblWf_cellsSet 0 m a l h.2.2.1, h.2.2.2⟩

@[simp] theorem parts_data_choose (c : Prop) [Decidable c] {n : List Host.Cell} (h : parts fx t b m r f q d e v)
    (k : parts fx t b n r f q d e v) : parts fx t b (if c then m else n) r f q d e v := by split <;> assumption

@[simp] theorem parts_sram_filter (h : parts fx t b m r f q d e v) (p : Host.Cell → Bool) :
    parts fx t b m (r.filter p) f q d e v := ⟨h.1, h.2.1, h.2.2.1, tblWf_filter h.2.2.2.1 p, h.2.2.2.2⟩

@[simp] theorem parts_sram_cellsSet (h : parts fx t b m r f q d e v) (a : Nat) (l : List Byte) :
    parts fx t b m (cellsSet 0#8 r a l) f q d e v := ⟨h.1, h.2.1, h.2.2.1, tblWf_cellsSet 0 r a l h.2.2.2.1, h.2.2.2.2⟩

@[simp] theorem parts_flash_filter (h : parts fx t b m r f q d e v) (p : Host.Cell → Bool) :
    parts fx t b m r (f.filter p) q d e v := ⟨h.1, h.2.1, h.2.2.1, h.2.2.2.1, tblWf_filter h.2.2.2.2.1 p, h.2.2.2.2.2⟩

@[simp] theorem parts_flash_cellsSet (h : parts fx t b m r f q d e v) (a : Nat) (l : List Byte) :
    parts fx t b m r (cellsSet 255#8 f a l) q d e v :=
  ⟨h.1, h.2.1, h.2.2.1, h.2.2.2.1, tblWf_cellsSet 0xFF f a l h.2.2.2.2.1, h.2.2.2.2.2⟩

@[simp] theorem parts_flash_choose (c : Prop) [Decidable c] {g : List Host.Cell} (h : parts fx t b m r f q d e v)
    (k : parts fx t b m r g q d e v) : parts fx t b m r (if c then f else g) q d e v := by split <;> assumption

end Parts

@[simp] theorem parts_data_nil {s : State} (ok : s.sound fx) :
    parts fx s.regs s.mbuf [] s.sram.data s.sec.flash s.pending s.sec.deviceSecret s.sec.ralKey s.sec.rowsRevoked :=
  ⟨ok.1, ok.2.1, rfl, ok.2.2.2⟩

@[simp] theorem parts_sram_nil {s : State} (ok : s.sound fx) :
    parts fx s.regs s.mbuf s.mem.data [] s.sec.flash s.pending s.sec.deviceSecret s.sec.ralKey s.sec.rowsRevoked :=
  ⟨ok.1, ok.2.1, ok.2.2.1, rfl, ok.2.2.2.2⟩

@[simp] theorem parts_all_nil {s : State} (ok : s.sound fx) :
    parts fx [] [] [] [] s.sec.flash s.pending s.sec.deviceSecret s.sec.ralKey s.sec.rowsRevoked :=
  ⟨rfl, rfl, rfl, rfl, ok.2.2.2.2⟩

theorem sound_ite (c : Prop) [Decidable c] (a b : State) :
    (if c then a else b).sound fx = if c then a.sound fx else b.sound fx := by split <;> rfl

theorem soundOut_ite (c : Prop) [Decidable c] (a b : Host.Outcome State Fault Refusal) :
    soundOut fx (if c then a else b) = if c then soundOut fx a else soundOut fx b := by split <;> rfl

@[simp] theorem sound_choose (c : Prop) [Decidable c] {a b : State} (ha : a.sound fx) (hb : b.sound fx) :
    (if c then a else b).sound fx := by split <;> assumption

@[simp] theorem soundOut_choose (c : Prop) [Decidable c] {a b : Host.Outcome State Fault Refusal} (ha : soundOut fx a)
    (hb : soundOut fx b) : soundOut fx (if c then a else b) := by split <;> assumption

@[simp] theorem foldl_sound {α : Type} (l : List α) (f : State → α → State) {s : State} (h : s.sound fx)
    (hf : ∀ t a, t.sound fx → (f t a).sound fx) : (l.foldl f s).sound fx := by
  induction l generalizing s with
  | nil => exact h
  | cons a l ih => exact ih (hf _ _ h)

@[simp] theorem foldl_fst_sound {α β : Type} (l : List α) (f : State × β → α → State × β) {c : State × β} (h : c.1.sound fx)
    (hf : ∀ c a, c.1.sound fx → (f c a).1.sound fx) : (l.foldl f c).1.sound fx := by
  induction l generalizing c with
  | nil => exact h
  | cons a l ih => exact ih (hf _ _ h)

@[simp] theorem forEach_sound {α : Type} (l : List α) (f : α → State → State) {s : State} (h : s.sound fx)
    (hf : ∀ a t, t.sound fx → (f a t).sound fx) : (forEach l f s).sound fx :=
  foldl_sound l _ h (fun t a => hf a t)

@[simp] theorem iterate_sound (n : Nat) (f : Nat → State → State) {s : State} (h : s.sound fx)
    (hf : ∀ i t, t.sound fx → (f i t).sound fx) : (iterate n f s).sound fx :=
  foldl_sound _ _ h (fun t i => hf i t)

@[simp] theorem State.setReg_sound (s : State) (off v : Nat) (ok : s.sound fx) : (State.setReg s off v).sound fx := by
  simp [State.setReg, ok]

@[simp] theorem State.put_sound (s : State) (f : RF) (v : Nat) (ok : s.sound fx) : (State.put s f v).sound fx := by
  simp [State.put, ok]

@[simp] theorem State.bumpBy_sound (s : State) (f : RF) (n : Nat) (ok : s.sound fx) : (State.bumpBy s f n).sound fx := by
  simp [State.bumpBy, ok]

@[simp] theorem State.bump_sound (s : State) (f : RF) (ok : s.sound fx) : (State.bump s f).sound fx := by
  simp [State.bump, ok]

@[simp] theorem State.wrapInc_sound (s : State) (f : RF) (ok : s.sound fx) : (State.wrapInc s f).sound fx := by
  simp [State.wrapInc, ok]

@[simp] theorem State.inc64_sound (s : State) (lo hi : Nat) (n : Nat) (ok : s.sound fx) : (State.inc64 s lo hi n).sound fx := by
  simp [State.inc64, ok]

@[simp] theorem State.resetRegs_sound (s : State) (lo hi : Nat) (ok : s.sound fx) : (State.resetRegs s lo hi).sound fx := by
  simp [State.resetRegs, ok]

@[simp] theorem State.setGates_sound (s : State) (m v : Nat) (ok : s.sound fx) : (State.setGates s m v).sound fx := by
  simp [State.setGates, ok]

@[simp] theorem State.openClock_sound (s : State) (u : Nat) (ok : s.sound fx) : (State.openClock s u).sound fx := by
  simp (maxDischargeDepth := 99) [State.openClock, ok]

@[simp] theorem State.drawn_sound (s : State) (ok : s.sound fx) : (State.drawn s).sound fx := by
  simp [State.drawn, ok]

@[simp] theorem State.msix_sound (s : State) (v : Nat) (ok : s.sound fx) : (State.msix s v).sound fx := by
  simp (maxDischargeDepth := 99) [State.msix, ok]

@[simp] theorem State.toggleLine_sound (s : State) (l : Nat) (ok : s.sound fx) : (State.toggleLine s l).sound fx := by
  simp [State.toggleLine, ok]

@[simp] theorem State.eventLine_sound (s : State) (l : Nat) (ok : s.sound fx) : (State.eventLine s l).sound fx := by
  simp [State.eventLine, ok]

@[simp] theorem State.deliver_sound (s : State) (e : Nat) (was : Bool) (ok : s.sound fx) : (State.deliver s e was).sound fx := by
  simp (maxDischargeDepth := 99) [State.deliver, ok]

@[simp] theorem State.raise_sound (s : State) (e : Nat) (ok : s.sound fx) : (State.raise s e).sound fx := by
  simp (maxDischargeDepth := 99) [State.raise, ok]

@[simp] theorem State.logAlways_sound (s : State) (severity group code mailbox a0 a1 a2 : Nat) (ok : s.sound fx) : (State.logAlways s severity group code mailbox a0 a1 a2).sound fx := by
  simp (maxDischargeDepth := 99) [State.logAlways, ok]

@[simp] theorem State.log_sound (s : State) (severity group a0 a1 a2 : Nat) (ok : s.sound fx) : (State.log s severity group a0 a1 a2).sound fx := by
  simp [State.log, ok]

@[simp] theorem State.workedFor_sound (s : State) (code : Nat) (ok : s.sound fx) : (State.workedFor s code).sound fx := by
  simp [State.workedFor, ok]

@[simp] theorem State.yielded_sound (s : State) (code overCode detail : Nat) (ok : s.sound fx) : (State.yielded s code overCode detail).sound fx := by
  simp (maxDischargeDepth := 99) [State.yielded, ok]

@[simp] theorem State.showNotices_sound (s : State) (mb : Nat) (ok : s.sound fx) : (State.showNotices s mb).sound fx := by
  simp only [State.showNotices]; split <;> simp (maxDischargeDepth := 99) [ok]

@[simp] theorem State.setNotices_sound (s : State) (mb : Nat) (l : List Notice) (ok : s.sound fx) : (State.setNotices s mb l).sound fx := by
  simp [State.setNotices, ok]

@[simp] theorem State.pushNotice_sound (s : State) (mb tag status : Nat) (ok : s.sound fx) : (State.pushNotice s mb tag status).sound fx := by
  simp [State.pushNotice, ok]

@[simp] theorem State.showOps_sound (s : State) (ok : s.sound fx) : (State.showOps s).sound fx := by
  simp [State.showOps, ok]

@[simp] theorem State.endOp_sound (s : State) (o : Op) (status detail : Nat) (ok : s.sound fx) : (State.endOp s o status detail).sound fx := by
  simp (maxDischargeDepth := 99) [State.endOp, ok]

@[simp] theorem State.endPeerOp_sound (s : State) (o : PeerOp) (status : Nat) (ok : s.sound fx) : (State.endPeerOp s o status).sound fx := by
  simp (maxDischargeDepth := 99) [State.endPeerOp, ok]

@[simp] theorem State.endOps_sound (s : State) (command status detail : Nat) (ok : s.sound fx) : (State.endOps s command status detail).sound fx := by
  simp (maxDischargeDepth := 99) +contextual [State.endOps, ok]

@[simp] theorem State.dropWork_sound (s : State) (o : Op) (ok : s.sound fx) : (State.dropWork s o).sound fx := by
  simp (maxDischargeDepth := 99) [State.dropWork, ok]

@[simp] theorem State.stopOps_sound (s : State) (cause : Nat) (ok : s.sound fx) : (State.stopOps s cause).sound fx := by
  simp (maxDischargeDepth := 99) +contextual [State.stopOps, ok]

@[simp] theorem State.modeStep_sound (s : State) (m cause : Nat) (keepCause : Bool) (ok : s.sound fx) : (State.modeStep s m cause keepCause).sound fx := by
  simp (maxDischargeDepth := 99) [State.modeStep, ok]

@[simp] theorem State.showThrottle_sound (s : State) (ok : s.sound fx) : (State.showThrottle s).sound fx := by
  simp [State.showThrottle, ok]

@[simp] theorem State.changeMode_sound (s : State) (m cause : Nat) (ok : s.sound fx) : (State.changeMode s m cause).sound fx := by
  simp only [State.changeMode]; (repeat' split) <;> simp (maxDischargeDepth := 99) [ok]

@[simp] theorem State.sameMode_sound (s : State) (cause : Nat) (keepCause : Bool) (ok : s.sound fx) : (State.sameMode s cause keepCause).sound fx := by
  simp [State.sameMode, ok]

@[simp] theorem State.causeIgnored_sound (s : State) (cause : Nat) (ok : s.sound fx) : (State.causeIgnored s cause).sound fx := by
  simp [State.causeIgnored, ok]

@[simp] theorem State.writeHeld_sound (s : State) (ok : s.sound fx) : (State.writeHeld s).sound fx := by
  simp [State.writeHeld, ok]

@[simp] theorem State.latch_sound (s : State) (es : List Edit) (ok : s.sound fx) : (State.latch s es).sound fx := by
  simp [State.latch, ok]

@[simp] theorem State.setClaim_sound (s : State) (key : Nat) (c : Claim) (ok : s.sound fx) : (State.setClaim s key c).sound fx := by
  simp [State.setClaim, ok]

@[simp] theorem State.dropClaim_sound (s : State) (key : Nat) (ok : s.sound fx) : (State.dropClaim s key).sound fx := by
  simp [State.dropClaim, ok]

end Sys2Proof.Machine
end

