-- ==== Sys2Proof/Laws/SoundMemory.lean ====
section
/-!
SUPPORT. Laws/SoundMemory.lean: the NoC paths, the seams, the gaffer, the SRAM, Tap Engines and the stack memory keep every sparse memory in
canonical form, the queue of waiting commands, and what stands in fuses that no rule blows. One lemma for each function of the
state: a caller cites it and never unfolds the callee.
-/

namespace Sys2Proof.Machine

open Sys2Proof

variable {fx : Fixed}

/-! ### NocPaths -/

@[simp] theorem State.showFlows_sound (s : State) (ok : s.sound fx) : (State.showFlows s).sound fx := by
  simp (maxDischargeDepth := 99) +contextual [State.showFlows, ok]

@[simp] theorem State.setFlows_sound (s : State) (l : List Flow) (sources : List Nat) (ok : s.sound fx) : (State.setFlows s l sources).sound fx := by
  simp (maxDischargeDepth := 99) [State.setFlows, ok]

/-! ### Flits -/

@[simp] theorem State.linkFault_sound (s : State) (type : Nat) (f : LinkFault) (ok : s.sound fx) : (State.linkFault s type f).sound fx := by
  simp (maxDischargeDepth := 99) +contextual [State.linkFault, ok]

@[simp] theorem State.settleBuckets_sound (s : State) (ok : s.sound fx) : (State.settleBuckets s).sound fx := by
  simp [State.settleBuckets, ok]

@[simp] theorem State.inject_sound (s : State) (p : Packet) (ok : s.sound fx) : (State.inject s p).sound fx := by
  simp [State.inject, ok]

/-! ### Seams -/

@[simp] theorem State.setSeam_sound (s : State) (p st : Nat) (ok : s.sound fx) : (State.setSeam s p st).sound fx := by
  simp (maxDischargeDepth := 99) [State.setSeam, ok]

@[simp] theorem State.failSeam_sound (s : State) (p cause : Nat) (ok : s.sound fx) : (State.failSeam s p cause).sound fx := by
  simp [State.failSeam, ok]

@[simp] theorem State.drawNonces_sound (s : State) (k : Nat) (ok : s.sound fx) : (State.drawNonces s k).sound fx := by
  simp [State.drawNonces, ok]

@[simp] theorem State.rekeySeam_sound (s : State) (p : Nat) (tx : Bool) (epoch : Nat) (ok : s.sound fx) : (State.rekeySeam s p tx epoch).sound fx := by
  simp (maxDischargeDepth := 99) [State.rekeySeam, ok]

@[simp] theorem State.sendFrames_sound (s : State) (p n : Nat) (ok : s.sound fx) : (State.sendFrames s p n).sound fx := by
  simp [State.sendFrames, ok]

@[simp] theorem State.sendFrame_sound (s : State) (p cls kind : Nat) (header : Option Nat) (body : List Byte) (ok : s.sound fx) : (State.sendFrame s p cls kind header body).sound fx := by
  simp [State.sendFrame, ok]

@[simp] theorem State.resend_sound (s : State) (p cls n : Nat) (ok : s.sound fx) : (State.resend s p cls n).sound fx := by
  simp [State.resend, ok]

@[simp] theorem State.sendPacket_sound (s : State) (p : Nat) (k : Packet) (ok : s.sound fx) : (State.sendPacket s p k).sound fx := by
  simp (maxDischargeDepth := 99) [State.sendPacket, ok]

@[simp] theorem State.tellDevice_sound (s : State) (d kind v : Nat) (ok : s.sound fx) : (State.tellDevice s d kind v).sound fx := by
  simp [State.tellDevice, ok]

@[simp] theorem State.tellMembers_sound (s : State) (kind v : Nat) (ok : s.sound fx) : (State.tellMembers s kind v).sound fx := by
  simp (maxDischargeDepth := 99) +contextual [State.tellMembers, ok]

@[simp] theorem State.snoopDevice_sound (s : State) (d line : Nat) (key : Option Nat) (ok : s.sound fx) : (State.snoopDevice s d line key).sound fx := by
  simp [State.snoopDevice, ok]

/-! ### Guard -/

@[simp] theorem State.mapSegment_sound (s : State) (g log2 first pbase : Nat) (ok : s.sound fx) : (State.mapSegment s g log2 first pbase).sound fx := by
  simp (maxDischargeDepth := 99) [State.mapSegment, ok]

@[simp] theorem State.mapFull_sound (s : State) (g : Nat) (ok : s.sound fx) : (State.mapFull s g).sound fx := by
  simp [State.mapFull, ok]

@[simp] theorem State.showMajor_sound (s : State) (g : Nat) (ok : s.sound fx) : (State.showMajor s g).sound fx := by
  simp [State.showMajor, ok]

@[simp] theorem State.setPage_sound (s : State) (p : Nat) (r : Page) (ok : s.sound fx) : (State.setPage s p r).sound fx := by
  simp [State.setPage, ok]

@[simp] theorem State.showSlots_sound (s : State) (ok : s.sound fx) : (State.showSlots s).sound fx := by
  simp (maxDischargeDepth := 99) +contextual [State.showSlots, ok]

@[simp] theorem State.showSweeps_sound (s : State) (ok : s.sound fx) : (State.showSweeps s).sound fx := by
  simp (maxDischargeDepth := 99) [State.showSweeps, ok]

@[simp] theorem State.openSlot_sound (s : State) (n : Nat) (ok : s.sound fx) : (State.openSlot s n).sound fx := by
  simp (maxDischargeDepth := 99) [State.openSlot, ok]

@[simp] theorem State.beginSweep_sound (s : State) (g : Nat) (ok : s.sound fx) : (State.beginSweep s g).sound fx := by
  simp (maxDischargeDepth := 99) [State.beginSweep, ok]

@[simp] theorem State.startRekey_sound (s : State) (g : Nat) (ok : s.sound fx) : (State.startRekey s g).sound fx := by
  simp only [State.startRekey]; (repeat' split) <;> simp (maxDischargeDepth := 99) [ok]

@[simp] theorem State.rekeyFor_sound (s : State) (p : Nat) (ok : s.sound fx) : (State.rekeyFor s p).sound fx := by
  simp (maxDischargeDepth := 99) [State.rekeyFor, ok]

@[simp] theorem State.pageLost_sound (s : State) (p : Nat) (ok : s.sound fx) : (State.pageLost s p).sound fx := by
  simp (maxDischargeDepth := 99) [State.pageLost, ok]

@[simp] theorem State.listLine_sound (s : State) (line kind ch : Nat) (ok : s.sound fx) : (State.listLine s line kind ch).sound fx := by
  simp (maxDischargeDepth := 99) [State.listLine, ok]

@[simp] theorem State.lineFailed_sound (s : State) (line kind : Nat) (ok : s.sound fx) : (State.lineFailed s line kind).sound fx := by
  simp (maxDischargeDepth := 99) [State.lineFailed, ok]

@[simp] theorem State.poisonLine_sound (s : State) (line : Nat) (ok : s.sound fx) : (State.poisonLine s line).sound fx := by
  simp (maxDischargeDepth := 99) [State.poisonLine, ok]

@[simp] theorem State.setChannelState_sound (s : State) (ch st : Nat) (ok : s.sound fx) : (State.setChannelState s ch st).sound fx := by
  simp (maxDischargeDepth := 99) [State.setChannelState, ok]

@[simp] theorem State.symbolCorrected_sound (s : State) (ch pin : Nat) (ok : s.sound fx) : (State.symbolCorrected s ch pin).sound fx := by
  simp (maxDischargeDepth := 99) [State.symbolCorrected, ok]

@[simp] theorem readCore_sound (s : State) (line : Nat) (ok : s.sound fx) : (readCore s line).next.sound fx := by
  simp only [readCore]; (repeat' split) <;> simp (maxDischargeDepth := 99) [ok]

@[simp] theorem carryLine_sound (s : State) (line : Nat) (ok : s.sound fx) : (carryLine s line).sound fx := by
  simp (maxDischargeDepth := 99) [carryLine, ok]

@[simp] theorem State.sweepPage_sound (s : State) (p : Nat) (ok : s.sound fx) : (State.sweepPage s p).sound fx := by
  simp (maxDischargeDepth := 99) +contextual [State.sweepPage, ok]

@[simp] theorem State.endSweep_sound (s : State) (g : Nat) (ok : s.sound fx) : (State.endSweep s g).sound fx := by
  simp (maxDischargeDepth := 99) [State.endSweep, ok]

@[simp] theorem State.markSwept_sound (s : State) (p : Nat) (ok : s.sound fx) : (State.markSwept s p).sound fx := by
  simp (maxDischargeDepth := 99) [State.markSwept, ok]

@[simp] theorem State.sweepFirst_sound (s : State) (p : Nat) (ok : s.sound fx) : (State.sweepFirst s p).sound fx := by
  simp (maxDischargeDepth := 99) [State.sweepFirst, ok]

@[simp] theorem readLine_sound (s : State) (line : Nat) (ok : s.sound fx) : (readLine s line).next.sound fx := by
  simp only [readLine]; split <;> simp (maxDischargeDepth := 99) [ok]

@[simp] theorem State.reencrypt_sound (s : State) (p : Nat) (ok : s.sound fx) : (State.reencrypt s p).sound fx := by
  simp (maxDischargeDepth := 99) +contextual [State.reencrypt, ok]

@[simp] theorem State.bumpMinor_sound (s : State) (line : Nat) (ok : s.sound fx) : (State.bumpMinor s line).sound fx := by
  simp (maxDischargeDepth := 99) [State.bumpMinor, ok]

@[simp] theorem writeLine_sound (s : State) (line off : Nat) (bytes : List Byte) (ok : s.sound fx) : (writeLine s line off bytes).1.sound fx := by
  simp only [writeLine]; (repeat' split) <;> simp (maxDischargeDepth := 99) [ok]

@[simp] theorem stackRead_sound (s : State) (ident a n : Nat) (ok : s.sound fx) : (stackRead s ident a n).1.sound fx := by
  simp only [stackRead]; (repeat' split) <;> simp (maxDischargeDepth := 99) +contextual [ok]

/-! ### Coherence -/

@[simp] theorem State.showCache_sound (s : State) (unit : Nat) (ok : s.sound fx) : (State.showCache s unit).sound fx := by
  simp [State.showCache, ok]

@[simp] theorem State.setCaches_sound (s : State) (unit : Nat) (l : List CacheLine) (ok : s.sound fx) : (State.setCaches s unit l).sound fx := by
  simp [State.setCaches, ok]

@[simp] theorem State.insertLine_sound (s : State) (c : CacheLine) (ok : s.sound fx) : (State.insertLine s c).sound fx := by
  simp [State.insertLine, ok]

@[simp] theorem State.dropLines_sound (s : State) (unit : Nat) (p : CacheLine → Bool) (ok : s.sound fx) : (State.dropLines s unit p).sound fx := by
  simp [State.dropLines, ok]

theorem State.cacheHit_sound {s t : State} {u a n : Nat} {d : List Byte} (ok : s.sound fx) (h : s.cacheHit u a n = some (t, d)) :
    t.sound fx := by
  simp only [State.cacheHit] at h
  split at h
  · obtain ⟨rfl, -⟩ := Prod.mk.inj (Option.some.inj h)
    simp (maxDischargeDepth := 99) +contextual [ok]
  · cases h

@[simp] theorem State.shareLines_sound (s : State) (sharer a n : Nat) (ok : s.sound fx) : (State.shareLines s sharer a n).sound fx := by
  simp only [State.shareLines]
  refine forEach_sound _ _ ok (fun x t ht => ?_)
  repeat' split
  all_goals simp (maxDischargeDepth := 99) [ht]

@[simp] theorem State.shareWrite_sound (s : State) (writer : Option Nat) (line : Nat) (write : Option (Nat × Nat × Nat)) (ok : s.sound fx) :
    (State.shareWrite s writer line write).sound fx := by
  simp only [State.shareWrite]
  (repeat' split) <;> first
    | exact ok
    | exact forEach_sound _ _ (by simp [ok]) (fun x t ht => State.snoopDevice_sound _ _ _ _ ht)
    | simp [ok]

@[simp] theorem stackWrite_sound (s : State) (ident : Nat) (sharer : Option Nat) (a : Nat) (b : List Byte) (write : Option (Nat × Nat × Nat))
    (ok : s.sound fx) : (stackWrite s ident sharer a b write).1.sound fx := by
  simp only [stackWrite]
  split
  · exact ok
  · refine foldl_fst_sound _ _ ok (fun c x hc => ?_)
    split <;> simp (maxDischargeDepth := 99) [hc]

/-! ### Cells -/

@[simp] theorem State.calibrate_sound (s : State) (b : Nat) (ok : s.sound fx) : (State.calibrate s b).sound fx := by
  simp (maxDischargeDepth := 99) [State.calibrate, ok]

@[simp] theorem State.calibrateAll_sound (s : State) (ok : s.sound fx) : (State.calibrateAll s).sound fx := by
  simp (maxDischargeDepth := 99) +contextual [State.calibrateAll, ok]

@[simp] theorem State.endDead_sound (s : State) (r : Nat) (ok : s.sound fx) : (State.endDead s r).sound fx := by
  simp [State.endDead, ok]

@[simp] theorem State.fabricPip_sound (s : State) (ok : s.sound fx) : (State.fabricPip s).sound fx := by
  simp (maxDischargeDepth := 99) +contextual [State.fabricPip, ok]

@[simp] theorem State.captureE0_sound (s : State) (r : Nat) (ok : s.sound fx) : (State.captureE0 s r).sound fx := by
  simp [State.captureE0, ok]

@[simp] theorem State.holdFlops_sound (s : State) (r : Nat) (ok : s.sound fx) : (State.holdFlops s r).sound fx := by
  simp [State.holdFlops, ok]

@[simp] theorem State.releaseFlops_sound (s : State) (r : Nat) (ok : s.sound fx) : (State.releaseFlops s r).sound fx := by
  simp only [State.releaseFlops]; split <;> simp (maxDischargeDepth := 99) [ok]

/-! ### Mailbox -/

@[simp] theorem replyOk_sound (s : State) (payload : List Byte) (ok : s.sound fx) : (replyOk s payload).next.sound fx := by
  simp [replyOk, ok]

@[simp] theorem accept_sound (s : State) (mb : Nat) (r : Request) (holds args : List Nat) (ok : s.sound fx) : (accept s mb r holds args).next.sound fx := by
  simp [accept, ok]

@[simp] theorem State.freshNonce_sound (s : State) (mb : Nat) (ok : s.sound fx) : (State.freshNonce s mb).sound fx := by
  simp (maxDischargeDepth := 99) [State.freshNonce, ok]

@[simp] theorem State.authFailed_sound (s : State) (slot : Nat) (ok : s.sound fx) : (State.authFailed s slot).sound fx := by
  simp (maxDischargeDepth := 99) [State.authFailed, ok]

@[simp] theorem State.noteLateness_sound (s : State) (mb : Nat) (ok : s.sound fx) : (State.noteLateness s mb).sound fx := by
  simp only [State.noteLateness]; (repeat' split) <;> simp (maxDischargeDepth := 99) [ok]

@[simp] theorem State.respond_sound (s : State) (mb : Nat) (forwarded : Bool) (command tag status detail : Nat) (payload : List Byte) (ok : s.sound fx) : (State.respond s mb forwarded command tag status detail payload).sound fx := by
  simp (maxDischargeDepth := 99) [State.respond, ok]

@[simp] theorem State.startOp_sound (s : State) (o : Op) (ok : s.sound fx) : (State.startOp s o).sound fx := by
  simp [State.startOp, ok]

/-- The local path is sound where the command's own action is. -/
theorem serveLocal_sound (c : Cmd) (s : State) (mb : Nat) (r : Request) (h : s.sound fx)
    (hc : ∀ t, t.sound fx → (c.act t mb r).next.sound fx) : (serveLocal c s mb r).sound fx := by
  simp only [serveLocal]
  repeat' split
  all_goals simp (maxDischargeDepth := 99) [h, hc]

@[simp] theorem forwardRequest_sound (s : State) (mb : Nat) (r : Request) (d : Nat) (ok : s.sound fx) : (forwardRequest s mb r d).sound fx := by
  simp [forwardRequest, ok]

/-- A request's service is sound where its command's own action is. -/
theorem serveRequest_sound (c : Option Cmd) (s : State) (mb : Nat) (r : Request) (h : s.sound fx)
    (hc : ∀ d, c = some d → ∀ t, t.sound fx → (d.act t mb r).next.sound fx) : (serveRequest c s mb r).sound fx := by
  simp only [serveRequest]
  repeat' split
  all_goals first
    | exact serveLocal_sound _ _ _ _ h (hc _ rfl)
    | simp (maxDischargeDepth := 99) [h]

@[simp] theorem takeMailbox_sound (s : State) (mb : Nat) (r : Request) (ok : s.sound fx) : (takeMailbox s mb r).sound fx := by
  simp (maxDischargeDepth := 99) [takeMailbox, ok]

@[simp] theorem ring_sound (s : State) (mb : Nat) (ok : s.sound fx) : (ring s mb).sound fx := by
  simp [ring, ok]

@[simp] theorem writeRequest_sound (s : State) (mb : Nat) (r : Request) (ok : s.sound fx) : (writeRequest s mb r).sound fx := by
  simp (maxDischargeDepth := 99) [writeRequest, ok]

/-- A command's row is sound where the command's own action is. -/
@[simp] theorem commandRow_sound (c : Cmd) (mb : Fin 16) (req : Request) (s : State) (h : s.sound fx)
    (hc : ∀ t m r, t.sound fx → (c.act t m r).next.sound fx) : soundOut fx (commandRow c mb req s) := by
  simp only [commandRow]
  split
  · exact serveRequest_sound _ _ _ _ (by simp (maxDischargeDepth := 99) [h]) (fun d e t => by cases e; exact hc t _ _)
  · simp (maxDischargeDepth := 99) [h]

/-! ### Sram -/

@[simp] theorem State.answer_sound (s : State) (path status : Nat) (data : List Byte) (ok : s.sound fx) : (State.answer s path status data).sound fx := by
  simp [State.answer, ok]

@[simp] theorem State.sbDenied_sound (s : State) (c bank ident port : Nat) (write : Bool) (ok : s.sound fx) : (State.sbDenied s c bank ident port write).sound fx := by
  simp (maxDischargeDepth := 99) [State.sbDenied, ok]

@[simp] theorem State.wordUpset_sound (s : State) (phys : Nat) (n : Nat) (ok : s.sound fx) : (State.wordUpset s phys n).sound fx := by
  simp [State.wordUpset, ok]

@[simp] theorem State.readCheck_sound (s : State) (phys : Nat) (ok : s.sound fx) : (State.readCheck s phys).1.sound fx := by
  simp only [State.readCheck]; (repeat' split) <;> simp (maxDischargeDepth := 99) [ok]

@[simp] theorem readWord_sound (s : State) (c w : Nat) (ok : s.sound fx) : (readWord s c w).next.sound fx := by
  simp [readWord, ok]

@[simp] theorem writeWord_sound (s : State) (c w data be : Nat) (ok : s.sound fx) : (writeWord s c w data be).next.sound fx := by
  simp only [writeWord]; (repeat' split) <;> simp (maxDischargeDepth := 99) [ok]

@[simp] theorem sramRead_sound (s : State) (c a n ident ident2 port : Nat) (ok : s.sound fx) : (sramRead s c a n ident ident2 port).1.sound fx := by
  simp only [sramRead]; (repeat' split) <;> simp (maxDischargeDepth := 99) +contextual [ok]

@[simp] theorem sramWrite_sound (s : State) (c a : Nat) (b : List Byte) (ident ident2 port : Nat) (ok : s.sound fx) : (sramWrite s c a b ident ident2 port).1.sound fx := by
  simp only [sramWrite]; (repeat' split) <;> simp (maxDischargeDepth := 99) +contextual [ok]

@[simp] theorem State.stalled_sound (s : State) (c port n : Nat) (ok : s.sound fx) : (State.stalled s c port n).sound fx := by
  simp [State.stalled, ok]

@[simp] theorem execSmRead_sound (c : Fin 96) (port : Fin 3) (addr : BitVec 17) (upset : Fin 3) (stale : Bool) (stalls : BitVec 16) (s : State) (ok : s.sound fx) : soundOut fx (execSmRead c port addr upset stale stalls s) := by
  simp only [execSmRead]; split <;> simp (maxDischargeDepth := 99) [ok]

@[simp] theorem execSmWrite_sound (c : Fin 96) (port : Fin 3) (addr : BitVec 17) (data : BitVec 64) (be : Byte) (upset : Fin 3) (stalls : BitVec 16) (s : State) (ok : s.sound fx) : soundOut fx (execSmWrite c port addr data be upset stalls s) := by
  simp only [execSmWrite]; (repeat' split) <;> simp (maxDischargeDepth := 99) [ok]

@[simp] theorem windowOp_sound (s : State) (q w op o data be ident ident2 port : Nat) (ok : s.sound fx) : (windowOp s q w op o data be ident ident2 port).next.sound fx := by
  simp only [windowOp, apply_ite WordOut.next]
  simp (maxDischargeDepth := 99) [ok]

@[simp] theorem smWindow_sound (c port w op o data be upset stalls : Nat) (s : State) (ok : s.sound fx) : soundOut fx (smWindow c port w op o data be upset stalls s) := by
  simp only [smWindow]; split <;> simp (maxDischargeDepth := 99) [ok]

@[simp] theorem execSmPush_sound (c : Fin 96) (port : Fin 3) (win : Fin 8) (data : BitVec 64) (stalls : BitVec 16) (s : State) (ok : s.sound fx) : soundOut fx (execSmPush c port win data stalls s) := by
  simp [execSmPush, ok]

@[simp] theorem execSmPop_sound (c : Fin 96) (port : Fin 3) (win : Fin 8) (upset : Fin 3) (stalls : BitVec 16) (s : State) (ok : s.sound fx) : soundOut fx (execSmPop c port win upset stalls s) := by
  simp [execSmPop, ok]

@[simp] theorem execSmPeek_sound (c : Fin 96) (port : Fin 3) (win : Fin 8) (o : BitVec 17) (upset : Fin 3) (stalls : BitVec 16) (s : State) (ok : s.sound fx) : soundOut fx (execSmPeek c port win o upset stalls s) := by
  simp [execSmPeek, ok]

@[simp] theorem execSmPoke_sound (c : Fin 96) (port : Fin 3) (win : Fin 8) (o : BitVec 17) (data : BitVec 64) (be : Byte) (upset : Fin 3) (stalls : BitVec 16) (s : State) (ok : s.sound fx) : soundOut fx (execSmPoke c port win o data be upset stalls s) := by
  simp [execSmPoke, ok]

@[simp] theorem execSmInvalidOp_sound (c : Fin 96) (port : Fin 3) (s : State) (ok : s.sound fx) : soundOut fx (execSmInvalidOp c port s) := by
  simp [execSmInvalidOp, ok]

@[simp] theorem windowMulti_sound (s : State) (q w op o : Nat) (words : List Nat) (ident ident2 : Nat) (ok : s.sound fx) : (windowMulti s q w op o words ident ident2).1.sound fx := by
  simp only [windowMulti]
  repeat' split
  all_goals simp (maxDischargeDepth := 99) [ok]
  all_goals
    refine foldl_fst_sound _ _ ok (fun c a hc => ?_)
    split <;> simp (maxDischargeDepth := 99) [hc]

@[simp] theorem State.handBank_sound (s : State) (bank owner : Nat) (ok : s.sound fx) : (State.handBank s bank owner).sound fx := by
  simp (maxDischargeDepth := 99) +contextual [State.handBank, ok]

@[simp] theorem State.bankPending_sound (s : State) (bank : Nat) (ok : s.sound fx) : (State.bankPending s bank).sound fx := by
  simp (maxDischargeDepth := 99) +contextual [State.bankPending, ok]

@[simp] theorem State.handBankAtTurn_sound (s : State) (bank owner : Nat) (ok : s.sound fx) : (State.handBankAtTurn s bank owner).sound fx := by
  simp (maxDischargeDepth := 99) +contextual [State.handBankAtTurn, ok]

@[simp] theorem State.handBankLatched_sound (s : State) (bank owner : Nat) (ok : s.sound fx) : (State.handBankLatched s bank owner).sound fx := by
  simp [State.handBankLatched, ok]

@[simp] theorem State.handFreed_sound (s : State) (bank : Nat) (now : Bool) (ok : s.sound fx) : (State.handFreed s bank now).sound fx := by
  simp (maxDischargeDepth := 99) +contextual [State.handFreed, ok]

@[simp] theorem State.handCluster_sound (s : State) (c owner : Nat) (ok : s.sound fx) : (State.handCluster s c owner).sound fx := by
  simp (maxDischargeDepth := 99) +contextual [State.handCluster, ok]

@[simp] theorem writeOwner_sound (s : State) (bank owner : Nat) (who : Requester) (ok : s.sound fx) : (writeOwner s bank owner who).sound fx := by
  simp (maxDischargeDepth := 99) [writeOwner, ok]

@[simp] theorem execSbOwnerWrite_sound (bank : Fin 1536) (owner : Byte) (who : Requester) (s : State) (ok : s.sound fx) : soundOut fx (execSbOwnerWrite bank owner who s) := by
  simp [execSbOwnerWrite, ok]

@[simp] theorem State.windowWriteDenied_sound (s : State) (q w : Nat) (who : Requester) (ok : s.sound fx) : (State.windowWriteDenied s q w who).sound fx := by
  simp [State.windowWriteDenied, ok]

@[simp] theorem writeWinCfg_sound (s : State) (q w v : Nat) (who : Requester) (ok : s.sound fx) : (writeWinCfg s q w v who).sound fx := by
  simp (maxDischargeDepth := 99) [writeWinCfg, ok]

@[simp] theorem execQcWinCfgWrite_sound (q : Fin 128) (win : Fin 8) (v : BitVec 32) (who : Requester) (s : State) (ok : s.sound fx) : soundOut fx (execQcWinCfgWrite q win v who s) := by
  simp [execQcWinCfgWrite, ok]

@[simp] theorem writeWinBase_sound (s : State) (q w v : Nat) (who : Requester) (ok : s.sound fx) : (writeWinBase s q w v who).sound fx := by
  simp (maxDischargeDepth := 99) [writeWinBase, ok]

@[simp] theorem writeWinLen_sound (s : State) (q w v : Nat) (who : Requester) (ok : s.sound fx) : (writeWinLen s q w v who).sound fx := by
  simp (maxDischargeDepth := 99) [writeWinLen, ok]

@[simp] theorem State.applyWindowLen_sound (s : State) (q w len : Nat) (ok : s.sound fx) : (State.applyWindowLen s q w len).sound fx := by
  simp (maxDischargeDepth := 99) [State.applyWindowLen, ok]

@[simp] theorem writePortHi_sound (s : State) (q v : Nat) (who : Requester) (ok : s.sound fx) : (writePortHi s q v who).sound fx := by
  simp (maxDischargeDepth := 99) [writePortHi, ok]

@[simp] theorem execQcPortDataHiWrite_sound (q : Fin 128) (v : BitVec 32) (who : Requester) (s : State) (ok : s.sound fx) : soundOut fx (execQcPortDataHiWrite q v who s) := by
  simp [execQcPortDataHiWrite, ok]

@[simp] theorem readPortLo_sound (s : State) (q : Nat) (who : Requester) (ok : s.sound fx) : (readPortLo s q who).sound fx := by
  simp (maxDischargeDepth := 99) [readPortLo, ok]

@[simp] theorem execQcPortDataLoRead_sound (q : Fin 128) (who : Requester) (upset : Fin 3) (s : State) (ok : s.sound fx) : soundOut fx (execQcPortDataLoRead q who upset s) := by
  simp (maxDischargeDepth := 99) [execQcPortDataLoRead, ok]

@[simp] theorem execSramScrubWord_sound (bank : Fin 1536) (upset : Fin 3) (s : State) (ok : s.sound fx) : soundOut fx (execSramScrubWord bank upset s) := by
  simp only [execSramScrubWord]; split <;> simp (maxDischargeDepth := 99) [ok]

@[simp] theorem State.zeroBanks_sound (s : State) (banks : List Nat) (ok : s.sound fx) : (State.zeroBanks s banks).sound fx := by
  simp [State.zeroBanks, ok]

@[simp] theorem State.resetSram_sound (s : State) (ok : s.sound fx) : (State.resetSram s).sound fx := by
  simp (maxDischargeDepth := 99) [State.resetSram, ok]

/-! ### TapEngine -/

@[simp] theorem State.setTe_sound (s : State) (e : Nat) (t : TapEngine) (ok : s.sound fx) : (State.setTe s e t).sound fx := by
  simp [State.setTe, ok]

@[simp] theorem State.showEvq_sound (s : State) (ok : s.sound fx) : (State.showEvq s).sound fx := by
  simp only [State.showEvq]; split <;> simp (maxDischargeDepth := 99) [ok]

@[simp] theorem State.teEvent_sound (s : State) (e pc kind : Nat) (ok : s.sound fx) : (State.teEvent s e pc kind).sound fx := by
  simp (maxDischargeDepth := 99) [State.teEvent, ok]

@[simp] theorem popEvq_sound (s : State) (ok : s.sound fx) : (popEvq s).sound fx := by
  simp [popEvq, ok]

@[simp] theorem execTeEvqPop_sound (s : State) (ok : s.sound fx) : soundOut fx (execTeEvqPop s) := by
  simp [execTeEvqPop, ok]

@[simp] theorem State.setTeState_sound (s : State) (e v : Nat) (ok : s.sound fx) : (State.setTeState s e v).sound fx := by
  simp [State.setTeState, ok]

@[simp] theorem State.teRuns_sound (s : State) (e : Nat) (ok : s.sound fx) : (State.teRuns s e).sound fx := by
  simp (maxDischargeDepth := 99) [State.teRuns, ok]

@[simp] theorem State.teFaults_sound (s : State) (e cause : Nat) (ok : s.sound fx) : (State.teFaults s e cause).sound fx := by
  simp (maxDischargeDepth := 99) [State.teFaults, ok]

@[simp] theorem State.setLoops_sound (s : State) (e : Nat) (l : List TeLoop) (ok : s.sound fx) : (State.setLoops s e l).sound fx := by
  simp [State.setLoops, ok]

@[simp] theorem State.endBlock_sound (s : State) (e : Nat) (ok : s.sound fx) : (State.endBlock s e).sound fx := by
  simp (maxDischargeDepth := 99) [State.endBlock, ok]

@[simp] theorem settle_sound (fuel : Nat) (s : State) (e : Nat) (ok : s.sound fx) : (settle fuel s e).sound fx := by
  induction fuel generalizing s with
  | zero => exact ok
  | succ n ih =>
    simp only [settle]
    repeat' split
    all_goals simp (maxDischargeDepth := 99) [ih, ok]

@[simp] theorem enterPage_sound (s : State) (e : Nat) (ok : s.sound fx) : (enterPage s e).sound fx := by
  simp (maxDischargeDepth := 99) [enterPage, ok]

@[simp] theorem State.idleTe_sound (s : State) (e : Nat) (ok : s.sound fx) : (State.idleTe s e).sound fx := by
  simp [State.idleTe, ok]

@[simp] theorem State.idleEngines_sound (s : State) (r : Nat) (ok : s.sound fx) : (State.idleEngines s r).sound fx := by
  simp (maxDischargeDepth := 99) +contextual [State.idleEngines, ok]

@[simp] theorem State.enterPages_sound (s : State) (r : Nat) (ok : s.sound fx) : (State.enterPages s r).sound fx := by
  simp (maxDischargeDepth := 99) +contextual [State.enterPages, ok]

@[simp] theorem State.zeroEngine_sound (s : State) (e : Nat) (ok : s.sound fx) : (State.zeroEngine s e).sound fx := by
  simp (maxDischargeDepth := 99) [State.zeroEngine, ok]

@[simp] theorem State.lehrEngines_sound (s : State) (ok : s.sound fx) : (State.lehrEngines s).sound fx := by
  simp (maxDischargeDepth := 99) [State.lehrEngines, ok]

@[simp] theorem State.enterAtEdge_sound (s : State) (e : Nat) (ok : s.sound fx) : (State.enterAtEdge s e).sound fx := by
  simp [State.enterAtEdge, ok]

@[simp] theorem State.enterPagesAtEdge_sound (s : State) (r : Nat) (ok : s.sound fx) : (State.enterPagesAtEdge s r).sound fx := by
  simp (maxDischargeDepth := 99) +contextual [State.enterPagesAtEdge, ok]

@[simp] theorem State.entriesDue_sound (s : State) (ok : s.sound fx) : (State.entriesDue s).sound fx := by
  simp (maxDischargeDepth := 99) +contextual [State.entriesDue, ok]

@[simp] theorem issued_sound (s : State) (e pc : Nat) (ok : s.sound fx) : (issued s e pc).sound fx := by
  simp (maxDischargeDepth := 99) [issued, ok]

@[simp] theorem stall_sound (s : State) (e port n : Nat) (ok : s.sound fx) : (stall s e port n).sound fx := by
  simp [stall, ok]

@[simp] theorem State.taken_sound (s : State) (e n : Nat) (ok : s.sound fx) : (State.taken s e n).sound fx := by
  simp [State.taken, ok]

/-- An instruction's issue is sound where its effect is. -/
@[simp] theorem issue_sound (e op w : Nat) (cond : IssueCond) (o : State → TeOp) (s : State) (h : s.sound fx)
    (ho : ∀ t u, u.sound fx → ((o t).act u).sound fx) : soundOut fx (issue e op w cond o s) := by
  simp only [issue]
  repeat' split
  all_goals simp (maxDischargeDepth := 99) [h, ho]

@[simp] theorem State.accOvf_sound (s : State) (e i : Nat) (ok : s.sound fx) : (State.accOvf s e i).sound fx := by
  simp (maxDischargeDepth := 99) [State.accOvf, ok]

@[simp] theorem State.setAcc_sound (s : State) (e i : Nat) (v : Int) (ok : s.sound fx) : (State.setAcc s e i v).sound fx := by
  simp (maxDischargeDepth := 99) [State.setAcc, ok]

@[simp] theorem halt_sound (s : State) (e : Nat) (ok : s.sound fx) : (halt s e).sound fx := by
  simp (maxDischargeDepth := 99) [halt, ok]

@[simp] theorem execHalt_sound (e : Fin 1536) (w : BitVec 44) (cond : IssueCond) (s : State) (ok : s.sound fx) : soundOut fx (execHalt e w cond s) := by
  simp (maxDischargeDepth := 99) +contextual [execHalt, ok]

@[simp] theorem execNop_sound (e : Fin 1536) (w : BitVec 44) (cond : IssueCond) (s : State) (ok : s.sound fx) : soundOut fx (execNop e w cond s) := by
  simp (maxDischargeDepth := 99) +contextual [execNop, ok]

@[simp] theorem execIllegalOpcode_sound (e : Fin 1536) (op : Fin 4) (w : BitVec 44) (s : State) (ok : s.sound fx) : soundOut fx (execIllegalOpcode e op w s) := by
  simp only [execIllegalOpcode]; (repeat' split) <;> simp (maxDischargeDepth := 99) [ok]

@[simp] theorem accumulate_sound (s : State) (e w : Nat) (c x : List Nat) (ok : s.sound fx) : (accumulate s e w c x).sound fx := by
  simp (maxDischargeDepth := 99) +contextual [accumulate, ok]

@[simp] theorem mac_sound (s : State) (e w : Nat) (ok : s.sound fx) : (mac s e w).sound fx := by
  simp (maxDischargeDepth := 99) [mac, ok]

@[simp] theorem execMac_sound (e : Fin 1536) (w : BitVec 44) (cond : IssueCond) (s : State) (ok : s.sound fx) : soundOut fx (execMac e w cond s) := by
  simp (maxDischargeDepth := 99) +contextual [execMac, ok]

@[simp] theorem tapmv_sound (s : State) (e w : Nat) (ok : s.sound fx) : (tapmv s e w).sound fx := by
  simp (maxDischargeDepth := 99) [tapmv, ok]

@[simp] theorem execTapmv_sound (e : Fin 1536) (w : BitVec 44) (cond : IssueCond) (s : State) (ok : s.sound fx) : soundOut fx (execTapmv e w cond s) := by
  simp (maxDischargeDepth := 99) +contextual [execTapmv, ok]

@[simp] theorem State.movSat_sound (s : State) (e : Nat) (ok : s.sound fx) : (State.movSat s e).sound fx := by
  simp (maxDischargeDepth := 99) [State.movSat, ok]

@[simp] theorem pushStage_sound (s : State) (e port : Nat) (ok : s.sound fx) : (pushStage s e port).sound fx := by
  simp [pushStage, ok]

@[simp] theorem mov_sound (s : State) (e w : Nat) (ok : s.sound fx) : (mov s e w).sound fx := by
  simp (maxDischargeDepth := 99) [mov, ok]

@[simp] theorem execMov_sound (e : Fin 1536) (w : BitVec 44) (cond : IssueCond) (s : State) (ok : s.sound fx) : soundOut fx (execMov e w cond s) := by
  simp (maxDischargeDepth := 99) +contextual [execMov, ok]

@[simp] theorem ld_sound (s : State) (e w : Nat) (ok : s.sound fx) : (ld s e w).sound fx := by
  simp (maxDischargeDepth := 99) [ld, ok]

@[simp] theorem execLd_sound (e : Fin 1536) (w : BitVec 44) (cond : IssueCond) (s : State) (ok : s.sound fx) : soundOut fx (execLd e w cond s) := by
  simp (maxDischargeDepth := 99) +contextual [execLd, ok]

@[simp] theorem st_sound (s : State) (e w : Nat) (ok : s.sound fx) : (st s e w).sound fx := by
  simp [st, ok]

@[simp] theorem execSt_sound (e : Fin 1536) (w : BitVec 44) (cond : IssueCond) (s : State) (ok : s.sound fx) : soundOut fx (execSt e w cond s) := by
  simp (maxDischargeDepth := 99) +contextual [execSt, ok]

@[simp] theorem execLoop_sound (e : Fin 1536) (w : BitVec 44) (cond : IssueCond) (s : State) (ok : s.sound fx) : soundOut fx (execLoop e w cond s) := by
  simp (maxDischargeDepth := 99) +contextual [execLoop, ok]

@[simp] theorem execBr_sound (e : Fin 1536) (w : BitVec 44) (cond : IssueCond) (s : State) (ok : s.sound fx) : soundOut fx (execBr e w cond s) := by
  simp (maxDischargeDepth := 99) +contextual [execBr, ok]

@[simp] theorem execSync_sound (e : Fin 1536) (w : BitVec 44) (cond : IssueCond) (s : State) (ok : s.sound fx) : soundOut fx (execSync e w cond s) := by
  simp (maxDischargeDepth := 99) +contextual [execSync, ok]

@[simp] theorem execEv_sound (e : Fin 1536) (w : BitVec 44) (cond : IssueCond) (s : State) (ok : s.sound fx) : soundOut fx (execEv e w cond s) := by
  simp (maxDischargeDepth := 99) +contextual [execEv, ok]

@[simp] theorem execTeStreamQuadIn_sound (e : Fin 1536) (quad : BitVec 96) (s : State) (ok : s.sound fx) : soundOut fx (execTeStreamQuadIn e quad s) := by
  simp only [execTeStreamQuadIn]; split <;> simp (maxDischargeDepth := 99) [ok]

@[simp] theorem execTeStallRelease_sound (e : Fin 1536) (taken : BitVec 5) (cycles : BitVec 32) (s : State) (ok : s.sound fx) : soundOut fx (execTeStallRelease e taken cycles s) := by
  simp only [execTeStallRelease]; (repeat' split) <;> simp (maxDischargeDepth := 99) [ok]

@[simp] theorem streamErr_sound (s : State) (e : Nat) (ok : s.sound fx) : (streamErr s e).sound fx := by
  simp [streamErr, ok]

@[simp] theorem State.ringSend_sound (s : State) (e a : Nat) (kind : PacketKind) (data : List Byte) (ok : s.sound fx) : (State.ringSend s e a kind data).1.sound fx := by
  simp only [State.ringSend]; (repeat' split) <;> simp (maxDischargeDepth := 99) [ok]

@[simp] theorem ringRead_sound (s : State) (e a : Nat) (ok : s.sound fx) : (ringRead s e a).1.sound fx := by
  have h := State.ringSend_sound s e a .read [] ok
  unfold ringRead
  split
  · next x hit =>
    split at hit
    · exact State.cacheHit_sound ok hit
    · cases hit
  · split
    · next x => rw [x] at h; exact h
    · next x =>
      rw [x] at h
      dsimp only
      repeat' split
      all_goals simp (maxDischargeDepth := 99) [show State.sound _ fx from h]

@[simp] theorem ringWrite_sound (s : State) (e a : Nat) (b : List Byte) (ok : s.sound fx) : (ringWrite s e a b).1.sound fx := by
  have h := State.ringSend_sound s e a .write b ok
  unfold ringWrite
  split
  · next x => rw [x] at h; exact h
  · next x =>
    rw [x] at h
    split <;> simp (maxDischargeDepth := 99) [show State.sound _ fx from h]

@[simp] theorem execTeRingReadResponse_sound (e : Fin 1536) (fail : Bool) (s : State) (ok : s.sound fx) : soundOut fx (execTeRingReadResponse e fail s) := by
  simp only [execTeRingReadResponse]; (repeat' split) <;> simp (maxDischargeDepth := 99) [ok]

@[simp] theorem execTeRingWriteResponse_sound (e : Fin 1536) (fail : Bool) (s : State) (ok : s.sound fx) : soundOut fx (execTeRingWriteResponse e fail s) := by
  simp only [execTeRingWriteResponse]; (repeat' split) <;> simp (maxDischargeDepth := 99) [ok]

@[simp] theorem writeRingCtrl_sound (s : State) (e : Nat) (out : Bool) (v : Nat) (ok : s.sound fx) : (writeRingCtrl s e out v).sound fx := by
  simp (maxDischargeDepth := 99) [writeRingCtrl, ok]

@[simp] theorem writeRingBase_sound (s : State) (e : Nat) (out : Bool) (v : Nat) (ok : s.sound fx) : (writeRingBase s e out v).sound fx := by
  simp (maxDischargeDepth := 99) [writeRingBase, ok]

@[simp] theorem execTeRingEnable_sound (e : Fin 1536) (out : Bool) (v : BitVec 32) (s : State) (ok : s.sound fx) : soundOut fx (execTeRingEnable e out v s) := by
  simp [execTeRingEnable, ok]

@[simp] theorem execTeNinProdWrite_sound (e : Fin 1536) (v : BitVec 16) (s : State) (ok : s.sound fx) : soundOut fx (execTeNinProdWrite e v s) := by
  simp [execTeNinProdWrite, ok]

@[simp] theorem execTeNoutConsWrite_sound (e : Fin 1536) (v : BitVec 16) (s : State) (ok : s.sound fx) : soundOut fx (execTeNoutConsWrite e v s) := by
  simp [execTeNoutConsWrite, ok]

@[simp] theorem restartEngine_sound (s : State) (e : Nat) (ok : s.sound fx) : (restartEngine s e).sound fx := by
  simp [restartEngine, ok]

@[simp] theorem execTeCtrlRestart_sound (e : Fin 1536) (s : State) (ok : s.sound fx) : soundOut fx (execTeCtrlRestart e s) := by
  simp [execTeCtrlRestart, ok]

@[simp] theorem stopEngineAt_sound (s : State) (e : Nat) (ok : s.sound fx) : (stopEngineAt s e).sound fx := by
  simp (maxDischargeDepth := 99) [stopEngineAt, ok]

@[simp] theorem execTeCtrlStop_sound (e : Fin 1536) (s : State) (ok : s.sound fx) : soundOut fx (execTeCtrlStop e s) := by
  simp [execTeCtrlStop, ok]

@[simp] theorem stepRamIndex_sound (s : State) (e : Nat) (ok : s.sound fx) : (stepRamIndex s e).sound fx := by
  simp [stepRamIndex, ok]

@[simp] theorem teRamWrite_sound (s : State) (e v : Nat) (ok : s.sound fx) : (teRamWrite s e v).sound fx := by
  simp [teRamWrite, ok]

@[simp] theorem execTeRamdataAccess_sound (e : Fin 1536) (v : Option (BitVec 32)) (who : Requester) (s : State) (ok : s.sound fx) : soundOut fx (execTeRamdataAccess e v who s) := by
  simp only [execTeRamdataAccess]; (repeat' split) <;> simp (maxDischargeDepth := 99) [ok]

/-! ### Bist -/

@[simp] theorem State.testResult_sound (s : State) (unit result detail : Nat) (keep : Bool) (ok : s.sound fx) : (State.testResult s unit result detail keep).sound fx := by
  simp (maxDischargeDepth := 99) [State.testResult, ok]

@[simp] theorem State.reinit_sound (s : State) (u : Nat) (ok : s.sound fx) : (State.reinit s u).sound fx := by
  simp (maxDischargeDepth := 99) +contextual [State.reinit, ok]

@[simp] theorem State.abandonSlice_sound (s : State) (unit : Nat) (ok : s.sound fx) : (State.abandonSlice s unit).sound fx := by
  simp only [State.abandonSlice]; split <;> simp (maxDischargeDepth := 99) [ok]

@[simp] theorem State.abandonSliceOf_sound (s : State) (key : Nat) (ok : s.sound fx) : (State.abandonSliceOf s key).sound fx := by
  simp (maxDischargeDepth := 99) [State.abandonSliceOf, ok]

/-! ### System -/

@[simp] theorem cmdSysNop_sound {s : State} (ok : s.sound fx) (mb : Nat) (r : Request) : (cmdSysNop.act s mb r).next.sound fx := by
  simp [cmdSysNop, ok]

@[simp] theorem execSysNop_sound (mb : Fin 16) (req : Request) (s : State) (ok : s.sound fx) : soundOut fx (execSysNop mb req s) := by
  simp (maxDischargeDepth := 99) +contextual [execSysNop, ok]

@[simp] theorem cmdSysGetInfo_sound {s : State} (ok : s.sound fx) (mb : Nat) (r : Request) : (cmdSysGetInfo.act s mb r).next.sound fx := by
  simp [cmdSysGetInfo, ok]

@[simp] theorem execSysGetInfo_sound (mb : Fin 16) (req : Request) (s : State) (ok : s.sound fx) : soundOut fx (execSysGetInfo mb req s) := by
  simp (maxDischargeDepth := 99) +contextual [execSysGetInfo, ok]

@[simp] theorem cmdSysClaim_sound {s : State} (ok : s.sound fx) (mb : Nat) (r : Request) : (cmdSysClaim.act s mb r).next.sound fx := by
  simp (maxDischargeDepth := 99) +contextual [cmdSysClaim, ok]

@[simp] theorem execSysClaim_sound (mb : Fin 16) (req : Request) (s : State) (ok : s.sound fx) : soundOut fx (execSysClaim mb req s) := by
  simp (maxDischargeDepth := 99) +contextual [execSysClaim, ok]

@[simp] theorem cmdSysListClaims_sound {s : State} (ok : s.sound fx) (mb : Nat) (r : Request) : (cmdSysListClaims.act s mb r).next.sound fx := by
  simp [cmdSysListClaims, ok]

@[simp] theorem execSysListClaims_sound (mb : Fin 16) (req : Request) (s : State) (ok : s.sound fx) : soundOut fx (execSysListClaims mb req s) := by
  simp (maxDischargeDepth := 99) +contextual [execSysListClaims, ok]

@[simp] theorem cmdSysOpStatus_sound {s : State} (ok : s.sound fx) (mb : Nat) (r : Request) : (cmdSysOpStatus.act s mb r).next.sound fx := by
  simp only [cmdSysOpStatus]; (repeat' split) <;> simp (maxDischargeDepth := 99) [ok]

@[simp] theorem execSysOpStatus_sound (mb : Fin 16) (req : Request) (s : State) (ok : s.sound fx) : soundOut fx (execSysOpStatus mb req s) := by
  simp (maxDischargeDepth := 99) +contextual [execSysOpStatus, ok]

@[simp] theorem cmdSysMailboxEnable_sound {s : State} (ok : s.sound fx) (mb : Nat) (r : Request) : (cmdSysMailboxEnable.act s mb r).next.sound fx := by
  simp [cmdSysMailboxEnable, ok]

@[simp] theorem execSysMailboxEnable_sound (mb : Fin 16) (req : Request) (s : State) (ok : s.sound fx) : soundOut fx (execSysMailboxEnable mb req s) := by
  simp (maxDischargeDepth := 99) +contextual [execSysMailboxEnable, ok]

@[simp] theorem cmdLogRead_sound {s : State} (ok : s.sound fx) (mb : Nat) (r : Request) : (cmdLogRead.act s mb r).next.sound fx := by
  simp [cmdLogRead, ok]

@[simp] theorem execLogRead_sound (mb : Fin 16) (req : Request) (s : State) (ok : s.sound fx) : soundOut fx (execLogRead mb req s) := by
  simp (maxDischargeDepth := 99) +contextual [execLogRead, ok]

@[simp] theorem cmdLogClear_sound {s : State} (ok : s.sound fx) (mb : Nat) (r : Request) : (cmdLogClear.act s mb r).next.sound fx := by
  simp (maxDischargeDepth := 99) [cmdLogClear, ok]

@[simp] theorem execLogClear_sound (mb : Fin 16) (req : Request) (s : State) (ok : s.sound fx) : soundOut fx (execLogClear mb req s) := by
  simp (maxDischargeDepth := 99) +contextual [execLogClear, ok]

@[simp] theorem cmdLogSetLevel_sound {s : State} (ok : s.sound fx) (mb : Nat) (r : Request) : (cmdLogSetLevel.act s mb r).next.sound fx := by
  simp [cmdLogSetLevel, ok]

@[simp] theorem execLogSetLevel_sound (mb : Fin 16) (req : Request) (s : State) (ok : s.sound fx) : soundOut fx (execLogSetLevel mb req s) := by
  simp (maxDischargeDepth := 99) +contextual [execLogSetLevel, ok]

@[simp] theorem cmdLogGetInfo_sound {s : State} (ok : s.sound fx) (mb : Nat) (r : Request) : (cmdLogGetInfo.act s mb r).next.sound fx := by
  simp [cmdLogGetInfo, ok]

@[simp] theorem execLogGetInfo_sound (mb : Fin 16) (req : Request) (s : State) (ok : s.sound fx) : soundOut fx (execLogGetInfo mb req s) := by
  simp (maxDischargeDepth := 99) +contextual [execLogGetInfo, ok]

/-! ### Memory -/

@[simp] theorem State.showReserved_sound (s : State) (ok : s.sound fx) : (State.showReserved s).sound fx := by
  simp (maxDischargeDepth := 99) +contextual [State.showReserved, ok]

@[simp] theorem State.reserveCapture_sound (s : State) (chs : List Nat) (rate : Nat) (ok : s.sound fx) : (State.reserveCapture s chs rate).sound fx := by
  simp [State.reserveCapture, ok]

@[simp] theorem State.releaseCapture_sound (s : State) (chs : List Nat) (rate : Nat) (ok : s.sound fx) : (State.releaseCapture s chs rate).sound fx := by
  simp [State.releaseCapture, ok]

@[simp] theorem State.reserveReplay_sound (s : State) (chs : List Nat) (rate : Nat) (ok : s.sound fx) : (State.reserveReplay s chs rate).sound fx := by
  simp [State.reserveReplay, ok]

@[simp] theorem State.releaseReplay_sound (s : State) (chs : List Nat) (rate : Nat) (ok : s.sound fx) : (State.releaseReplay s chs rate).sound fx := by
  simp [State.releaseReplay, ok]

@[simp] theorem State.reserveNoc_sound (s : State) (src : Nat) (chs : List Nat) (rate : Nat) (ok : s.sound fx) : (State.reserveNoc s src chs rate).sound fx := by
  simp (maxDischargeDepth := 99) [State.reserveNoc, ok]

@[simp] theorem State.releaseNoc_sound (s : State) (src : Nat) (chs : List Nat) (rate : Nat) (ok : s.sound fx) : (State.releaseNoc s src chs rate).sound fx := by
  simp (maxDischargeDepth := 99) [State.releaseNoc, ok]

@[simp] theorem State.remapGroup_sound (s : State) (log2 g : Nat) (ok : s.sound fx) : (State.remapGroup s log2 g).sound fx := by
  simp (maxDischargeDepth := 99) +contextual [State.remapGroup, ok]

@[simp] theorem State.restoreGroups_sound (s : State) (ok : s.sound fx) : (State.restoreGroups s).sound fx := by
  simp (maxDischargeDepth := 99) +contextual [State.restoreGroups, ok]

@[simp] theorem State.showAllocs_sound (s : State) (ok : s.sound fx) : (State.showAllocs s).sound fx := by
  simp (maxDischargeDepth := 99) +contextual [State.showAllocs, ok]

theorem State.allocate_sound {s : State} {use : AllocUse} {mb first log2 n rate : Nat} {t : State} {a : Alloc} (h : s.sound fx)
    (e : s.allocate use mb first log2 n rate = some (t, a)) : t.sound fx := by
  simp only [State.allocate] at e
  split at e
  · cases e
  · rename_i runs groups _
    obtain ⟨rfl, -⟩ := Prod.mk.inj (Option.some.inj e)
    have k : (forEach groups (fun g t => t.remapGroup log2 g) s).sound fx :=
      forEach_sound _ _ h (fun g t ht => by simp (maxDischargeDepth := 99) [ht])
    generalize forEach groups (fun g t => t.remapGroup log2 g) s = u at k
    simp (maxDischargeDepth := 99) [k]

@[simp] theorem State.unmapWindow_sound (s : State) (w : Nat) (ok : s.sound fx) : (State.unmapWindow s w).sound fx := by
  simp (maxDischargeDepth := 99) [State.unmapWindow, ok]

@[simp] theorem State.dropCoherent_sound (s : State) (a : Alloc) (ok : s.sound fx) : (State.dropCoherent s a).sound fx := by
  simp (maxDischargeDepth := 99) +contextual [State.dropCoherent, ok]

@[simp] theorem State.freeAlloc_sound (s : State) (a : Alloc) (ok : s.sound fx) : (State.freeAlloc s a).sound fx := by
  simp (maxDischargeDepth := 99) +contextual [State.freeAlloc, ok]

@[simp] theorem State.guardMaps_sound (s : State) (ok : s.sound fx) : (State.guardMaps s).sound fx := by
  simp (maxDischargeDepth := 99) +contextual [State.guardMaps, ok]

@[simp] theorem State.takeTop_sound (s : State) (ok : s.sound fx) : (State.takeTop s).sound fx := by
  simp [State.takeTop, ok]

@[simp] theorem State.standingFlows_sound (s : State) (ok : s.sound fx) : (State.standingFlows s).sound fx := by
  simp [State.standingFlows, ok]

@[simp] theorem State.guardInit_sound (s : State) (ok : s.sound fx) : (State.guardInit s).sound fx := by
  simp (maxDischargeDepth := 99) +contextual [State.guardInit, ok]

@[simp] theorem State.upset_sound (s : State) (line : Nat) (errs : List (Fin 72 × Byte)) (ok : s.sound fx) : (State.upset s line errs).sound fx := by
  simp [State.upset, ok]

@[simp] theorem execStackLineRead_sound (line : BitVec 30) (errs : List (Fin 72 × Byte)) (recordBad : Bool) (s : State) (ok : s.sound fx) : soundOut fx (execStackLineRead line errs recordBad s) := by
  simp only [execStackLineRead]; split <;> simp (maxDischargeDepth := 99) [ok]

@[simp] theorem execStackLineWrite_sound (line : BitVec 30) (off : Fin 64) (bytes : List Byte) (errs : List (Fin 72 × Byte)) (s : State) (ok : s.sound fx) : soundOut fx (execStackLineWrite line off bytes errs s) := by
  simp only [execStackLineWrite]; split <;> simp (maxDischargeDepth := 99) [ok]

@[simp] theorem execChannelRetrainFail_sound (ch : Fin 32) (s : State) (ok : s.sound fx) : soundOut fx (execChannelRetrainFail ch s) := by
  simp only [execChannelRetrainFail]; split <;> simp (maxDischargeDepth := 99) [ok]

@[simp] theorem execSweepPage_sound (recordBad : Bool) (s : State) (ok : s.sound fx) : soundOut fx (execSweepPage recordBad s) := by
  simp only [execSweepPage]; split <;> simp (maxDischargeDepth := 99) [ok]

@[simp] theorem State.startWaiting_sound (s : State) (ok : s.sound fx) : (State.startWaiting s).sound fx := by
  simp (maxDischargeDepth := 99) +contextual [State.startWaiting, ok]

@[simp] theorem execSlotZeroise_sound (slot : Fin 16) (s : State) (ok : s.sound fx) : soundOut fx (execSlotZeroise slot s) := by
  simp only [execSlotZeroise]; split <;> simp (maxDischargeDepth := 99) [ok]

@[simp] theorem patrolLine_sound (s : State) (line : Nat) (ok : s.sound fx) : (patrolLine s line).1.sound fx := by
  simp only [patrolLine]; (repeat' split) <;> simp (maxDischargeDepth := 99) [ok]

@[simp] theorem execPatrolScrubLine_sound (line : BitVec 30) (errs : List (Fin 72 × Byte)) (s : State) (ok : s.sound fx) : soundOut fx (execPatrolScrubLine line errs s) := by
  simp only [execPatrolScrubLine]; split <;> simp (maxDischargeDepth := 99) [ok]

@[simp] theorem execMemScrubComplete_sound (s : State) (ok : s.sound fx) : soundOut fx (execMemScrubComplete s) := by
  simp only [execMemScrubComplete]; (repeat' split) <;> simp (maxDischargeDepth := 99) +contextual [ok]

@[simp] theorem cmdMemAlloc_sound {s : State} (ok : s.sound fx) (mb : Nat) (r : Request) : (cmdMemAlloc.act s mb r).next.sound fx := by
  simp only [cmdMemAlloc]
  split
  · exact ok
  · have := State.allocate_sound ok ‹_›
    simp (maxDischargeDepth := 99) [this]

@[simp] theorem execMemAlloc_sound (mb : Fin 16) (req : Request) (s : State) (ok : s.sound fx) : soundOut fx (execMemAlloc mb req s) := by
  simp (maxDischargeDepth := 99) +contextual [execMemAlloc, ok]

@[simp] theorem cmdMemFree_sound {s : State} (ok : s.sound fx) (mb : Nat) (r : Request) : (cmdMemFree.act s mb r).next.sound fx := by
  simp only [cmdMemFree]; split <;> simp (maxDischargeDepth := 99) [ok]

@[simp] theorem execMemFree_sound (mb : Fin 16) (req : Request) (s : State) (ok : s.sound fx) : soundOut fx (execMemFree mb req s) := by
  simp (maxDischargeDepth := 99) +contextual [execMemFree, ok]

@[simp] theorem cmdMemMapBar2_sound {s : State} (ok : s.sound fx) (mb : Nat) (r : Request) : (cmdMemMapBar2.act s mb r).next.sound fx := by
  simp only [cmdMemMapBar2]; split <;> simp (maxDischargeDepth := 99) [ok]

@[simp] theorem execMemMapBar2_sound (mb : Fin 16) (req : Request) (s : State) (ok : s.sound fx) : soundOut fx (execMemMapBar2 mb req s) := by
  simp (maxDischargeDepth := 99) +contextual [execMemMapBar2, ok]

@[simp] theorem State.channelWords_sound (s : State) (ok : s.sound fx) : (State.channelWords s).1.sound fx := by
  simp only [State.channelWords]
  exact foldl_fst_sound _ _ ok (fun c x hc => by simp [hc])

@[simp] theorem cmdMemStatus_sound {s : State} (ok : s.sound fx) (mb : Nat) (r : Request) : (cmdMemStatus.act s mb r).next.sound fx := by
  simp [cmdMemStatus, ok]

@[simp] theorem execMemStatus_sound (mb : Fin 16) (req : Request) (s : State) (ok : s.sound fx) : soundOut fx (execMemStatus mb req s) := by
  simp (maxDischargeDepth := 99) +contextual [execMemStatus, ok]

@[simp] theorem cmdMemPoisonList_sound {s : State} (ok : s.sound fx) (mb : Nat) (r : Request) : (cmdMemPoisonList.act s mb r).next.sound fx := by
  simp (maxDischargeDepth := 99) [cmdMemPoisonList, ok]

@[simp] theorem execMemPoisonList_sound (mb : Fin 16) (req : Request) (s : State) (ok : s.sound fx) : soundOut fx (execMemPoisonList mb req s) := by
  simp (maxDischargeDepth := 99) +contextual [execMemPoisonList, ok]

@[simp] theorem State.rekeyAll_sound (s : State) (ok : s.sound fx) : (State.rekeyAll s).sound fx := by
  simp only [State.rekeyAll]; (repeat' split) <;> simp (maxDischargeDepth := 99) +contextual [ok]

@[simp] theorem cmdMemRekey_sound {s : State} (ok : s.sound fx) (mb : Nat) (r : Request) : (cmdMemRekey.act s mb r).next.sound fx := by
  simp [cmdMemRekey, ok]

@[simp] theorem execMemRekey_sound (mb : Fin 16) (req : Request) (s : State) (ok : s.sound fx) : soundOut fx (execMemRekey mb req s) := by
  simp (maxDischargeDepth := 99) +contextual [execMemRekey, ok]

@[simp] theorem cmdMemScrub_sound {s : State} (ok : s.sound fx) (mb : Nat) (r : Request) : (cmdMemScrub.act s mb r).next.sound fx := by
  simp [cmdMemScrub, ok]

@[simp] theorem execMemScrub_sound (mb : Fin 16) (req : Request) (s : State) (ok : s.sound fx) : soundOut fx (execMemScrub mb req s) := by
  simp (maxDischargeDepth := 99) +contextual [execMemScrub, ok]

end Sys2Proof.Machine
end

