-- ==== Sys2Proof/Laws/SoundCapture.lean ====
section
/-!
SUPPORT. Laws/SoundCapture.lean: capture, classifier, gather, store keep every sparse memory in
canonical form, the queue of waiting commands, and what stands in fuses that no rule blows. One lemma for each function of the
state: a caller cites it and never unfolds the callee.
-/

namespace Sys2Proof.Machine

open Sys2Proof

variable {fx : Fixed}

/-! ### Capture -/

@[simp] theorem State.setQueue_sound (s : State) (q : Nat) (x : Queue) (ok : s.sound fx) : (State.setQueue s q x).sound fx := by
  simp [State.setQueue, ok]

@[simp] theorem State.notifyQueue_sound (s : State) (q : Nat) (ok : s.sound fx) : (State.notifyQueue s q).sound fx := by
  simp [State.notifyQueue, ok]

@[simp] theorem State.countDrop_sound (s : State) (lane q : Nat) (ts : Timestamp) (ok : s.sound fx) : (State.countDrop s lane q ts).sound fx := by
  simp [State.countDrop, ok]

@[simp] theorem State.captureFailed_sound (s : State) (q : Nat) (ok : s.sound fx) : (State.captureFailed s q).sound fx := by
  simp (maxDischargeDepth := 99) [State.captureFailed, ok]

@[simp] theorem State.writeIndexLine_sound (s : State) (q line : Nat) (b : List Byte) (ok : s.sound fx) : (State.writeIndexLine s q line b).sound fx := by
  simp only [State.writeIndexLine]; split <;> simp (maxDischargeDepth := 99) [ok]

@[simp] theorem State.writeIndex_sound (s : State) (q m : Nat) (a : IndexAcc) (part : Bool) (ok : s.sound fx) : (State.writeIndex s q m a part).sound fx := by
  simp (maxDischargeDepth := 99) [State.writeIndex, ok]

@[simp] theorem State.lineIntegrity_sound (s : State) (q mib : Nat) (l : List (Nat × Timestamp)) (ok : s.sound fx) : (State.lineIntegrity s q mib l).sound fx := by
  simp (maxDischargeDepth := 99) +contextual [State.lineIntegrity, ok]

@[simp] theorem State.showPointer_sound (s : State) (q : Nat) (ok : s.sound fx) : (State.showPointer s q).sound fx := by
  simp [State.showPointer, ok]

@[simp] theorem writeLines_sound (fuel : Nat) (q base : Nat) (recs : List HeldRec) (bytes : List Byte) (s : State) (ok : s.sound fx) : (writeLines fuel q base recs bytes s).1.sound fx := by
  induction fuel generalizing s base bytes with
  | zero => exact ok
  | succ n ih =>
    simp only [writeLines]
    repeat' split
    all_goals simp (maxDischargeDepth := 99) [ih, ok]

@[simp] theorem State.leaveMib_sound (s : State) (q old : Nat) (ok : s.sound fx) : (State.leaveMib s q old).sound fx := by
  simp (maxDischargeDepth := 99) [State.leaveMib, ok]

@[simp] theorem State.keepRest_sound (s : State) (q : Nat) (recs : List HeldRec) (total : Nat) (rest : List Byte) (ok : s.sound fx) : (State.keepRest s q recs total rest).sound fx := by
  simp [State.keepRest, ok]

@[simp] theorem State.flushHalf_sound (s : State) (q : Nat) (ok : s.sound fx) : (State.flushHalf s q).sound fx := by
  simp (maxDischargeDepth := 99) [State.flushHalf, ok]

@[simp] theorem appendRecord_sound (s : State) (q : Nat) (r : Rec) (ok : s.sound fx) : (appendRecord s q r).sound fx := by
  simp (maxDischargeDepth := 99) [appendRecord, ok]

@[simp] theorem State.retryQueue_sound (s : State) (q : Nat) (ok : s.sound fx) : (State.retryQueue s q).sound fx := by
  simp (maxDischargeDepth := 99) +contextual [State.retryQueue, ok]

@[simp] theorem State.retryLines_sound (s : State) (ok : s.sound fx) : (State.retryLines s).sound fx := by
  simp (maxDischargeDepth := 99) +contextual [State.retryLines, ok]

@[simp] theorem State.writeMarker_sound (s : State) (lane q : Nat) (d : Drops) (ok : s.sound fx) : (State.writeMarker s lane q d).sound fx := by
  simp (maxDischargeDepth := 99) [State.writeMarker, ok]

@[simp] theorem State.writeOwed_sound (s : State) (q : Nat) (ok : s.sound fx) : (State.writeOwed s q).sound fx := by
  simp (maxDischargeDepth := 99) +contextual [State.writeOwed, ok]

@[simp] theorem State.padHalf_sound (s : State) (q : Nat) (ok : s.sound fx) : (State.padHalf s q).sound fx := by
  simp [State.padHalf, ok]

@[simp] theorem State.sealQueue_sound (s : State) (q : Nat) (ok : s.sound fx) : (State.sealQueue s q).sound fx := by
  simp (maxDischargeDepth := 99) [State.sealQueue, ok]

@[simp] theorem State.stopQueue_sound (s : State) (q cause : Nat) (ok : s.sound fx) : (State.stopQueue s q cause).sound fx := by
  simp (maxDischargeDepth := 99) [State.stopQueue, ok]

@[simp] theorem State.stopAllQueues_sound (s : State) (cause : Nat) (sealing : Bool) (ok : s.sound fx) : (State.stopAllQueues s cause sealing).sound fx := by
  simp (maxDischargeDepth := 99) +contextual [State.stopAllQueues, ok]

@[simp] theorem State.queueFull_sound (s : State) (q : Nat) (ok : s.sound fx) : (State.queueFull s q).sound fx := by
  simp (maxDischargeDepth := 99) [State.queueFull, ok]

@[simp] theorem State.checkPost_sound (s : State) (q : Nat) (ok : s.sound fx) : (State.checkPost s q).sound fx := by
  simp (maxDischargeDepth := 99) [State.checkPost, ok]

@[simp] theorem State.dropMarker_sound (s : State) (lane q : Nat) (ok : s.sound fx) : (State.dropMarker s lane q).sound fx := by
  simp only [State.dropMarker]; split <;> simp (maxDischargeDepth := 99) [ok]

@[simp] theorem execDropMarkerWrite_sound (lane : Fin 96) (q : Fin 1024) (s : State) (ok : s.sound fx) : soundOut fx (execDropMarkerWrite lane q s) := by
  simp [execDropMarkerWrite, ok]

@[simp] theorem execPadRecordTimer_sound (q : Fin 1024) (s : State) (ok : s.sound fx) : soundOut fx (execPadRecordTimer q s) := by
  simp only [execPadRecordTimer]; (repeat' split) <;> simp (maxDischargeDepth := 99) [ok]

@[simp] theorem execCaptureLineIntegrity_sound (q : Fin 1024) (line : LineFail) (s : State) (ok : s.sound fx) : soundOut fx (execCaptureLineIntegrity q line s) := by
  simp only [execCaptureLineIntegrity]; split <;> simp (maxDischargeDepth := 99) [ok]

@[simp] theorem State.refuseFrame_sound (s : State) (q : Nat) (ok : s.sound fx) : (State.refuseFrame s q).sound fx := by
  simp (maxDischargeDepth := 99) [State.refuseFrame, ok]

@[simp] theorem State.refuseFull_sound (s : State) (q : Nat) (ok : s.sound fx) : (State.refuseFull s q).sound fx := by
  simp [State.refuseFull, ok]

@[simp] theorem writeRecords_sound (s : State) (q : Nat) (l : List Rec) (h : s.sound fx) : (writeRecords s q l).1.sound fx := by
  induction l generalizing s with
  | nil => exact h
  | cons r l ih =>
    simp only [writeRecords]
    repeat' split
    all_goals simp (maxDischargeDepth := 99) [ih, h]

@[simp] theorem State.patchQueue_sound (s : State) (q at_ : Nat) (bytes : List Byte) (ok : s.sound fx) : (State.patchQueue s q at_ bytes).sound fx := by
  simp (maxDischargeDepth := 99) +contextual [State.patchQueue, ok]

@[simp] theorem State.markRecord_sound (s : State) (q at_ : Nat) (ok : s.sound fx) : (State.markRecord s q at_).sound fx := by
  simp [State.markRecord, ok]

@[simp] theorem State.markIndex_sound (s : State) (q at_ : Nat) (ok : s.sound fx) : (State.markIndex s q at_).sound fx := by
  simp (maxDischargeDepth := 99) [State.markIndex, ok]

@[simp] theorem State.triggerQueue_sound (s : State) (q : Nat) (instant : Nat) (record : Option Nat) (ok : s.sound fx) : (State.triggerQueue s q instant record).sound fx := by
  simp (maxDischargeDepth := 99) [State.triggerQueue, ok]

@[simp] theorem State.armQueue_sound (s : State) (q : Nat) (openNow : Bool) (ok : s.sound fx) : (State.armQueue s q openNow).sound fx := by
  simp (maxDischargeDepth := 99) +contextual [State.armQueue, ok]

@[simp] theorem State.setGate_sound (s : State) (q : Nat) (b : Bool) (ok : s.sound fx) : (State.setGate s q b).sound fx := by
  simp [State.setGate, ok]

@[simp] theorem State.openGate_sound (s : State) (q : Nat) (ok : s.sound fx) : (State.openGate s q).sound fx := by
  simp (maxDischargeDepth := 99) [State.openGate, ok]

@[simp] theorem State.closeGate_sound (s : State) (q : Nat) (ok : s.sound fx) : (State.closeGate s q).sound fx := by
  simp [State.closeGate, ok]

@[simp] theorem State.countHomed_sound (s : State) (q : Nat) (add : Bool) (ok : s.sound fx) : (State.countHomed s q add).sound fx := by
  simp [State.countHomed, ok]

@[simp] theorem cmdCqCreate_sound {s : State} (ok : s.sound fx) (mb : Nat) (r : Request) : (cmdCqCreate.act s mb r).next.sound fx := by
  simp only [cmdCqCreate]
  split
  · exact ok
  · have := State.allocate_sound ok ‹_›
    simp (maxDischargeDepth := 99) [this]

@[simp] theorem execCqCreate_sound (mb : Fin 16) (req : Request) (s : State) (ok : s.sound fx) : soundOut fx (execCqCreate mb req s) := by
  simp (maxDischargeDepth := 99) +contextual [execCqCreate, ok]

@[simp] theorem State.deleteQueue_sound (s : State) (q : Nat) (ok : s.sound fx) : (State.deleteQueue s q).sound fx := by
  simp (maxDischargeDepth := 99) [State.deleteQueue, ok]

@[simp] theorem cmdCqDelete_sound {s : State} (ok : s.sound fx) (mb : Nat) (r : Request) : (cmdCqDelete.act s mb r).next.sound fx := by
  simp [cmdCqDelete, ok]

@[simp] theorem execCqDelete_sound (mb : Fin 16) (req : Request) (s : State) (ok : s.sound fx) : soundOut fx (execCqDelete mb req s) := by
  simp (maxDischargeDepth := 99) +contextual [execCqDelete, ok]

@[simp] theorem cmdCqArm_sound {s : State} (ok : s.sound fx) (mb : Nat) (r : Request) : (cmdCqArm.act s mb r).next.sound fx := by
  simp [cmdCqArm, ok]

@[simp] theorem execCqArm_sound (mb : Fin 16) (req : Request) (s : State) (ok : s.sound fx) : soundOut fx (execCqArm mb req s) := by
  simp (maxDischargeDepth := 99) +contextual [execCqArm, ok]

@[simp] theorem cmdCqStop_sound {s : State} (ok : s.sound fx) (mb : Nat) (r : Request) : (cmdCqStop.act s mb r).next.sound fx := by
  simp [cmdCqStop, ok]

@[simp] theorem execCqStop_sound (mb : Fin 16) (req : Request) (s : State) (ok : s.sound fx) : soundOut fx (execCqStop mb req s) := by
  simp (maxDischargeDepth := 99) +contextual [execCqStop, ok]

@[simp] theorem cmdCqSeal_sound {s : State} (ok : s.sound fx) (mb : Nat) (r : Request) : (cmdCqSeal.act s mb r).next.sound fx := by
  simp [cmdCqSeal, ok]

@[simp] theorem execCqSeal_sound (mb : Fin 16) (req : Request) (s : State) (ok : s.sound fx) : soundOut fx (execCqSeal mb req s) := by
  simp (maxDischargeDepth := 99) +contextual [execCqSeal, ok]

@[simp] theorem execCqSealComplete_sound (mb : Fin 16) (tag : BitVec 16) (s : State) (ok : s.sound fx) : soundOut fx (execCqSealComplete mb tag s) := by
  simp only [execCqSealComplete]; (repeat' split) <;> simp (maxDischargeDepth := 99) +contextual [ok]

@[simp] theorem cmdCqStatus_sound {s : State} (ok : s.sound fx) (mb : Nat) (r : Request) : (cmdCqStatus.act s mb r).next.sound fx := by
  simp [cmdCqStatus, ok]

@[simp] theorem execCqStatus_sound (mb : Fin 16) (req : Request) (s : State) (ok : s.sound fx) : soundOut fx (execCqStatus mb req s) := by
  simp (maxDischargeDepth := 99) +contextual [execCqStatus, ok]

@[simp] theorem cmdCqReadIndex_sound {s : State} (ok : s.sound fx) (mb : Nat) (r : Request) : (cmdCqReadIndex.act s mb r).next.sound fx := by
  simp (maxDischargeDepth := 99) +contextual [cmdCqReadIndex, ok]

@[simp] theorem execCqReadIndex_sound (mb : Fin 16) (req : Request) (s : State) (ok : s.sound fx) : soundOut fx (execCqReadIndex mb req s) := by
  simp (maxDischargeDepth := 99) +contextual [execCqReadIndex, ok]

/-! ### Classifier -/

@[simp] theorem State.showTables_sound (s : State) (ok : s.sound fx) : (State.showTables s).sound fx := by
  simp (maxDischargeDepth := 99) [State.showTables, ok]

@[simp] theorem State.applyShadow_sound (s : State) (e : Edit) (ok : s.sound fx) : (State.applyShadow s e).sound fx := by
  simp only [State.applyShadow]; split <;> simp (maxDischargeDepth := 99) [ok]

@[simp] theorem State.applyClassifier_sound (s : State) (e : Edit) (ok : s.sound fx) : (State.applyClassifier s e).sound fx := by
  simp only [State.applyClassifier]; split <;> simp (maxDischargeDepth := 99) [ok]

@[simp] theorem State.applyClassifierEdits_sound (s : State) (es : List Edit) (ok : s.sound fx) : (State.applyClassifierEdits s es).sound fx := by
  simp (maxDischargeDepth := 99) +contextual [State.applyClassifierEdits, ok]

@[simp] theorem State.classify_sound (s : State) (f : FrameView) (tooLong : Bool) (bad : Option (Bool × Nat)) (ok : s.sound fx) : (State.classify s f tooLong bad).1.sound fx := by
  simp only [State.classify]; (repeat' split) <;> simp (maxDischargeDepth := 99) [ok]

@[simp] theorem State.countHit_sound (s : State) (action : Nat) (bytes : Nat) (ok : s.sound fx) : (State.countHit s action bytes).sound fx := by
  simp [State.countHit, ok]

@[simp] theorem execClassifierEntryRewrite_sound (ternary : Bool) (idx : BitVec 15) (s : State) (ok : s.sound fx) : soundOut fx (execClassifierEntryRewrite ternary idx s) := by
  simp only [execClassifierEntryRewrite]; (repeat' split) <;> simp (maxDischargeDepth := 99) [ok]

@[simp] theorem cmdClKeySet_sound {s : State} (ok : s.sound fx) (mb : Nat) (r : Request) : (cmdClKeySet.act s mb r).next.sound fx := by
  simp (maxDischargeDepth := 99) [cmdClKeySet, ok]

@[simp] theorem execClKeySet_sound (mb : Fin 16) (req : Request) (s : State) (ok : s.sound fx) : soundOut fx (execClKeySet mb req s) := by
  simp (maxDischargeDepth := 99) +contextual [execClKeySet, ok]

@[simp] theorem cmdClExactInsert_sound {s : State} (ok : s.sound fx) (mb : Nat) (r : Request) : (cmdClExactInsert.act s mb r).next.sound fx := by
  simp only [cmdClExactInsert]; split <;> simp (maxDischargeDepth := 99) [ok]

@[simp] theorem execClExactInsert_sound (mb : Fin 16) (req : Request) (s : State) (ok : s.sound fx) : soundOut fx (execClExactInsert mb req s) := by
  simp (maxDischargeDepth := 99) +contextual [execClExactInsert, ok]

@[simp] theorem cmdClExactDelete_sound {s : State} (ok : s.sound fx) (mb : Nat) (r : Request) : (cmdClExactDelete.act s mb r).next.sound fx := by
  simp (maxDischargeDepth := 99) [cmdClExactDelete, ok]

@[simp] theorem execClExactDelete_sound (mb : Fin 16) (req : Request) (s : State) (ok : s.sound fx) : soundOut fx (execClExactDelete mb req s) := by
  simp (maxDischargeDepth := 99) +contextual [execClExactDelete, ok]

@[simp] theorem cmdClTernaryWrite_sound {s : State} (ok : s.sound fx) (mb : Nat) (r : Request) : (cmdClTernaryWrite.act s mb r).next.sound fx := by
  simp (maxDischargeDepth := 99) [cmdClTernaryWrite, ok]

@[simp] theorem execClTernaryWrite_sound (mb : Fin 16) (req : Request) (s : State) (ok : s.sound fx) : soundOut fx (execClTernaryWrite mb req s) := by
  simp (maxDischargeDepth := 99) +contextual [execClTernaryWrite, ok]

@[simp] theorem cmdClCountersRead_sound {s : State} (ok : s.sound fx) (mb : Nat) (r : Request) : (cmdClCountersRead.act s mb r).next.sound fx := by
  simp (maxDischargeDepth := 99) [cmdClCountersRead, ok]

@[simp] theorem execClCountersRead_sound (mb : Fin 16) (req : Request) (s : State) (ok : s.sound fx) : soundOut fx (execClCountersRead mb req s) := by
  simp (maxDischargeDepth := 99) +contextual [execClCountersRead, ok]

@[simp] theorem cmdClTableStatus_sound {s : State} (ok : s.sound fx) (mb : Nat) (r : Request) : (cmdClTableStatus.act s mb r).next.sound fx := by
  simp [cmdClTableStatus, ok]

@[simp] theorem execClTableStatus_sound (mb : Fin 16) (req : Request) (s : State) (ok : s.sound fx) : soundOut fx (execClTableStatus mb req s) := by
  simp (maxDischargeDepth := 99) +contextual [execClTableStatus, ok]

@[simp] theorem State.clearClassifier_sound (s : State) (ok : s.sound fx) : (State.clearClassifier s).sound fx := by
  simp (maxDischargeDepth := 99) [State.clearClassifier, ok]

@[simp] theorem State.restoreTables_sound (s : State) (ok : s.sound fx) : (State.restoreTables s).sound fx := by
  simp [State.restoreTables, ok]

/-! ### Gather -/

@[simp] theorem State.receive_sound (s : State) (n : Nat) (l : List (RxChar × Timestamp)) (ok : s.sound fx) : (State.receive s n l).sound fx := by
  simp [State.receive, ok]

@[simp] theorem State.dropPart_sound (s : State) (n : Nat) (ok : s.sound fx) : (State.dropPart s n).sound fx := by
  simp [State.dropPart, ok]

@[simp] theorem State.setOpen_sound (s : State) (n : Nat) (f : Option OpenFrame) (ok : s.sound fx) : (State.setOpen s n f).sound fx := by
  simp [State.setOpen, ok]

@[simp] theorem State.noteBuffer_sound (s : State) (n fill : Nat) (ok : s.sound fx) : (State.noteBuffer s n fill).sound fx := by
  simp (maxDischargeDepth := 99) [State.noteBuffer, ok]

@[simp] theorem State.noteYield_sound (s : State) (n : Nat) (gu : GatherCond) (ok : s.sound fx) : (State.noteYield s n gu).sound fx := by
  simp only [State.noteYield]; (repeat' split) <;> simp (maxDischargeDepth := 99) [ok]

@[simp] theorem State.noteRecord_sound (s : State) (n flags : Nat) (ok : s.sound fx) : (State.noteRecord s n flags).sound fx := by
  simp (maxDischargeDepth := 99) [State.noteRecord, ok]

@[simp] theorem State.refuse_sound (s : State) (q : Nat) (ok : s.sound fx) : (State.refuse s q).sound fx := by
  simp [State.refuse, ok]

@[simp] theorem State.captureFrame_sound (s : State) (n q : Nat) (ts : Timestamp) (fill : Nat) (recs : List Rec) (flags : Nat) (ok : s.sound fx) : (State.captureFrame s n q ts fill recs flags).1.sound fx := by
  simp only [State.captureFrame]; (repeat' split) <;> simp (maxDischargeDepth := 99) [ok]

@[simp] theorem State.closeFrame_sound (s : State) (n origin : Nat) (c : ClosedFrame) (late : Bool) (key : Option (BitVec 320)) (gu : GatherCond) (ok : s.sound fx) : (State.closeFrame s n origin c late key gu).sound fx := by
  simp only [State.closeFrame]; (repeat' split) <;> simp (maxDischargeDepth := 99) [ok]

@[simp] theorem State.forwardChar_sound (s : State) (n : Nat) (c : RxChar × Timestamp) (ok : s.sound fx) : (State.forwardChar s n c).sound fx := by
  simp (maxDischargeDepth := 99) [State.forwardChar, ok]

@[simp] theorem State.forward_sound (s : State) (n : Nat) (l : List (RxChar × Timestamp)) (ok : s.sound fx) : (State.forward s n l).sound fx := by
  simp (maxDischargeDepth := 99) +contextual [State.forward, ok]

@[simp] theorem State.gatherChars_sound (s : State) (n : Nat) (l : List (RxChar × Timestamp)) (gu : GatherCond) (ok : s.sound fx) : (State.gatherChars s n l gu).sound fx := by
  simp (maxDischargeDepth := 99) +contextual [State.gatherChars, ok]

@[simp] theorem State.gather_sound (s : State) (n : Nat) (l : List (RxChar × Timestamp)) (gu : GatherCond) (ok : s.sound fx) : (State.gather s n l gu).sound fx := by
  simp (maxDischargeDepth := 99) [State.gather, ok]

@[simp] theorem State.setDisparity_sound (s : State) (n : Nat) (rd : Bool) (ok : s.sound fx) : (State.setDisparity s n rd).sound fx := by
  simp [State.setDisparity, ok]

@[simp] theorem execFrameReceived_sound (lane : Fin 96) (line : List (BitVec 10 × Timestamp)) (gu : GatherCond) (s : State) (ok : s.sound fx) : soundOut fx (execFrameReceived lane line gu s) := by
  simp only [execFrameReceived]; (repeat' split) <;> simp (maxDischargeDepth := 99) +contextual [ok]

@[simp] theorem State.endFrame_sound (s : State) (n : Nat) (f : OpenFrame) (gu : GatherCond) (ok : s.sound fx) : (State.endFrame s n f gu).sound fx := by
  simp [State.endFrame, ok]

@[simp] theorem State.cutFrame_sound (s : State) (n : Nat) (ok : s.sound fx) : (State.cutFrame s n).sound fx := by
  simp only [State.cutFrame]; split <;> simp (maxDischargeDepth := 99) [ok]

@[simp] theorem State.dataBeat_sound (s : State) (n : Nat) (f : OpenFrame) (b : Beat) (gu : GatherCond) (ok : s.sound fx) : (State.dataBeat s n f b gu).sound fx := by
  simp (maxDischargeDepth := 99) [State.dataBeat, ok]

@[simp] theorem State.keyBeat_sound (s : State) (n : Nat) (f : OpenFrame) (ks : List (BitVec 64)) (b : Beat) (gu : GatherCond) (ok : s.sound fx) : (State.keyBeat s n f ks b gu).sound fx := by
  simp (maxDischargeDepth := 99) [State.keyBeat, ok]

@[simp] theorem State.takeBeat_sound (s : State) (n region : Nat) (b : Beat) (gu : GatherCond) (ok : s.sound fx) : (State.takeBeat s n region b gu).sound fx := by
  simp only [State.takeBeat]; (repeat' split) <;> simp (maxDischargeDepth := 99) [ok]

@[simp] theorem execReinsertedFrame_sound (lane : Fin 96) (frame : Reinserted) (gu : GatherCond) (s : State) (ok : s.sound fx) : soundOut fx (execReinsertedFrame lane frame gu s) := by
  simp only [execReinsertedFrame]; (repeat' split) <;> simp (maxDischargeDepth := 99) +contextual [ok]

@[simp] theorem State.cutReinserted_sound (s : State) (r : Nat) (ok : s.sound fx) : (State.cutReinserted s r).sound fx := by
  simp (maxDischargeDepth := 99) +contextual [State.cutReinserted, ok]

@[simp] theorem cmdGuConfigure_sound {s : State} (ok : s.sound fx) (mb : Nat) (r : Request) : (cmdGuConfigure.act s mb r).next.sound fx := by
  simp [cmdGuConfigure, ok]

@[simp] theorem execGuConfigure_sound (mb : Fin 16) (req : Request) (s : State) (ok : s.sound fx) : soundOut fx (execGuConfigure mb req s) := by
  simp (maxDischargeDepth := 99) +contextual [execGuConfigure, ok]

@[simp] theorem cmdGuSetFraming_sound {s : State} (ok : s.sound fx) (mb : Nat) (r : Request) : (cmdGuSetFraming.act s mb r).next.sound fx := by
  simp [cmdGuSetFraming, ok]

@[simp] theorem execGuSetFraming_sound (mb : Fin 16) (req : Request) (s : State) (ok : s.sound fx) : soundOut fx (execGuSetFraming mb req s) := by
  simp (maxDischargeDepth := 99) +contextual [execGuSetFraming, ok]

@[simp] theorem cmdGuStatus_sound {s : State} (ok : s.sound fx) (mb : Nat) (r : Request) : (cmdGuStatus.act s mb r).next.sound fx := by
  simp [cmdGuStatus, ok]

@[simp] theorem execGuStatus_sound (mb : Fin 16) (req : Request) (s : State) (ok : s.sound fx) : soundOut fx (execGuStatus mb req s) := by
  simp (maxDischargeDepth := 99) +contextual [execGuStatus, ok]

@[simp] theorem cmdCqSetLossless_sound {s : State} (ok : s.sound fx) (mb : Nat) (r : Request) : (cmdCqSetLossless.act s mb r).next.sound fx := by
  simp [cmdCqSetLossless, ok]

@[simp] theorem execCqSetLossless_sound (mb : Fin 16) (req : Request) (s : State) (ok : s.sound fx) : soundOut fx (execCqSetLossless mb req s) := by
  simp (maxDischargeDepth := 99) +contextual [execCqSetLossless, ok]

/-! ### Store -/

@[simp] theorem parts_eraseFlash {t : Tbl Word} {b m r f : List Host.Cell} {q : List Instr} {d e : BitVec 256} {v : Nat}
    (h : parts fx t b m r f q d e v) (lo n : Nat) : parts fx t b m r (eraseFlash f lo n) q d e v := parts_flash_filter h _

@[simp] theorem writeRecordNow_sound (s : State) (ok : s.sound fx) : (writeRecordNow s).sound fx := by
  simp (maxDischargeDepth := 99) [writeRecordNow, ok]

@[simp] theorem writeRecord_sound (s : State) (ok : s.sound fx) : (writeRecord s).sound fx := by
  simp [writeRecord, ok]

end Sys2Proof.Machine
end

