-- ==== Sys2Proof/Laws/SoundFabric.lean ====
section
/-!
SUPPORT. Laws/SoundFabric.lean: timebase, contexts, replay keep every sparse memory in
canonical form, the queue of waiting commands, and what stands in fuses that no rule blows. One lemma for each function of the
state: a caller cites it and never unfolds the callee.
-/

namespace Sys2Proof.Machine

open Sys2Proof

variable {fx : Fixed}

/-! ### Timebase -/

@[simp] theorem State.showSched_sound (s : State) (ok : s.sound fx) : (State.showSched s).sound fx := by
  simp [State.showSched, ok]

@[simp] theorem cmdTbSchedWrite_sound {s : State} (ok : s.sound fx) (mb : Nat) (r : Request) : (cmdTbSchedWrite.act s mb r).next.sound fx := by
  simp [cmdTbSchedWrite, ok]

@[simp] theorem execTbSchedWrite_sound (mb : Fin 16) (req : Request) (s : State) (ok : s.sound fx) : soundOut fx (execTbSchedWrite mb req s) := by
  simp (maxDischargeDepth := 99) +contextual [execTbSchedWrite, ok]

@[simp] theorem cmdTbSchedRead_sound {s : State} (ok : s.sound fx) (mb : Nat) (r : Request) : (cmdTbSchedRead.act s mb r).next.sound fx := by
  simp [cmdTbSchedRead, ok]

@[simp] theorem execTbSchedRead_sound (mb : Fin 16) (req : Request) (s : State) (ok : s.sound fx) : soundOut fx (execTbSchedRead mb req s) := by
  simp (maxDischargeDepth := 99) +contextual [execTbSchedRead, ok]

@[simp] theorem State.clearIndexes_sound (s : State) (l : List Nat) (ok : s.sound fx) : (State.clearIndexes s l).sound fx := by
  simp (maxDischargeDepth := 99) [State.clearIndexes, ok]

@[simp] theorem cmdTbSchedClear_sound {s : State} (ok : s.sound fx) (mb : Nat) (r : Request) : (cmdTbSchedClear.act s mb r).next.sound fx := by
  simp [cmdTbSchedClear, ok]

@[simp] theorem execTbSchedClear_sound (mb : Fin 16) (req : Request) (s : State) (ok : s.sound fx) : soundOut fx (execTbSchedClear mb req s) := by
  simp (maxDischargeDepth := 99) +contextual [execTbSchedClear, ok]

@[simp] theorem State.clearSchedFor_sound (s : State) (key : Nat) (ok : s.sound fx) : (State.clearSchedFor s key).sound fx := by
  simp [State.clearSchedFor, ok]

@[simp] theorem cmdTbSetSource_sound {s : State} (ok : s.sound fx) (mb : Nat) (r : Request) : (cmdTbSetSource.act s mb r).next.sound fx := by
  simp [cmdTbSetSource, ok]

@[simp] theorem execTbSetSource_sound (mb : Fin 16) (req : Request) (s : State) (ok : s.sound fx) : soundOut fx (execTbSetSource mb req s) := by
  simp (maxDischargeDepth := 99) +contextual [execTbSetSource, ok]

@[simp] theorem cmdTbSetFlywheel_sound {s : State} (ok : s.sound fx) (mb : Nat) (r : Request) : (cmdTbSetFlywheel.act s mb r).next.sound fx := by
  simp [cmdTbSetFlywheel, ok]

@[simp] theorem execTbSetFlywheel_sound (mb : Fin 16) (req : Request) (s : State) (ok : s.sound fx) : soundOut fx (execTbSetFlywheel mb req s) := by
  simp (maxDischargeDepth := 99) +contextual [execTbSetFlywheel, ok]

@[simp] theorem cmdTbGetTime_sound {s : State} (ok : s.sound fx) (mb : Nat) (r : Request) : (cmdTbGetTime.act s mb r).next.sound fx := by
  simp [cmdTbGetTime, ok]

@[simp] theorem execTbGetTime_sound (mb : Fin 16) (req : Request) (s : State) (ok : s.sound fx) : soundOut fx (execTbGetTime mb req s) := by
  simp (maxDischargeDepth := 99) +contextual [execTbGetTime, ok]

@[simp] theorem cmdTbStatus_sound {s : State} (ok : s.sound fx) (mb : Nat) (r : Request) : (cmdTbStatus.act s mb r).next.sound fx := by
  simp [cmdTbStatus, ok]

@[simp] theorem execTbStatus_sound (mb : Fin 16) (req : Request) (s : State) (ok : s.sound fx) : soundOut fx (execTbStatus mb req s) := by
  simp (maxDischargeDepth := 99) +contextual [execTbStatus, ok]

/-! ### Contexts -/

@[simp] theorem State.setPlane_sound (s : State) (r p st : Nat) (ok : s.sound fx) : (State.setPlane s r p st).sound fx := by
  simp (maxDischargeDepth := 99) [State.setPlane, ok]

@[simp] theorem State.emptyCache_sound (s : State) (unit : Nat) (ok : s.sound fx) : (State.emptyCache s unit).sound fx := by
  simp [State.emptyCache, ok]

@[simp] theorem State.closeEndpoint_sound (s : State) (e : Nat) (ok : s.sound fx) : (State.closeEndpoint s e).sound fx := by
  simp (maxDischargeDepth := 99) [State.closeEndpoint, ok]

@[simp] theorem State.openEndpoint_sound (s : State) (e : Nat) (ok : s.sound fx) : (State.openEndpoint s e).sound fx := by
  simp (maxDischargeDepth := 99) [State.openEndpoint, ok]

@[simp] theorem State.closeRegion_sound (s : State) (r : Nat) (ok : s.sound fx) : (State.closeRegion s r).sound fx := by
  simp [State.closeRegion, ok]

@[simp] theorem State.stopRegion_sound (s : State) (r st : Nat) (ok : s.sound fx) : (State.stopRegion s r st).sound fx := by
  simp (maxDischargeDepth := 99) [State.stopRegion, ok]

@[simp] theorem State.reloadTaps_sound (s : State) (r : Nat) (ok : s.sound fx) : (State.reloadTaps s r).sound fx := by
  simp only [State.reloadTaps]
  split
  · exact ok
  · refine iterate_sound _ _ ok (fun i t ht => ?_)
    repeat' split
    all_goals simp [ht]

@[simp] theorem State.releaseRegion_sound (s : State) (r : Nat) (ok : s.sound fx) : (State.releaseRegion s r).sound fx := by
  simp (maxDischargeDepth := 99) [State.releaseRegion, ok]

@[simp] theorem State.setGroup_sound (s : State) (g : Nat) (members : List Nat) (owner : Nat) (ok : s.sound fx) : (State.setGroup s g members owner).sound fx := by
  simp (maxDischargeDepth := 99) +contextual [State.setGroup, ok]

@[simp] theorem State.clearGroupSched_sound (s : State) (g : Nat) (ok : s.sound fx) : (State.clearGroupSched s g).sound fx := by
  simp [State.clearGroupSched, ok]

@[simp] theorem State.endOpAt_sound (s : State) (op : Option (Nat × Nat)) (status detail : Nat) (ok : s.sound fx) : (State.endOpAt s op status detail).sound fx := by
  simp only [State.endOpAt]; (repeat' split) <;> simp (maxDischargeDepth := 99) [ok]

@[simp] theorem State.showPend_sound (s : State) (rs : List Nat) (p : Option Nat) (ok : s.sound fx) : (State.showPend s rs p).sound fx := by
  simp (maxDischargeDepth := 99) +contextual [State.showPend, ok]

@[simp] theorem State.refuseSwitch_sound (s : State) (members : List Nat) (ok : s.sound fx) : (State.refuseSwitch s members).sound fx := by
  simp (maxDischargeDepth := 99) +contextual [State.refuseSwitch, ok]

@[simp] theorem State.dropPend_sound (s : State) (key : Nat) (ok : s.sound fx) : (State.dropPend s key).sound fx := by
  simp only [State.dropPend]; split <;> simp (maxDischargeDepth := 99) [ok]

@[simp] theorem requestSwitch_sound (s : State) (g plane rank : Nat) (op : Option (Nat × Nat)) (ok : s.sound fx) : (requestSwitch s g plane rank op).sound fx := by
  simp only [requestSwitch]; (repeat' split) <;> simp (maxDischargeDepth := 99) [ok]

@[simp] theorem State.endPend_sound (s : State) (g : Nat) (ok : s.sound fx) : (State.endPend s g).sound fx := by
  simp only [State.endPend]; split <;> simp (maxDischargeDepth := 99) [ok]

@[simp] theorem State.takePlane_sound (s : State) (r plane : Nat) (ok : s.sound fx) : (State.takePlane s r plane).sound fx := by
  simp (maxDischargeDepth := 99) [State.takePlane, ok]

@[simp] theorem State.openLater_sound (s : State) (r : Nat) (ok : s.sound fx) : (State.openLater s r).sound fx := by
  simp [State.openLater, ok]

@[simp] theorem State.setPend_sound (s : State) (g : Nat) (p : PendSwitch) (ok : s.sound fx) : (State.setPend s g p).sound fx := by
  simp [State.setPend, ok]

@[simp] theorem State.beginSwitch_sound (s : State) (p : PendSwitch) (todo : List Nat) (ok : s.sound fx) : (State.beginSwitch s p todo).sound fx := by
  simp (maxDischargeDepth := 99) +contextual [State.beginSwitch, ok]

@[simp] theorem State.showBehind_sound (s : State) (g r : Nat) (ok : s.sound fx) : (State.showBehind s g r).sound fx := by
  simp only [State.showBehind]; split <;> simp (maxDischargeDepth := 99) [ok]

@[simp] theorem State.switchRegion_sound (s : State) (g r : Nat) (p : PendSwitch) (todo : List Nat) (ok : s.sound fx) : (State.switchRegion s g r p todo).sound fx := by
  simp (maxDischargeDepth := 99) [State.switchRegion, ok]

@[simp] theorem contextSwitch_sound (s : State) (r : Nat) (ok : s.sound fx) : (contextSwitch s r).sound fx := by
  simp only [contextSwitch]; split <;> simp (maxDischargeDepth := 99) [ok]

@[simp] theorem execContextSwitch_sound (r : Fin 48) (s : State) (ok : s.sound fx) : soundOut fx (execContextSwitch r s) := by
  simp [execContextSwitch, ok]

@[simp] theorem State.fabricEdges_sound (s : State) (ok : s.sound fx) : (State.fabricEdges s).sound fx := by
  simp (maxDischargeDepth := 99) +contextual [State.fabricEdges, ok]

@[simp] theorem State.fabricTick_sound (s : State) (ok : s.sound fx) : (State.fabricTick s).sound fx := by
  simp (maxDischargeDepth := 99) +contextual [State.fabricTick, ok]

@[simp] theorem State.showPlaced_sound (s : State) (ok : s.sound fx) : (State.showPlaced s).sound fx := by
  simp (maxDischargeDepth := 99) [State.showPlaced, ok]

@[simp] theorem State.freeHolding_sound (s : State) (h : Holding) (now : Bool) (ok : s.sound fx) : (State.freeHolding s h now).sound fx := by
  simp only [State.freeHolding]; (repeat' split) <;> simp (maxDischargeDepth := 99) +contextual [ok]

@[simp] theorem State.releaseHolding_sound (s : State) (h : Holding) (ok : s.sound fx) : (State.releaseHolding s h).sound fx := by
  simp [State.releaseHolding, ok]

@[simp] theorem State.leaveGroup_sound (s : State) (r : Nat) (ok : s.sound fx) : (State.leaveGroup s r).sound fx := by
  simp only [State.leaveGroup]; split <;> simp (maxDischargeDepth := 99) [ok]

@[simp] theorem State.emptyPlanes_sound (s : State) (rs : List Nat) (plane : Nat) (ok : s.sound fx) : (State.emptyPlanes s rs plane).sound fx := by
  simp (maxDischargeDepth := 99) +contextual [State.emptyPlanes, ok]

@[simp] theorem State.dropMigration_sound (s : State) (id : Nat) (now : Bool) (ok : s.sound fx) : (State.dropMigration s id now).sound fx := by
  simp only [State.dropMigration]; (repeat' split) <;> simp (maxDischargeDepth := 99) +contextual [ok]

@[simp] theorem State.cancelMigration_sound (s : State) (id : Nat) (ok : s.sound fx) : (State.cancelMigration s id).sound fx := by
  simp only [State.cancelMigration]; split <;> simp (maxDischargeDepth := 99) [ok]

@[simp] theorem State.dropPlacement_sound (s : State) (id : Nat) (now : Bool) (ok : s.sound fx) : (State.dropPlacement s id now).sound fx := by
  simp only [State.dropPlacement]; (repeat' split) <;> simp (maxDischargeDepth := 99) +contextual [ok]

@[simp] theorem State.unplaceNow_sound (s : State) (id : Nat) (ok : s.sound fx) : (State.unplaceNow s id).sound fx := by
  simp (maxDischargeDepth := 99) +contextual [State.unplaceNow, ok]

@[simp] theorem State.showLoad_sound (s : State) (busy : Bool) (ok : s.sound fx) : (State.showLoad s busy).sound fx := by
  simp only [State.showLoad]; split <;> simp (maxDischargeDepth := 99) [ok]

@[simp] theorem State.queueLoad_sound (s : State) (l : Load) (ok : s.sound fx) : (State.queueLoad s l).sound fx := by
  simp [State.queueLoad, ok]

@[simp] theorem State.beginLoad_sound (s : State) (ok : s.sound fx) : (State.beginLoad s).sound fx := by
  simp only [State.beginLoad]; (repeat' split) <;> simp (maxDischargeDepth := 99) +contextual [ok]

@[simp] theorem State.loadProgress_sound (s : State) (l : Load) (ok : s.sound fx) : (State.loadProgress s l).sound fx := by
  simp only [State.loadProgress]; split <;> simp (maxDischargeDepth := 99) [ok]

@[simp] theorem State.nextRegion_sound (s : State) (ok : s.sound fx) : (State.nextRegion s).sound fx := by
  simp only [State.nextRegion]; (repeat' split) <;> simp (maxDischargeDepth := 99) [ok]

@[simp] theorem configLoadStart_sound (s : State) (ok : s.sound fx) : (configLoadStart s).sound fx := by
  simp only [configLoadStart]; (repeat' split) <;> simp (maxDischargeDepth := 99) [ok]

@[simp] theorem State.loadPip_sound (s : State) (ok : s.sound fx) : (State.loadPip s).sound fx := by
  simp only [State.loadPip]; split <;> simp (maxDischargeDepth := 99) [ok]

@[simp] theorem execConfigLoadStart_sound (s : State) (ok : s.sound fx) : soundOut fx (execConfigLoadStart s) := by
  simp [execConfigLoadStart, ok]

@[simp] theorem State.switchAfter_sound (s : State) (g plane : Nat) (op : Option (Nat × Nat)) (ok : s.sound fx) : (State.switchAfter s g plane op).sound fx := by
  simp only [State.switchAfter]; split <;> simp (maxDischargeDepth := 99) [ok]

@[simp] theorem State.fillPlane_sound (s : State) (r plane handle pos : Nat) (ok : s.sound fx) : (State.fillPlane s r plane handle pos).sound fx := by
  simp only [State.fillPlane]; split <;> simp (maxDischargeDepth := 99) [ok]

@[simp] theorem State.releaseLater_sound (s : State) (rs : List Nat) (ok : s.sound fx) : (State.releaseLater s rs).sound fx := by
  simp [State.releaseLater, ok]

@[simp] theorem State.loadPassed_sound (s : State) (l : Load) (ok : s.sound fx) : (State.loadPassed s l).sound fx := by
  simp only [State.loadPassed]; (repeat' split) <;> simp (maxDischargeDepth := 99) +contextual [ok]

@[simp] theorem State.loadFailed_sound (s : State) (l : Load) (ok : s.sound fx) : (State.loadFailed s l).sound fx := by
  simp (maxDischargeDepth := 99) +contextual [State.loadFailed, ok]

@[simp] theorem loadComplete_sound (s : State) (fail : Bool) (ok : s.sound fx) : (loadComplete s fail).sound fx := by
  simp only [loadComplete]; split <;> simp (maxDischargeDepth := 99) [ok]

@[simp] theorem State.scrubLast_sound (s : State) (r p frame : Nat) (uncorr : Bool) (ok : s.sound fx) : (State.scrubLast s r p frame uncorr).sound fx := by
  simp (maxDischargeDepth := 99) [State.scrubLast, ok]

@[simp] theorem uncorrectableFrame_sound (s : State) (r p : Nat) (ok : s.sound fx) : (uncorrectableFrame s r p).sound fx := by
  simp only [uncorrectableFrame]; (repeat' split) <;> simp (maxDischargeDepth := 99) +contextual [ok]

@[simp] theorem State.riserRead_sound (s : State) (key : Nat) (ok : s.sound fx) : (State.riserRead s key).sound fx := by
  simp [State.riserRead, ok]

@[simp] theorem scrubFrame_sound (s : State) (r p frame bad : Nat) (pass : Option Nat) (ok : s.sound fx) : (scrubFrame s r p frame bad pass).sound fx := by
  simp only [scrubFrame]; (repeat' split) <;> simp (maxDischargeDepth := 99) [ok]

@[simp] theorem execScrubFrame_sound (r : Fin 48) (p : Fin 8) (frame : Fin 14400) (bad : Fin 3) (pass : Option (BitVec 32)) (s : State) (ok : s.sound fx) : soundOut fx (execScrubFrame r p frame bad pass s) := by
  simp [execScrubFrame, ok]

@[simp] theorem execRiserIllegalDecode_sound (pair : Fin 24) (riser : RiserSite) (s : State) (ok : s.sound fx) : soundOut fx (execRiserIllegalDecode pair riser s) := by
  simp only [execRiserIllegalDecode]; (repeat' split) <;> simp (maxDischargeDepth := 99) [ok]

@[simp] theorem State.setTap_sound (s : State) (io v : Nat) (ok : s.sound fx) : (State.setTap s io v).sound fx := by
  simp [State.setTap, ok]

@[simp] theorem execIoDelayLoad_sound (io : Fin 288) (v : BitVec 9) (s : State) (ok : s.sound fx) : soundOut fx (execIoDelayLoad io v s) := by
  simp only [execIoDelayLoad]; split <;> simp (maxDischargeDepth := 99) [ok]

@[simp] theorem execIoDelayInc_sound (io : Fin 288) (both : Bool) (s : State) (ok : s.sound fx) : soundOut fx (execIoDelayInc io both s) := by
  simp only [execIoDelayInc]; split <;> simp (maxDischargeDepth := 99) [ok]

@[simp] theorem execIoDelayDec_sound (io : Fin 288) (both : Bool) (s : State) (ok : s.sound fx) : soundOut fx (execIoDelayDec io both s) := by
  simp only [execIoDelayDec]; split <;> simp (maxDischargeDepth := 99) [ok]

@[simp] theorem State.fabricReleases_sound (s : State) (ok : s.sound fx) : (State.fabricReleases s).sound fx := by
  simp (maxDischargeDepth := 99) +contextual [State.fabricReleases, ok]

@[simp] theorem State.fabricSwitches_sound (s : State) (ok : s.sound fx) : (State.fabricSwitches s).sound fx := by
  simp (maxDischargeDepth := 99) +contextual [State.fabricSwitches, ok]

@[simp] theorem State.fireSwitch_sound (s : State) (idx group plane : Nat) (gaffer : Bool) (ok : s.sound fx) : (State.fireSwitch s idx group plane gaffer).sound fx := by
  simp [State.fireSwitch, ok]

@[simp] theorem State.clearPlanes_sound (s : State) (ok : s.sound fx) : (State.clearPlanes s).sound fx := by
  simp (maxDischargeDepth := 99) +contextual [State.clearPlanes, ok]

@[simp] theorem State.setEntryInit_sound (s : State) (rs : List Nat) (plane : Nat) (b : Bool) (ok : s.sound fx) : (State.setEntryInit s rs plane b).sound fx := by
  simp (maxDischargeDepth := 99) +contextual [State.setEntryInit, ok]

@[simp] theorem cmdCtxLoad_sound {s : State} (ok : s.sound fx) (mb : Nat) (r : Request) : (cmdCtxLoad.act s mb r).next.sound fx := by
  simp only [cmdCtxLoad]; (repeat' split) <;> simp (maxDischargeDepth := 99) +contextual [ok]

@[simp] theorem execCtxLoad_sound (mb : Fin 16) (req : Request) (s : State) (ok : s.sound fx) : soundOut fx (execCtxLoad mb req s) := by
  simp (maxDischargeDepth := 99) +contextual [execCtxLoad, ok]

@[simp] theorem cmdCtxSwitchRequest_sound {s : State} (ok : s.sound fx) (mb : Nat) (r : Request) : (cmdCtxSwitchRequest.act s mb r).next.sound fx := by
  simp only [cmdCtxSwitchRequest]; split <;> simp (maxDischargeDepth := 99) [ok]

@[simp] theorem execCtxSwitchRequest_sound (mb : Fin 16) (req : Request) (s : State) (ok : s.sound fx) : soundOut fx (execCtxSwitchRequest mb req s) := by
  simp (maxDischargeDepth := 99) +contextual [execCtxSwitchRequest, ok]

@[simp] theorem cmdCtxGroupDefine_sound {s : State} (ok : s.sound fx) (mb : Nat) (r : Request) : (cmdCtxGroupDefine.act s mb r).next.sound fx := by
  simp (maxDischargeDepth := 99) [cmdCtxGroupDefine, ok]

@[simp] theorem execCtxGroupDefine_sound (mb : Fin 16) (req : Request) (s : State) (ok : s.sound fx) : soundOut fx (execCtxGroupDefine mb req s) := by
  simp (maxDischargeDepth := 99) +contextual [execCtxGroupDefine, ok]

@[simp] theorem cmdCtxStatus_sound {s : State} (ok : s.sound fx) (mb : Nat) (r : Request) : (cmdCtxStatus.act s mb r).next.sound fx := by
  simp [cmdCtxStatus, ok]

@[simp] theorem execCtxStatus_sound (mb : Fin 16) (req : Request) (s : State) (ok : s.sound fx) : soundOut fx (execCtxStatus mb req s) := by
  simp (maxDischargeDepth := 99) +contextual [execCtxStatus, ok]

@[simp] theorem cmdCtxScrubStatus_sound {s : State} (ok : s.sound fx) (mb : Nat) (r : Request) : (cmdCtxScrubStatus.act s mb r).next.sound fx := by
  simp [cmdCtxScrubStatus, ok]

@[simp] theorem execCtxScrubStatus_sound (mb : Fin 16) (req : Request) (s : State) (ok : s.sound fx) : soundOut fx (execCtxScrubStatus mb req s) := by
  simp (maxDischargeDepth := 99) +contextual [execCtxScrubStatus, ok]

/-! ### Replay -/

@[simp] theorem State.setEngine_sound (s : State) (e : Nat) (x : Engine) (ok : s.sound fx) : (State.setEngine s e x).sound fx := by
  simp [State.setEngine, ok]

@[simp] theorem State.breakLane_sound (s : State) (n : Nat) (ok : s.sound fx) : (State.breakLane s n).sound fx := by
  simp [State.breakLane, ok]

@[simp] theorem State.unforward_sound (s : State) (n : Nat) (ok : s.sound fx) : (State.unforward s n).sound fx := by
  simp [State.unforward, ok]

@[simp] theorem State.showSource_sound (s : State) (n : Nat) (ok : s.sound fx) : (State.showSource s n).sound fx := by
  simp (maxDischargeDepth := 99) [State.showSource, ok]

@[simp] theorem State.showSources_sound (s : State) (mask : Nat) (ok : s.sound fx) : (State.showSources s mask).sound fx := by
  simp (maxDischargeDepth := 99) +contextual [State.showSources, ok]

@[simp] theorem State.engineFlag_sound (s : State) (e : Nat) (f : RF) (ok : s.sound fx) : (State.engineFlag s e f).sound fx := by
  simp (maxDischargeDepth := 99) [State.engineFlag, ok]

@[simp] theorem State.showPrimed_sound (s : State) (e : Nat) (ok : s.sound fx) : (State.showPrimed s e).sound fx := by
  simp [State.showPrimed, ok]

@[simp] theorem State.prime_sound (s : State) (e : Nat) (ok : s.sound fx) : (State.prime s e).sound fx := by
  simp [State.prime, ok]

@[simp] theorem State.cutSent_sound (s : State) (e : Nat) (whole : Bool) (ok : s.sound fx) : (State.cutSent s e whole).sound fx := by
  simp [State.cutSent, ok]

@[simp] theorem State.cutLane_sound (s : State) (n : Nat) (ok : s.sound fx) : (State.cutLane s n).sound fx := by
  simp [State.cutLane, ok]

@[simp] theorem State.stopEngine_sound (s : State) (e cause : Nat) (ok : s.sound fx) : (State.stopEngine s e cause).sound fx := by
  simp (maxDischargeDepth := 99) [State.stopEngine, ok]

@[simp] theorem State.stopAfter_sound (s : State) (e cause : Nat) (ok : s.sound fx) : (State.stopAfter s e cause).sound fx := by
  simp [State.stopAfter, ok]

@[simp] theorem State.seeFixes_sound (s : State) (ok : s.sound fx) : (State.seeFixes s).sound fx := by
  simp (maxDischargeDepth := 99) +contextual [State.seeFixes, ok]

@[simp] theorem State.replayEnds_sound (s : State) (ok : s.sound fx) : (State.replayEnds s).sound fx := by
  refine forEach_sound _ _ (State.seeFixes_sound s ok) (fun x t ht => ?_)
  split
  · split <;> simp [ht]
  · exact ht

@[simp] theorem State.stopsTaken_sound (s : State) (ok : s.sound fx) : (State.stopsTaken s).sound fx := by
  refine forEach_sound _ _ ok (fun x t ht => ?_)
  split
  · split <;> simp [ht]
  · exact ht

@[simp] theorem State.stopAllEngines_sound (s : State) (cause : Nat) (ok : s.sound fx) : (State.stopAllEngines s cause).sound fx := by
  simp (maxDischargeDepth := 99) +contextual [State.stopAllEngines, ok]

@[simp] theorem State.askStop_sound (s : State) (e cause turn : Nat) (ok : s.sound fx) : (State.askStop s e cause turn).sound fx := by
  simp [State.askStop, ok]

@[simp] theorem State.askAllStop_sound (s : State) (cause : Nat) (ok : s.sound fx) : (State.askAllStop s cause).sound fx := by
  simp (maxDischargeDepth := 99) +contextual [State.askAllStop, ok]

@[simp] theorem State.startEngine_sound (s : State) (e instant : Nat) (ok : s.sound fx) : (State.startEngine s e instant).sound fx := by
  simp (maxDischargeDepth := 99) +contextual [State.startEngine, ok]

@[simp] theorem State.startLine_sound (s : State) (k : Nat) (ok : s.sound fx) : (State.startLine s k).sound fx := by
  simp (maxDischargeDepth := 99) +contextual [State.startLine, ok]

@[simp] theorem State.startAt_sound (s : State) (e : Nat) (ok : s.sound fx) : (State.startAt s e).sound fx := by
  simp only [State.startAt]; (repeat' split) <;> simp (maxDischargeDepth := 99) [ok]

@[simp] theorem execReplayStartInstant_sound (e : Fin 32) (s : State) (ok : s.sound fx) : soundOut fx (execReplayStartInstant e s) := by
  simp [execReplayStartInstant, ok]

@[simp] theorem State.makeRoom_sound (s : State) (e : Nat) (ok : s.sound fx) : (State.makeRoom s e).sound fx := by
  simp [State.makeRoom, ok]

@[simp] theorem State.fetchLine_sound (s : State) (e : Nat) (ok : s.sound fx) : (State.fetchLine s e).sound fx := by
  simp (maxDischargeDepth := 99) [State.fetchLine, ok]

@[simp] theorem execPatternFetchReturn_sound (e : Fin 32) (lines : FetchReturn) (s : State) (ok : s.sound fx) : soundOut fx (execPatternFetchReturn e lines s) := by
  simp only [execPatternFetchReturn]; (repeat' split) <;> simp (maxDischargeDepth := 99) +contextual [ok]

@[simp] theorem State.advance_sound (s : State) (e : Nat) (r : PatRecord) (ok : s.sound fx) : (State.advance s e r).sound fx := by
  simp (maxDischargeDepth := 99) [State.advance, ok]

@[simp] theorem State.outputPayload_sound (s : State) (e : Nat) (r : PatRecord) (ok : s.sound fx) : (State.outputPayload s e r).1.sound fx := by
  simp (maxDischargeDepth := 99) [State.outputPayload, ok]

@[simp] theorem State.noteLaunch_sound (s : State) (e : Nat) (r : PatRecord) (symbols : List (Bool × Byte)) (at_ finish : Nat) (ok : s.sound fx) : (State.noteLaunch s e r symbols at_ finish).sound fx := by
  simp (maxDischargeDepth := 99) [State.noteLaunch, ok]

@[simp] theorem State.noteLate_sound (s : State) (e late : Nat) (skip fetchDelayed : Bool) (ok : s.sound fx) : (State.noteLate s e late skip fetchDelayed).sound fx := by
  simp (maxDischargeDepth := 99) [State.noteLate, ok]

@[simp] theorem State.launch_sound (s : State) (e : Nat) (r : PatRecord) (fetchDelayed : Bool) (ok : s.sound fx) : (State.launch s e r fetchDelayed).sound fx := by
  simp only [State.launch]; split <;> simp (maxDischargeDepth := 99) [ok]

@[simp] theorem execRecordLaunch_sound (e : Fin 32) (fetchDelayed : Bool) (s : State) (ok : s.sound fx) : soundOut fx (execRecordLaunch e fetchDelayed s) := by
  simp only [execRecordLaunch]; (repeat' split) <;> simp (maxDischargeDepth := 99) [ok]

@[simp] theorem execReplayRecordBoundaryStop_sound (e : Fin 32) (s : State) (ok : s.sound fx) : soundOut fx (execReplayRecordBoundaryStop e s) := by
  simp only [execReplayRecordBoundaryStop]; split <;> simp (maxDischargeDepth := 99) [ok]

theorem State.sendChain_sound (n e : Nat) : ∀ (fuel at_ : Nat) (s : State), s.sound fx → (State.sendChain n e fuel at_ s).1.sound fx
  | 0, _, _, ok => ok
  | fuel + 1, at_, s, ok => by
    simp only [State.sendChain]
    split
    · split
      · exact State.sendChain_sound n e fuel _ _ (by simp (maxDischargeDepth := 99) [ok])
      · simp (maxDischargeDepth := 99) [ok]
    · exact ok

@[simp] theorem State.replaceForwarded_sound (s : State) (n at_ count : Nat) (ok : s.sound fx) : (State.replaceForwarded s n at_ count).sound fx := by
  simp [State.replaceForwarded, ok]

@[simp] theorem State.aligned_sound (s : State) (n from_ : Nat) (ok : s.sound fx) : (State.aligned s n from_).sound fx := by
  simp [State.aligned, ok]

@[simp] theorem State.realign_sound (s : State) (n from_ : Nat) (ok : s.sound fx) : (State.realign s n from_).sound fx := by
  simp only [State.realign]; split <;> simp (maxDischargeDepth := 99) [ok]

@[simp] theorem State.substitute_sound (s : State) (e n at_ room : Nat) (r : PatRecord) (rdBefore rdAfter : Bool) (ok : s.sound fx) :
    (State.substitute s e n at_ room r rdBefore rdAfter).sound fx := by
  have h := State.sendChain_sound n e 4096 at_ s ok
  simp only [State.substitute]
  generalize State.sendChain n e 4096 at_ s = x at h
  (repeat' split) <;> simp (maxDischargeDepth := 99) [h]

@[simp] theorem execSubstitutionSlot_sound (e : Fin 32) (chars : BitVec 21) (rdBefore : Bool) (rdAfter : Bool) (s : State) (ok : s.sound fx) : soundOut fx (execSubstitutionSlot e chars rdBefore rdAfter s) := by
  simp only [execSubstitutionSlot]; (repeat' split) <;> simp (maxDischargeDepth := 99) [ok]

@[simp] theorem State.passBreak_sound (s : State) (n : Nat) (ok : s.sound fx) : (State.passBreak s n).sound fx := by
  simp (maxDischargeDepth := 99) [State.passBreak, ok]

@[simp] theorem execPassthroughResume_sound (lane : Fin 96) (s : State) (ok : s.sound fx) : soundOut fx (execPassthroughResume lane s) := by
  simp only [execPassthroughResume]; split <;> simp (maxDischargeDepth := 99) [ok]

@[simp] theorem State.releaseEngine_sound (s : State) (e : Nat) (ok : s.sound fx) : (State.releaseEngine s e).sound fx := by
  simp (maxDischargeDepth := 99) [State.releaseEngine, ok]

@[simp] theorem State.unbindEngine_sound (s : State) (e : Nat) (ok : s.sound fx) : (State.unbindEngine s e).sound fx := by
  simp (maxDischargeDepth := 99) +contextual [State.unbindEngine, ok]

@[simp] theorem cmdRpPatternBind_sound {s : State} (ok : s.sound fx) (mb : Nat) (r : Request) : (cmdRpPatternBind.act s mb r).next.sound fx := by
  simp only [cmdRpPatternBind]; split <;> simp (maxDischargeDepth := 99) [ok]

@[simp] theorem execRpPatternBind_sound (mb : Fin 16) (req : Request) (s : State) (ok : s.sound fx) : soundOut fx (execRpPatternBind mb req s) := by
  simp (maxDischargeDepth := 99) +contextual [execRpPatternBind, ok]

@[simp] theorem cmdRpConfigure_sound {s : State} (ok : s.sound fx) (mb : Nat) (r : Request) : (cmdRpConfigure.act s mb r).next.sound fx := by
  simp (maxDischargeDepth := 99) +contextual [cmdRpConfigure, ok]

@[simp] theorem execRpConfigure_sound (mb : Fin 16) (req : Request) (s : State) (ok : s.sound fx) : soundOut fx (execRpConfigure mb req s) := by
  simp (maxDischargeDepth := 99) +contextual [execRpConfigure, ok]

@[simp] theorem cmdRpStart_sound {s : State} (ok : s.sound fx) (mb : Nat) (r : Request) : (cmdRpStart.act s mb r).next.sound fx := by
  simp only [cmdRpStart]; split <;> simp (maxDischargeDepth := 99) [ok]

@[simp] theorem execRpStart_sound (mb : Fin 16) (req : Request) (s : State) (ok : s.sound fx) : soundOut fx (execRpStart mb req s) := by
  simp (maxDischargeDepth := 99) +contextual [execRpStart, ok]

@[simp] theorem State.stopCommand_sound (s : State) (e : Nat) (abort : Bool) (ok : s.sound fx) : (State.stopCommand s e abort).sound fx := by
  simp (maxDischargeDepth := 99) [State.stopCommand, ok]

@[simp] theorem cmdRpStop_sound {s : State} (ok : s.sound fx) (mb : Nat) (r : Request) : (cmdRpStop.act s mb r).next.sound fx := by
  simp [cmdRpStop, ok]

@[simp] theorem execRpStop_sound (mb : Fin 16) (req : Request) (s : State) (ok : s.sound fx) : soundOut fx (execRpStop mb req s) := by
  simp (maxDischargeDepth := 99) +contextual [execRpStop, ok]

@[simp] theorem cmdRpStatus_sound {s : State} (ok : s.sound fx) (mb : Nat) (r : Request) : (cmdRpStatus.act s mb r).next.sound fx := by
  simp [cmdRpStatus, ok]

@[simp] theorem execRpStatus_sound (mb : Fin 16) (req : Request) (s : State) (ok : s.sound fx) : soundOut fx (execRpStatus mb req s) := by
  simp (maxDischargeDepth := 99) +contextual [execRpStatus, ok]

@[simp] theorem cmdRpSetUpdaters_sound {s : State} (ok : s.sound fx) (mb : Nat) (r : Request) : (cmdRpSetUpdaters.act s mb r).next.sound fx := by
  simp (maxDischargeDepth := 99) +contextual [cmdRpSetUpdaters, ok]

@[simp] theorem execRpSetUpdaters_sound (mb : Fin 16) (req : Request) (s : State) (ok : s.sound fx) : soundOut fx (execRpSetUpdaters mb req s) := by
  simp (maxDischargeDepth := 99) +contextual [execRpSetUpdaters, ok]

@[simp] theorem cmdRpPassthroughSet_sound {s : State} (ok : s.sound fx) (mb : Nat) (r : Request) : (cmdRpPassthroughSet.act s mb r).next.sound fx := by
  simp [cmdRpPassthroughSet, ok]

@[simp] theorem execRpPassthroughSet_sound (mb : Fin 16) (req : Request) (s : State) (ok : s.sound fx) : soundOut fx (execRpPassthroughSet mb req s) := by
  simp (maxDischargeDepth := 99) +contextual [execRpPassthroughSet, ok]

@[simp] theorem cmdRpSubstituteSet_sound {s : State} (ok : s.sound fx) (mb : Nat) (r : Request) : (cmdRpSubstituteSet.act s mb r).next.sound fx := by
  simp [cmdRpSubstituteSet, ok]

@[simp] theorem execRpSubstituteSet_sound (mb : Fin 16) (req : Request) (s : State) (ok : s.sound fx) : soundOut fx (execRpSubstituteSet mb req s) := by
  simp (maxDischargeDepth := 99) +contextual [execRpSubstituteSet, ok]

end Sys2Proof.Machine
end

