-- ==== Sys2Proof/Laws/SoundLanes.lean ====
section
/-!
SUPPORT. Laws/SoundLanes.lean: triggers and lanes keep every sparse memory in
canonical form, the queue of waiting commands, and what stands in fuses that no rule blows. One lemma for each function of the
state: a caller cites it and never unfolds the callee.
-/

namespace Sys2Proof.Machine

open Sys2Proof

variable {fx : Fixed}

/-! ### Trigger -/

@[simp] theorem State.pulse_sound (s : State) (i : Nat) (ok : s.sound fx) : (State.pulse s i).sound fx := by
  simp [State.pulse, ok]

@[simp] theorem State.laneCondPulse_sound (s : State) (lane cond : Nat) (ok : s.sound fx) : (State.laneCondPulse s lane cond).sound fx := by
  simp (maxDischargeDepth := 99) +contextual [State.laneCondPulse, ok]

@[simp] theorem State.startPulse_sound (s : State) (o width : Nat) (ok : s.sound fx) : (State.startPulse s o width).sound fx := by
  simp [State.startPulse, ok]

@[simp] theorem execTrigOutPulseEnd_sound (out : Fin 8) (s : State) (ok : s.sound fx) : soundOut fx (execTrigOutPulseEnd out s) := by
  simp [execTrigOutPulseEnd, ok]

@[simp] theorem State.fireLine_sound (s : State) (line instant : Nat) (hits : List TrigFrame) (ok : s.sound fx) : (State.fireLine s line instant hits).sound fx := by
  simp (maxDischargeDepth := 99) +contextual [State.fireLine, ok]

@[simp] theorem State.armTrigger_sound (s : State) (ok : s.sound fx) : (State.armTrigger s).sound fx := by
  simp (maxDischargeDepth := 99) +contextual [State.armTrigger, ok]

@[simp] theorem State.disarmTrigger_sound (s : State) (ok : s.sound fx) : (State.disarmTrigger s).sound fx := by
  simp [State.disarmTrigger, ok]

@[simp] theorem State.stepCounter_sound (s : State) (c n op : Nat) (ok : s.sound fx) : (State.stepCounter s c n op).sound fx := by
  simp (maxDischargeDepth := 99) [State.stepCounter, ok]

@[simp] theorem State.timerOps_sound (s : State) (ops : Nat) (ok : s.sound fx) : (State.timerOps s ops).sound fx := by
  simp (maxDischargeDepth := 99) +contextual [State.timerOps, ok]

@[simp] theorem State.transitionOutputs_sound (s : State) (w1 : Nat) (instant : Nat) (hits : List TrigFrame) (ok : s.sound fx) : (State.transitionOutputs s w1 instant hits).sound fx := by
  simp (maxDischargeDepth := 99) +contextual [State.transitionOutputs, ok]

@[simp] theorem State.transitionRequests_sound (s : State) (w2 : Nat) (ok : s.sound fx) : (State.transitionRequests s w2).sound fx := by
  simp (maxDischargeDepth := 99) +contextual [State.transitionRequests, ok]

@[simp] theorem State.markHits_sound (s : State) (hits : List TrigFrame) (ok : s.sound fx) : (State.markHits s hits).sound fx := by
  simp (maxDischargeDepth := 99) +contextual [State.markHits, ok]

@[simp] theorem State.takeTransition_sound (s : State) (j : Nat) (frames : List TrigFrame) (ok : s.sound fx) : (State.takeTransition s j frames).sound fx := by
  simp (maxDischargeDepth := 99) [State.takeTransition, ok]

@[simp] theorem triggerSample_sound (s : State) (fabLines : Nat) (ok : s.sound fx) : (triggerSample s fabLines).sound fx := by
  simp only [triggerSample]; (repeat' split) <;> simp (maxDischargeDepth := 99) +contextual [ok]

@[simp] theorem execTriggerTransition_sound (fabLines : Byte) (s : State) (ok : s.sound fx) : soundOut fx (execTriggerTransition fabLines s) := by
  simp only [execTriggerTransition]; split <;> simp (maxDischargeDepth := 99) [ok]

@[simp] theorem execTrigInEdge_sound (pin : Fin 8) (level : Bool) (s : State) (ok : s.sound fx) : soundOut fx (execTrigInEdge pin level s) := by
  simp (maxDischargeDepth := 99) [execTrigInEdge, ok]

@[simp] theorem State.timerExpires_sound (s : State) (t : Nat) (ok : s.sound fx) : (State.timerExpires s t).sound fx := by
  simp (maxDischargeDepth := 99) [State.timerExpires, ok]

@[simp] theorem execTriggerTimerExpiry_sound (t : Fin 4) (s : State) (ok : s.sound fx) : soundOut fx (execTriggerTimerExpiry t s) := by
  simp only [execTriggerTimerExpiry]; split <;> simp (maxDischargeDepth := 99) [ok]

@[simp] theorem State.countTimers_sound (s : State) (ok : s.sound fx) : (State.countTimers s).sound fx := by
  simp (maxDischargeDepth := 99) +contextual [State.countTimers, ok]

@[simp] theorem execTriggerCounterLimit_sound (c : Fin 4) (s : State) (ok : s.sound fx) : soundOut fx (execTriggerCounterLimit c s) := by
  simp only [execTriggerCounterLimit]; split <;> simp (maxDischargeDepth := 99) [ok]

@[simp] theorem cmdTgMatrixSet_sound {s : State} (ok : s.sound fx) (mb : Nat) (r : Request) : (cmdTgMatrixSet.act s mb r).next.sound fx := by
  simp (maxDischargeDepth := 99) +contextual [cmdTgMatrixSet, ok]

@[simp] theorem execTgMatrixSet_sound (mb : Fin 16) (req : Request) (s : State) (ok : s.sound fx) : soundOut fx (execTgMatrixSet mb req s) := by
  simp (maxDischargeDepth := 99) +contextual [execTgMatrixSet, ok]

@[simp] theorem cmdTgSeqLoad_sound {s : State} (ok : s.sound fx) (mb : Nat) (r : Request) : (cmdTgSeqLoad.act s mb r).next.sound fx := by
  simp (maxDischargeDepth := 99) +contextual [cmdTgSeqLoad, ok]

@[simp] theorem execTgSeqLoad_sound (mb : Fin 16) (req : Request) (s : State) (ok : s.sound fx) : soundOut fx (execTgSeqLoad mb req s) := by
  simp (maxDischargeDepth := 99) +contextual [execTgSeqLoad, ok]

@[simp] theorem cmdTgArm_sound {s : State} (ok : s.sound fx) (mb : Nat) (r : Request) : (cmdTgArm.act s mb r).next.sound fx := by
  simp [cmdTgArm, ok]

@[simp] theorem execTgArm_sound (mb : Fin 16) (req : Request) (s : State) (ok : s.sound fx) : soundOut fx (execTgArm mb req s) := by
  simp (maxDischargeDepth := 99) +contextual [execTgArm, ok]

@[simp] theorem cmdTgDisarm_sound {s : State} (ok : s.sound fx) (mb : Nat) (r : Request) : (cmdTgDisarm.act s mb r).next.sound fx := by
  simp [cmdTgDisarm, ok]

@[simp] theorem execTgDisarm_sound (mb : Fin 16) (req : Request) (s : State) (ok : s.sound fx) : soundOut fx (execTgDisarm mb req s) := by
  simp (maxDischargeDepth := 99) +contextual [execTgDisarm, ok]

@[simp] theorem cmdTgStatus_sound {s : State} (ok : s.sound fx) (mb : Nat) (r : Request) : (cmdTgStatus.act s mb r).next.sound fx := by
  simp [cmdTgStatus, ok]

@[simp] theorem execTgStatus_sound (mb : Fin 16) (req : Request) (s : State) (ok : s.sound fx) : soundOut fx (execTgStatus mb req s) := by
  simp (maxDischargeDepth := 99) +contextual [execTgStatus, ok]

/-! ### Lanes -/

@[simp] theorem State.laneFlag_sound (s : State) (n i : Nat) (ok : s.sound fx) : (State.laneFlag s n i).sound fx := by
  simp (maxDischargeDepth := 99) [State.laneFlag, ok]

@[simp] theorem State.showPortLane_sound (s : State) (n : Nat) (on : Bool) (ok : s.sound fx) : (State.showPortLane s n on).sound fx := by
  simp (maxDischargeDepth := 99) [State.showPortLane, ok]

@[simp] theorem State.showLock_sound (s : State) (n : Nat) (ok : s.sound fx) : (State.showLock s n).sound fx := by
  simp (maxDischargeDepth := 99) [State.showLock, ok]

@[simp] theorem State.dropCdr_sound (s : State) (n : Nat) (ok : s.sound fx) : (State.dropCdr s n).sound fx := by
  simp (maxDischargeDepth := 99) [State.dropCdr, ok]

@[simp] theorem State.dropSignal_sound (s : State) (n : Nat) (seen : Bool) (ok : s.sound fx) : (State.dropSignal s n seen).sound fx := by
  simp (maxDischargeDepth := 99) [State.dropSignal, ok]

@[simp] theorem State.levelEnds_sound (s : State) (n cond : Nat) (f : Nat → RF) (ok : s.sound fx) : (State.levelEnds s n cond f).sound fx := by
  simp [State.levelEnds, ok]

@[simp] theorem execSignalDetect_sound (lane : Fin 120) (s : State) (ok : s.sound fx) : soundOut fx (execSignalDetect lane s) := by
  simp only [execSignalDetect]; split <;> simp (maxDischargeDepth := 99) [ok]

@[simp] theorem execSignalLoss_sound (lane : Fin 120) (s : State) (ok : s.sound fx) : soundOut fx (execSignalLoss lane s) := by
  simp only [execSignalLoss]; split <;> simp (maxDischargeDepth := 99) [ok]

@[simp] theorem execCdrLockAcquired_sound (lane : Fin 120) (off : BitVec 32) (s : State) (ok : s.sound fx) : soundOut fx (execCdrLockAcquired lane off s) := by
  simp only [execCdrLockAcquired]; (repeat' split) <;> simp (maxDischargeDepth := 99) [ok]

@[simp] theorem execCdrUnlock_sound (lane : Fin 120) (s : State) (ok : s.sound fx) : soundOut fx (execCdrUnlock lane s) := by
  simp [execCdrUnlock, ok]

@[simp] theorem execCommaAlign_sound (lane : Fin 120) (comma : Fin 3) (moved : Bool) (s : State) (ok : s.sound fx) : soundOut fx (execCommaAlign lane comma moved s) := by
  simp only [execCommaAlign]; (repeat' split) <;> simp (maxDischargeDepth := 99) [ok]

@[simp] theorem execAlignmentLoss_sound (lane : Fin 120) (s : State) (ok : s.sound fx) : soundOut fx (execAlignmentLoss lane s) := by
  simp [execAlignmentLoss, ok]

@[simp] theorem execLaneCodeError_sound (lane : Fin 120) (viol : Bool) (s : State) (ok : s.sound fx) : soundOut fx (execLaneCodeError lane viol s) := by
  simp only [execLaneCodeError]; split <;> simp (maxDischargeDepth := 99) [ok]

@[simp] theorem execEyeCalibrationDone_sound (lane : Fin 120) (lat : BitVec 16) (s : State) (ok : s.sound fx) : soundOut fx (execEyeCalibrationDone lane lat s) := by
  simp only [execEyeCalibrationDone]; split <;> simp (maxDischargeDepth := 99) [ok]

@[simp] theorem State.setPll_sound (s : State) (q : Nat) (on : Bool) (ok : s.sound fx) : (State.setPll s q on).sound fx := by
  simp (maxDischargeDepth := 99) +contextual [State.setPll, ok]

@[simp] theorem State.unlockPll_sound (s : State) (q : Nat) (ok : s.sound fx) : (State.unlockPll s q).sound fx := by
  simp (maxDischargeDepth := 99) [State.unlockPll, ok]

@[simp] theorem execQuadPllLock_sound (q : Fin 28) (s : State) (ok : s.sound fx) : soundOut fx (execQuadPllLock q s) := by
  simp only [execQuadPllLock]; split <;> simp (maxDischargeDepth := 99) [ok]

@[simp] theorem execQuadPllUnlock_sound (q : Fin 28) (s : State) (ok : s.sound fx) : soundOut fx (execQuadPllUnlock q s) := by
  simp [execQuadPllUnlock, ok]

@[simp] theorem State.enterPower_sound (s : State) (n p : Nat) (ok : s.sound fx) : (State.enterPower s n p).sound fx := by
  simp (maxDischargeDepth := 99) [State.enterPower, ok]

@[simp] theorem State.showPower_sound (s : State) (q : Nat) (ok : s.sound fx) : (State.showPower s q).sound fx := by
  simp (maxDischargeDepth := 99) [State.showPower, ok]

@[simp] theorem State.lanesOff_sound (s : State) (ok : s.sound fx) : (State.lanesOff s).sound fx := by
  simp (maxDischargeDepth := 99) +contextual [State.lanesOff, ok]

@[simp] theorem State.lanesWake_sound (s : State) (ok : s.sound fx) : (State.lanesWake s).sound fx := by
  simp (maxDischargeDepth := 99) +contextual [State.lanesWake, ok]

@[simp] theorem State.lanesBoot_sound (s : State) (ok : s.sound fx) : (State.lanesBoot s).sound fx := by
  simp (maxDischargeDepth := 99) +contextual [State.lanesBoot, ok]

@[simp] theorem State.lanesApply_sound (s old : State) (ok : s.sound fx) : (State.lanesApply s old).sound fx := by
  simp (maxDischargeDepth := 99) +contextual [State.lanesApply, ok]

@[simp] theorem State.clearLane_sound (s : State) (n : Nat) (ok : s.sound fx) : (State.clearLane s n).sound fx := by
  simp (maxDischargeDepth := 99) [State.clearLane, ok]

@[simp] theorem State.countPrbs_sound (s : State) (n bitsN errs : Nat) (ok : s.sound fx) : (State.countPrbs s n bitsN errs).sound fx := by
  simp [State.countPrbs, ok]

@[simp] theorem execPrbsSyncAcquired_sound (lane : Fin 120) (s : State) (ok : s.sound fx) : soundOut fx (execPrbsSyncAcquired lane s) := by
  simp only [execPrbsSyncAcquired]; split <;> simp (maxDischargeDepth := 99) [ok]

@[simp] theorem execPrbsBitError_sound (lane : Fin 120) (compared : BitVec 32) (s : State) (ok : s.sound fx) : soundOut fx (execPrbsBitError lane compared s) := by
  simp only [execPrbsBitError]; split <;> simp (maxDischargeDepth := 99) [ok]

@[simp] theorem execPrbsSyncLoss_sound (lane : Fin 120) (compared errors : BitVec 32) (s : State) (ok : s.sound fx) : soundOut fx (execPrbsSyncLoss lane compared errors s) := by
  simp only [execPrbsSyncLoss]; split <;> simp (maxDischargeDepth := 99) [ok]

@[simp] theorem execErrorInjection_sound (lane : Fin 120) (s : State) (ok : s.sound fx) : soundOut fx (execErrorInjection lane s) := by
  simp only [execErrorInjection]; (repeat' split) <;> simp (maxDischargeDepth := 99) [ok]

@[simp] theorem execEyeScanLaneDone_sound (valid : Bool) (counts : List (BitVec 32)) (s : State) (ok : s.sound fx) : soundOut fx (execEyeScanLaneDone valid counts s) := by
  simp only [execEyeScanLaneDone]; (repeat' split) <;> simp (maxDischargeDepth := 99) [ok]

@[simp] theorem cmdLnConfigure_sound {s : State} (ok : s.sound fx) (mb : Nat) (r : Request) : (cmdLnConfigure.act s mb r).next.sound fx := by
  simp (maxDischargeDepth := 99) [cmdLnConfigure, ok]

@[simp] theorem execLnConfigure_sound (mb : Fin 16) (req : Request) (s : State) (ok : s.sound fx) : soundOut fx (execLnConfigure mb req s) := by
  simp (maxDischargeDepth := 99) +contextual [execLnConfigure, ok]

@[simp] theorem cmdLnSetRate_sound {s : State} (ok : s.sound fx) (mb : Nat) (r : Request) : (cmdLnSetRate.act s mb r).next.sound fx := by
  simp [cmdLnSetRate, ok]

@[simp] theorem execLnSetRate_sound (mb : Fin 16) (req : Request) (s : State) (ok : s.sound fx) : soundOut fx (execLnSetRate mb req s) := by
  simp (maxDischargeDepth := 99) +contextual [execLnSetRate, ok]

@[simp] theorem cmdLnPower_sound {s : State} (ok : s.sound fx) (mb : Nat) (r : Request) : (cmdLnPower.act s mb r).next.sound fx := by
  simp [cmdLnPower, ok]

@[simp] theorem execLnPower_sound (mb : Fin 16) (req : Request) (s : State) (ok : s.sound fx) : soundOut fx (execLnPower mb req s) := by
  simp (maxDischargeDepth := 99) +contextual [execLnPower, ok]

@[simp] theorem cmdLnLoopback_sound {s : State} (ok : s.sound fx) (mb : Nat) (r : Request) : (cmdLnLoopback.act s mb r).next.sound fx := by
  simp [cmdLnLoopback, ok]

@[simp] theorem execLnLoopback_sound (mb : Fin 16) (req : Request) (s : State) (ok : s.sound fx) : soundOut fx (execLnLoopback mb req s) := by
  simp (maxDischargeDepth := 99) +contextual [execLnLoopback, ok]

@[simp] theorem cmdLnPrbsSet_sound {s : State} (ok : s.sound fx) (mb : Nat) (r : Request) : (cmdLnPrbsSet.act s mb r).next.sound fx := by
  simp (maxDischargeDepth := 99) [cmdLnPrbsSet, ok]

@[simp] theorem execLnPrbsSet_sound (mb : Fin 16) (req : Request) (s : State) (ok : s.sound fx) : soundOut fx (execLnPrbsSet mb req s) := by
  simp (maxDischargeDepth := 99) +contextual [execLnPrbsSet, ok]

@[simp] theorem cmdLnPrbsRead_sound {s : State} (ok : s.sound fx) (mb : Nat) (r : Request) : (cmdLnPrbsRead.act s mb r).next.sound fx := by
  simp (maxDischargeDepth := 99) [cmdLnPrbsRead, ok]

@[simp] theorem execLnPrbsRead_sound (mb : Fin 16) (req : Request) (s : State) (ok : s.sound fx) : soundOut fx (execLnPrbsRead mb req s) := by
  simp (maxDischargeDepth := 99) +contextual [execLnPrbsRead, ok]

@[simp] theorem cmdLnEyeScan_sound {s : State} (ok : s.sound fx) (mb : Nat) (r : Request) : (cmdLnEyeScan.act s mb r).next.sound fx := by
  simp [cmdLnEyeScan, ok]

@[simp] theorem execLnEyeScan_sound (mb : Fin 16) (req : Request) (s : State) (ok : s.sound fx) : soundOut fx (execLnEyeScan mb req s) := by
  simp (maxDischargeDepth := 99) +contextual [execLnEyeScan, ok]

@[simp] theorem cmdLnStatus_sound {s : State} (ok : s.sound fx) (mb : Nat) (r : Request) : (cmdLnStatus.act s mb r).next.sound fx := by
  simp [cmdLnStatus, ok]

@[simp] theorem execLnStatus_sound (mb : Fin 16) (req : Request) (s : State) (ok : s.sound fx) : soundOut fx (execLnStatus mb req s) := by
  simp (maxDischargeDepth := 99) +contextual [execLnStatus, ok]

@[simp] theorem cmdLnInject_sound {s : State} (ok : s.sound fx) (mb : Nat) (r : Request) : (cmdLnInject.act s mb r).next.sound fx := by
  simp (maxDischargeDepth := 99) [cmdLnInject, ok]

@[simp] theorem execLnInject_sound (mb : Fin 16) (req : Request) (s : State) (ok : s.sound fx) : soundOut fx (execLnInject mb req s) := by
  simp (maxDischargeDepth := 99) +contextual [execLnInject, ok]

end Sys2Proof.Machine
end

