-- ==== Sys2Proof/Laws/SoundPower.lean ====
section
/-!
SUPPORT. Laws/SoundPower.lean: library, modes of the device, clocks, heat, security keep every sparse memory in
canonical form, the queue of waiting commands, and what stands in fuses that no rule blows. One lemma for each function of the
state: a caller cites it and never unfolds the callee.
-/

namespace Sys2Proof.Machine

open Sys2Proof

variable {fx : Fixed}

/-! ### Library -/

@[simp] theorem State.dropDeadAdds_sound (s : State) (ok : s.sound fx) : (State.dropDeadAdds s).sound fx := by
  simp only [State.dropDeadAdds]
  refine State.showPlaced_sound _ (forEach_sound _ _ ok (fun e t ht => ?_))
  split <;> simp (maxDischargeDepth := 99) [ht]

@[simp] theorem readManifest_sound (s : State) (src : Nat) (ok : s.sound fx) : (readManifest s src).1.sound fx := by
  simp only [readManifest]; split <;> simp (maxDischargeDepth := 99) [ok]

theorem librarySpace_sound {s : State} {mb : Nat} {m : List Byte} {t : State} {a : Alloc} (h : s.sound fx)
    (e : librarySpace s mb m = some (t, a)) : t.sound fx := by
  simp only [librarySpace] at e
  split at e
  · cases e
  · exact State.allocate_sound h e

@[simp] theorem cmdPlcLibraryAdd_sound {s : State} (ok : s.sound fx) (mb : Nat) (r : Request) : (cmdPlcLibraryAdd.act s mb r).next.sound fx := by
  simp only [cmdPlcLibraryAdd]
  split
  · simp (maxDischargeDepth := 99) [ok]
  · rename_i u a e
    have : u.sound fx :=
      librarySpace_sound (s := (readManifest s.dropDeadAdds (le r.payload 0 8)).1) (by simp (maxDischargeDepth := 99) [ok]) e
    simp (maxDischargeDepth := 99) [this]

@[simp] theorem execPlcLibraryAdd_sound (mb : Fin 16) (req : Request) (s : State) (ok : s.sound fx) : soundOut fx (execPlcLibraryAdd mb req s) := by
  simp (maxDischargeDepth := 99) +contextual [execPlcLibraryAdd, ok]

@[simp] theorem pieceOutcome_sound (s : State) (src : Nat) (m : List Byte) (ok : s.sound fx) : (pieceOutcome s src m).1.sound fx := by
  simp only [pieceOutcome]; (repeat' split) <;> simp (maxDischargeDepth := 99) [ok]

@[simp] theorem libraryAddComplete_sound (s : State) (ok : s.sound fx) : (libraryAddComplete s).sound fx := by
  simp only [libraryAddComplete]; (repeat' split) <;> simp (maxDischargeDepth := 99) [ok]

@[simp] theorem execLibraryAddComplete_sound (s : State) (ok : s.sound fx) : soundOut fx (execLibraryAddComplete s) := by
  simp [execLibraryAddComplete, ok]

@[simp] theorem cmdPlcLibraryRemove_sound {s : State} (ok : s.sound fx) (mb : Nat) (r : Request) : (cmdPlcLibraryRemove.act s mb r).next.sound fx := by
  simp only [cmdPlcLibraryRemove]; split <;> simp (maxDischargeDepth := 99) [ok]

@[simp] theorem execPlcLibraryRemove_sound (mb : Fin 16) (req : Request) (s : State) (ok : s.sound fx) : soundOut fx (execPlcLibraryRemove mb req s) := by
  simp (maxDischargeDepth := 99) +contextual [execPlcLibraryRemove, ok]

@[simp] theorem cmdPlcLibraryList_sound {s : State} (ok : s.sound fx) (mb : Nat) (r : Request) : (cmdPlcLibraryList.act s mb r).next.sound fx := by
  simp [cmdPlcLibraryList, ok]

@[simp] theorem execPlcLibraryList_sound (mb : Fin 16) (req : Request) (s : State) (ok : s.sound fx) : soundOut fx (execPlcLibraryList mb req s) := by
  simp (maxDischargeDepth := 99) +contextual [execPlcLibraryList, ok]

/-! ### ModeEntry -/

@[simp] theorem State.driveDone_sound (s : State) (low : Bool) (ok : s.sound fx) : (State.driveDone s low).sound fx := by
  simp (maxDischargeDepth := 99) [State.driveDone, ok]

@[simp] theorem State.driveInit_sound (s : State) (low : Bool) (ok : s.sound fx) : (State.driveInit s low).sound fx := by
  simp (maxDischargeDepth := 99) [State.driveInit, ok]

@[simp] theorem State.driveAlarm_sound (s : State) (low : Bool) (ok : s.sound fx) : (State.driveAlarm s low).sound fx := by
  simp [State.driveAlarm, ok]

@[simp] theorem State.isolate_sound (s : State) (e : Nat) (ok : s.sound fx) : (State.isolate s e).sound fx := by
  simp (maxDischargeDepth := 99) [State.isolate, ok]

@[simp] theorem State.openAtTurn_sound (s : State) (es : List Nat) (ok : s.sound fx) : (State.openAtTurn s es).sound fx := by
  simp [State.openAtTurn, ok]

@[simp] theorem State.retakeBodies_sound (s : State) (ok : s.sound fx) : (State.retakeBodies s).sound fx := by
  simp [State.retakeBodies, ok]

@[simp] theorem State.seamsDown_sound (s : State) (ok : s.sound fx) : (State.seamsDown s).sound fx := by
  simp (maxDischargeDepth := 99) +contextual [State.seamsDown, ok]

@[simp] theorem State.abandonAnySlice_sound (s : State) (ok : s.sound fx) : (State.abandonAnySlice s).sound fx := by
  simp only [State.abandonAnySlice]; split <;> simp (maxDischargeDepth := 99) [ok]

@[simp] theorem State.closeStaging_sound (s : State) (ok : s.sound fx) : (State.closeStaging s).sound fx := by
  simp (maxDischargeDepth := 99) [State.closeStaging, ok]

@[simp] theorem State.dropStopped_sound (s : State) (ok : s.sound fx) : (State.dropStopped s).sound fx := by
  simp (maxDischargeDepth := 99) +contextual [State.dropStopped, ok]

@[simp] theorem State.dropBoot_sound (s : State) (ok : s.sound fx) : (State.dropBoot s).sound fx := by
  simp only [State.dropBoot]; (repeat' split) <;> simp (maxDischargeDepth := 99) +contextual [ok]

@[simp] theorem State.goMode_sound (s : State) (m cause : Nat) (ok : s.sound fx) : (State.goMode s m cause).sound fx := by
  simp (maxDischargeDepth := 99) [State.goMode, ok]

@[simp] theorem State.passThroughOff_sound (s : State) (ok : s.sound fx) : (State.passThroughOff s).sound fx := by
  simp (maxDischargeDepth := 99) +contextual [State.passThroughOff, ok]

@[simp] theorem State.dataRemoved_sound (s : State) (overCode : Nat) (ok : s.sound fx) : (State.dataRemoved s overCode).sound fx := by
  simp (maxDischargeDepth := 99) +contextual [State.dataRemoved, ok]

@[simp] theorem State.losslessStops_sound (s : State) (ok : s.sound fx) : (State.losslessStops s).sound fx := by
  simp (maxDischargeDepth := 99) +contextual [State.losslessStops, ok]

@[simp] theorem State.stopServices_sound (s : State) (qcause ecause : Nat) (sealing : Bool) (ok : s.sound fx) : (State.stopServices s qcause ecause sealing).sound fx := by
  simp (maxDischargeDepth := 99) [State.stopServices, ok]

@[simp] theorem State.setGated_sound (s : State) (lo hi : Nat) (on : Bool) (ok : s.sound fx) : (State.setGated s lo hi on).sound fx := by
  simp (maxDischargeDepth := 99) +contextual [State.setGated, ok]

@[simp] theorem State.ungateAll_sound (s : State) (ok : s.sound fx) : (State.ungateAll s).sound fx := by
  simp (maxDischargeDepth := 99) +contextual [State.ungateAll, ok]

@[simp] theorem State.holdRegions_sound (s : State) (ok : s.sound fx) : (State.holdRegions s).sound fx := by
  simp (maxDischargeDepth := 99) +contextual [State.holdRegions, ok]

@[simp] theorem State.variantResets_sound (s : State) (ok : s.sound fx) : (State.variantResets s).sound fx := by
  simp (maxDischargeDepth := 99) +contextual [State.variantResets, ok]

@[simp] theorem State.enterPowerOn_sound (s : State) (cause : Nat) (ok : s.sound fx) : (State.enterPowerOn s cause).sound fx := by
  simp (maxDischargeDepth := 99) +contextual [State.enterPowerOn, ok]

@[simp] theorem State.showUpdate_sound (s : State) (ok : s.sound fx) : (State.showUpdate s).sound fx := by
  simp [State.showUpdate, ok]

@[simp] theorem State.loadStore_sound (s : State) (ok : s.sound fx) : (State.loadStore s).sound fx := by
  simp (maxDischargeDepth := 99) +contextual [State.loadStore, ok]

@[simp] theorem State.runImage_sound (s : State) (slot : Nat) (ok : s.sound fx) : (State.runImage s slot).sound fx := by
  simp [State.runImage, ok]

@[simp] theorem State.setUpdate_sound (s : State) (st : Nat) (ok : s.sound fx) : (State.setUpdate s st).sound fx := by
  simp (maxDischargeDepth := 99) [State.setUpdate, ok]

@[simp] theorem selectImage_sound (s : State) (ok : s.sound fx) : (selectImage s).1.sound fx := by
  simp only [selectImage]; (repeat' split) <;> simp (maxDischargeDepth := 99) [ok]

@[simp] theorem State.showVault_sound (s : State) (ok : s.sound fx) : (State.showVault s).sound fx := by
  simp [State.showVault, ok]

@[simp] theorem State.deriveKeys_sound (s : State) (ok : s.sound fx) : (State.deriveKeys s).sound fx := by
  simp [State.deriveKeys, ok]

@[simp] theorem State.bootClearFabric_sound (s : State) (ok : s.sound fx) : (State.bootClearFabric s).sound fx := by
  simp (maxDischargeDepth := 99) +contextual [State.bootClearFabric, ok]

@[simp] theorem State.bootClearData_sound (s : State) (ok : s.sound fx) : (State.bootClearData s).sound fx := by
  simp (maxDischargeDepth := 99) +contextual [State.bootClearData, ok]

@[simp] theorem State.bootClearPaths_sound (s : State) (ok : s.sound fx) : (State.bootClearPaths s).sound fx := by
  simp (maxDischargeDepth := 99) +contextual [State.bootClearPaths, ok]

@[simp] theorem State.bootClearNoc_sound (s : State) (ok : s.sound fx) : (State.bootClearNoc s).sound fx := by
  simp [State.bootClearNoc, ok]

@[simp] theorem State.bootClearTests_sound (s : State) (ok : s.sound fx) : (State.bootClearTests s).sound fx := by
  simp [State.bootClearTests, ok]

@[simp] theorem State.bootClear_sound (s : State) (ok : s.sound fx) : (State.bootClear s).sound fx := by
  simp (maxDischargeDepth := 99) [State.bootClear, ok]

@[simp] theorem State.enableRail_sound (s : State) (k : Nat) (ok : s.sound fx) : (State.enableRail s k).sound fx := by
  simp only [State.enableRail]; (repeat' split) <;> simp (maxDischargeDepth := 99) [ok]

@[simp] theorem State.railAdvance_sound (s : State) (ok : s.sound fx) : (State.railAdvance s).sound fx := by
  simp only [State.railAdvance]; (repeat' split) <;> simp (maxDischargeDepth := 99) +contextual [ok]

@[simp] theorem State.railsStart_sound (s : State) (ok : s.sound fx) : (State.railsStart s).sound fx := by
  simp (maxDischargeDepth := 99) +contextual [State.railsStart, ok]

@[simp] theorem State.fpllRun_sound (s : State) (n : Nat) (on : Bool) (ok : s.sound fx) : (State.fpllRun s n on).sound fx := by
  simp (maxDischargeDepth := 99) [State.fpllRun, ok]

@[simp] theorem State.fpllStart_sound (s : State) (n : Nat) (ok : s.sound fx) : (State.fpllStart s n).sound fx := by
  simp (maxDischargeDepth := 99) [State.fpllStart, ok]

@[simp] theorem State.lehrRails_sound (s : State) (ok : s.sound fx) : (State.lehrRails s).sound fx := by
  simp (maxDischargeDepth := 99) +contextual [State.lehrRails, ok]

@[simp] theorem State.lehrClocks_sound (s : State) (ok : s.sound fx) : (State.lehrClocks s).sound fx := by
  simp (maxDischargeDepth := 99) [State.lehrClocks, ok]

@[simp] theorem State.enterSafeHold_sound (s : State) (cause : Nat) (ok : s.sound fx) : (State.enterSafeHold s cause).sound fx := by
  simp (maxDischargeDepth := 99) [State.enterSafeHold, ok]

@[simp] theorem State.sensorsAgain_sound (s : State) (ok : s.sound fx) : (State.sensorsAgain s).sound fx := by
  simp (maxDischargeDepth := 99) +contextual [State.sensorsAgain, ok]

@[simp] theorem State.enterBoot_sound (s : State) (cause : Nat) (image : Bool) (ok : s.sound fx) : (State.enterBoot s cause image).sound fx := by
  simp only [State.enterBoot]; split <;> simp (maxDischargeDepth := 99) [ok]

@[simp] theorem State.tryBoot_sound (s : State) (ok : s.sound fx) : (State.tryBoot s).sound fx := by
  simp [State.tryBoot, ok]

@[simp] theorem State.eraseVault_sound (s : State) (ok : s.sound fx) : (State.eraseVault s).sound fx := by
  simp (maxDischargeDepth := 99) +contextual [State.eraseVault, ok]

@[simp] theorem State.enterZeroized_sound (s : State) (cause : Nat) (ok : s.sound fx) : (State.enterZeroized s cause).sound fx := by
  simp (maxDischargeDepth := 99) +contextual [State.enterZeroized, ok]

@[simp] theorem State.zeroiseClear_sound (s : State) (ok : s.sound fx) : (State.zeroiseClear s).sound fx := by
  simp (maxDischargeDepth := 99) [State.zeroiseClear, ok]

@[simp] theorem State.lehrGates_sound (s : State) (ok : s.sound fx) : (State.lehrGates s).sound fx := by
  simp (maxDischargeDepth := 99) +contextual [State.lehrGates, ok]

@[simp] theorem State.lehrSupply_sound (s : State) (runs : List Nat) (ok : s.sound fx) : (State.lehrSupply s runs).sound fx := by
  simp (maxDischargeDepth := 99) +contextual [State.lehrSupply, ok]

@[simp] theorem State.losesFlops_sound (s : State) (ok : s.sound fx) : (State.losesFlops s).sound fx := by
  simp [State.losesFlops, ok]

@[simp] theorem State.enterLehr_sound (s : State) (ok : s.sound fx) : (State.enterLehr s).sound fx := by
  simp (maxDischargeDepth := 99) [State.enterLehr, ok]

@[simp] theorem State.resumeCheck_sound (s : State) (ok : s.sound fx) : (State.resumeCheck s).sound fx := by
  simp (maxDischargeDepth := 99) [State.resumeCheck, ok]

@[simp] theorem State.completeStop_sound (s : State) (ok : s.sound fx) : (State.completeStop s).sound fx := by
  simp (maxDischargeDepth := 99) [State.completeStop, ok]

@[simp] theorem State.stopFromLehr_sound (s : State) (ok : s.sound fx) : (State.stopFromLehr s).sound fx := by
  simp (maxDischargeDepth := 99) [State.stopFromLehr, ok]

@[simp] theorem State.beginResume_sound (s : State) (ok : s.sound fx) : (State.beginResume s).sound fx := by
  simp (maxDischargeDepth := 99) [State.beginResume, ok]

@[simp] theorem State.enterStop_sound (s : State) (cause : Nat) (ok : s.sound fx) : (State.enterStop s cause).sound fx := by
  simp (maxDischargeDepth := 99) [State.enterStop, ok]

@[simp] theorem State.stopProgress_sound (s : State) (ok : s.sound fx) : (State.stopProgress s).sound fx := by
  simp (maxDischargeDepth := 99) [State.stopProgress, ok]

@[simp] theorem State.stopSequence_sound (s : State) (ok : s.sound fx) : (State.stopSequence s).sound fx := by
  simp (maxDischargeDepth := 99) [State.stopSequence, ok]

@[simp] theorem State.enterPfail_sound (s : State) (ok : s.sound fx) : (State.enterPfail s).sound fx := by
  simp (maxDischargeDepth := 99) [State.enterPfail, ok]

@[simp] theorem State.takeWaiting_sound (s : State) (l : List Nat) (ok : s.sound fx) : (State.takeWaiting s l).sound fx := by
  simp only [State.takeWaiting]; (repeat' split) <;> simp (maxDischargeDepth := 99) +contextual [ok]

@[simp] theorem State.enterTrip_sound (s : State) (ok : s.sound fx) : (State.enterTrip s).sound fx := by
  simp (maxDischargeDepth := 99) +contextual [State.enterTrip, ok]

@[simp] theorem State.enterTest_sound (s : State) (cause : Nat) (ok : s.sound fx) : (State.enterTest s cause).sound fx := by
  simp (maxDischargeDepth := 99) +contextual [State.enterTest, ok]

/-! ### Clocks -/

@[simp] theorem State.tripSource_sound (s : State) (src : Nat) (ok : s.sound fx) : (State.tripSource s src).sound fx := by
  simp (maxDischargeDepth := 99) +contextual [State.tripSource, ok]

@[simp] theorem execClockMonitorWindow_sound (src : Fin 6) (n : BitVec 32) (s : State) (ok : s.sound fx) : soundOut fx (execClockMonitorWindow src n s) := by
  simp only [execClockMonitorWindow]; (repeat' split) <;> simp (maxDischargeDepth := 99) [ok]

@[simp] theorem execRefclkMeasured_sound (ref : Fin 2) (count : BitVec 32) (s : State) (ok : s.sound fx) : soundOut fx (execRefclkMeasured ref count s) := by
  simp only [execRefclkMeasured]; (repeat' split) <;> simp (maxDischargeDepth := 99) +contextual [ok]

@[simp] theorem execClockNodeSwitch_sound (node : Fin 11) (s : State) (ok : s.sound fx) : soundOut fx (execClockNodeSwitch node s) := by
  simp only [execClockNodeSwitch]; (repeat' split) <;> simp (maxDischargeDepth := 99) [ok]

@[simp] theorem execBasePllSlewEnd_sound (s : State) (ok : s.sound fx) : soundOut fx (execBasePllSlewEnd s) := by
  simp only [execBasePllSlewEnd]; split <;> simp (maxDischargeDepth := 99) [ok]

@[simp] theorem execFpllRelock_sound (n : Fin 8) (s : State) (ok : s.sound fx) : soundOut fx (execFpllRelock n s) := by
  simp only [execFpllRelock]; split <;> simp (maxDischargeDepth := 99) [ok]

@[simp] theorem execPllLossOfLock_sound (pll : Fin 11) (s : State) (ok : s.sound fx) : soundOut fx (execPllLossOfLock pll s) := by
  simp only [execPllLossOfLock]; (repeat' split) <;> simp (maxDischargeDepth := 99) [ok]

@[simp] theorem State.refuseValue_sound (s old : State) (x : RF) (bad : Bool) (ok : s.sound fx) : (State.refuseValue s old x bad).sound fx := by
  simp [State.refuseValue, ok]

@[simp] theorem State.fpllCheck_sound (s old : State) (n : Nat) (ok : s.sound fx) : (State.fpllCheck s old n).sound fx := by
  simp (maxDischargeDepth := 99) [State.fpllCheck, ok]

@[simp] theorem State.fpllRestart_sound (s old : State) (n : Nat) (ok : s.sound fx) : (State.fpllRestart s old n).sound fx := by
  simp (maxDischargeDepth := 99) [State.fpllRestart, ok]

@[simp] theorem State.fpllApply_sound (s old : State) (ok : s.sound fx) : (State.fpllApply s old).sound fx := by
  simp (maxDischargeDepth := 99) +contextual [State.fpllApply, ok]

@[simp] theorem execSysclkQualifyTimeout_sound (s : State) (ok : s.sound fx) : soundOut fx (execSysclkQualifyTimeout s) := by
  simp only [execSysclkQualifyTimeout]; split <;> simp (maxDischargeDepth := 99) [ok]

@[simp] theorem execAutoClockGate_sound (col : Fin 96) (s : State) (ok : s.sound fx) : soundOut fx (execAutoClockGate col s) := by
  simp only [execAutoClockGate]; split <;> simp (maxDischargeDepth := 99) [ok]

@[simp] theorem execForcedGateClose_sound (unit : Fin 264) (s : State) (ok : s.sound fx) : soundOut fx (execForcedGateClose unit s) := by
  simp only [execForcedGateClose]; (repeat' split) <;> simp (maxDischargeDepth := 99) [ok]

@[simp] theorem execGateRefused_sound (unit : Fin 264) (s : State) (ok : s.sound fx) : soundOut fx (execGateRefused unit s) := by
  simp only [execGateRefused]; split <;> simp (maxDischargeDepth := 99) [ok]

@[simp] theorem writeMeter_sound (s : State) (c v : Nat) (who : Requester) (ok : s.sound fx) : (writeMeter s c v who).sound fx := by
  simp (maxDischargeDepth := 99) [writeMeter, ok]

@[simp] theorem execFreqMeterStart_sound (c : Fin 8) (v : BitVec 32) (who : Requester) (s : State) (ok : s.sound fx) : soundOut fx (execFreqMeterStart c v who s) := by
  simp only [execFreqMeterStart]; split <;> simp (maxDischargeDepth := 99) [ok]

@[simp] theorem State.endGate_sound (s : State) (c : Nat) (ok : s.sound fx) : (State.endGate s c).sound fx := by
  simp [State.endGate, ok]

@[simp] theorem execFreqMeterGateEnd_sound (c : Fin 8) (count : BitVec 48) (s : State) (ok : s.sound fx) : soundOut fx (execFreqMeterGateEnd c count s) := by
  simp only [execFreqMeterGateEnd]; split <;> simp (maxDischargeDepth := 99) [ok]

@[simp] theorem execFreqMeterTimeout_sound (c : Fin 8) (s : State) (ok : s.sound fx) : soundOut fx (execFreqMeterTimeout c s) := by
  simp only [execFreqMeterTimeout]; split <;> simp (maxDischargeDepth := 99) [ok]

@[simp] theorem State.pmbus_sound (s : State) (addr : Nat) (failed : Bool) (ok : s.sound fx) : (State.pmbus s addr failed).sound fx := by
  simp only [State.pmbus]; (repeat' split) <;> simp (maxDischargeDepth := 99) [ok]

@[simp] theorem State.avs_sound (s : State) (k need : Nat) (ok : s.sound fx) : (State.avs s k need).sound fx := by
  simp [State.avs, ok]

@[simp] theorem State.readVin_sound (s : State) (mv : Nat) (ok : s.sound fx) : (State.readVin s mv).sound fx := by
  simp (maxDischargeDepth := 99) [State.readVin, ok]

@[simp] theorem execGafferPeriodicUpdate_sound (u : PeriodicUpdate) (s : State) (ok : s.sound fx) : soundOut fx (execGafferPeriodicUpdate u s) := by
  simp only [execGafferPeriodicUpdate]; (repeat' split) <;> simp (maxDischargeDepth := 99) +contextual [ok]

@[simp] theorem execAvsUrgentRaise_sound (tier : Fin 2) (mv : BitVec 12) (s : State) (ok : s.sound fx) : soundOut fx (execAvsUrgentRaise tier mv s) := by
  simp only [execAvsUrgentRaise]; split <;> simp (maxDischargeDepth := 99) [ok]

@[simp] theorem execPmbAlert_sound (addr : BitVec 7) (status : BitVec 16) (failed : Bool) (s : State) (ok : s.sound fx) : soundOut fx (execPmbAlert addr status failed s) := by
  simp only [execPmbAlert]; split <;> simp (maxDischargeDepth := 99) [ok]

@[simp] theorem execSupplyOkChange_sound (level : Bool) (s : State) (ok : s.sound fx) : soundOut fx (execSupplyOkChange level s) := by
  simp only [execSupplyOkChange]; split <;> simp (maxDischargeDepth := 99) [ok]

@[simp] theorem execRailGood_sound (k : Fin 21) (mv : BitVec 12) (s : State) (ok : s.sound fx) : soundOut fx (execRailGood k mv s) := by
  simp only [execRailGood]; split <;> simp (maxDischargeDepth := 99) [ok]

@[simp] theorem execRailOutOfBand_sound (k : Fin 21) (mv : BitVec 12) (s : State) (ok : s.sound fx) : soundOut fx (execRailOutOfBand k mv s) := by
  simp only [execRailOutOfBand]; split <;> simp (maxDischargeDepth := 99) [ok]

@[simp] theorem execRailOvervoltageCut_sound (k : Fin 21) (s : State) (ok : s.sound fx) : soundOut fx (execRailOvervoltageCut k s) := by
  simp only [execRailOvervoltageCut]; split <;> simp (maxDischargeDepth := 99) [ok]

@[simp] theorem execCoreSupplyBelowReset_sound (k : Fin 21) (s : State) (ok : s.sound fx) : soundOut fx (execCoreSupplyBelowReset k s) := by
  simp (maxDischargeDepth := 99) [execCoreSupplyBelowReset, ok]

@[simp] theorem execPorNLow_sound (s : State) (ok : s.sound fx) : soundOut fx (execPorNLow s) := by
  simp [execPorNLow, ok]

@[simp] theorem execPorNRise_sound (cfgMode devId : BitVec 3) (iopull : Bool) (s : State) (ok : s.sound fx) : soundOut fx (execPorNRise cfgMode devId iopull s) := by
  simp only [execPorNRise]; split <;> simp (maxDischargeDepth := 99) [ok]

@[simp] theorem execProgNLow_sound (s : State) (ok : s.sound fx) : soundOut fx (execProgNLow s) := by
  simp [execProgNLow, ok]

@[simp] theorem execProgNRelease_sound (s : State) (ok : s.sound fx) : soundOut fx (execProgNRelease s) := by
  simp [execProgNRelease, ok]

@[simp] theorem execFurnaceQualified_sound (s : State) (ok : s.sound fx) : soundOut fx (execFurnaceQualified s) := by
  simp [execFurnaceQualified, ok]

/-! ### Thermal -/

@[simp] theorem State.setZone_sound (s : State) (z : Nat) (x : Zone) (ok : s.sound fx) : (State.setZone s z x).sound fx := by
  simp [State.setZone, ok]

@[simp] theorem State.setPowerLimit_sound (s : State) (i : Nat) (p : PowerLimit) (ok : s.sound fx) : (State.setPowerLimit s i p).sound fx := by
  simp [State.setPowerLimit, ok]

@[simp] theorem State.showSteps_sound (s : State) (ok : s.sound fx) : (State.showSteps s).sound fx := by
  simp (maxDischargeDepth := 99) +contextual [State.showSteps, ok]

@[simp] theorem State.throttleClear_sound (s : State) (ok : s.sound fx) : (State.throttleClear s).sound fx := by
  simp [State.throttleClear, ok]

@[simp] theorem State.setStep_sound (s : State) (z n : Nat) (ok : s.sound fx) : (State.setStep s z n).sound fx := by
  simp [State.setStep, ok]

@[simp] theorem State.refreshZone_sound (s : State) (z : Nat) (ok : s.sound fx) : (State.refreshZone s z).sound fx := by
  simp (maxDischargeDepth := 99) +contextual [State.refreshZone, ok]

@[simp] theorem State.sensorEffects_sound (s : State) (n : Nat) (ok : s.sound fx) : (State.sensorEffects s n).sound fx := by
  simp (maxDischargeDepth := 99) [State.sensorEffects, ok]

@[simp] theorem State.declareBroken_sound (s : State) (n cause : Nat) (ok : s.sound fx) : (State.declareBroken s n cause).sound fx := by
  simp (maxDischargeDepth := 99) [State.declareBroken, ok]

@[simp] theorem State.brokenAfterBoot_sound (s : State) (ok : s.sound fx) : (State.brokenAfterBoot s).sound fx := by
  simp (maxDischargeDepth := 99) +contextual [State.brokenAfterBoot, ok]

@[simp] theorem State.reachLevel_sound (s : State) (z k : Nat) (ok : s.sound fx) : (State.reachLevel s z k).sound fx := by
  simp (maxDischargeDepth := 99) [State.reachLevel, ok]

@[simp] theorem State.judgeLevel_sound (s : State) (z k : Nat) (ok : s.sound fx) : (State.judgeLevel s z k).sound fx := by
  simp (maxDischargeDepth := 99) [State.judgeLevel, ok]

@[simp] theorem State.showLevel_sound (s : State) (z : Nat) (ok : s.sound fx) : (State.showLevel s z).sound fx := by
  simp [State.showLevel, ok]

@[simp] theorem State.judgeZone_sound (s : State) (z : Nat) (ok : s.sound fx) : (State.judgeZone s z).sound fx := by
  simp (maxDischargeDepth := 99) [State.judgeZone, ok]

@[simp] theorem State.thermalCauses_sound (s old : State) (ok : s.sound fx) : (State.thermalCauses s old).sound fx := by
  simp (maxDischargeDepth := 99) [State.thermalCauses, ok]

@[simp] theorem State.takeSample_sound (s : State) (raw : List Nat) (ok : s.sound fx) : (State.takeSample s raw).sound fx := by
  simp (maxDischargeDepth := 99) +contextual [State.takeSample, ok]

@[simp] theorem execThermalSample_sound (t : Vector (BitVec 12) 64) (s : State) (ok : s.sound fx) : soundOut fx (execThermalSample t s) := by
  simp only [execThermalSample]; (repeat' split) <;> simp (maxDischargeDepth := 99) +contextual [ok]

@[simp] theorem execSensorSelfTest_sound (failed : BitVec 64) (s : State) (ok : s.sound fx) : soundOut fx (execSensorSelfTest failed s) := by
  simp only [execSensorSelfTest]; (repeat' split) <;> simp (maxDischargeDepth := 99) +contextual [ok]

@[simp] theorem execThrottleStepRise_sound (zone : Fin 20) (s : State) (ok : s.sound fx) : soundOut fx (execThrottleStepRise zone s) := by
  simp only [execThrottleStepRise]; split <;> simp (maxDischargeDepth := 99) [ok]

@[simp] theorem execThrottleStepFall_sound (zone : Fin 20) (s : State) (ok : s.sound fx) : soundOut fx (execThrottleStepFall zone s) := by
  simp only [execThrottleStepFall]; split <;> simp (maxDischargeDepth := 99) [ok]

@[simp] theorem State.powerSteps_sound (s old : State) (ok : s.sound fx) : (State.powerSteps s old).sound fx := by
  simp (maxDischargeDepth := 99) [State.powerSteps, ok]

@[simp] theorem State.judgePower_sound (s : State) (i : Nat) (isOver under : Bool) (ok : s.sound fx) : (State.judgePower s i isOver under).sound fx := by
  simp (maxDischargeDepth := 99) [State.judgePower, ok]

@[simp] theorem State.takeReading_sound (s : State) (p : PowerReading) (ok : s.sound fx) : (State.takeReading s p).sound fx := by
  simp (maxDischargeDepth := 99) [State.takeReading, ok]

@[simp] theorem execPowerReading_sound (p : PowerReading) (s : State) (ok : s.sound fx) : soundOut fx (execPowerReading p s) := by
  simp only [execPowerReading]; split <;> simp (maxDischargeDepth := 99) [ok]

@[simp] theorem execPowerStepRise_sound (limit : Fin 3) (s : State) (ok : s.sound fx) : soundOut fx (execPowerStepRise limit s) := by
  simp only [execPowerStepRise]; split <;> simp (maxDischargeDepth := 99) [ok]

@[simp] theorem execPowerStepFall_sound (limit : Fin 3) (s : State) (ok : s.sound fx) : soundOut fx (execPowerStepFall limit s) := by
  simp only [execPowerStepFall]; split <;> simp (maxDischargeDepth := 99) [ok]

@[simp] theorem execThermalTrip_sound (sensor : Fin 64) (first second : BitVec 12) (s : State) (ok : s.sound fx) : soundOut fx (execThermalTrip sensor first second s) := by
  simp only [execThermalTrip]; split <;> simp (maxDischargeDepth := 99) [ok]

@[simp] theorem State.clearTrip_sound (s : State) (ok : s.sound fx) : (State.clearTrip s).sound fx := by
  simp (maxDischargeDepth := 99) +contextual [State.clearTrip, ok]

@[simp] theorem cmdThRead_sound {s : State} (ok : s.sound fx) (mb : Nat) (r : Request) : (cmdThRead.act s mb r).next.sound fx := by
  simp [cmdThRead, ok]

@[simp] theorem execThRead_sound (mb : Fin 16) (req : Request) (s : State) (ok : s.sound fx) : soundOut fx (execThRead mb req s) := by
  simp (maxDischargeDepth := 99) +contextual [execThRead, ok]

@[simp] theorem cmdThGetZones_sound {s : State} (ok : s.sound fx) (mb : Nat) (r : Request) : (cmdThGetZones.act s mb r).next.sound fx := by
  simp [cmdThGetZones, ok]

@[simp] theorem execThGetZones_sound (mb : Fin 16) (req : Request) (s : State) (ok : s.sound fx) : soundOut fx (execThGetZones mb req s) := by
  simp (maxDischargeDepth := 99) +contextual [execThGetZones, ok]

@[simp] theorem cmdThSetHysteresis_sound {s : State} (ok : s.sound fx) (mb : Nat) (r : Request) : (cmdThSetHysteresis.act s mb r).next.sound fx := by
  simp [cmdThSetHysteresis, ok]

@[simp] theorem execThSetHysteresis_sound (mb : Fin 16) (req : Request) (s : State) (ok : s.sound fx) : soundOut fx (execThSetHysteresis mb req s) := by
  simp (maxDischargeDepth := 99) +contextual [execThSetHysteresis, ok]

@[simp] theorem cmdPwReadRails_sound {s : State} (ok : s.sound fx) (mb : Nat) (r : Request) : (cmdPwReadRails.act s mb r).next.sound fx := by
  simp [cmdPwReadRails, ok]

@[simp] theorem execPwReadRails_sound (mb : Fin 16) (req : Request) (s : State) (ok : s.sound fx) : soundOut fx (execPwReadRails mb req s) := by
  simp (maxDischargeDepth := 99) +contextual [execPwReadRails, ok]

@[simp] theorem cmdPwGetBudget_sound {s : State} (ok : s.sound fx) (mb : Nat) (r : Request) : (cmdPwGetBudget.act s mb r).next.sound fx := by
  simp [cmdPwGetBudget, ok]

@[simp] theorem execPwGetBudget_sound (mb : Fin 16) (req : Request) (s : State) (ok : s.sound fx) : soundOut fx (execPwGetBudget mb req s) := by
  simp (maxDischargeDepth := 99) +contextual [execPwGetBudget, ok]

@[simp] theorem cmdPwSetLimit_sound {s : State} (ok : s.sound fx) (mb : Nat) (r : Request) : (cmdPwSetLimit.act s mb r).next.sound fx := by
  simp (maxDischargeDepth := 99) [cmdPwSetLimit, ok]

@[simp] theorem execPwSetLimit_sound (mb : Fin 16) (req : Request) (s : State) (ok : s.sound fx) : soundOut fx (execPwSetLimit mb req s) := by
  simp (maxDischargeDepth := 99) +contextual [execPwSetLimit, ok]

@[simp] theorem cmdThResume_sound {s : State} (ok : s.sound fx) (mb : Nat) (r : Request) : (cmdThResume.act s mb r).next.sound fx := by
  simp (maxDischargeDepth := 99) [cmdThResume, ok]

@[simp] theorem execThResume_sound (mb : Fin 16) (req : Request) (s : State) (ok : s.sound fx) : soundOut fx (execThResume mb req s) := by
  simp (maxDischargeDepth := 99) +contextual [execThResume, ok]

/-! ### Security -/

@[simp] theorem State.holdAlarm_sound (s : State) (ok : s.sound fx) : (State.holdAlarm s).sound fx := by
  simp [State.holdAlarm, ok]

@[simp] theorem State.raiseAlarm_sound (s : State) (source : Nat) (ok : s.sound fx) : (State.raiseAlarm s source).sound fx := by
  simp (maxDischargeDepth := 99) [State.raiseAlarm, ok]

@[simp] theorem execAlarmShield_sound (s : State) (ok : s.sound fx) : soundOut fx (execAlarmShield s) := by
  simp [execAlarmShield, ok]

@[simp] theorem execAlarmVoltage_sound (rail : Fin 3) (mv : BitVec 12) (s : State) (ok : s.sound fx) : soundOut fx (execAlarmVoltage rail mv s) := by
  simp only [execAlarmVoltage]; split <;> simp (maxDischargeDepth := 99) [ok]

@[simp] theorem execAlarmClock_sound (s : State) (ok : s.sound fx) : soundOut fx (execAlarmClock s) := by
  simp [execAlarmClock, ok]

@[simp] theorem execAlarmTemperature_sound (t : BitVec 12) (s : State) (ok : s.sound fx) : soundOut fx (execAlarmTemperature t s) := by
  rw [execAlarmTemperature, soundOut_ite]
  simp only [soundOut_next, State.raiseAlarm_sound _ _ ok, ok, ite_self]

@[simp] theorem execAlarmPulseEnd_sound (s : State) (ok : s.sound fx) : soundOut fx (execAlarmPulseEnd s) := by
  simp only [execAlarmPulseEnd]; split <;> simp (maxDischargeDepth := 99) [ok]

@[simp] theorem State.debugAlarm_sound (s old : State) (ok : s.sound fx) : (State.debugAlarm s old).sound fx := by
  simp [State.debugAlarm, ok]

@[simp] theorem credRow_sound (c : Cmd) (mb : Fin 16) (req : Request) (s : State) (h : s.sound fx)
    (hc : ∀ t m r, t.sound fx → (c.act t m r).next.sound fx) : soundOut fx (credRow c mb req s) := by
  have k := commandRow_sound c mb req s h hc
  simp only [credRow]
  generalize commandRow c mb req s = o at k
  cases o
  · exact State.debugAlarm_sound _ _ k
  all_goals trivial

@[simp] theorem execZeroiseClearComplete_sound (s : State) (ok : s.sound fx) : soundOut fx (execZeroiseClearComplete s) := by
  simp only [execZeroiseClearComplete]; split <;> simp (maxDischargeDepth := 99) [ok]

@[simp] theorem cmdScZeroise_sound {s : State} (ok : s.sound fx) (mb : Nat) (r : Request) : (cmdScZeroise.act s mb r).next.sound fx := by
  simp [cmdScZeroise, ok]

@[simp] theorem execScZeroise_sound (mb : Fin 16) (req : Request) (s : State) (ok : s.sound fx) : soundOut fx (execScZeroise mb req s) := by
  simp (maxDischargeDepth := 99) +contextual [execScZeroise, ok]

@[simp] theorem cmdScAttest_sound {s : State} (ok : s.sound fx) (mb : Nat) (r : Request) : (cmdScAttest.act s mb r).next.sound fx := by
  simp [cmdScAttest, ok]

@[simp] theorem execScAttest_sound (mb : Fin 16) (req : Request) (s : State) (ok : s.sound fx) : soundOut fx (execScAttest mb req s) := by
  simp (maxDischargeDepth := 99) +contextual [execScAttest, ok]

@[simp] theorem execAttestReportComplete_sound (s : State) (ok : s.sound fx) : soundOut fx (execAttestReportComplete s) := by
  simp only [execAttestReportComplete]; split <;> simp (maxDischargeDepth := 99) [ok]

@[simp] theorem cmdScGetLifecycle_sound {s : State} (ok : s.sound fx) (mb : Nat) (r : Request) : (cmdScGetLifecycle.act s mb r).next.sound fx := by
  simp [cmdScGetLifecycle, ok]

@[simp] theorem execScGetLifecycle_sound (mb : Fin 16) (req : Request) (s : State) (ok : s.sound fx) : soundOut fx (execScGetLifecycle mb req s) := by
  simp (maxDischargeDepth := 99) +contextual [execScGetLifecycle, ok]

@[simp] theorem State.eraseOwner_sound (s : State) (ok : s.sound fx) : (State.eraseOwner s).sound fx := by
  simp [State.eraseOwner, ok]

@[simp] theorem cmdScSetLifecycle_sound {s : State} (ok : s.sound fx) (mb : Nat) (r : Request) : (cmdScSetLifecycle.act s mb r).next.sound fx := by
  simp (maxDischargeDepth := 99) [cmdScSetLifecycle, ok]

@[simp] theorem execScSetLifecycle_sound (mb : Fin 16) (req : Request) (s : State) (ok : s.sound fx) : soundOut fx (execScSetLifecycle mb req s) := by
  simp (maxDischargeDepth := 99) +contextual [execScSetLifecycle, ok]

@[simp] theorem State.setLife_sound (s : State) (target : Nat) (ok : s.sound fx) : (State.setLife s target).sound fx := by
  simp (maxDischargeDepth := 99) [State.setLife, ok]

@[simp] theorem execLifecycleFusesBlown_sound (verified : Bool) (s : State) (ok : s.sound fx) : soundOut fx (execLifecycleFusesBlown verified s) := by
  simp only [execLifecycleFusesBlown]; (repeat' split) <;> simp (maxDischargeDepth := 99) [ok]

@[simp] theorem cmdScPresentCredential_sound {s : State} (ok : s.sound fx) (mb : Nat) (r : Request) : (cmdScPresentCredential.act s mb r).next.sound fx := by
  simp only [cmdScPresentCredential]; split <;> simp (maxDischargeDepth := 99) [ok]

@[simp] theorem execScPresentCredential_sound (mb : Fin 16) (req : Request) (s : State) (ok : s.sound fx) : soundOut fx (execScPresentCredential mb req s) := by
  simp (maxDischargeDepth := 99) +contextual [execScPresentCredential, ok]

@[simp] theorem execDebugOpenTimeout_sound (s : State) (ok : s.sound fx) : soundOut fx (execDebugOpenTimeout s) := by
  simp only [execDebugOpenTimeout]; split <;> simp (maxDischargeDepth := 99) [ok]

@[simp] theorem cmdScSetAlarmPolicy_sound {s : State} (ok : s.sound fx) (mb : Nat) (r : Request) : (cmdScSetAlarmPolicy.act s mb r).next.sound fx := by
  simp (maxDischargeDepth := 99) [cmdScSetAlarmPolicy, ok]

@[simp] theorem execScSetAlarmPolicy_sound (mb : Fin 16) (req : Request) (s : State) (ok : s.sound fx) : soundOut fx (execScSetAlarmPolicy mb req s) := by
  simp (maxDischargeDepth := 99) +contextual [execScSetAlarmPolicy, ok]

@[simp] theorem cmdScLoadOwnerKey_sound {s : State} (ok : s.sound fx) (mb : Nat) (r : Request) : (cmdScLoadOwnerKey.act s mb r).next.sound fx := by
  simp [cmdScLoadOwnerKey, ok]

@[simp] theorem execScLoadOwnerKey_sound (mb : Fin 16) (req : Request) (s : State) (ok : s.sound fx) : soundOut fx (execScLoadOwnerKey mb req s) := by
  simp (maxDischargeDepth := 99) +contextual [execScLoadOwnerKey, ok]

@[simp] theorem State.storeOwner_sound (s : State) (b : List Byte) (ok : s.sound fx) : (State.storeOwner s b).sound fx := by
  simp [State.storeOwner, ok]

@[simp] theorem execOwnerKeyLoadComplete_sound (verified : Bool) (s : State) (ok : s.sound fx) : soundOut fx (execOwnerKeyLoadComplete verified s) := by
  simp only [execOwnerKeyLoadComplete]; (repeat' split) <;> simp (maxDischargeDepth := 99) [ok]

@[simp] theorem cmdScSetOwnerLock_sound {s : State} (ok : s.sound fx) (mb : Nat) (r : Request) : (cmdScSetOwnerLock.act s mb r).next.sound fx := by
  simp only [cmdScSetOwnerLock]; split <;> simp (maxDischargeDepth := 99) [ok]

@[simp] theorem execScSetOwnerLock_sound (mb : Fin 16) (req : Request) (s : State) (ok : s.sound fx) : soundOut fx (execScSetOwnerLock mb req s) := by
  simp (maxDischargeDepth := 99) +contextual [execScSetOwnerLock, ok]

@[simp] theorem cmdScStoreReset_sound {s : State} (ok : s.sound fx) (mb : Nat) (r : Request) : (cmdScStoreReset.act s mb r).next.sound fx := by
  simp (maxDischargeDepth := 99) [cmdScStoreReset, ok]

@[simp] theorem execScStoreReset_sound (mb : Fin 16) (req : Request) (s : State) (ok : s.sound fx) : soundOut fx (execScStoreReset mb req s) := by
  simp (maxDischargeDepth := 99) +contextual [execScStoreReset, ok]

/-! ### Modes -/

@[simp] theorem doneAtOnce_sound (s : State) (mb : Nat) (r : Request) (status : Nat) (ok : s.sound fx) : (doneAtOnce s mb r status).sound fx := by
  simp [doneAtOnce, ok]

@[simp] theorem cmdModeGet_sound {s : State} (ok : s.sound fx) (mb : Nat) (r : Request) : (cmdModeGet.act s mb r).next.sound fx := by
  simp [cmdModeGet, ok]

@[simp] theorem execModeGet_sound (mb : Fin 16) (req : Request) (s : State) (ok : s.sound fx) : soundOut fx (execModeGet mb req s) := by
  simp (maxDischargeDepth := 99) +contextual [execModeGet, ok]

@[simp] theorem cmdModeStop_sound {s : State} (ok : s.sound fx) (mb : Nat) (r : Request) : (cmdModeStop.act s mb r).next.sound fx := by
  simp (maxDischargeDepth := 99) [cmdModeStop, ok]

@[simp] theorem execModeStop_sound (mb : Fin 16) (req : Request) (s : State) (ok : s.sound fx) : soundOut fx (execModeStop mb req s) := by
  simp (maxDischargeDepth := 99) +contextual [execModeStop, ok]

@[simp] theorem cmdModeResume_sound {s : State} (ok : s.sound fx) (mb : Nat) (r : Request) : (cmdModeResume.act s mb r).next.sound fx := by
  simp only [cmdModeResume]; split <;> simp (maxDischargeDepth := 99) [ok]

@[simp] theorem execModeResume_sound (mb : Fin 16) (req : Request) (s : State) (ok : s.sound fx) : soundOut fx (execModeResume mb req s) := by
  simp (maxDischargeDepth := 99) +contextual [execModeResume, ok]

@[simp] theorem cmdModeEnterLehr_sound {s : State} (ok : s.sound fx) (mb : Nat) (r : Request) : (cmdModeEnterLehr.act s mb r).next.sound fx := by
  simp [cmdModeEnterLehr, ok]

@[simp] theorem execModeEnterLehr_sound (mb : Fin 16) (req : Request) (s : State) (ok : s.sound fx) : soundOut fx (execModeEnterLehr mb req s) := by
  simp (maxDischargeDepth := 99) +contextual [execModeEnterLehr, ok]

@[simp] theorem cmdModeWake_sound {s : State} (ok : s.sound fx) (mb : Nat) (r : Request) : (cmdModeWake.act s mb r).next.sound fx := by
  simp (maxDischargeDepth := 99) [cmdModeWake, ok]

@[simp] theorem execModeWake_sound (mb : Fin 16) (req : Request) (s : State) (ok : s.sound fx) : soundOut fx (execModeWake mb req s) := by
  simp (maxDischargeDepth := 99) +contextual [execModeWake, ok]

@[simp] theorem cmdModeSafeHoldExit_sound {s : State} (ok : s.sound fx) (mb : Nat) (r : Request) : (cmdModeSafeHoldExit.act s mb r).next.sound fx := by
  simp [cmdModeSafeHoldExit, ok]

@[simp] theorem execModeSafeHoldExit_sound (mb : Fin 16) (req : Request) (s : State) (ok : s.sound fx) : soundOut fx (execModeSafeHoldExit mb req s) := by
  simp (maxDischargeDepth := 99) +contextual [execModeSafeHoldExit, ok]

@[simp] theorem cmdModeSetPfailPolicy_sound {s : State} (ok : s.sound fx) (mb : Nat) (r : Request) : (cmdModeSetPfailPolicy.act s mb r).next.sound fx := by
  simp (maxDischargeDepth := 99) [cmdModeSetPfailPolicy, ok]

@[simp] theorem execModeSetPfailPolicy_sound (mb : Fin 16) (req : Request) (s : State) (ok : s.sound fx) : soundOut fx (execModeSetPfailPolicy mb req s) := by
  simp (maxDischargeDepth := 99) +contextual [execModeSetPfailPolicy, ok]

@[simp] theorem cmdModeGetYields_sound {s : State} (ok : s.sound fx) (mb : Nat) (r : Request) : (cmdModeGetYields.act s mb r).next.sound fx := by
  simp (maxDischargeDepth := 99) [cmdModeGetYields, ok]

@[simp] theorem execModeGetYields_sound (mb : Fin 16) (req : Request) (s : State) (ok : s.sound fx) : soundOut fx (execModeGetYields mb req s) := by
  simp (maxDischargeDepth := 99) +contextual [execModeGetYields, ok]

@[simp] theorem execFabricStopAckEnd_sound (s : State) (ok : s.sound fx) : soundOut fx (execFabricStopAckEnd s) := by
  simp only [execFabricStopAckEnd]; split <;> simp (maxDischargeDepth := 99) [ok]

@[simp] theorem execPfailNFall_sound (s : State) (ok : s.sound fx) : soundOut fx (execPfailNFall s) := by
  simp [execPfailNFall, ok]

@[simp] theorem execPfailFilterExpiry_sound (s : State) (ok : s.sound fx) : soundOut fx (execPfailFilterExpiry s) := by
  simp only [execPfailFilterExpiry]; (repeat' split) <;> simp (maxDischargeDepth := 99) [ok]

@[simp] theorem execPfailNRise_sound (s : State) (ok : s.sound fx) : soundOut fx (execPfailNRise s) := by
  simp (maxDischargeDepth := 99) [execPfailNRise, ok]

@[simp] theorem execPfailAutoResume_sound (s : State) (ok : s.sound fx) : soundOut fx (execPfailAutoResume s) := by
  simp only [execPfailAutoResume]; split <;> simp (maxDischargeDepth := 99) [ok]

@[simp] theorem State.warmRestart_sound (s : State) (causeBit : Nat) (ok : s.sound fx) : (State.warmRestart s causeBit).sound fx := by
  simp (maxDischargeDepth := 99) [State.warmRestart, ok]

@[simp] theorem execLockstepMismatch_sound (s : State) (ok : s.sound fx) : soundOut fx (execLockstepMismatch s) := by
  simp [execLockstepMismatch, ok]

@[simp] theorem execWatchdogExpiry_sound (s : State) (ok : s.sound fx) : soundOut fx (execWatchdogExpiry s) := by
  simp [execWatchdogExpiry, ok]

@[simp] theorem execGafferSramUe_sound (s : State) (ok : s.sound fx) : soundOut fx (execGafferSramUe s) := by
  simp [execGafferSramUe, ok]

@[simp] theorem execFwFaultRestart_sound (s : State) (ok : s.sound fx) : soundOut fx (execFwFaultRestart s) := by
  simp [execFwFaultRestart, ok]

@[simp] theorem State.restartAnswers_sound (s : State) (ok : s.sound fx) : (State.restartAnswers s).sound fx := by
  simp (maxDischargeDepth := 99) +contextual [State.restartAnswers, ok]

@[simp] theorem execWarmRestartComplete_sound (s : State) (ok : s.sound fx) : soundOut fx (execWarmRestartComplete s) := by
  simp only [execWarmRestartComplete]; (repeat' split) <;> simp (maxDischargeDepth := 99) +contextual [ok]

@[simp] theorem execGafferHeartbeatTick_sound (s : State) (ok : s.sound fx) : soundOut fx (execGafferHeartbeatTick s) := by
  simp only [execGafferHeartbeatTick]; split <;> simp (maxDischargeDepth := 99) [ok]

end Sys2Proof.Machine
end

