-- ==== Sys2Proof/Laws/SoundPlacement.lean ====
section
/-!
SUPPORT. Laws/SoundPlacement.lean: placement, self-test, configuration, update, arrays keep every sparse memory in
canonical form, the queue of waiting commands, and what stands in fuses that no rule blows. One lemma for each function of the
state: a caller cites it and never unfolds the callee.
-/

namespace Sys2Proof.Machine

open Sys2Proof

variable {fx : Fixed}

/-! ### Placement -/

@[simp] theorem State.freshBanks_sound (s : State) (l : List Nat) (ok : s.sound fx) : (State.freshBanks s l).sound fx := by
  simp [State.freshBanks, ok]

@[simp] theorem State.freshEngines_sound (s : State) (l : List Nat) (ok : s.sound fx) : (State.freshEngines s l).sound fx := by
  simp (maxDischargeDepth := 99) +contextual [State.freshEngines, ok]

theorem bestPlan_mem {l : List (Except Nat Plan)} {p : Plan} (h : bestPlan l = some p) : .ok p ∈ l := by
  have key : ∀ (l : List (Except Nat Plan)) (b : Option Plan) (p : Plan),
      l.foldl (fun (b : Option Plan) x => match x, b with
        | .ok p, some q => if lexLt p.rank q.rank then some p else b
        | .ok p, none => some p
        | .error _, _ => b) b = some p → b = some p ∨ .ok p ∈ l := by
    intro l
    induction l with
    | nil => intro b p h; exact .inl h
    | cons x l ih =>
      intro b p h
      rcases ih _ _ h with k | k
      · revert k
        cases x with
        | error e => intro k; exact .inl k
        | ok q =>
          cases b with
          | none => intro k; cases k; exact .inr (List.mem_cons_self ..)
          | some r =>
            simp only
            split
            · intro k; cases k; exact .inr (List.mem_cons_self ..)
            · intro k; exact .inl k
      · exact .inr (List.mem_cons_of_mem _ k)
  rcases key l none p h with k | k
  · cases k
  · exact k

theorem takeBuffer_sound {s : State} {w : Want} {rs : List Nat} {held : List Holding} {i : Nat} {e : List Byte} {t : State}
    {h : Holding} (ok : s.sound fx) (k : takeBuffer s w rs held i e = some (t, h)) : t.sound fx := by
  simp only [takeBuffer] at k
  split at k
  · split at k
    · cases k
    · split at k
      · obtain ⟨rfl, -⟩ := Prod.mk.inj (Option.some.inj k)
        exact ok
      · cases k
  · split at k
    · cases k
    · split at k
      · split at k
        · split at k
          · obtain ⟨rfl, -⟩ := Prod.mk.inj (Option.some.inj k)
            simp [ok]
          · cases k
        · cases k
      · split at k
        · split at k
          · rename_i a
            obtain ⟨rfl, -⟩ := Prod.mk.inj (Option.some.inj k)
            simp [State.allocate_sound ok a]
          · cases k
        · cases k

theorem takeAll_sound {f : State → List Holding → Nat → List Byte → Option (State × Holding)}
    (hf : ∀ s l i e t h, s.sound fx → f s l i e = some (t, h) → t.sound fx) (l : List (Nat × List Byte)) (s : State)
    (held : List Holding) {t : State} {out : List Holding} (ok : s.sound fx) (h : takeAll f l s held = some (t, out)) :
    t.sound fx := by
  induction l generalizing s held with
  | nil =>
    obtain ⟨rfl, -⟩ := Prod.mk.inj (Option.some.inj h)
    exact ok
  | cons x l ih =>
    simp only [takeAll] at h
    split at h
    · rename_i b k e
      exact ih _ _ (hf _ _ _ _ _ _ ok e) h
    · cases h

theorem takeBuffers_sound {s : State} {w : Want} {rs : List Nat} {held out : List Holding} {t : State} (ok : s.sound fx)
    (h : takeBuffers s w rs held = some (t, out)) : t.sound fx :=
  takeAll_sound (fun _ _ _ _ _ _ => takeBuffer_sound) _ _ _ ok h

theorem tryCandidate_sound {s : State} {w : Want} {o p : Nat} {rs : List Nat} {q : Plan} (ok : s.sound fx)
    (h : tryCandidate s w o p rs = .ok q) : q.next.sound fx := by
  simp only [tryCandidate] at h
  repeat' split at h
  all_goals first
    | cases h; done
    | (cases h; exact takeBuffers_sound ok ‹_›)

theorem planFor_sound {s : State} {w : Want} {q : Plan} (ok : s.sound fx) (h : planFor s w = .ok q) : q.next.sound fx := by
  simp only [planFor] at h
  split at h
  · rename_i p e
    cases h
    obtain ⟨x, -, k⟩ := List.mem_map.mp (bestPlan_mem e)
    exact tryCandidate_sound ok k
  · split at h <;> cases h

@[simp] theorem State.formGroup_sound (s : State) (p : Plan) (ok : s.sound fx) : (State.formGroup s p).sound fx := by
  simp only [State.formGroup]; (repeat' split) <;> simp (maxDischargeDepth := 99) +contextual [ok]

@[simp] theorem State.equip_sound (s : State) (p : Placement) (old : List Holding) (hand : Bool) (ok : s.sound fx) : (State.equip s p old hand).sound fx := by
  simp (maxDischargeDepth := 99) +contextual [State.equip, ok]

@[simp] theorem placePlan_sound (p : Plan) (entryInit : Bool) (op : Option (Nat × Nat)) (switch : Bool)
    (ok : p.next.sound fx) : (placePlan p entryInit op switch).sound fx := by
  simp (maxDischargeDepth := 99) [placePlan, ok]

@[simp] theorem migratePlan_sound (src : Placement) (p : Plan) (op : Option (Nat × Nat)) (ok : p.next.sound fx) :
    (migratePlan src p op).sound fx := by
  simp (maxDischargeDepth := 99) [migratePlan, ok]

@[simp] theorem State.setMigration_sound (s : State) (m : Migration) (ok : s.sound fx) : (State.setMigration s m).sound fx := by
  simp [State.setMigration, ok]

@[simp] theorem State.migrationSwitch_sound (s : State) (m : Migration) (wanted : Bool) (ok : s.sound fx) : (State.migrationSwitch s m wanted).sound fx := by
  simp [State.migrationSwitch, ok]

@[simp] theorem State.dropSwitch_sound (s : State) (key plane : Nat) (ok : s.sound fx) : (State.dropSwitch s key plane).sound fx := by
  simp [State.dropSwitch, ok]

@[simp] theorem migrateLoaded_sound (s : State) (l : Load) (fail : Bool) (ok : s.sound fx) : (migrateLoaded s l fail).sound fx := by
  simp only [migrateLoaded]; (repeat' split) <;> simp (maxDischargeDepth := 99) +contextual [ok]

@[simp] theorem State.migrationMoves_sound (s : State) (m : Migration) (ok : s.sound fx) : (State.migrationMoves s m).sound fx := by
  simp only [State.migrationMoves]
  split
  · exact ok
  · refine forEach_sound _ _ (State.setMigration_sound _ _ (forEach_sound _ _ (forEach_sound _ _ (forEach_sound _ _ ?_ ?_) ?_) ?_)) ?_
    · simp (maxDischargeDepth := 99) [ok]
    · intro h t ht
      simp (maxDischargeDepth := 99) [ht]
    · intro h t ht
      exact forEach_sound _ _ ht (fun b u hu => by simp [hu])
    · intro h t ht
      split <;> simp (maxDischargeDepth := 99) [ht]
    · intro r t ht
      simp [ht]

@[simp] theorem State.migrationEnds_sound (s : State) (m : Migration) (ok : s.sound fx) : (State.migrationEnds s m).sound fx := by
  simp (maxDischargeDepth := 99) +contextual [State.migrationEnds, ok]

@[simp] theorem State.setMoved_sound (s : State) (m : SetMove) (ok : s.sound fx) : (State.setMoved s m).sound fx := by
  simp (maxDischargeDepth := 99) +contextual [State.setMoved, ok]

@[simp] theorem State.migrationsAtTurn_sound (s : State) (ok : s.sound fx) : (State.migrationsAtTurn s).sound fx := by
  simp only [State.migrationsAtTurn]
  refine forEach_sound _ _ (forEach_sound _ _ ok (fun m t ht => by simp [ht])) (fun m t ht => ?_)
  split
  · split
    · split <;> simp (maxDischargeDepth := 99) [ht]
    · simp (maxDischargeDepth := 99) [ht]
  · split <;> simp (maxDischargeDepth := 99) [ht]

@[simp] theorem execBankCopyStart_sound (s : State) (ok : s.sound fx) : soundOut fx (execBankCopyStart s) := by
  simp only [execBankCopyStart]; split <;> simp (maxDischargeDepth := 99) [ok]

theorem foldl_cells_sound (l : List Host.Cell) {m : List Host.Cell} (h : bytesCanonical m) :
    bytesCanonical (l.foldl (fun m e => tblSet (fun _ => 0) m e.1 e.2) m) := by
  induction l generalizing m with
  | nil => exact h
  | cons e l ih => exact ih (tblWf_tblSet h _ _)

@[simp] theorem State.copyBank_sound (s : State) (old new : Nat) (ok : s.sound fx) : (s.copyBank old new).sound fx := by
  have h := State.zeroBanks_sound s [new] ok
  exact ⟨h.1, h.2.1, h.2.2.1, foldl_cells_sound _ h.2.2.2.1, h.2.2.2.2⟩

@[simp] theorem State.copySet_sound (s : State) (old new : List Nat) (ok : s.sound fx) : (State.copySet s old new).sound fx := by
  simp (maxDischargeDepth := 99) +contextual [State.copySet, ok]

@[simp] theorem execBankCopyEnd_sound (s : State) (ok : s.sound fx) : soundOut fx (execBankCopyEnd s) := by
  simp only [execBankCopyEnd]; (repeat' split) <;> simp (maxDischargeDepth := 99) +contextual [ok]

@[simp] theorem cmdPlcPlace_sound {s : State} (ok : s.sound fx) (mb : Nat) (r : Request) : (cmdPlcPlace.act s mb r).next.sound fx := by
  simp only [cmdPlcPlace]
  split
  · simp (maxDischargeDepth := 99) [ok]
  · simp (maxDischargeDepth := 99) [planFor_sound ok ‹_›]

@[simp] theorem execPlcPlace_sound (mb : Fin 16) (req : Request) (s : State) (ok : s.sound fx) : soundOut fx (execPlcPlace mb req s) := by
  simp (maxDischargeDepth := 99) +contextual [execPlcPlace, ok]

@[simp] theorem cmdPlcUnplace_sound {s : State} (ok : s.sound fx) (mb : Nat) (r : Request) : (cmdPlcUnplace.act s mb r).next.sound fx := by
  simp [cmdPlcUnplace, ok]

@[simp] theorem execPlcUnplace_sound (mb : Fin 16) (req : Request) (s : State) (ok : s.sound fx) : soundOut fx (execPlcUnplace mb req s) := by
  simp (maxDischargeDepth := 99) +contextual [execPlcUnplace, ok]

theorem movePlan_sound {s : State} {mb : Nat} {p : Placement} {hints : List (Nat × Nat)} {q : Plan} (ok : s.sound fx)
    (h : movePlan s mb p hints = .ok q) : q.next.sound fx := by
  simp only [movePlan] at h
  split at h
  · cases h
  · exact planFor_sound ok h

@[simp] theorem cmdPlcMigrate_sound {s : State} (ok : s.sound fx) (mb : Nat) (r : Request) : (cmdPlcMigrate.act s mb r).next.sound fx := by
  simp only [cmdPlcMigrate]
  split
  · simp (maxDischargeDepth := 99) [ok]
  · split
    · simp (maxDischargeDepth := 99) [ok]
    · simp (maxDischargeDepth := 99) [movePlan_sound ok ‹_›]

@[simp] theorem execPlcMigrate_sound (mb : Fin 16) (req : Request) (s : State) (ok : s.sound fx) : soundOut fx (execPlcMigrate mb req s) := by
  simp (maxDischargeDepth := 99) +contextual [execPlcMigrate, ok]

@[simp] theorem cmdPlcReport_sound {s : State} (ok : s.sound fx) (mb : Nat) (r : Request) : (cmdPlcReport.act s mb r).next.sound fx := by
  simp only [cmdPlcReport]; split <;> simp (maxDischargeDepth := 99) [ok]

@[simp] theorem execPlcReport_sound (mb : Fin 16) (req : Request) (s : State) (ok : s.sound fx) : soundOut fx (execPlcReport mb req s) := by
  simp (maxDischargeDepth := 99) +contextual [execPlcReport, ok]

@[simp] theorem cmdPlcSetHints_sound {s : State} (ok : s.sound fx) (mb : Nat) (r : Request) : (cmdPlcSetHints.act s mb r).next.sound fx := by
  simp [cmdPlcSetHints, ok]

@[simp] theorem execPlcSetHints_sound (mb : Fin 16) (req : Request) (s : State) (ok : s.sound fx) : soundOut fx (execPlcSetHints mb req s) := by
  simp (maxDischargeDepth := 99) +contextual [execPlcSetHints, ok]

/-! ### SelfTest -/

@[simp] theorem State.mapUnit_sound (s : State) (u : Nat) (ok : s.sound fx) : (State.mapUnit s u).sound fx := by
  simp (maxDischargeDepth := 99) [State.mapUnit, ok]

theorem State.moveSet_sound {s t : State} {h : Holding} (ok : s.sound fx) (e : s.moveSet h = some t) : t.sound fx := by
  simp only [State.moveSet] at e
  split at e
  · cases e; exact ok
  · obtain ⟨n, -, rfl⟩ := Option.map_eq_some_iff.mp e
    simp (maxDischargeDepth := 99) [ok]

theorem foldl_bind_sound {α : Type} (f : State → α → Option State) (hf : ∀ s a t, s.sound fx → f s a = some t → t.sound fx)
    (l : List α) (o : Option State) {t : State} (ok : ∀ s, o = some s → s.sound fx)
    (h : l.foldl (fun (acc : Option State) a => acc.bind (fun v => f v a)) o = some t) : t.sound fx := by
  induction l generalizing o with
  | nil => exact ok t h
  | cons a l ih =>
    refine ih _ (fun s e => ?_) h
    cases o with
    | none => cases e
    | some u => exact hf u a s (ok u rfl) e

theorem State.drainHolder_sound {s t : State} {u : Nat} {p : Placement} (ok : s.sound fx) (e : s.drainHolder u p = some t) :
    t.sound fx := by
  simp only [State.drainHolder] at e
  split at e
  · cases e; exact ok
  · split at e
    · exact foldl_bind_sound (fun t h => t.moveSet h) (fun _ _ _ => State.moveSet_sound) _ _
        (fun v hv => by cases hv; exact ok) e
    · split at e
      · cases e
      · split at e
        · cases e
        · cases e
          simp [movePlan_sound ok ‹_›]

@[simp] theorem State.setSlice_sound (s : State) (sl : Option Slice) (ok : s.sound fx) : (State.setSlice s sl).sound fx := by
  simp [State.setSlice, ok]

@[simp] theorem State.deferSlice_sound (s : State) (sl : Slice) (drain : Bool) (ok : s.sound fx) : (State.deferSlice s sl drain).sound fx := by
  simp (maxDischargeDepth := 99) [State.deferSlice, ok]

@[simp] theorem State.drainSlice_sound (s : State) (sl : Slice) (ok : s.sound fx) : (State.drainSlice s sl).sound fx := by
  simp only [State.drainSlice]
  split
  · exact ok
  · split
    · simp (maxDischargeDepth := 99) [ok]
    · split
      · rename_i e
        exact foldl_bind_sound (fun v p => v.drainHolder sl.unit p) (fun _ _ _ => State.drainHolder_sound) _ _
          (fun v hv => by cases hv; exact ok) e
      · simp (maxDischargeDepth := 99) [ok]

@[simp] theorem State.startSlice_sound (s : State) (u : Nat) (user : Bool) (ok : s.sound fx) : (State.startSlice s u user).sound fx := by
  simp [State.startSlice, ok]

@[simp] theorem execSelfTestDrain_sound (kind : Fin 6) (s : State) (ok : s.sound fx) : soundOut fx (execSelfTestDrain kind s) := by
  simp only [execSelfTestDrain]; (repeat' split) <;> simp (maxDischargeDepth := 99) [ok]

@[simp] theorem State.handOver_sound (s : State) (sl : Slice) (ok : s.sound fx) : (State.handOver s sl).sound fx := by
  simp only [State.handOver]; (repeat' split) <;> simp (maxDischargeDepth := 99) +contextual [ok]

@[simp] theorem State.nextUnit_sound (s : State) (ok : s.sound fx) : (State.nextUnit s).sound fx := by
  simp only [State.nextUnit]; (repeat' split) <;> simp (maxDischargeDepth := 99) [ok]

@[simp] theorem State.endSlice_sound (s : State) (sl : Slice) (ok : s.sound fx) : (State.endSlice s sl).sound fx := by
  simp (maxDischargeDepth := 99) [State.endSlice, ok]

@[simp] theorem State.handBack_sound (s : State) (sl : Slice) (ok : s.sound fx) : (State.handBack s sl).sound fx := by
  simp (maxDischargeDepth := 99) +contextual [State.handBack, ok]

@[simp] theorem State.overdueUnits_sound (s : State) (ok : s.sound fx) : (State.overdueUnits s).sound fx := by
  simp (maxDischargeDepth := 99) +contextual [State.overdueUnits, ok]

@[simp] theorem State.sliceAtTurn_sound (s : State) (ok : s.sound fx) : (State.sliceAtTurn s).sound fx := by
  simp only [State.sliceAtTurn]; split <;> simp (maxDischargeDepth := 99) [ok]

@[simp] theorem execSliceTestEnd_sound (fail : Bool) (detail : BitVec 16) (s : State) (ok : s.sound fx) : soundOut fx (execSliceTestEnd fail detail s) := by
  simp only [execSliceTestEnd]; (repeat' split) <;> simp (maxDischargeDepth := 99) [ok]

@[simp] theorem State.testsDone_sound (s : State) (tested : List Nat) (fails : List (Nat × Nat)) (keep : Bool) (ok : s.sound fx) : (State.testsDone s tested fails keep).sound fx := by
  simp (maxDischargeDepth := 99) +contextual [State.testsDone, ok]

@[simp] theorem execTestModeEnd_sound (fails : List (BitVec 10 × BitVec 16)) (s : State) (ok : s.sound fx) : soundOut fx (execTestModeEnd fails s) := by
  simp only [execTestModeEnd]; (repeat' split) <;> simp (maxDischargeDepth := 99) +contextual [ok]

@[simp] theorem cmdBtRun_sound {s : State} (ok : s.sound fx) (mb : Nat) (r : Request) : (cmdBtRun.act s mb r).next.sound fx := by
  simp only [cmdBtRun]; split <;> simp (maxDischargeDepth := 99) [ok]

@[simp] theorem execBtRun_sound (mb : Fin 16) (req : Request) (s : State) (ok : s.sound fx) : soundOut fx (execBtRun mb req s) := by
  simp (maxDischargeDepth := 99) +contextual [execBtRun, ok]

@[simp] theorem cmdBtSetSchedule_sound {s : State} (ok : s.sound fx) (mb : Nat) (r : Request) : (cmdBtSetSchedule.act s mb r).next.sound fx := by
  simp (maxDischargeDepth := 99) [cmdBtSetSchedule, ok]

@[simp] theorem execBtSetSchedule_sound (mb : Fin 16) (req : Request) (s : State) (ok : s.sound fx) : soundOut fx (execBtSetSchedule mb req s) := by
  simp (maxDischargeDepth := 99) +contextual [execBtSetSchedule, ok]

@[simp] theorem cmdBtStatus_sound {s : State} (ok : s.sound fx) (mb : Nat) (r : Request) : (cmdBtStatus.act s mb r).next.sound fx := by
  simp [cmdBtStatus, ok]

@[simp] theorem execBtStatus_sound (mb : Fin 16) (req : Request) (s : State) (ok : s.sound fx) : soundOut fx (execBtStatus mb req s) := by
  simp (maxDischargeDepth := 99) +contextual [execBtStatus, ok]

@[simp] theorem cmdBtResults_sound {s : State} (ok : s.sound fx) (mb : Nat) (r : Request) : (cmdBtResults.act s mb r).next.sound fx := by
  simp [cmdBtResults, ok]

@[simp] theorem execBtResults_sound (mb : Fin 16) (req : Request) (s : State) (ok : s.sound fx) : soundOut fx (execBtResults mb req s) := by
  simp (maxDischargeDepth := 99) +contextual [execBtResults, ok]

@[simp] theorem cmdBtSetPolicy_sound {s : State} (ok : s.sound fx) (mb : Nat) (r : Request) : (cmdBtSetPolicy.act s mb r).next.sound fx := by
  simp (maxDischargeDepth := 99) [cmdBtSetPolicy, ok]

@[simp] theorem execBtSetPolicy_sound (mb : Fin 16) (req : Request) (s : State) (ok : s.sound fx) : soundOut fx (execBtSetPolicy mb req s) := by
  simp (maxDischargeDepth := 99) +contextual [execBtSetPolicy, ok]

@[simp] theorem cmdBtUnitMap_sound {s : State} (ok : s.sound fx) (mb : Nat) (r : Request) : (cmdBtUnitMap.act s mb r).next.sound fx := by
  simp (maxDischargeDepth := 99) +contextual [cmdBtUnitMap, ok]

@[simp] theorem execBtUnitMap_sound (mb : Fin 16) (req : Request) (s : State) (ok : s.sound fx) : soundOut fx (execBtUnitMap mb req s) := by
  simp (maxDischargeDepth := 99) +contextual [execBtUnitMap, ok]

/-! ### Configuration -/

@[simp] theorem State.setCf_sound (s : State) (st : Nat) (ok : s.sound fx) : (State.setCf s st).sound fx := by
  simp [State.setCf, ok]

@[simp] theorem State.cfgError_sound (s : State) (e : CfgErr) (ok : s.sound fx) : (State.cfgError s e).sound fx := by
  simp (maxDischargeDepth := 99) [State.cfgError, ok]

@[simp] theorem State.cfgFatal_sound (s : State) (atOnce : Bool) (ok : s.sound fx) : (State.cfgFatal s atOnce).sound fx := by
  simp (maxDischargeDepth := 99) [State.cfgFatal, ok]

@[simp] theorem State.cfgFail_sound (s : State) (e : CfgErr) (ok : s.sound fx) : (State.cfgFail s e).sound fx := by
  simp (maxDischargeDepth := 99) +contextual [State.cfgFail, ok]

@[simp] theorem State.openStaging_sound (s : State) (ok : s.sound fx) : (State.openStaging s).sound fx := by
  simp (maxDischargeDepth := 99) [State.openStaging, ok]

@[simp] theorem State.enterConfigure_sound (s : State) (ok : s.sound fx) : (State.enterConfigure s).sound fx := by
  simp (maxDischargeDepth := 99) +contextual [State.enterConfigure, ok]

@[simp] theorem State.endBoot_sound (s : State) (l : List (Nat × Nat)) (ok : s.sound fx) : (State.endBoot s l).sound fx := by
  simp (maxDischargeDepth := 99) +contextual [State.endBoot, ok]

@[simp] theorem execBootSelfTestEnd_sound (fails : List (BitVec 10 × BitVec 16)) (s : State) (ok : s.sound fx) : soundOut fx (execBootSelfTestEnd fails s) := by
  simp only [execBootSelfTestEnd]; (repeat' split) <;> simp (maxDischargeDepth := 99) +contextual [ok]

@[simp] theorem execBootTestWindowTimeout_sound (units : List (BitVec 10)) (s : State) (ok : s.sound fx) : soundOut fx (execBootTestWindowTimeout units s) := by
  simp only [execBootTestWindowTimeout]; (repeat' split) <;> simp (maxDischargeDepth := 99) +contextual [ok]

@[simp] theorem State.bootPiece_sound (s : State) (b : List Byte) (c : Chain) (ok : s.sound fx) : (State.bootPiece s b c).sound fx := by
  simp only [State.bootPiece]
  split
  · simp (maxDischargeDepth := 99) [State.allocate_sound ok ‹_›]
  · simp (maxDischargeDepth := 99) [ok]

@[simp] theorem State.bootGroups_sound (s : State) (c : Chain) (ok : s.sound fx) : (State.bootGroups s c).sound fx := by
  simp (maxDischargeDepth := 99) +contextual [State.bootGroups, ok]

@[simp] theorem State.bootWords_sound (s : State) (b : List Byte) (c : Chain) (ok : s.sound fx) : (State.bootWords s b c).sound fx := by
  simp (maxDischargeDepth := 99) [State.bootWords, ok]

@[simp] theorem State.acceptBoot_sound (s : State) (b : List Byte) (c : Chain) (ok : s.sound fx) : (State.acceptBoot s b c).sound fx := by
  simp (maxDischargeDepth := 99) +contextual [State.acceptBoot, ok]

@[simp] theorem State.takeStream_sound (s : State) (b : List Byte) (ok : s.sound fx) : (State.takeStream s b).sound fx := by
  simp only [State.takeStream]; split <;> simp (maxDischargeDepth := 99) [ok]

@[simp] theorem State.forwardBytes_sound (s : State) (n : Nat) (ok : s.sound fx) : (State.forwardBytes s n).sound fx := by
  simp [State.forwardBytes, ok]

@[simp] theorem execInitNHigh_sound (s : State) (ok : s.sound fx) : soundOut fx (execInitNHigh s) := by
  simp only [execInitNHigh]; split <;> simp (maxDischargeDepth := 99) [ok]

@[simp] theorem execConfigStreamReceived_sound (stream : List Byte) (s : State) (ok : s.sound fx) : soundOut fx (execConfigStreamReceived stream s) := by
  simp only [execConfigStreamReceived]; split <;> simp (maxDischargeDepth := 99) [ok]

@[simp] theorem execStreamPassOn_sound (len : BitVec 64) (s : State) (ok : s.sound fx) : soundOut fx (execStreamPassOn len s) := by
  simp [execStreamPassOn, ok]

@[simp] theorem execEndRecordReceived_sound (s : State) (ok : s.sound fx) : soundOut fx (execEndRecordReceived s) := by
  have fwd : (s.forwardBytes 256).sound fx := by simp [ok]
  simp only [execEndRecordReceived]; (repeat' split) <;> simp (maxDischargeDepth := 99) [fwd]

@[simp] theorem execConfigChainTimeout_sound (s : State) (ok : s.sound fx) : soundOut fx (execConfigChainTimeout s) := by
  simp only [execConfigChainTimeout]; split <;> simp (maxDischargeDepth := 99) [ok]

@[simp] theorem State.checkBanks_sound (s : State) (ok : s.sound fx) : (State.checkBanks s).sound fx := by
  simp (maxDischargeDepth := 99) [State.checkBanks, ok]

@[simp] theorem State.clockClusters_sound (s : State) (ok : s.sound fx) : (State.clockClusters s).sound fx := by
  simp (maxDischargeDepth := 99) +contextual [State.clockClusters, ok]

@[simp] theorem State.enterStartUp_sound (s : State) (ok : s.sound fx) : (State.enterStartUp s).sound fx := by
  simp (maxDischargeDepth := 99) +contextual [State.enterStartUp, ok]

@[simp] theorem State.releaseTurn_sound (s : State) (ok : s.sound fx) : (State.releaseTurn s).sound fx := by
  simp (maxDischargeDepth := 99) +contextual [State.releaseTurn, ok]

@[simp] theorem State.releaseLehr_sound (s : State) (ok : s.sound fx) : (State.releaseLehr s).sound fx := by
  simp (maxDischargeDepth := 99) +contextual [State.releaseLehr, ok]

@[simp] theorem State.startUpAtTurn_sound (s : State) (ok : s.sound fx) : (State.startUpAtTurn s).sound fx := by
  simp only [State.startUpAtTurn]; (repeat' split) <;> simp (maxDischargeDepth := 99) [ok]

@[simp] theorem execDoneSample_sound (level : Bool) (s : State) (ok : s.sound fx) : soundOut fx (execDoneSample level s) := by
  simp only [execDoneSample]; split <;> simp (maxDischargeDepth := 99) [ok]

@[simp] theorem execStartupTimeout_sound (s : State) (ok : s.sound fx) : soundOut fx (execStartupTimeout s) := by
  simp only [execStartupTimeout]; split <;> simp (maxDischargeDepth := 99) [ok]

@[simp] theorem State.bootLoaded_sound (s : State) (l : Load) (fail : Bool) (ok : s.sound fx) : (State.bootLoaded s l fail).sound fx := by
  simp only [State.bootLoaded]; (repeat' split) <;> simp (maxDischargeDepth := 99) +contextual [ok]

@[simp] theorem execConfigLoadComplete_sound (fail : Bool) (s : State) (ok : s.sound fx) : soundOut fx (execConfigLoadComplete fail s) := by
  simp only [execConfigLoadComplete]; (repeat' split) <;> simp (maxDischargeDepth := 99) [ok]

@[simp] theorem cmdCfgStreamLoad_sound {s : State} (ok : s.sound fx) (mb : Nat) (r : Request) : (cmdCfgStreamLoad.act s mb r).next.sound fx := by
  simp (maxDischargeDepth := 99) [cmdCfgStreamLoad, ok]

@[simp] theorem execCfgStreamLoad_sound (mb : Fin 16) (req : Request) (s : State) (ok : s.sound fx) : soundOut fx (execCfgStreamLoad mb req s) := by
  simp (maxDischargeDepth := 99) +contextual [execCfgStreamLoad, ok]

@[simp] theorem State.verified_sound (s : State) (o : Op) (e : Option CfgErr) (ok : s.sound fx) : (State.verified s o e).sound fx := by
  simp only [State.verified]; split <;> simp (maxDischargeDepth := 99) [ok]

@[simp] theorem execCfgStreamCheckComplete_sound (s : State) (ok : s.sound fx) : soundOut fx (execCfgStreamCheckComplete s) := by
  simp only [execCfgStreamCheckComplete]; (repeat' split) <;> simp (maxDischargeDepth := 99) [ok]

@[simp] theorem cmdCfgGetStatus_sound {s : State} (ok : s.sound fx) (mb : Nat) (r : Request) : (cmdCfgGetStatus.act s mb r).next.sound fx := by
  simp [cmdCfgGetStatus, ok]

@[simp] theorem execCfgGetStatus_sound (mb : Fin 16) (req : Request) (s : State) (ok : s.sound fx) : soundOut fx (execCfgGetStatus mb req s) := by
  simp (maxDischargeDepth := 99) +contextual [execCfgGetStatus, ok]

/-! ### Update -/

@[simp] theorem State.setComplete_sound (s : State) (slot : Nat) (b : Bool) (ok : s.sound fx) : (State.setComplete s slot b).sound fx := by
  simp [State.setComplete, ok]

@[simp] theorem State.stage_sound (s : State) (ok : s.sound fx) : (State.stage s).sound fx := by
  simp (maxDischargeDepth := 99) +contextual [State.stage, ok]

@[simp] theorem State.beginDownload_sound (s : State) (len : Nat) (sha : BitVec 256) (ok : s.sound fx) : (State.beginDownload s len sha).sound fx := by
  simp (maxDischargeDepth := 99) [State.beginDownload, ok]

@[simp] theorem cmdUpBegin_sound {s : State} (ok : s.sound fx) (mb : Nat) (r : Request) : (cmdUpBegin.act s mb r).next.sound fx := by
  simp (maxDischargeDepth := 99) [cmdUpBegin, ok]

@[simp] theorem execUpBegin_sound (mb : Fin 16) (req : Request) (s : State) (ok : s.sound fx) : soundOut fx (execUpBegin mb req s) := by
  simp (maxDischargeDepth := 99) +contextual [execUpBegin, ok]

@[simp] theorem cmdUpChunk_sound {s : State} (ok : s.sound fx) (mb : Nat) (r : Request) : (cmdUpChunk.act s mb r).next.sound fx := by
  simp [cmdUpChunk, ok]

@[simp] theorem execUpChunk_sound (mb : Fin 16) (req : Request) (s : State) (ok : s.sound fx) : soundOut fx (execUpChunk mb req s) := by
  simp (maxDischargeDepth := 99) +contextual [execUpChunk, ok]

@[simp] theorem State.writeChunk_sound (s : State) (i : Nat) (b : List Byte) (readBack : Bool) (ok : s.sound fx) : (State.writeChunk s i b readBack).1.sound fx := by
  simp only [State.writeChunk]; (repeat' split) <;> simp (maxDischargeDepth := 99) [ok]

@[simp] theorem execUpChunkComplete_sound (readBack : Bool) (s : State) (ok : s.sound fx) : soundOut fx (execUpChunkComplete readBack s) := by
  simp only [execUpChunkComplete]; (repeat' split) <;> simp (maxDischargeDepth := 99) [ok]

@[simp] theorem cmdUpStatus_sound {s : State} (ok : s.sound fx) (mb : Nat) (r : Request) : (cmdUpStatus.act s mb r).next.sound fx := by
  simp [cmdUpStatus, ok]

@[simp] theorem execUpStatus_sound (mb : Fin 16) (req : Request) (s : State) (ok : s.sound fx) : soundOut fx (execUpStatus mb req s) := by
  simp (maxDischargeDepth := 99) +contextual [execUpStatus, ok]

@[simp] theorem cmdUpActivate_sound {s : State} (ok : s.sound fx) (mb : Nat) (r : Request) : (cmdUpActivate.act s mb r).next.sound fx := by
  simp only [cmdUpActivate]; split <;> simp (maxDischargeDepth := 99) [ok]

@[simp] theorem execUpActivate_sound (mb : Fin 16) (req : Request) (s : State) (ok : s.sound fx) : soundOut fx (execUpActivate mb req s) := by
  simp (maxDischargeDepth := 99) +contextual [execUpActivate, ok]

@[simp] theorem State.dropDownload_sound (s : State) (ok : s.sound fx) : (State.dropDownload s).sound fx := by
  simp [State.dropDownload, ok]

@[simp] theorem cmdUpConfirm_sound {s : State} (ok : s.sound fx) (mb : Nat) (r : Request) : (cmdUpConfirm.act s mb r).next.sound fx := by
  simp (maxDischargeDepth := 99) [cmdUpConfirm, ok]

@[simp] theorem execUpConfirm_sound (mb : Fin 16) (req : Request) (s : State) (ok : s.sound fx) : soundOut fx (execUpConfirm mb req s) := by
  simp (maxDischargeDepth := 99) +contextual [execUpConfirm, ok]

@[simp] theorem cmdUpAbort_sound {s : State} (ok : s.sound fx) (mb : Nat) (r : Request) : (cmdUpAbort.act s mb r).next.sound fx := by
  simp only [cmdUpAbort]; (repeat' split) <;> simp (maxDischargeDepth := 99) [ok]

@[simp] theorem execUpAbort_sound (mb : Fin 16) (req : Request) (s : State) (ok : s.sound fx) : soundOut fx (execUpAbort mb req s) := by
  simp (maxDischargeDepth := 99) +contextual [execUpAbort, ok]

/-! ### Arrays -/

@[simp] theorem State.setSeamFails_sound (s : State) (k n : Nat) (ok : s.sound fx) : (State.setSeamFails s k n).sound fx := by
  simp [State.setSeamFails, ok]

@[simp] theorem State.acknowledge_sound (s : State) (p : Nat) (ok : s.sound fx) : (State.acknowledge s p).sound fx := by
  simp [State.acknowledge, ok]

@[simp] theorem State.countFrame_sound (s : State) (p : Nat) (ok : s.sound fx) : (State.countFrame s p).sound fx := by
  simp [State.countFrame, ok]

@[simp] theorem execSeamFrameReceived_sound (port : Fin 4) (cls : Fin 4) (cntOk tagOk : Bool) (ack : Option (BitVec 16)) (s : State) (ok : s.sound fx) : soundOut fx (execSeamFrameReceived port cls cntOk tagOk ack s) := by
  simp only [execSeamFrameReceived]; (repeat' split) <;> simp (maxDischargeDepth := 99) [ok]

@[simp] theorem execSeamNackReceived_sound (port : Fin 4) (cls : Fin 4) (frames : Fin 64) (again : Bool) (s : State) (ok : s.sound fx) : soundOut fx (execSeamNackReceived port cls frames again s) := by
  simp only [execSeamNackReceived]; split <;> simp (maxDischargeDepth := 99) [ok]

@[simp] theorem execSeamAckTimer_sound (port : Fin 4) (s : State) (ok : s.sound fx) : soundOut fx (execSeamAckTimer port s) := by
  simp only [execSeamAckTimer]; split <;> simp (maxDischargeDepth := 99) [ok]

@[simp] theorem State.beginRekey_sound (s : State) (p : Nat) (tx rx : Bool) (ok : s.sound fx) : (State.beginRekey s p tx rx).sound fx := by
  simp [State.beginRekey, ok]

@[simp] theorem execSeamCounterRekey_sound (port : Fin 4) (s : State) (ok : s.sound fx) : soundOut fx (execSeamCounterRekey port s) := by
  simp only [execSeamCounterRekey]; split <;> simp (maxDischargeDepth := 99) [ok]

@[simp] theorem State.rekeysDone_sound (s : State) (ok : s.sound fx) : (State.rekeysDone s).sound fx := by
  simp (maxDischargeDepth := 99) +contextual [State.rekeysDone, ok]

@[simp] theorem execSeamKeySwitch_sound (port : Fin 4) (sent : Bool) (s : State) (ok : s.sound fx) : soundOut fx (execSeamKeySwitch port sent s) := by
  simp only [execSeamKeySwitch]; (repeat' split) <;> simp (maxDischargeDepth := 99) [ok]

@[simp] theorem execSeamTrainingDone_sound (port : Fin 4) (same : Bool) (s : State) (ok : s.sound fx) : soundOut fx (execSeamTrainingDone port same s) := by
  simp only [execSeamTrainingDone]; (repeat' split) <;> simp (maxDischargeDepth := 99) [ok]

@[simp] theorem execSeamTrainingTimeout_sound (port : Fin 4) (s : State) (ok : s.sound fx) : soundOut fx (execSeamTrainingTimeout port s) := by
  simp only [execSeamTrainingTimeout]; split <;> simp (maxDischargeDepth := 99) [ok]

@[simp] theorem execSeamKeyingDone_sound (port : Fin 4) (derived : Bool) (peer : Fin 8) (s : State) (ok : s.sound fx) : soundOut fx (execSeamKeyingDone port derived peer s) := by
  simp only [execSeamKeyingDone]; (repeat' split) <;> simp (maxDischargeDepth := 99) +contextual [ok]

@[simp] theorem execSeamLaneLockTimeout_sound (port : Fin 4) (lane : Fin 6) (s : State) (ok : s.sound fx) : soundOut fx (execSeamLaneLockTimeout port lane s) := by
  simp only [execSeamLaneLockTimeout]; split <;> simp (maxDischargeDepth := 99) [ok]

@[simp] theorem State.seamsApply_sound (s old : State) (ok : s.sound fx) : (State.seamsApply s old).sound fx := by
  simp (maxDischargeDepth := 99) +contextual [State.seamsApply, ok]

@[simp] theorem cmdArDiscover_sound {s : State} (ok : s.sound fx) (mb : Nat) (r : Request) : (cmdArDiscover.act s mb r).next.sound fx := by
  simp (maxDischargeDepth := 99) +contextual [cmdArDiscover, ok]

@[simp] theorem execArDiscover_sound (mb : Fin 16) (req : Request) (s : State) (ok : s.sound fx) : soundOut fx (execArDiscover mb req s) := by
  simp (maxDischargeDepth := 99) +contextual [execArDiscover, ok]

@[simp] theorem execArDiscoverComplete_sound (answered : Byte) (s : State) (ok : s.sound fx) : soundOut fx (execArDiscoverComplete answered s) := by
  simp only [execArDiscoverComplete]; (repeat' split) <;> simp (maxDischargeDepth := 99) [ok]

@[simp] theorem cmdArStatus_sound {s : State} (ok : s.sound fx) (mb : Nat) (r : Request) : (cmdArStatus.act s mb r).next.sound fx := by
  simp [cmdArStatus, ok]

@[simp] theorem execArStatus_sound (mb : Fin 16) (req : Request) (s : State) (ok : s.sound fx) : soundOut fx (execArStatus mb req s) := by
  simp (maxDischargeDepth := 99) +contextual [execArStatus, ok]

@[simp] theorem cmdArSetMode_sound {s : State} (ok : s.sound fx) (mb : Nat) (r : Request) : (cmdArSetMode.act s mb r).next.sound fx := by
  simp (maxDischargeDepth := 99) +contextual [cmdArSetMode, ok]

@[simp] theorem execArSetMode_sound (mb : Fin 16) (req : Request) (s : State) (ok : s.sound fx) : soundOut fx (execArSetMode mb req s) := by
  simp (maxDischargeDepth := 99) +contextual [execArSetMode, ok]

@[simp] theorem cmdArLinkRekey_sound {s : State} (ok : s.sound fx) (mb : Nat) (r : Request) : (cmdArLinkRekey.act s mb r).next.sound fx := by
  simp only [cmdArLinkRekey]; (repeat' split) <;> simp (maxDischargeDepth := 99) +contextual [ok]

@[simp] theorem execArLinkRekey_sound (mb : Fin 16) (req : Request) (s : State) (ok : s.sound fx) : soundOut fx (execArLinkRekey mb req s) := by
  simp (maxDischargeDepth := 99) +contextual [execArLinkRekey, ok]

@[simp] theorem cmdArCoherentWindow_sound {s : State} (ok : s.sound fx) (mb : Nat) (r : Request) : (cmdArCoherentWindow.act s mb r).next.sound fx := by
  simp (maxDischargeDepth := 99) [cmdArCoherentWindow, ok]

@[simp] theorem execArCoherentWindow_sound (mb : Fin 16) (req : Request) (s : State) (ok : s.sound fx) : soundOut fx (execArCoherentWindow mb req s) := by
  simp (maxDischargeDepth := 99) +contextual [execArCoherentWindow, ok]

@[simp] theorem State.setWindow_sound (s : State) (k base size : Nat) (en : Bool) (ok : s.sound fx) : (State.setWindow s k base size en).sound fx := by
  simp (maxDischargeDepth := 99) +contextual [State.setWindow, ok]

@[simp] theorem State.sendStart_sound (s : State) (ok : s.sound fx) : (State.sendStart s).sound fx := by
  simp only [State.sendStart]; (repeat' split) <;> simp [ok]

@[simp] theorem cmdArCommonStart_sound {s : State} (ok : s.sound fx) (mb : Nat) (r : Request) : (cmdArCommonStart.act s mb r).next.sound fx := by
  simp (maxDischargeDepth := 99) [cmdArCommonStart, ok]

@[simp] theorem execArCommonStart_sound (mb : Fin 16) (req : Request) (s : State) (ok : s.sound fx) : soundOut fx (execArCommonStart mb req s) := by
  simp (maxDischargeDepth := 99) +contextual [execArCommonStart, ok]

@[simp] theorem execCommonStartMessage_sound (turn : BitVec 48) (s : State) (ok : s.sound fx) : soundOut fx (execCommonStartMessage turn s) := by
  simp only [execCommonStartMessage]; (repeat' split) <;> simp (maxDischargeDepth := 99) [ok]

@[simp] theorem execCommonStartConfirm_sound (dev : Fin 8) (ok : Bool) (s : State) (okS : s.sound fx) : soundOut fx (execCommonStartConfirm dev ok s) := by
  simp only [execCommonStartConfirm]; (repeat' split) <;> simp (maxDischargeDepth := 99) [okS]

@[simp] theorem State.commonStartAtTurn_sound (s : State) (ok : s.sound fx) : (State.commonStartAtTurn s).sound fx := by
  simp only [State.commonStartAtTurn]; split <;> simp (maxDischargeDepth := 99) [ok]

@[simp] theorem execPeerTriggerMessage_sound (dev : Fin 8) (k : Fin 8) (s : State) (ok : s.sound fx) : soundOut fx (execPeerTriggerMessage dev k s) := by
  simp only [execPeerTriggerMessage]; split <;> simp (maxDischargeDepth := 99) [ok]

@[simp] theorem cmdUpArrayForward_sound {s : State} (ok : s.sound fx) (mb : Nat) (r : Request) : (cmdUpArrayForward.act s mb r).next.sound fx := by
  simp [cmdUpArrayForward, ok]

@[simp] theorem execUpArrayForward_sound (mb : Fin 16) (req : Request) (s : State) (ok : s.sound fx) : soundOut fx (execUpArrayForward mb req s) := by
  simp (maxDischargeDepth := 99) +contextual [execUpArrayForward, ok]

@[simp] theorem execArrayImageChunk_sound (i : Fin 128) (len : BitVec 24) (sha : BitVec 256) (data : List Byte) (readBack : Bool) (s : State) (ok : s.sound fx) : soundOut fx (execArrayImageChunk i len sha data readBack s) := by
  simp only [execArrayImageChunk]; (repeat' split) <;> simp (maxDischargeDepth := 99) [ok]

@[simp] theorem execUpArrayForwardComplete_sound (refused : Option (Fin 8 × BitVec 16)) (s : State) (ok : s.sound fx) : soundOut fx (execUpArrayForwardComplete refused s) := by
  simp only [execUpArrayForwardComplete]; split <;> simp (maxDischargeDepth := 99) [ok]

@[simp] theorem State.dropForward_sound (s : State) (mb : Nat) (ok : s.sound fx) : (State.dropForward s mb).sound fx := by
  simp [State.dropForward, ok]

@[simp] theorem execPeerResponseArrival_sound (mb : Fin 16) (resp : Response) (s : State) (ok : s.sound fx) : soundOut fx (execPeerResponseArrival mb resp s) := by
  simp only [execPeerResponseArrival]; (repeat' split) <;> simp (maxDischargeDepth := 99) [ok]

@[simp] theorem execPeerCompletionNotice_sound (mb : Fin 16) (tag status : BitVec 16) (s : State) (ok : s.sound fx) : soundOut fx (execPeerCompletionNotice mb tag status s) := by
  simp only [execPeerCompletionNotice]; split <;> simp (maxDischargeDepth := 99) [ok]

@[simp] theorem execForwardTimeout_sound (mb : Fin 16) (s : State) (ok : s.sound fx) : soundOut fx (execForwardTimeout mb s) := by
  simp only [execForwardTimeout]; split <;> simp (maxDischargeDepth := 99) [ok]

/-! ### Release -/

@[simp] theorem State.scheduleStop_sound (s : State) (key : Nat) (ok : s.sound fx) : (State.scheduleStop s key).sound fx := by
  simp (maxDischargeDepth := 99) [State.scheduleStop, ok]

@[simp] theorem State.idleEngine_sound (s : State) (key : Nat) (ok : s.sound fx) : (State.idleEngine s key).sound fx := by
  simp (maxDischargeDepth := 99) [State.idleEngine, ok]

@[simp] theorem State.releaseKey_sound (s : State) (key : Nat) (ok : s.sound fx) : (State.releaseKey s key).sound fx := by
  simp (maxDischargeDepth := 99) [State.releaseKey, ok]

@[simp] theorem State.forceRelease_sound (s : State) (mb key : Nat) (ok : s.sound fx) : (State.forceRelease s mb key).sound fx := by
  simp (maxDischargeDepth := 99) [State.forceRelease, ok]

@[simp] theorem State.freeStopped_sound (s : State) (ok : s.sound fx) : (State.freeStopped s).sound fx := by
  simp (maxDischargeDepth := 99) +contextual [State.freeStopped, ok]

@[simp] theorem cmdSysRelease_sound {s : State} (ok : s.sound fx) (mb : Nat) (r : Request) : (cmdSysRelease.act s mb r).next.sound fx := by
  simp (maxDischargeDepth := 99) +contextual [cmdSysRelease, ok]

@[simp] theorem execSysRelease_sound (mb : Fin 16) (req : Request) (s : State) (ok : s.sound fx) : soundOut fx (execSysRelease mb req s) := by
  simp (maxDischargeDepth := 99) +contextual [execSysRelease, ok]

@[simp] theorem State.resetMailbox_sound (s : State) (mb : Nat) (ok : s.sound fx) : (State.resetMailbox s mb).sound fx := by
  simp (maxDischargeDepth := 99) +contextual [State.resetMailbox, ok]

@[simp] theorem State.resetSource_sound (s : State) (src : MailboxSource) (ok : s.sound fx) : (State.resetSource s src).sound fx := by
  simp (maxDischargeDepth := 99) +contextual [State.resetSource, ok]

@[simp] theorem execMailboxSourceReset_sound (src : MailboxSource) (s : State) (ok : s.sound fx) : soundOut fx (execMailboxSourceReset src s) := by
  simp [execMailboxSourceReset, ok]

@[simp] theorem cmdSysResetMailbox_sound {s : State} (ok : s.sound fx) (mb : Nat) (r : Request) : (cmdSysResetMailbox.act s mb r).next.sound fx := by
  simp (maxDischargeDepth := 99) [cmdSysResetMailbox, ok]

@[simp] theorem execSysResetMailbox_sound (mb : Fin 16) (req : Request) (s : State) (ok : s.sound fx) : soundOut fx (execSysResetMailbox mb req s) := by
  simp (maxDischargeDepth := 99) +contextual [execSysResetMailbox, ok]

@[simp] theorem cancel_sound (s : State) (mb : Nat) (ok : s.sound fx) : (cancel s mb).sound fx := by
  simp [cancel, ok]

@[simp] theorem acknowledge_sound (s : State) (mb : Nat) (ok : s.sound fx) : (acknowledge s mb).sound fx := by
  simp (maxDischargeDepth := 99) [acknowledge, ok]

@[simp] theorem popNotice_sound (s : State) (mb : Nat) (ok : s.sound fx) : (popNotice s mb).sound fx := by
  simp [popNotice, ok]

@[simp] theorem execMbDoorbellRing_sound (mb : Fin 16) (s : State) (ok : s.sound fx) : soundOut fx (execMbDoorbellRing mb s) := by
  simp [execMbDoorbellRing, ok]

@[simp] theorem execMbDoorbellCancel_sound (mb : Fin 16) (s : State) (ok : s.sound fx) : soundOut fx (execMbDoorbellCancel mb s) := by
  simp [execMbDoorbellCancel, ok]

@[simp] theorem execMbAck_sound (mb : Fin 16) (s : State) (ok : s.sound fx) : soundOut fx (execMbAck mb s) := by
  simp [execMbAck, ok]

@[simp] theorem execMbCplPop_sound (mb : Fin 16) (s : State) (ok : s.sound fx) : soundOut fx (execMbCplPop mb s) := by
  simp [execMbCplPop, ok]

@[simp] theorem execGafferTlBurstDeferred_sound (s : State) (ok : s.sound fx) : soundOut fx (execGafferTlBurstDeferred s) := by
  simp only [execGafferTlBurstDeferred]; split <;> simp (maxDischargeDepth := 99) [ok]

end Sys2Proof.Machine
end

