-- ==== Sys2Proof/Laws/SoundHost.lean ====
section
/-!
SUPPORT. Laws/SoundHost.lean: the control plane, the NoC, the host and the serial ports keep every sparse memory in
canonical form, the queue of waiting commands, and what stands in fuses that no rule blows. One lemma for each function of the
state: a caller cites it and never unfolds the callee.
-/

namespace Sys2Proof.Machine

open Sys2Proof

variable {fx : Fixed}

/-! ### Boundary -/

@[simp] theorem State.fireAction_sound (s : State) (idx : Nat) (e : SchedEntry) (ok : s.sound fx) : (State.fireAction s idx e).sound fx := by
  simp (maxDischargeDepth := 99) [State.fireAction, ok]

@[simp] theorem State.countFiring_sound (s : State) (idx : Nat) (e : SchedEntry) (ok : s.sound fx) : (State.countFiring s idx e).sound fx := by
  simp [State.countFiring, ok]

@[simp] theorem State.fireDue_sound (s : State) (ok : s.sound fx) : (State.fireDue s).sound fx := by
  simp (maxDischargeDepth := 99) +contextual [State.fireDue, ok]

@[simp] theorem State.missEntries_sound (s : State) (ok : s.sound fx) : (State.missEntries s).sound fx := by
  simp (maxDischargeDepth := 99) +contextual [State.missEntries, ok]

@[simp] theorem State.retireEntries_sound (s : State) (ok : s.sound fx) : (State.retireEntries s).sound fx := by
  simp [State.retireEntries, ok]

@[simp] theorem State.setHistory_sound (s : State) (l : List Nat) (ok : s.sound fx) : (State.setHistory s l).sound fx := by
  simp (maxDischargeDepth := 99) [State.setHistory, ok]

@[simp] theorem State.noteLength_sound (s : State) (real : Bool) (len : Nat) (ok : s.sound fx) : (State.noteLength s real len).sound fx := by
  simp (maxDischargeDepth := 99) [State.noteLength, ok]

@[simp] theorem State.nextTurn_sound (s : State) (len : Nat) (ok : s.sound fx) : (State.nextTurn s len).sound fx := by
  simp (maxDischargeDepth := 99) [State.nextTurn, ok]

@[simp] theorem State.markTurn_sound (s : State) (real : Bool) (ok : s.sound fx) : (State.markTurn s real).sound fx := by
  simp (maxDischargeDepth := 99) [State.markTurn, ok]

@[simp] theorem State.cutGathered_sound (s : State) (es : List Edit) (ok : s.sound fx) : (State.cutGathered s es).sound fx := by
  simp (maxDischargeDepth := 99) +contextual [State.cutGathered, ok]

@[simp] theorem State.endpointsApply_sound (s old : State) (es : List Edit) (ok : s.sound fx) : (State.endpointsApply s old es).sound fx := by
  simp (maxDischargeDepth := 99) +contextual [State.endpointsApply, ok]

@[simp] theorem State.showLatency_sound (s old : State) (ok : s.sound fx) : (State.showLatency s old).sound fx := by
  simp (maxDischargeDepth := 99) [State.showLatency, ok]

@[simp] theorem State.timebaseApply_sound (s old : State) (ok : s.sound fx) : (State.timebaseApply s old).sound fx := by
  simp (maxDischargeDepth := 99) [State.timebaseApply, ok]

@[simp] theorem State.applyShadows_sound (s : State) (es : List Edit) (ok : s.sound fx) : (State.applyShadows s es).sound fx := by
  simp (maxDischargeDepth := 99) +contextual [State.applyShadows, ok]

@[simp] theorem State.applyEdit_sound (s : State) (e : Edit) (ok : s.sound fx) : (State.applyEdit s e).sound fx := by
  simp only [State.applyEdit]; split <;> simp (maxDischargeDepth := 99) [ok]

@[simp] theorem State.startsDue_sound (s : State) (ok : s.sound fx) : (State.startsDue s).sound fx := by
  simp (maxDischargeDepth := 99) +contextual [State.startsDue, ok]

@[simp] theorem State.lehrAtTurn_sound (s : State) (es : List Edit) (ok : s.sound fx) : (State.lehrAtTurn s es).sound fx := by
  simp (maxDischargeDepth := 99) [State.lehrAtTurn, ok]

@[simp] theorem State.turnWork_sound (s : State) (es : List Edit) (ok : s.sound fx) : (State.turnWork s es).sound fx := by
  simp (maxDischargeDepth := 99) [State.turnWork, ok]

@[simp] theorem State.boundary_sound (s : State) (real : Bool) (len : Nat) (ok : s.sound fx) : (State.boundary s real len).sound fx := by
  simp (maxDischargeDepth := 99) +contextual [State.boundary, ok]

/-! ### Control -/

@[simp] theorem State.sendPending_sound (s : State) (v : Nat) (ok : s.sound fx) : (State.sendPending s v).sound fx := by
  simp (maxDischargeDepth := 99) [State.sendPending, ok]

@[simp] theorem State.sendAllPending_sound (s : State) (ok : s.sound fx) : (State.sendAllPending s).sound fx := by
  simp (maxDischargeDepth := 99) +contextual [State.sendAllPending, ok]

@[simp] theorem execMsixUnmask_sound (v : Fin 64) (s : State) (ok : s.sound fx) : soundOut fx (execMsixUnmask v s) := by
  simp [execMsixUnmask, ok]

@[simp] theorem msixWrite_sound (s : State) (off v : Nat) (ok : s.sound fx) : (msixWrite s off v).sound fx := by
  simp (maxDischargeDepth := 99) [msixWrite, ok]

@[simp] theorem State.showDma_sound (s : State) (c : Nat) (ok : s.sound fx) : (State.showDma s c).sound fx := by
  simp [State.showDma, ok]

@[simp] theorem writeDmaCtrl_sound (s : State) (c v : Nat) (ok : s.sound fx) : (writeDmaCtrl s c v).sound fx := by
  simp (maxDischargeDepth := 99) [writeDmaCtrl, ok]

@[simp] theorem execHpDmaCtrlEnable_sound (c : Fin 8) (v : BitVec 32) (s : State) (ok : s.sound fx) : soundOut fx (execHpDmaCtrlEnable c v s) := by
  simp [execHpDmaCtrlEnable, ok]

@[simp] theorem writeDmaProd_sound (s : State) (c v : Nat) (ok : s.sound fx) : (writeDmaProd s c v).sound fx := by
  simp [writeDmaProd, ok]

@[simp] theorem execHpDmaProdWrite_sound (c : Fin 8) (v : BitVec 16) (s : State) (ok : s.sound fx) : soundOut fx (execHpDmaProdWrite c v s) := by
  simp [execHpDmaProdWrite, ok]

@[simp] theorem mailboxWrite_sound (s : State) (gaffer : Bool) (n off v : Nat) (ok : s.sound fx) : (mailboxWrite s gaffer n off v).1.sound fx := by
  simp only [mailboxWrite]; (repeat' split) <;> simp (maxDischargeDepth := 99) [ok]

@[simp] theorem viewWord_sound (s : State) (row : RegRow) (i off : Nat) (ok : s.sound fx) : (viewWord s row i off).1.sound fx := by
  simp only [viewWord]; (repeat' split) <;> simp (maxDischargeDepth := 99) [ok]

@[simp] theorem State.takeSnaps_sound (s : State) (path off : Nat) (deltas : List Nat) (ok : s.sound fx) : (State.takeSnaps s path off deltas).sound fx := by
  simp (maxDischargeDepth := 99) +contextual [State.takeSnaps, ok]

@[simp] theorem ctlRead_sound (s : State) (who : Requester) (off : Nat) (ok : s.sound fx) : (ctlRead s who off).1.sound fx := by
  simp only [ctlRead]; (repeat' split) <;> simp (maxDischargeDepth := 99) [ok]

@[simp] theorem classWrite_sound (s : State) (gaffer : Bool) (row : RegRow) (off v : Nat) (ok : s.sound fx) : (classWrite s gaffer row off v).sound fx := by
  simp (maxDischargeDepth := 99) [classWrite, ok]

@[simp] theorem State.unforce_sound (s : State) (m was : Nat) (ok : s.sound fx) : (State.unforce s m was).sound fx := by
  simp [State.unforce, ok]

/-- An answer, if there is one, is sound. -/
def mayBeSound (fx : Fixed) (o : Option (State × Nat)) : Prop := ∀ r, o = some r → r.1.sound fx

theorem mayBeSound_some {t : State} {c : Nat} (h : t.sound fx) : mayBeSound fx (some (t, c)) := by
  intro r e
  cases e
  exact h

theorem mayBeSound_ite (c : Prop) [Decidable c] {a b : Option (State × Nat)} (ha : mayBeSound fx a) (hb : mayBeSound fx b) :
    mayBeSound fx (if c then a else b) := by split <;> assumption

theorem ruledWrite_sound (s : State) (who : Requester) (row : RegRow) (i j v : Nat) (ok : s.sound fx) :
    mayBeSound fx (ruledWrite s who row i j v) := by
  unfold ruledWrite
  repeat' apply mayBeSound_ite
  all_goals first
    | (apply mayBeSound_some; simp (maxDischargeDepth := 99) [ok]; done)
    | (intro r e; cases e; done)
    | (split <;> (apply mayBeSound_some; simp (maxDischargeDepth := 99) [ok]); done)

@[simp] theorem ctlWrite_sound (s : State) (who : Requester) (off v : Nat) (ok : s.sound fx) : (ctlWrite s who off v).1.sound fx := by
  simp only [ctlWrite]
  repeat' split
  all_goals first
    | (simp (maxDischargeDepth := 99) [ok]; done)
    | exact ruledWrite_sound _ _ _ _ _ _ ok _ ‹_›

@[simp] theorem execSnapshotRead_sound (off : BitVec 24) (who : Requester) (s : State) (ok : s.sound fx) : soundOut fx (execSnapshotRead off who s) := by
  simp [execSnapshotRead, ok]

@[simp] theorem execRegisterWrite_sound (off : BitVec 24) (v : BitVec 32) (who : Requester) (s : State) (ok : s.sound fx) : soundOut fx (execRegisterWrite off v who s) := by
  simp [execRegisterWrite, ok]

@[simp] theorem State.mbpAnswer_sound (s : State) (live : Bool) (code v : Nat) (data : List Byte) (ok : s.sound fx) : (State.mbpAnswer s live code v data).sound fx := by
  simp [State.mbpAnswer, ok]

@[simp] theorem execMbpAccess_sound (sel : MbpSelect) (buffers we : Bool) (addr : BitVec 11) (data : BitVec 32) (s : State) (ok : s.sound fx) : soundOut fx (execMbpAccess sel buffers we addr data s) := by
  simp only [execMbpAccess]; (repeat' split) <;> simp (maxDischargeDepth := 99) [ok]

/-! ### Serial -/

@[simp] theorem State.setRefused_sound (s : State) (b : Bool) (ok : s.sound fx) : (State.setRefused s b).sound fx := by
  simp [State.setRefused, ok]

@[simp] theorem execMspiReadFrame_sound (addr : BitVec 24) (words : BitVec 16) (s : State) (ok : s.sound fx) : soundOut fx (execMspiReadFrame addr words s) := by
  simp only [execMspiReadFrame, soundOut_next]
  refine State.answer_sound _ _ _ _ (foldl_fst_sound _ _ (by simp [ok]) (fun c a hc => ?_))
  split <;> simp [hc]

@[simp] theorem execMspiWriteFrame_sound (addr : BitVec 24) (words : List (BitVec 32)) (s : State) (ok : s.sound fx) : soundOut fx (execMspiWriteFrame addr words s) := by
  simp (maxDischargeDepth := 99) +contextual [execMspiWriteFrame, ok]

@[simp] theorem execMspiStatusFrame_sound (n : BitVec 8) (s : State) (ok : s.sound fx) : soundOut fx (execMspiStatusFrame n s) := by
  simp only [execMspiStatusFrame]; split <;> simp (maxDischargeDepth := 99) [ok]

@[simp] theorem execMspiUnknownFrame_sound (_first : Byte) (s : State) (ok : s.sound fx) : soundOut fx (execMspiUnknownFrame _first s) := by
  simp [execMspiUnknownFrame, ok]

@[simp] theorem State.loadIr_sound (s : State) (code : Nat) (ok : s.sound fx) : (State.loadIr s code).sound fx := by
  simp [State.loadIr, ok]

@[simp] theorem execJtagIdcode_sound (s : State) (ok : s.sound fx) : soundOut fx (execJtagIdcode s) := by
  simp [execJtagIdcode, ok]

@[simp] theorem execJtagSamplePreload_sound (cells : List Bool) (s : State) (ok : s.sound fx) : soundOut fx (execJtagSamplePreload cells s) := by
  simp (maxDischargeDepth := 99) [execJtagSamplePreload, ok]

@[simp] theorem execJtagExtest_sound (s : State) (ok : s.sound fx) : soundOut fx (execJtagExtest s) := by
  simp [execJtagExtest, ok]

@[simp] theorem execJtagClamp_sound (s : State) (ok : s.sound fx) : soundOut fx (execJtagClamp s) := by
  simp [execJtagClamp, ok]

@[simp] theorem execJtagHighz_sound (s : State) (ok : s.sound fx) : soundOut fx (execJtagHighz s) := by
  simp [execJtagHighz, ok]

@[simp] theorem execJtagBypass_sound (s : State) (ok : s.sound fx) : soundOut fx (execJtagBypass s) := by
  simp [execJtagBypass, ok]

@[simp] theorem execPuntySessionBegin_sound (s : State) (ok : s.sound fx) : soundOut fx (execPuntySessionBegin s) := by
  simp (maxDischargeDepth := 99) [execPuntySessionBegin, ok]

@[simp] theorem State.puntyResult_sound (s : State) (status data : Nat) (ok : s.sound fx) : (State.puntyResult s status data).sound fx := by
  simp [State.puntyResult, ok]

@[simp] theorem execPuntyAccess_sound (dr : BitVec 64) (s : State) (ok : s.sound fx) : soundOut fx (execPuntyAccess dr s) := by
  simp only [execPuntyAccess]; (repeat' split) <;> simp (maxDischargeDepth := 99) [ok]

@[simp] theorem execTestLogicReset_sound (s : State) (ok : s.sound fx) : soundOut fx (execTestLogicReset s) := by
  simp only [execTestLogicReset]; split <;> simp (maxDischargeDepth := 99) [ok]

/-! ### Noc -/

@[simp] theorem State.linkFaults_sound (s : State) (way : List Nat) (p : Packet) (l : List LinkFault) (ok : s.sound fx) : (State.linkFaults s way p l).sound fx := by
  simp (maxDischargeDepth := 99) +contextual [State.linkFaults, ok]

@[simp] theorem controlAccess_sound (s : State) (q : Issuer) (off n : Nat) (act : Access) (ok : s.sound fx) : (controlAccess s q off n act).1.sound fx := by
  simp only [controlAccess]
  refine foldl_fst_sound _ _ ok (fun c x hc => ?_)
  split
  · exact hc
  · split <;> simp (maxDischargeDepth := 99) [hc]

@[simp] theorem sramAccess_sound (s : State) (q : Issuer) (c off n : Nat) (act : Access) (ok : s.sound fx) : (sramAccess s q c off n act).1.sound fx := by
  simp only [sramAccess]; (repeat' split) <;> simp (maxDischargeDepth := 99) [ok]

@[simp] theorem perform_sound (s : State) (q : Issuer) (t : Target) (a n : Nat) (act : Access) (write : Option (Nat × Nat × Nat)) (ok : s.sound fx) : (perform s q t a n act write).1.sound fx := by
  simp only [perform]; (repeat' split) <;> simp (maxDischargeDepth := 99) [ok]

@[simp] theorem State.sunkPosted_sound (s : State) (e : Nat) (ok : s.sound fx) : (State.sunkPosted s e).sound fx := by
  simp [State.sunkPosted, ok]

@[simp] theorem State.addOut_sound (s : State) (o : Outstanding) (ok : s.sound fx) : (State.addOut s o).sound fx := by
  simp [State.addOut, ok]

@[simp] theorem nocFail_sound (s : State) (r : NocRequest) (act : Access) (posted : Bool) (code : Nat) (ok : s.sound fx) : (nocFail s r act posted code).sound fx := by
  simp [nocFail, ok]

@[simp] theorem nocAdd_sound (s : State) (posted : Bool) (o : Outstanding) (ok : s.sound fx) : (nocAdd s posted o).sound fx := by
  simp [nocAdd, ok]

@[simp] theorem nocSunk_sound (s : State) (r : NocRequest) (act : Access) (p : Packet) (e : Nat) (ok : s.sound fx) : (nocSunk s r act p e).sound fx := by
  simp (maxDischargeDepth := 99) [nocSunk, ok]

theorem nocHit_sound {s : State} {r : NocRequest} {act : Access} {q : Issuer} {x : State × List Byte} (ok : s.sound fx)
    (h : nocHit s r act q = some x) : x.1.sound fx := by
  simp only [nocHit] at h
  split at h
  · split at h
    · exact State.cacheHit_sound ok h
    · cases h
  · cases h

@[simp] theorem nocAway_sound (s : State) (r : NocRequest) (act : Access) (posted : Bool) (q : Issuer) (p e : Nat) (ok : s.sound fx) : (nocAway s r act posted q p e).sound fx := by
  simp (maxDischargeDepth := 99) [nocAway, ok]

@[simp] theorem nocHere_sound (s : State) (r : NocRequest) (act : Access) (posted : Bool) (q : Issuer) (t : Target) (e : Nat) (ok : s.sound fx) : (nocHere s r act posted q t e).sound fx := by
  simp only [nocHere]; (repeat' split) <;> simp (maxDischargeDepth := 99) [ok]

@[simp] theorem nocRequest_sound (s : State) (r : NocRequest) (act : Access) (posted : Bool) (ok : s.sound fx) : (nocRequest s r act posted).sound fx := by
  simp only [nocRequest]
  repeat' split
  all_goals first
    | (simp (maxDischargeDepth := 99) [ok]; done)
    | (simp (maxDischargeDepth := 99) [nocHit_sound ok ‹_›]; done)

@[simp] theorem execRead_sound (r : NocRequest) (s : State) (ok : s.sound fx) : soundOut fx (execRead r s) := by
  simp [execRead, ok]

@[simp] theorem execWrite_sound (r : NocRequest) (posted : Bool) (data : List Byte) (s : State) (ok : s.sound fx) : soundOut fx (execWrite r posted data s) := by
  simp [execWrite, ok]

@[simp] theorem execWinPush_sound (r : NocRequest) (win : Fin 8) (data : List (BitVec 64)) (s : State) (ok : s.sound fx) : soundOut fx (execWinPush r win data s) := by
  simp [execWinPush, ok]

@[simp] theorem execWinPop_sound (r : NocRequest) (win : Fin 8) (s : State) (ok : s.sound fx) : soundOut fx (execWinPop r win s) := by
  simp [execWinPop, ok]

@[simp] theorem execWinPeek_sound (r : NocRequest) (win : Fin 8) (s : State) (ok : s.sound fx) : soundOut fx (execWinPeek r win s) := by
  simp [execWinPeek, ok]

@[simp] theorem execWinPoke_sound (r : NocRequest) (win : Fin 8) (data : List (BitVec 64)) (s : State) (ok : s.sound fx) : soundOut fx (execWinPoke r win data s) := by
  simp [execWinPoke, ok]

@[simp] theorem execHostApertureRequest_sound (r : NocRequest) (write : Option (List Byte)) (posted : Bool) (s : State) (ok : s.sound fx) : soundOut fx (execHostApertureRequest r write posted s) := by
  simp only [execHostApertureRequest]; (repeat' split) <;> simp (maxDischargeDepth := 99) [ok]

@[simp] theorem State.dropOut_sound (s : State) (o : Outstanding) (ok : s.sound fx) : (State.dropOut s o).sound fx := by
  simp [State.dropOut, ok]

@[simp] theorem State.delivered_sound (s : State) (o : Outstanding) (code : Nat) (d : List Byte) (ok : s.sound fx) : (State.delivered s o code d).sound fx := by
  simp only [State.delivered]; (repeat' split) <;> simp (maxDischargeDepth := 99) [ok]

@[simp] theorem State.transit_sound (s : State) (p : NocResponse) (kind : PacketKind) (status : Nat) (d : List Byte) (ok : s.sound fx) : (State.transit s p kind status d).sound fx := by
  simp [State.transit, ok]

/-- A response's way back is sound where what takes it is. -/
@[simp] theorem State.sendBack_sound (s : State) (o : Outstanding) (code : Nat) (d : List Byte) (l : List LinkFault) (take : State → State)
    (ok : s.sound fx) (hk : ∀ t, t.sound fx → (take t).sound fx) : (State.sendBack s o code d l take).sound fx := by
  simp only [State.sendBack]
  have h : ∀ b, ((s.inject (o.response code b)).linkFaults (route o.dst o.src) (o.response code b) l).sound fx := by
    intro b; simp (maxDischargeDepth := 99) [ok]
  (repeat' split) <;> first | exact hk _ (h _) | exact h _ | exact ok

@[simp] theorem execResp_sound (p : NocResponse) (status : BitVec 4) (s : State) (ok : s.sound fx) : soundOut fx (execResp p status s) := by
  simp only [execResp]; (repeat' split) <;> simp (maxDischargeDepth := 99) +contextual [ok]

@[simp] theorem State.storeAway_sound (s : State) (o : Outstanding) (d : List Byte) (key : Nat) (ok : s.sound fx) : (State.storeAway s o d key).sound fx := by
  simp only [State.storeAway]; (repeat' split) <;> simp (maxDischargeDepth := 99) +contextual [ok]

@[simp] theorem execData_sound (p : NocResponse) (data : List Byte) (key : BitVec 4) (s : State) (ok : s.sound fx) : soundOut fx (execData p data key s) := by
  simp only [execData]; (repeat' split) <;> simp (maxDischargeDepth := 99) +contextual [ok]

@[simp] theorem State.timedOut_sound (s : State) (o : Outstanding) (ok : s.sound fx) : (State.timedOut s o).sound fx := by
  simp (maxDischargeDepth := 99) [State.timedOut, ok]

@[simp] theorem execRequestTimeout_sound (p : NocResponse) (s : State) (ok : s.sound fx) : soundOut fx (execRequestTimeout p s) := by
  simp only [execRequestTimeout]; split <;> simp (maxDischargeDepth := 99) [ok]

@[simp] theorem execArrayRequestTimeout_sound (p : NocResponse) (s : State) (ok : s.sound fx) : soundOut fx (execArrayRequestTimeout p s) := by
  simp only [execArrayRequestTimeout]; split <;> simp (maxDischargeDepth := 99) [ok]

theorem State.hostAnswer_sound {s t : State} {p : NocResponse} {code : Nat} {d : List Byte} (ok : s.sound fx)
    (h : s.hostAnswer p code d = some t) : t.sound fx := by
  simp only [State.hostAnswer] at h
  split at h
  · split at h
    · rw [← Option.some.inj h]
      simp [ok]
    · cases h
  · cases h

@[simp] theorem hostAnswer_getD_sound (s : State) (p : NocResponse) (code : Nat) (d : List Byte) (ok : s.sound fx) :
    ((s.hostAnswer p code d).getD s).sound fx := by
  cases e : s.hostAnswer p code d with
  | none => exact ok
  | some t => exact State.hostAnswer_sound ok e

@[simp] theorem hostAnswer_elim_sound (s : State) (p : NocResponse) (code : Nat) (d : List Byte) (r : RF) (ok : s.sound fx) :
    ((s.hostAnswer p code d).elim s (fun t => t.bump r)).sound fx := by
  cases e : s.hostAnswer p code d with
  | none => exact ok
  | some t => exact State.bump_sound _ _ (State.hostAnswer_sound ok e)

@[simp] theorem execHostCompletionArrival_sound (p : NocResponse) (outcome : HostCompletion) (s : State) (ok : s.sound fx) : soundOut fx (execHostCompletionArrival p outcome s) := by
  simp only [execHostCompletionArrival]; split <;> simp (maxDischargeDepth := 99) [ok]

@[simp] theorem execHostCompletionTimeout_sound (p : NocResponse) (s : State) (ok : s.sound fx) : soundOut fx (execHostCompletionTimeout p s) := by
  simp [execHostCompletionTimeout, ok]

@[simp] theorem State.snooped_sound (s : State) (u line : Nat) (key : Option Nat) (ok : s.sound fx) : (State.snooped s u line key).sound fx := by
  simp [State.snooped, ok]

@[simp] theorem State.fanOut_sound (s : State) (line : Nat) (key : Option Nat) (ok : s.sound fx) : (State.fanOut s line key).sound fx := by
  simp [State.fanOut, ok]

@[simp] theorem execInv_sound (dst : Option (Fin 49)) (line : BitVec 37) (s : State) (ok : s.sound fx) : soundOut fx (execInv dst line s) := by
  simp only [execInv]; (repeat' split) <;> simp (maxDischargeDepth := 99) [ok]

@[simp] theorem execKeyDrop_sound (dst : Option (Fin 49)) (dev : Fin 8) (key : BitVec 4) (s : State) (ok : s.sound fx) : soundOut fx (execKeyDrop dst dev key s) := by
  simp only [execKeyDrop]; (repeat' split) <;> simp (maxDischargeDepth := 99) [ok]

@[simp] theorem State.unlock_sound (s : State) (sharer line : Nat) (ok : s.sound fx) : (State.unlock s sharer line).sound fx := by
  simp [State.unlock, ok]

@[simp] theorem execInvAck_sound (sharer : Fin 64) (line : BitVec 37) (key : Option (BitVec 4)) (s : State) (ok : s.sound fx) : soundOut fx (execInvAck sharer line key s) := by
  simp only [execInvAck]; (repeat' split) <;> simp (maxDischargeDepth := 99) [ok]

@[simp] theorem execEndpointDead_sound (e : Fin 240) (s : State) (ok : s.sound fx) : soundOut fx (execEndpointDead e s) := by
  simp only [execEndpointDead]; split <;> simp (maxDischargeDepth := 99) [ok]

@[simp] theorem execEndpointClosed_sound (e : Fin 240) (s : State) (ok : s.sound fx) : soundOut fx (execEndpointClosed e s) := by
  simp only [execEndpointClosed]; split <;> simp (maxDischargeDepth := 99) [ok]

/-! ### HostPort -/

@[simp] theorem State.showHost_sound (s : State) (ok : s.sound fx) : (State.showHost s).sound fx := by
  simp (maxDischargeDepth := 99) [State.showHost, ok]

@[simp] theorem State.linkDown_sound (s : State) (ok : s.sound fx) : (State.linkDown s).sound fx := by
  simp (maxDischargeDepth := 99) [State.linkDown, ok]

@[simp] theorem State.resetHost_sound (s : State) (ok : s.sound fx) : (State.resetHost s).sound fx := by
  simp (maxDischargeDepth := 99) +contextual [State.resetHost, ok]

@[simp] theorem execPerstNAssert_sound (s : State) (ok : s.sound fx) : soundOut fx (execPerstNAssert s) := by
  simp (maxDischargeDepth := 99) [execPerstNAssert, ok]

@[simp] theorem execPerstNRelease_sound (s : State) (ok : s.sound fx) : soundOut fx (execPerstNRelease s) := by
  simp [execPerstNRelease, ok]

@[simp] theorem execHotReset_sound (s : State) (ok : s.sound fx) : soundOut fx (execHotReset s) := by
  simp only [execHotReset]; split <;> simp (maxDischargeDepth := 99) [ok]

@[simp] theorem execFunctionLevelReset_sound (s : State) (ok : s.sound fx) : soundOut fx (execFunctionLevelReset s) := by
  simp only [execFunctionLevelReset]; split <;> simp (maxDischargeDepth := 99) [ok]

@[simp] theorem execPcieLinkStateChange_sound (active : Bool) (speed : Fin 5) (width : Fin 9) (s : State) (ok : s.sound fx) : soundOut fx (execPcieLinkStateChange active speed width s) := by
  simp only [execPcieLinkStateChange]; (repeat' split) <;> simp (maxDischargeDepth := 99) [ok]

@[simp] theorem execPcieConfigWrite_sound (busMaster d3hot msixEnable functionMask : Bool) (s : State) (ok : s.sound fx) : soundOut fx (execPcieConfigWrite busMaster d3hot msixEnable functionMask s) := by
  simp only [execPcieConfigWrite]; split <;> simp (maxDischargeDepth := 99) [ok]

@[simp] theorem State.abort_sound (s : State) (path code : Nat) (ok : s.sound fx) : (State.abort s path code).sound fx := by
  simp [State.abort, ok]

@[simp] theorem State.discard_sound (s : State) (n : Nat) (ok : s.sound fx) : (State.discard s n).sound fx := by
  simp (maxDischargeDepth := 99) [State.discard, ok]

@[simp] theorem apertureWord_sound (s : State) (off : Nat) (fabric : Option (BitVec 32)) (ok : s.sound fx) : (apertureWord s off fabric).1.sound fx := by
  simp only [apertureWord]; (repeat' split) <;> simp (maxDischargeDepth := 99) [ok]

@[simp] theorem bar0Read_sound (s : State) (off dws : Nat) (fabric : List (Option (BitVec 32))) (ok : s.sound fx) : (bar0Read s off dws fabric).1.sound fx := by
  simp only [bar0Read]
  refine foldl_fst_sound _ _ ok (fun c x hc => ?_)
  split <;> simp (maxDischargeDepth := 99) [hc]

@[simp] theorem bar0Write_sound (s : State) (off dws : Nat) (words : List (BitVec 32)) (fabric : List (Option (BitVec 32))) (ok : s.sound fx) : (bar0Write s off dws words fabric).1.sound fx := by
  simp only [bar0Write]
  refine foldl_fst_sound _ _ ok (fun c x hc => ?_)
  split <;> simp (maxDischargeDepth := 99) [hc]

@[simp] theorem execBar0Request_sound (off : BitVec 24) (dws : Fin 64) (enables : Bool) (write : Option (List (BitVec 32))) (fabric : List (Option (BitVec 32))) (s : State) (ok : s.sound fx) : soundOut fx (execBar0Request off dws enables write fabric s) := by
  simp only [execBar0Request]; (repeat' split) <;> simp (maxDischargeDepth := 99) [ok]

@[simp] theorem State.hostTimeout_sound (s : State) (n : Nat) (ok : s.sound fx) : (State.hostTimeout s n).1.sound fx := by
  simp [State.hostTimeout, ok]

@[simp] theorem hostRequest_sound (s : State) (a n : Nat) (act : Access) (remote : Option (BitVec 4 × List Byte)) (ok : s.sound fx) : (hostRequest s a n act remote).1.sound fx := by
  simp only [hostRequest]; (repeat' split) <;> simp (maxDischargeDepth := 99) [ok]

@[simp] theorem bar2Read_sound (s : State) (a n : Nat) (ok : s.sound fx) : (bar2Read s a n).1.sound fx := by
  simp (maxDischargeDepth := 99) +contextual [bar2Read, ok]

@[simp] theorem bar2Write_sound (s : State) (a : Nat) (b : List Byte) (ok : s.sound fx) : (bar2Write s a b).1.sound fx := by
  simp (maxDischargeDepth := 99) +contextual [bar2Write, ok]

@[simp] theorem execBar2Access_sound (off : BitVec 36) (len : BitVec 13) (write : Option (List Byte)) (s : State) (ok : s.sound fx) : soundOut fx (execBar2Access off len write s) := by
  simp only [execBar2Access]; (repeat' split) <;> simp (maxDischargeDepth := 99) [ok]

@[simp] theorem execBar2Resize_sound (log2 : Fin 64) (s : State) (ok : s.sound fx) : soundOut fx (execBar2Resize log2 s) := by
  simp only [execBar2Resize]; (repeat' split) <;> simp (maxDischargeDepth := 99) +contextual [ok]

theorem foldl_next_sound {α : Type} (l : List α) (f : DmaRun → α → DmaRun) {r : DmaRun} (ok : r.next.sound fx)
    (h : ∀ r a, r.next.sound fx → (f r a).next.sound fx) : (l.foldl f r).next.sound fx := by
  induction l generalizing r with
  | nil => exact ok
  | cons a l ih => exact ih (h _ _ ok)

@[simp] theorem dmaLocal_sound (s : State) (a n : Nat) (write : Option (List Byte)) (remote : List (BitVec 4 × List Byte))
    (ok : s.sound fx) : (dmaLocal s a n write remote).next.sound fx := by
  simp only [dmaLocal]
  refine foldl_next_sound _ _ ok (fun r p hr => ?_)
  split <;> simp (maxDischargeDepth := 99) [hr]

@[simp] theorem State.hostErrors_sound (s : State) (o : HostOutcome) (ok : s.sound fx) : (State.hostErrors s o).sound fx := by
  simp only [State.hostErrors]; split <;> simp (maxDischargeDepth := 99) [ok]

@[simp] theorem dmaTransfer_sound (s : State) (d : DmaDescriptor) (fromHost : HostCompletion) (remote : List (BitVec 4 × List Byte)) (ok : s.sound fx) : (dmaTransfer s d fromHost remote).next.sound fx := by
  simp only [dmaTransfer]; (repeat' split) <;> simp (maxDischargeDepth := 99) [ok]

@[simp] theorem execDmaDescriptorComplete_sound (c : Fin 8) (d : DmaDescriptor) (fromHost : HostCompletion) (remote : List (BitVec 4 × List Byte)) (s : State) (ok : s.sound fx) : soundOut fx (execDmaDescriptorComplete c d fromHost remote s) := by
  simp only [execDmaDescriptorComplete]; split <;> simp (maxDischargeDepth := 99) [ok]

/-! ### Turns -/

@[simp] theorem State.burstDue_sound (s : State) (q : Nat) (ok : s.sound fx) : (State.burstDue s q).sound fx := by
  simp [State.burstDue, ok]

@[simp] theorem State.eventLines_sound (s : State) (ok : s.sound fx) : (State.eventLines s).sound fx := by
  simp (maxDischargeDepth := 99) +contextual [State.eventLines, ok]

@[simp] theorem State.beginPip_sound (s : State) (now : Nat) (ok : s.sound fx) : (State.beginPip s now).sound fx := by
  simp [State.beginPip, ok]

@[simp] theorem State.enterPip_sound (s : State) (q : Nat) (ok : s.sound fx) : (State.enterPip s q).sound fx := by
  simp (maxDischargeDepth := 99) [State.enterPip, ok]

@[simp] theorem State.endTurn_sound (s : State) (real : Bool) (len : Nat) (ok : s.sound fx) : (State.endTurn s real len).sound fx := by
  simp (maxDischargeDepth := 99) [State.endTurn, ok]

@[simp] theorem State.synthetic_sound (s : State) (len : Nat) (ok : s.sound fx) : (State.synthetic s len).sound fx := by
  simp (maxDischargeDepth := 99) [State.synthetic, ok]

@[simp] theorem State.relock_sound (s : State) (ok : s.sound fx) : (State.relock s).sound fx := by
  simp [State.relock, ok]

@[simp] theorem State.arrive_sound (s : State) (p : Nat) (ok : s.sound fx) : (State.arrive s p).sound fx := by
  simp (maxDischargeDepth := 99) [State.arrive, ok]

@[simp] theorem State.ppsNext_sound (s : State) (now : Nat) (ok : s.sound fx) : (State.ppsNext s now).sound fx := by
  simp [State.ppsNext, ok]

@[simp] theorem State.finishPip_sound (s : State) (ok : s.sound fx) : (State.finishPip s).sound fx := by
  simp (maxDischargeDepth := 99) [State.finishPip, ok]

@[simp] theorem State.tick_sound (s : State) (ok : s.sound fx) : (State.tick s).sound fx := by
  simp (maxDischargeDepth := 99) [State.tick, ok]

@[simp] theorem State.pass_sound (s : State) (n : Nat) (ok : s.sound fx) : (State.pass s n).sound fx := by
  simp (maxDischargeDepth := 99) +contextual [State.pass, ok]

@[simp] theorem idlePip_sound (s : State) (ok : s.sound fx) : (idlePip s).sound fx := by
  simp [idlePip, ok]

@[simp] theorem State.arriveIn_sound (s : State) (n : Nat) (ok : s.sound fx) : (State.arriveIn s n).sound fx := by
  simp (maxDischargeDepth := 99) [State.arriveIn, ok]

@[simp] theorem execSyncInEdge_sound (rising : Bool) (pip : BitVec 32) (s : State) (ok : s.sound fx) : soundOut fx (execSyncInEdge rising pip s) := by
  simp only [execSyncInEdge]; split <;> simp (maxDischargeDepth := 99) [ok]

@[simp] theorem execPpsInEdge_sound (pip : BitVec 32) (s : State) (ok : s.sound fx) : soundOut fx (execPpsInEdge pip s) := by
  simp only [execPpsInEdge]; split <;> simp (maxDischargeDepth := 99) [ok]

@[simp] theorem execMarkerMatch_sound (lane : Fin 96) (word : BitVec 32) (kflags : BitVec 4) (pip : BitVec 32) (s : State) (ok : s.sound fx) : soundOut fx (execMarkerMatch lane word kflags pip s) := by
  simp only [execMarkerMatch]; split <;> simp (maxDischargeDepth := 99) [ok]

@[simp] theorem execInternalPeriodBoundary_sound (s : State) (ok : s.sound fx) : soundOut fx (execInternalPeriodBoundary s) := by
  simp only [execInternalPeriodBoundary]; split <;> simp (maxDischargeDepth := 99) [ok]

@[simp] theorem execPpsSubdivisionBoundary_sound (s : State) (ok : s.sound fx) : soundOut fx (execPpsSubdivisionBoundary s) := by
  simp only [execPpsSubdivisionBoundary]; split <;> simp (maxDischargeDepth := 99) [ok]

@[simp] theorem State.runOut_sound (s : State) (ok : s.sound fx) : (State.runOut s).sound fx := by
  simp (maxDischargeDepth := 99) [State.runOut, ok]

@[simp] theorem execSyntheticBoundary_sound (s : State) (ok : s.sound fx) : soundOut fx (execSyntheticBoundary s) := by
  simp only [execSyntheticBoundary]; split <;> simp (maxDischargeDepth := 99) [ok]

@[simp] theorem execFlywheelHoldoverEntry_sound (s : State) (ok : s.sound fx) : soundOut fx (execFlywheelHoldoverEntry s) := by
  simp only [execFlywheelHoldoverEntry]; split <;> simp (maxDischargeDepth := 99) [ok]

@[simp] theorem execHoldoverSyntheticBoundary_sound (s : State) (ok : s.sound fx) : soundOut fx (execHoldoverSyntheticBoundary s) := by
  simp only [execHoldoverSyntheticBoundary]; split <;> simp (maxDischargeDepth := 99) [ok]

@[simp] theorem execPipPllLock_sound (s : State) (ok : s.sound fx) : soundOut fx (execPipPllLock s) := by
  simp only [execPipPllLock]; split <;> simp (maxDischargeDepth := 99) [ok]

@[simp] theorem execPipPllUnlock_sound (s : State) (ok : s.sound fx) : soundOut fx (execPipPllUnlock s) := by
  simp only [execPipPllUnlock]; split <;> simp (maxDischargeDepth := 99) [ok]

@[simp] theorem scheduled_sound (action : Nat) (idx : Fin 4096) (s : State) (ok : s.sound fx) : soundOut fx (scheduled action idx s) := by
  simp only [scheduled]; (repeat' split) <;> simp (maxDischargeDepth := 99) [ok]

@[simp] theorem execSchedCtxSwitch_sound (idx : Fin 4096) (s : State) (ok : s.sound fx) : soundOut fx (execSchedCtxSwitch idx s) := by
  simp [execSchedCtxSwitch, ok]

@[simp] theorem execSchedGateClose_sound (idx : Fin 4096) (s : State) (ok : s.sound fx) : soundOut fx (execSchedGateClose idx s) := by
  simp [execSchedGateClose, ok]

@[simp] theorem execSchedGateOpen_sound (idx : Fin 4096) (s : State) (ok : s.sound fx) : soundOut fx (execSchedGateOpen idx s) := by
  simp [execSchedGateOpen, ok]

@[simp] theorem execSchedTrigArm_sound (idx : Fin 4096) (s : State) (ok : s.sound fx) : soundOut fx (execSchedTrigArm idx s) := by
  simp [execSchedTrigArm, ok]

@[simp] theorem execSchedReplayLaunch_sound (idx : Fin 4096) (s : State) (ok : s.sound fx) : soundOut fx (execSchedReplayLaunch idx s) := by
  simp [execSchedReplayLaunch, ok]

@[simp] theorem execSchedTrigOut_sound (idx : Fin 4096) (s : State) (ok : s.sound fx) : soundOut fx (execSchedTrigOut idx s) := by
  simp [execSchedTrigOut, ok]

@[simp] theorem execSchedEvent_sound (idx : Fin 4096) (s : State) (ok : s.sound fx) : soundOut fx (execSchedEvent idx s) := by
  simp [execSchedEvent, ok]

/-! ### Serve -/

@[simp] theorem cmdEvRouteSet_sound {s : State} (ok : s.sound fx) (mb : Nat) (r : Request) : (cmdEvRouteSet.act s mb r).next.sound fx := by
  simp (maxDischargeDepth := 99) +contextual [cmdEvRouteSet, ok]

@[simp] theorem execEvRouteSet_sound (mb : Fin 16) (req : Request) (s : State) (ok : s.sound fx) : soundOut fx (execEvRouteSet mb req s) := by
  simp (maxDischargeDepth := 99) +contextual [execEvRouteSet, ok]

@[simp] theorem cmdEvRouteGet_sound {s : State} (ok : s.sound fx) (mb : Nat) (r : Request) : (cmdEvRouteGet.act s mb r).next.sound fx := by
  simp [cmdEvRouteGet, ok]

@[simp] theorem execEvRouteGet_sound (mb : Fin 16) (req : Request) (s : State) (ok : s.sound fx) : soundOut fx (execEvRouteGet mb req s) := by
  simp (maxDischargeDepth := 99) +contextual [execEvRouteGet, ok]

@[simp] theorem cmdEvSnapshot_sound {s : State} (ok : s.sound fx) (mb : Nat) (r : Request) : (cmdEvSnapshot.act s mb r).next.sound fx := by
  simp (maxDischargeDepth := 99) +contextual [cmdEvSnapshot, ok]

@[simp] theorem execEvSnapshot_sound (mb : Fin 16) (req : Request) (s : State) (ok : s.sound fx) : soundOut fx (execEvSnapshot mb req s) := by
  simp (maxDischargeDepth := 99) +contextual [execEvSnapshot, ok]

theorem commands0_sound : ∀ d ∈ commands0, ∀ t m r, t.sound fx → (d.act t m r).next.sound fx := by
  intro d h t m r ok
  simp only [commands0, List.mem_cons, List.not_mem_nil, or_false] at h
  repeat' rcases h with rfl | h
  all_goals (try subst h) <;> simp [ok]

theorem commands1_sound : ∀ d ∈ commands1, ∀ t m r, t.sound fx → (d.act t m r).next.sound fx := by
  intro d h t m r ok
  simp only [commands1, List.mem_cons, List.not_mem_nil, or_false] at h
  repeat' rcases h with rfl | h
  all_goals (try subst h) <;> simp [ok]

theorem commands2_sound : ∀ d ∈ commands2, ∀ t m r, t.sound fx → (d.act t m r).next.sound fx := by
  intro d h t m r ok
  simp only [commands2, List.mem_cons, List.not_mem_nil, or_false] at h
  repeat' rcases h with rfl | h
  all_goals (try subst h) <;> simp [ok]

theorem commands3_sound : ∀ d ∈ commands3, ∀ t m r, t.sound fx → (d.act t m r).next.sound fx := by
  intro d h t m r ok
  simp only [commands3, List.mem_cons, List.not_mem_nil, or_false] at h
  repeat' rcases h with rfl | h
  all_goals (try subst h) <;> simp [ok]

theorem commandOf_sound {n : Nat} {c : Cmd} (h : commandOf n = some c) (t : State) (m : Nat) (r : Request) (ok : t.sound fx) :
    (c.act t m r).next.sound fx := by
  have := List.mem_of_find?_eq_some h
  simp only [List.mem_append] at this
  rcases this with ((a | a) | a) | a
  · exact commands0_sound c a t m r ok
  · exact commands1_sound c a t m r ok
  · exact commands2_sound c a t m r ok
  · exact commands3_sound c a t m r ok

@[simp] theorem execGafferTakeRequest_sound (s : State) (ok : s.sound fx) : soundOut fx (execGafferTakeRequest s) := by
  simp only [execGafferTakeRequest]
  repeat' split
  all_goals simp (maxDischargeDepth := 99) [ok]
  exact State.debugAlarm_sound _ _ (serveRequest_sound _ _ _ _ (by simp [ok]) (fun d e t => commandOf_sound e t _ _))

end Sys2Proof.Machine
end

