-- ==== Sys2Proof/Laws/State.lean ====
section
/-!
SUPPORT. Laws/State.lean: what each operation on registers, fields, counters and events writes and what it leaves: one lemma for each
part of the state and each update.
-/

namespace Sys2Proof.Machine

open Sys2Proof

/-! ### Registers and fields -/

/-- Two fields share no bit. -/
def RF.apart (f g : RF) : Prop := f.off ≠ g.off ∨ f.lo + f.w ≤ g.lo ∨ g.lo + g.w ≤ f.lo

theorem reg_lt (s : State) (off : Nat) : s.reg off < 2 ^ 32 := BitVec.isLt _

@[simp] theorem reg_setReg_same (s : State) (off v : Nat) : (s.setReg off v).reg off = v % 2 ^ 32 := by
  show (tblGet resetWord (tblSet resetWord s.regs off (BitVec.ofNat 32 v)) off).toNat = _
  rw [tblGet_tblSet_same, BitVec.toNat_ofNat]

theorem reg_setReg_ne (s : State) {o off : Nat} (v : Nat) (h : o ≠ off) : (s.setReg off v).reg o = s.reg o := by
  show (tblGet resetWord (tblSet resetWord s.regs off (BitVec.ofNat 32 v)) o).toNat = _
  rw [tblGet_tblSet_ne _ _ h]
  rfl

theorem get_setReg_ne (s : State) {f : RF} {off : Nat} (v : Nat) (h : f.off ≠ off) : (s.setReg off v).get f = s.get f := by
  unfold State.get
  rw [reg_setReg_ne s v h]

theorem reg_put_same (s : State) (f : RF) (v : Nat) (h : f.lo + f.w ≤ 32) :
    (s.put f v).reg f.off = withBits (s.reg f.off) f.lo f.w v := by
  unfold State.put
  rw [reg_setReg_same, Nat.mod_eq_of_lt (withBits_lt _ _ _ _ _ (reg_lt s _) h)]

theorem reg_put_ne (s : State) (f : RF) {o : Nat} (v : Nat) (h : o ≠ f.off) : (s.put f v).reg o = s.reg o := reg_setReg_ne s _ h

/-- A field that is set reads the value's low bits. -/
theorem get_put_same (s : State) (f : RF) (v : Nat) (h : f.lo + f.w ≤ 32) : (s.put f v).get f = v % 2 ^ f.w := by
  unfold State.get
  rw [reg_put_same s f v h, bits_withBits]

/-- A field that shares no bit with the one that is set keeps its value. -/
theorem get_put_apart (s : State) (f g : RF) (v : Nat) (hg : g.lo + g.w ≤ 32) (h : f.apart g) : (s.put g v).get f = s.get f := by
  unfold State.get
  by_cases e : f.off = g.off
  · rw [e, reg_put_same s g v hg]
    rcases h with h | h | h
    · exact absurd e h
    · exact bits_withBits_below _ _ _ _ _ _ h
    · exact bits_withBits_above _ _ _ _ _ _ h
  · rw [reg_put_ne s g v e]

theorem reg_bump_ne (s : State) (f : RF) {o : Nat} (h : o ≠ f.off) : (s.bump f).reg o = s.reg o := reg_put_ne s f _ h

/-- A counter counts 1 and saturates. -/
theorem get_bump_same (s : State) (f : RF) (h : f.lo + f.w ≤ 32) : (s.bump f).get f = min (s.get f + 1) (2 ^ f.w - 1) := by
  have p : 0 < 2 ^ f.w := Nat.two_pow_pos _
  show (s.put f (satAdd f.w (s.get f) 1)).get f = _
  rw [get_put_same s f _ h]
  exact Nat.mod_eq_of_lt (Nat.lt_of_le_of_lt (Nat.min_le_right _ _) (by omega))

theorem get_bump_apart (s : State) (f g : RF) (hg : g.lo + g.w ≤ 32) (h : f.apart g) : (s.bump g).get f = s.get f :=
  get_put_apart s f g _ hg h

/-- A counter counts 1 and wraps. -/
theorem get_wrapInc_same (s : State) (f : RF) (h : f.lo + f.w ≤ 32) : (s.wrapInc f).get f = (s.get f + 1) % 2 ^ f.w :=
  get_put_same s f _ h

theorem reg_inc64_ne (s : State) {lo hi n o : Nat} (h1 : o ≠ lo) (h2 : o ≠ hi) : (s.inc64 lo hi n).reg o = s.reg o := by
  unfold State.inc64
  rw [reg_setReg_ne _ _ h2, reg_setReg_ne _ _ h1]

/-! ### What an update of registers leaves -/

@[simp] theorem setReg_snaps (s : State) (off v : Nat) : (s.setReg off v).snaps = s.snaps := rfl

@[simp] theorem setReg_mbuf (s : State) (off v : Nat) : (s.setReg off v).mbuf = s.mbuf := rfl

@[simp] theorem setReg_gaf (s : State) (off v : Nat) : (s.setReg off v).gaf = s.gaf := rfl

@[simp] theorem setReg_tb (s : State) (off v : Nat) : (s.setReg off v).tb = s.tb := rfl

@[simp] theorem setReg_cap (s : State) (off v : Nat) : (s.setReg off v).cap = s.cap := rfl

@[simp] theorem setReg_sec (s : State) (off v : Nat) : (s.setReg off v).sec = s.sec := rfl

@[simp] theorem setReg_pins (s : State) (off v : Nat) : (s.setReg off v).pins = s.pins := rfl

@[simp] theorem setReg_bist (s : State) (off v : Nat) : (s.setReg off v).bist = s.bist := rfl

@[simp] theorem setReg_mem (s : State) (off v : Nat) : (s.setReg off v).mem = s.mem := rfl

@[simp] theorem setReg_noc (s : State) (off v : Nat) : (s.setReg off v).noc = s.noc := rfl

@[simp] theorem setReg_sram (s : State) (off v : Nat) : (s.setReg off v).sram = s.sram := rfl

@[simp] theorem setReg_answers (s : State) (off v : Nat) : (s.setReg off v).answers = s.answers := rfl

@[simp] theorem setReg_fab (s : State) (off v : Nat) : (s.setReg off v).fab = s.fab := rfl

@[simp] theorem setReg_rep (s : State) (off v : Nat) : (s.setReg off v).rep = s.rep := rfl

@[simp] theorem setReg_te (s : State) (off v : Nat) : (s.setReg off v).te = s.te := rfl

@[simp] theorem setReg_host (s : State) (off v : Nat) : (s.setReg off v).host = s.host := rfl

@[simp] theorem setReg_evLines (s : State) (off v : Nat) : (s.setReg off v).evLines = s.evLines := rfl

@[simp] theorem setReg_evLast (s : State) (off v : Nat) : (s.setReg off v).evLast = s.evLast := rfl

@[simp] theorem setReg_evWait (s : State) (off v : Nat) : (s.setReg off v).evWait = s.evWait := rfl

@[simp] theorem setReg_arr (s : State) (off v : Nat) : (s.setReg off v).arr = s.arr := rfl

@[simp] theorem setReg_phys (s : State) (off v : Nat) : (s.setReg off v).phys = s.phys := rfl

@[simp] theorem setReg_free (s : State) (off v : Nat) : (s.setReg off v).free = s.free := rfl

@[simp] theorem setReg_pending (s : State) (off v : Nat) : (s.setReg off v).pending = s.pending := rfl

@[simp] theorem put_snaps (s : State) (f : RF) (v : Nat) : (s.put f v).snaps = s.snaps := rfl

@[simp] theorem put_mbuf (s : State) (f : RF) (v : Nat) : (s.put f v).mbuf = s.mbuf := rfl

@[simp] theorem put_gaf (s : State) (f : RF) (v : Nat) : (s.put f v).gaf = s.gaf := rfl

@[simp] theorem put_tb (s : State) (f : RF) (v : Nat) : (s.put f v).tb = s.tb := rfl

@[simp] theorem put_cap (s : State) (f : RF) (v : Nat) : (s.put f v).cap = s.cap := rfl

@[simp] theorem put_sec (s : State) (f : RF) (v : Nat) : (s.put f v).sec = s.sec := rfl

@[simp] theorem put_pins (s : State) (f : RF) (v : Nat) : (s.put f v).pins = s.pins := rfl

@[simp] theorem put_bist (s : State) (f : RF) (v : Nat) : (s.put f v).bist = s.bist := rfl

@[simp] theorem put_mem (s : State) (f : RF) (v : Nat) : (s.put f v).mem = s.mem := rfl

@[simp] theorem put_noc (s : State) (f : RF) (v : Nat) : (s.put f v).noc = s.noc := rfl

@[simp] theorem put_sram (s : State) (f : RF) (v : Nat) : (s.put f v).sram = s.sram := rfl

@[simp] theorem put_answers (s : State) (f : RF) (v : Nat) : (s.put f v).answers = s.answers := rfl

@[simp] theorem put_fab (s : State) (f : RF) (v : Nat) : (s.put f v).fab = s.fab := rfl

@[simp] theorem put_rep (s : State) (f : RF) (v : Nat) : (s.put f v).rep = s.rep := rfl

@[simp] theorem put_te (s : State) (f : RF) (v : Nat) : (s.put f v).te = s.te := rfl

@[simp] theorem put_host (s : State) (f : RF) (v : Nat) : (s.put f v).host = s.host := rfl

@[simp] theorem put_evLines (s : State) (f : RF) (v : Nat) : (s.put f v).evLines = s.evLines := rfl

@[simp] theorem put_evLast (s : State) (f : RF) (v : Nat) : (s.put f v).evLast = s.evLast := rfl

@[simp] theorem put_evWait (s : State) (f : RF) (v : Nat) : (s.put f v).evWait = s.evWait := rfl

@[simp] theorem put_arr (s : State) (f : RF) (v : Nat) : (s.put f v).arr = s.arr := rfl

@[simp] theorem put_phys (s : State) (f : RF) (v : Nat) : (s.put f v).phys = s.phys := rfl

@[simp] theorem put_free (s : State) (f : RF) (v : Nat) : (s.put f v).free = s.free := rfl

@[simp] theorem put_pending (s : State) (f : RF) (v : Nat) : (s.put f v).pending = s.pending := rfl

@[simp] theorem bumpBy_snaps (s : State) (f : RF) (n : Nat) : (s.bumpBy f n).snaps = s.snaps := rfl

@[simp] theorem bumpBy_mbuf (s : State) (f : RF) (n : Nat) : (s.bumpBy f n).mbuf = s.mbuf := rfl

@[simp] theorem bumpBy_gaf (s : State) (f : RF) (n : Nat) : (s.bumpBy f n).gaf = s.gaf := rfl

@[simp] theorem bumpBy_tb (s : State) (f : RF) (n : Nat) : (s.bumpBy f n).tb = s.tb := rfl

@[simp] theorem bumpBy_cap (s : State) (f : RF) (n : Nat) : (s.bumpBy f n).cap = s.cap := rfl

@[simp] theorem bumpBy_sec (s : State) (f : RF) (n : Nat) : (s.bumpBy f n).sec = s.sec := rfl

@[simp] theorem bumpBy_pins (s : State) (f : RF) (n : Nat) : (s.bumpBy f n).pins = s.pins := rfl

@[simp] theorem bumpBy_bist (s : State) (f : RF) (n : Nat) : (s.bumpBy f n).bist = s.bist := rfl

@[simp] theorem bumpBy_mem (s : State) (f : RF) (n : Nat) : (s.bumpBy f n).mem = s.mem := rfl

@[simp] theorem bumpBy_noc (s : State) (f : RF) (n : Nat) : (s.bumpBy f n).noc = s.noc := rfl

@[simp] theorem bumpBy_sram (s : State) (f : RF) (n : Nat) : (s.bumpBy f n).sram = s.sram := rfl

@[simp] theorem bumpBy_answers (s : State) (f : RF) (n : Nat) : (s.bumpBy f n).answers = s.answers := rfl

@[simp] theorem bumpBy_fab (s : State) (f : RF) (n : Nat) : (s.bumpBy f n).fab = s.fab := rfl

@[simp] theorem bumpBy_rep (s : State) (f : RF) (n : Nat) : (s.bumpBy f n).rep = s.rep := rfl

@[simp] theorem bumpBy_te (s : State) (f : RF) (n : Nat) : (s.bumpBy f n).te = s.te := rfl

@[simp] theorem bumpBy_host (s : State) (f : RF) (n : Nat) : (s.bumpBy f n).host = s.host := rfl

@[simp] theorem bumpBy_evLines (s : State) (f : RF) (n : Nat) : (s.bumpBy f n).evLines = s.evLines := rfl

@[simp] theorem bumpBy_evLast (s : State) (f : RF) (n : Nat) : (s.bumpBy f n).evLast = s.evLast := rfl

@[simp] theorem bumpBy_evWait (s : State) (f : RF) (n : Nat) : (s.bumpBy f n).evWait = s.evWait := rfl

@[simp] theorem bumpBy_arr (s : State) (f : RF) (n : Nat) : (s.bumpBy f n).arr = s.arr := rfl

@[simp] theorem bumpBy_phys (s : State) (f : RF) (n : Nat) : (s.bumpBy f n).phys = s.phys := rfl

@[simp] theorem bumpBy_free (s : State) (f : RF) (n : Nat) : (s.bumpBy f n).free = s.free := rfl

@[simp] theorem bumpBy_pending (s : State) (f : RF) (n : Nat) : (s.bumpBy f n).pending = s.pending := rfl

@[simp] theorem bump_snaps (s : State) (f : RF) : (s.bump f).snaps = s.snaps := rfl

@[simp] theorem bump_mbuf (s : State) (f : RF) : (s.bump f).mbuf = s.mbuf := rfl

@[simp] theorem bump_gaf (s : State) (f : RF) : (s.bump f).gaf = s.gaf := rfl

@[simp] theorem bump_tb (s : State) (f : RF) : (s.bump f).tb = s.tb := rfl

@[simp] theorem bump_cap (s : State) (f : RF) : (s.bump f).cap = s.cap := rfl

@[simp] theorem bump_sec (s : State) (f : RF) : (s.bump f).sec = s.sec := rfl

@[simp] theorem bump_pins (s : State) (f : RF) : (s.bump f).pins = s.pins := rfl

@[simp] theorem bump_bist (s : State) (f : RF) : (s.bump f).bist = s.bist := rfl

@[simp] theorem bump_mem (s : State) (f : RF) : (s.bump f).mem = s.mem := rfl

@[simp] theorem bump_noc (s : State) (f : RF) : (s.bump f).noc = s.noc := rfl

@[simp] theorem bump_sram (s : State) (f : RF) : (s.bump f).sram = s.sram := rfl

@[simp] theorem bump_answers (s : State) (f : RF) : (s.bump f).answers = s.answers := rfl

@[simp] theorem bump_fab (s : State) (f : RF) : (s.bump f).fab = s.fab := rfl

@[simp] theorem bump_rep (s : State) (f : RF) : (s.bump f).rep = s.rep := rfl

@[simp] theorem bump_te (s : State) (f : RF) : (s.bump f).te = s.te := rfl

@[simp] theorem bump_host (s : State) (f : RF) : (s.bump f).host = s.host := rfl

@[simp] theorem bump_evLines (s : State) (f : RF) : (s.bump f).evLines = s.evLines := rfl

@[simp] theorem bump_evLast (s : State) (f : RF) : (s.bump f).evLast = s.evLast := rfl

@[simp] theorem bump_evWait (s : State) (f : RF) : (s.bump f).evWait = s.evWait := rfl

@[simp] theorem bump_arr (s : State) (f : RF) : (s.bump f).arr = s.arr := rfl

@[simp] theorem bump_phys (s : State) (f : RF) : (s.bump f).phys = s.phys := rfl

@[simp] theorem bump_free (s : State) (f : RF) : (s.bump f).free = s.free := rfl

@[simp] theorem bump_pending (s : State) (f : RF) : (s.bump f).pending = s.pending := rfl

@[simp] theorem wrapInc_snaps (s : State) (f : RF) : (s.wrapInc f).snaps = s.snaps := rfl

@[simp] theorem wrapInc_mbuf (s : State) (f : RF) : (s.wrapInc f).mbuf = s.mbuf := rfl

@[simp] theorem wrapInc_gaf (s : State) (f : RF) : (s.wrapInc f).gaf = s.gaf := rfl

@[simp] theorem wrapInc_tb (s : State) (f : RF) : (s.wrapInc f).tb = s.tb := rfl

@[simp] theorem wrapInc_cap (s : State) (f : RF) : (s.wrapInc f).cap = s.cap := rfl

@[simp] theorem wrapInc_sec (s : State) (f : RF) : (s.wrapInc f).sec = s.sec := rfl

@[simp] theorem wrapInc_pins (s : State) (f : RF) : (s.wrapInc f).pins = s.pins := rfl

@[simp] theorem wrapInc_bist (s : State) (f : RF) : (s.wrapInc f).bist = s.bist := rfl

@[simp] theorem wrapInc_mem (s : State) (f : RF) : (s.wrapInc f).mem = s.mem := rfl

@[simp] theorem wrapInc_noc (s : State) (f : RF) : (s.wrapInc f).noc = s.noc := rfl

@[simp] theorem wrapInc_sram (s : State) (f : RF) : (s.wrapInc f).sram = s.sram := rfl

@[simp] theorem wrapInc_answers (s : State) (f : RF) : (s.wrapInc f).answers = s.answers := rfl

@[simp] theorem wrapInc_fab (s : State) (f : RF) : (s.wrapInc f).fab = s.fab := rfl

@[simp] theorem wrapInc_rep (s : State) (f : RF) : (s.wrapInc f).rep = s.rep := rfl

@[simp] theorem wrapInc_te (s : State) (f : RF) : (s.wrapInc f).te = s.te := rfl

@[simp] theorem wrapInc_host (s : State) (f : RF) : (s.wrapInc f).host = s.host := rfl

@[simp] theorem wrapInc_evLines (s : State) (f : RF) : (s.wrapInc f).evLines = s.evLines := rfl

@[simp] theorem wrapInc_evLast (s : State) (f : RF) : (s.wrapInc f).evLast = s.evLast := rfl

@[simp] theorem wrapInc_evWait (s : State) (f : RF) : (s.wrapInc f).evWait = s.evWait := rfl

@[simp] theorem wrapInc_arr (s : State) (f : RF) : (s.wrapInc f).arr = s.arr := rfl

@[simp] theorem wrapInc_phys (s : State) (f : RF) : (s.wrapInc f).phys = s.phys := rfl

@[simp] theorem wrapInc_free (s : State) (f : RF) : (s.wrapInc f).free = s.free := rfl

@[simp] theorem wrapInc_pending (s : State) (f : RF) : (s.wrapInc f).pending = s.pending := rfl

@[simp] theorem inc64_snaps (s : State) (lo hi n : Nat) : (s.inc64 lo hi n).snaps = s.snaps := rfl

@[simp] theorem inc64_mbuf (s : State) (lo hi n : Nat) : (s.inc64 lo hi n).mbuf = s.mbuf := rfl

@[simp] theorem inc64_gaf (s : State) (lo hi n : Nat) : (s.inc64 lo hi n).gaf = s.gaf := rfl

@[simp] theorem inc64_tb (s : State) (lo hi n : Nat) : (s.inc64 lo hi n).tb = s.tb := rfl

@[simp] theorem inc64_cap (s : State) (lo hi n : Nat) : (s.inc64 lo hi n).cap = s.cap := rfl

@[simp] theorem inc64_sec (s : State) (lo hi n : Nat) : (s.inc64 lo hi n).sec = s.sec := rfl

@[simp] theorem inc64_pins (s : State) (lo hi n : Nat) : (s.inc64 lo hi n).pins = s.pins := rfl

@[simp] theorem inc64_bist (s : State) (lo hi n : Nat) : (s.inc64 lo hi n).bist = s.bist := rfl

@[simp] theorem inc64_mem (s : State) (lo hi n : Nat) : (s.inc64 lo hi n).mem = s.mem := rfl

@[simp] theorem inc64_noc (s : State) (lo hi n : Nat) : (s.inc64 lo hi n).noc = s.noc := rfl

@[simp] theorem inc64_sram (s : State) (lo hi n : Nat) : (s.inc64 lo hi n).sram = s.sram := rfl

@[simp] theorem inc64_answers (s : State) (lo hi n : Nat) : (s.inc64 lo hi n).answers = s.answers := rfl

@[simp] theorem inc64_fab (s : State) (lo hi n : Nat) : (s.inc64 lo hi n).fab = s.fab := rfl

@[simp] theorem inc64_rep (s : State) (lo hi n : Nat) : (s.inc64 lo hi n).rep = s.rep := rfl

@[simp] theorem inc64_te (s : State) (lo hi n : Nat) : (s.inc64 lo hi n).te = s.te := rfl

@[simp] theorem inc64_host (s : State) (lo hi n : Nat) : (s.inc64 lo hi n).host = s.host := rfl

@[simp] theorem inc64_evLines (s : State) (lo hi n : Nat) : (s.inc64 lo hi n).evLines = s.evLines := rfl

@[simp] theorem inc64_evLast (s : State) (lo hi n : Nat) : (s.inc64 lo hi n).evLast = s.evLast := rfl

@[simp] theorem inc64_evWait (s : State) (lo hi n : Nat) : (s.inc64 lo hi n).evWait = s.evWait := rfl

@[simp] theorem inc64_arr (s : State) (lo hi n : Nat) : (s.inc64 lo hi n).arr = s.arr := rfl

@[simp] theorem inc64_phys (s : State) (lo hi n : Nat) : (s.inc64 lo hi n).phys = s.phys := rfl

@[simp] theorem inc64_free (s : State) (lo hi n : Nat) : (s.inc64 lo hi n).free = s.free := rfl

@[simp] theorem inc64_pending (s : State) (lo hi n : Nat) : (s.inc64 lo hi n).pending = s.pending := rfl

@[simp] theorem resetRegs_snaps (s : State) (lo hi : Nat) : (s.resetRegs lo hi).snaps = s.snaps := rfl

@[simp] theorem resetRegs_mbuf (s : State) (lo hi : Nat) : (s.resetRegs lo hi).mbuf = s.mbuf := rfl

@[simp] theorem resetRegs_gaf (s : State) (lo hi : Nat) : (s.resetRegs lo hi).gaf = s.gaf := rfl

@[simp] theorem resetRegs_tb (s : State) (lo hi : Nat) : (s.resetRegs lo hi).tb = s.tb := rfl

@[simp] theorem resetRegs_cap (s : State) (lo hi : Nat) : (s.resetRegs lo hi).cap = s.cap := rfl

@[simp] theorem resetRegs_sec (s : State) (lo hi : Nat) : (s.resetRegs lo hi).sec = s.sec := rfl

@[simp] theorem resetRegs_pins (s : State) (lo hi : Nat) : (s.resetRegs lo hi).pins = s.pins := rfl

@[simp] theorem resetRegs_bist (s : State) (lo hi : Nat) : (s.resetRegs lo hi).bist = s.bist := rfl

@[simp] theorem resetRegs_mem (s : State) (lo hi : Nat) : (s.resetRegs lo hi).mem = s.mem := rfl

@[simp] theorem resetRegs_noc (s : State) (lo hi : Nat) : (s.resetRegs lo hi).noc = s.noc := rfl

@[simp] theorem resetRegs_sram (s : State) (lo hi : Nat) : (s.resetRegs lo hi).sram = s.sram := rfl

@[simp] theorem resetRegs_answers (s : State) (lo hi : Nat) : (s.resetRegs lo hi).answers = s.answers := rfl

@[simp] theorem resetRegs_fab (s : State) (lo hi : Nat) : (s.resetRegs lo hi).fab = s.fab := rfl

@[simp] theorem resetRegs_rep (s : State) (lo hi : Nat) : (s.resetRegs lo hi).rep = s.rep := rfl

@[simp] theorem resetRegs_te (s : State) (lo hi : Nat) : (s.resetRegs lo hi).te = s.te := rfl

@[simp] theorem resetRegs_host (s : State) (lo hi : Nat) : (s.resetRegs lo hi).host = s.host := rfl

@[simp] theorem resetRegs_evLines (s : State) (lo hi : Nat) : (s.resetRegs lo hi).evLines = s.evLines := rfl

@[simp] theorem resetRegs_evLast (s : State) (lo hi : Nat) : (s.resetRegs lo hi).evLast = s.evLast := rfl

@[simp] theorem resetRegs_evWait (s : State) (lo hi : Nat) : (s.resetRegs lo hi).evWait = s.evWait := rfl

@[simp] theorem resetRegs_arr (s : State) (lo hi : Nat) : (s.resetRegs lo hi).arr = s.arr := rfl

@[simp] theorem resetRegs_phys (s : State) (lo hi : Nat) : (s.resetRegs lo hi).phys = s.phys := rfl

@[simp] theorem resetRegs_free (s : State) (lo hi : Nat) : (s.resetRegs lo hi).free = s.free := rfl

@[simp] theorem resetRegs_pending (s : State) (lo hi : Nat) : (s.resetRegs lo hi).pending = s.pending := rfl

@[simp] theorem drawn_free (s : State) : s.drawn.free = s.free + 1 := rfl

@[simp] theorem reg_drawn (s : State) (off : Nat) : s.drawn.reg off = s.reg off := rfl

@[simp] theorem get_drawn (s : State) (f : RF) : s.drawn.get f = s.get f := rfl

@[simp] theorem drawn_snaps (s : State) : (s.drawn).snaps = s.snaps := rfl

@[simp] theorem drawn_mbuf (s : State) : (s.drawn).mbuf = s.mbuf := rfl

@[simp] theorem drawn_gaf (s : State) : (s.drawn).gaf = s.gaf := rfl

@[simp] theorem drawn_tb (s : State) : (s.drawn).tb = s.tb := rfl

@[simp] theorem drawn_cap (s : State) : (s.drawn).cap = s.cap := rfl

@[simp] theorem drawn_sec (s : State) : (s.drawn).sec = s.sec := rfl

@[simp] theorem drawn_pins (s : State) : (s.drawn).pins = s.pins := rfl

@[simp] theorem drawn_bist (s : State) : (s.drawn).bist = s.bist := rfl

@[simp] theorem drawn_mem (s : State) : (s.drawn).mem = s.mem := rfl

@[simp] theorem drawn_noc (s : State) : (s.drawn).noc = s.noc := rfl

@[simp] theorem drawn_sram (s : State) : (s.drawn).sram = s.sram := rfl

@[simp] theorem drawn_answers (s : State) : (s.drawn).answers = s.answers := rfl

@[simp] theorem drawn_fab (s : State) : (s.drawn).fab = s.fab := rfl

@[simp] theorem drawn_rep (s : State) : (s.drawn).rep = s.rep := rfl

@[simp] theorem drawn_te (s : State) : (s.drawn).te = s.te := rfl

@[simp] theorem drawn_host (s : State) : (s.drawn).host = s.host := rfl

@[simp] theorem drawn_evLines (s : State) : (s.drawn).evLines = s.evLines := rfl

@[simp] theorem drawn_evLast (s : State) : (s.drawn).evLast = s.evLast := rfl

@[simp] theorem drawn_evWait (s : State) : (s.drawn).evWait = s.evWait := rfl

@[simp] theorem drawn_arr (s : State) : (s.drawn).arr = s.arr := rfl

@[simp] theorem drawn_phys (s : State) : (s.drawn).phys = s.phys := rfl

@[simp] theorem drawn_pending (s : State) : (s.drawn).pending = s.pending := rfl

/-! ### Events -/

theorem reg_msix (s : State) (v off : Nat) : (s.msix v).reg off = s.reg off := by
  unfold State.msix
  dsimp only
  split
  · rfl
  · split <;> rfl

@[simp] theorem reg_eventLine (s : State) (l off : Nat) : (s.eventLine l).reg off = s.reg off := by
  unfold State.eventLine
  split <;> rfl

theorem reg_deliver (s : State) (e : Nat) (was : Bool) (off : Nat) : (s.deliver e was).reg off = s.reg off := by
  unfold State.deliver
  split
  · rfl
  · dsimp only
    split
    · split
      · rfl
      · exact reg_msix _ _ _
    · split
      · exact reg_eventLine _ _ _
      · split <;> rfl

@[simp] theorem msix_snaps (s : State) (v : Nat) : (s.msix v).snaps = s.snaps := by
  unfold State.msix
  dsimp only
  split
  · rfl
  · split <;> rfl

@[simp] theorem msix_mbuf (s : State) (v : Nat) : (s.msix v).mbuf = s.mbuf := by
  unfold State.msix
  dsimp only
  split
  · rfl
  · split <;> rfl

@[simp] theorem msix_gaf (s : State) (v : Nat) : (s.msix v).gaf = s.gaf := by
  unfold State.msix
  dsimp only
  split
  · rfl
  · split <;> rfl

@[simp] theorem msix_tb (s : State) (v : Nat) : (s.msix v).tb = s.tb := by
  unfold State.msix
  dsimp only
  split
  · rfl
  · split <;> rfl

@[simp] theorem msix_cap (s : State) (v : Nat) : (s.msix v).cap = s.cap := by
  unfold State.msix
  dsimp only
  split
  · rfl
  · split <;> rfl

@[simp] theorem msix_sec (s : State) (v : Nat) : (s.msix v).sec = s.sec := by
  unfold State.msix
  dsimp only
  split
  · rfl
  · split <;> rfl

@[simp] theorem msix_pins (s : State) (v : Nat) : (s.msix v).pins = s.pins := by
  unfold State.msix
  dsimp only
  split
  · rfl
  · split <;> rfl

@[simp] theorem msix_bist (s : State) (v : Nat) : (s.msix v).bist = s.bist := by
  unfold State.msix
  dsimp only
  split
  · rfl
  · split <;> rfl

@[simp] theorem msix_mem (s : State) (v : Nat) : (s.msix v).mem = s.mem := by
  unfold State.msix
  dsimp only
  split
  · rfl
  · split <;> rfl

@[simp] theorem msix_noc (s : State) (v : Nat) : (s.msix v).noc = s.noc := by
  unfold State.msix
  dsimp only
  split
  · rfl
  · split <;> rfl

@[simp] theorem msix_sram (s : State) (v : Nat) : (s.msix v).sram = s.sram := by
  unfold State.msix
  dsimp only
  split
  · rfl
  · split <;> rfl

@[simp] theorem msix_answers (s : State) (v : Nat) : (s.msix v).answers = s.answers := by
  unfold State.msix
  dsimp only
  split
  · rfl
  · split <;> rfl

@[simp] theorem msix_fab (s : State) (v : Nat) : (s.msix v).fab = s.fab := by
  unfold State.msix
  dsimp only
  split
  · rfl
  · split <;> rfl

@[simp] theorem msix_rep (s : State) (v : Nat) : (s.msix v).rep = s.rep := by
  unfold State.msix
  dsimp only
  split
  · rfl
  · split <;> rfl

@[simp] theorem msix_te (s : State) (v : Nat) : (s.msix v).te = s.te := by
  unfold State.msix
  dsimp only
  split
  · rfl
  · split <;> rfl

@[simp] theorem msix_evLines (s : State) (v : Nat) : (s.msix v).evLines = s.evLines := by
  unfold State.msix
  dsimp only
  split
  · rfl
  · split <;> rfl

@[simp] theorem msix_evLast (s : State) (v : Nat) : (s.msix v).evLast = s.evLast := by
  unfold State.msix
  dsimp only
  split
  · rfl
  · split <;> rfl

@[simp] theorem msix_evWait (s : State) (v : Nat) : (s.msix v).evWait = s.evWait := by
  unfold State.msix
  dsimp only
  split
  · rfl
  · split <;> rfl

@[simp] theorem msix_arr (s : State) (v : Nat) : (s.msix v).arr = s.arr := by
  unfold State.msix
  dsimp only
  split
  · rfl
  · split <;> rfl

@[simp] theorem msix_phys (s : State) (v : Nat) : (s.msix v).phys = s.phys := by
  unfold State.msix
  dsimp only
  split
  · rfl
  · split <;> rfl

@[simp] theorem msix_free (s : State) (v : Nat) : (s.msix v).free = s.free := by
  unfold State.msix
  dsimp only
  split
  · rfl
  · split <;> rfl

@[simp] theorem msix_pending (s : State) (v : Nat) : (s.msix v).pending = s.pending := by
  unfold State.msix
  dsimp only
  split
  · rfl
  · split <;> rfl

@[simp] theorem eventLine_snaps (s : State) (l : Nat) : (s.eventLine l).snaps = s.snaps := by
  unfold State.eventLine
  split <;> rfl

@[simp] theorem eventLine_mbuf (s : State) (l : Nat) : (s.eventLine l).mbuf = s.mbuf := by
  unfold State.eventLine
  split <;> rfl

@[simp] theorem eventLine_gaf (s : State) (l : Nat) : (s.eventLine l).gaf = s.gaf := by
  unfold State.eventLine
  split <;> rfl

@[simp] theorem eventLine_tb (s : State) (l : Nat) : (s.eventLine l).tb = s.tb := by
  unfold State.eventLine
  split <;> rfl

@[simp] theorem eventLine_sec (s : State) (l : Nat) : (s.eventLine l).sec = s.sec := by
  unfold State.eventLine
  split <;> rfl

@[simp] theorem eventLine_pins (s : State) (l : Nat) : (s.eventLine l).pins = s.pins := by
  unfold State.eventLine
  split <;> rfl

@[simp] theorem eventLine_bist (s : State) (l : Nat) : (s.eventLine l).bist = s.bist := by
  unfold State.eventLine
  split <;> rfl

@[simp] theorem eventLine_mem (s : State) (l : Nat) : (s.eventLine l).mem = s.mem := by
  unfold State.eventLine
  split <;> rfl

@[simp] theorem eventLine_noc (s : State) (l : Nat) : (s.eventLine l).noc = s.noc := by
  unfold State.eventLine
  split <;> rfl

@[simp] theorem eventLine_sram (s : State) (l : Nat) : (s.eventLine l).sram = s.sram := by
  unfold State.eventLine
  split <;> rfl

@[simp] theorem eventLine_answers (s : State) (l : Nat) : (s.eventLine l).answers = s.answers := by
  unfold State.eventLine
  split <;> rfl

@[simp] theorem eventLine_fab (s : State) (l : Nat) : (s.eventLine l).fab = s.fab := by
  unfold State.eventLine
  split <;> rfl

@[simp] theorem eventLine_rep (s : State) (l : Nat) : (s.eventLine l).rep = s.rep := by
  unfold State.eventLine
  split <;> rfl

@[simp] theorem eventLine_te (s : State) (l : Nat) : (s.eventLine l).te = s.te := by
  unfold State.eventLine
  split <;> rfl

@[simp] theorem eventLine_arr (s : State) (l : Nat) : (s.eventLine l).arr = s.arr := by
  unfold State.eventLine
  split <;> rfl

@[simp] theorem eventLine_phys (s : State) (l : Nat) : (s.eventLine l).phys = s.phys := by
  unfold State.eventLine
  split <;> rfl

@[simp] theorem eventLine_free (s : State) (l : Nat) : (s.eventLine l).free = s.free := by
  unfold State.eventLine
  split <;> rfl

@[simp] theorem eventLine_pending (s : State) (l : Nat) : (s.eventLine l).pending = s.pending := by
  unfold State.eventLine
  split <;> rfl

@[simp] theorem eventLine_regs (s : State) (l : Nat) : (s.eventLine l).regs = s.regs := by
  unfold State.eventLine
  split <;> rfl

@[simp] theorem deliver_snaps (s : State) (e : Nat) (was : Bool) : (s.deliver e was).snaps = s.snaps := by
  unfold State.deliver
  split
  · rfl
  · dsimp only
    repeat' split
    all_goals (first | rfl | simp)

@[simp] theorem raise_snaps (s : State) (e : Nat) : (s.raise e).snaps = s.snaps := by
  unfold State.raise
  split
  · rfl
  · simp

@[simp] theorem deliver_mbuf (s : State) (e : Nat) (was : Bool) : (s.deliver e was).mbuf = s.mbuf := by
  unfold State.deliver
  split
  · rfl
  · dsimp only
    repeat' split
    all_goals (first | rfl | simp)

@[simp] theorem raise_mbuf (s : State) (e : Nat) : (s.raise e).mbuf = s.mbuf := by
  unfold State.raise
  split
  · rfl
  · simp

@[simp] theorem deliver_gaf (s : State) (e : Nat) (was : Bool) : (s.deliver e was).gaf = s.gaf := by
  unfold State.deliver
  split
  · rfl
  · dsimp only
    repeat' split
    all_goals (first | rfl | simp)

@[simp] theorem raise_gaf (s : State) (e : Nat) : (s.raise e).gaf = s.gaf := by
  unfold State.raise
  split
  · rfl
  · simp

@[simp] theorem deliver_tb (s : State) (e : Nat) (was : Bool) : (s.deliver e was).tb = s.tb := by
  unfold State.deliver
  split
  · rfl
  · dsimp only
    repeat' split
    all_goals (first | rfl | simp)

@[simp] theorem raise_tb (s : State) (e : Nat) : (s.raise e).tb = s.tb := by
  unfold State.raise
  split
  · rfl
  · simp

@[simp] theorem deliver_sec (s : State) (e : Nat) (was : Bool) : (s.deliver e was).sec = s.sec := by
  unfold State.deliver
  split
  · rfl
  · dsimp only
    repeat' split
    all_goals (first | rfl | simp)

@[simp] theorem raise_sec (s : State) (e : Nat) : (s.raise e).sec = s.sec := by
  unfold State.raise
  split
  · rfl
  · simp

@[simp] theorem deliver_pins (s : State) (e : Nat) (was : Bool) : (s.deliver e was).pins = s.pins := by
  unfold State.deliver
  split
  · rfl
  · dsimp only
    repeat' split
    all_goals (first | rfl | simp)

@[simp] theorem raise_pins (s : State) (e : Nat) : (s.raise e).pins = s.pins := by
  unfold State.raise
  split
  · rfl
  · simp

@[simp] theorem deliver_bist (s : State) (e : Nat) (was : Bool) : (s.deliver e was).bist = s.bist := by
  unfold State.deliver
  split
  · rfl
  · dsimp only
    repeat' split
    all_goals (first | rfl | simp)

@[simp] theorem raise_bist (s : State) (e : Nat) : (s.raise e).bist = s.bist := by
  unfold State.raise
  split
  · rfl
  · simp

@[simp] theorem deliver_mem (s : State) (e : Nat) (was : Bool) : (s.deliver e was).mem = s.mem := by
  unfold State.deliver
  split
  · rfl
  · dsimp only
    repeat' split
    all_goals (first | rfl | simp)

@[simp] theorem raise_mem (s : State) (e : Nat) : (s.raise e).mem = s.mem := by
  unfold State.raise
  split
  · rfl
  · simp

@[simp] theorem deliver_noc (s : State) (e : Nat) (was : Bool) : (s.deliver e was).noc = s.noc := by
  unfold State.deliver
  split
  · rfl
  · dsimp only
    repeat' split
    all_goals (first | rfl | simp)

@[simp] theorem raise_noc (s : State) (e : Nat) : (s.raise e).noc = s.noc := by
  unfold State.raise
  split
  · rfl
  · simp

@[simp] theorem deliver_sram (s : State) (e : Nat) (was : Bool) : (s.deliver e was).sram = s.sram := by
  unfold State.deliver
  split
  · rfl
  · dsimp only
    repeat' split
    all_goals (first | rfl | simp)

@[simp] theorem raise_sram (s : State) (e : Nat) : (s.raise e).sram = s.sram := by
  unfold State.raise
  split
  · rfl
  · simp

@[simp] theorem deliver_answers (s : State) (e : Nat) (was : Bool) : (s.deliver e was).answers = s.answers := by
  unfold State.deliver
  split
  · rfl
  · dsimp only
    repeat' split
    all_goals (first | rfl | simp)

@[simp] theorem raise_answers (s : State) (e : Nat) : (s.raise e).answers = s.answers := by
  unfold State.raise
  split
  · rfl
  · simp

@[simp] theorem deliver_fab (s : State) (e : Nat) (was : Bool) : (s.deliver e was).fab = s.fab := by
  unfold State.deliver
  split
  · rfl
  · dsimp only
    repeat' split
    all_goals (first | rfl | simp)

@[simp] theorem raise_fab (s : State) (e : Nat) : (s.raise e).fab = s.fab := by
  unfold State.raise
  split
  · rfl
  · simp

@[simp] theorem deliver_rep (s : State) (e : Nat) (was : Bool) : (s.deliver e was).rep = s.rep := by
  unfold State.deliver
  split
  · rfl
  · dsimp only
    repeat' split
    all_goals (first | rfl | simp)

@[simp] theorem raise_rep (s : State) (e : Nat) : (s.raise e).rep = s.rep := by
  unfold State.raise
  split
  · rfl
  · simp

@[simp] theorem deliver_te (s : State) (e : Nat) (was : Bool) : (s.deliver e was).te = s.te := by
  unfold State.deliver
  split
  · rfl
  · dsimp only
    repeat' split
    all_goals (first | rfl | simp)

@[simp] theorem raise_te (s : State) (e : Nat) : (s.raise e).te = s.te := by
  unfold State.raise
  split
  · rfl
  · simp

@[simp] theorem deliver_arr (s : State) (e : Nat) (was : Bool) : (s.deliver e was).arr = s.arr := by
  unfold State.deliver
  split
  · rfl
  · dsimp only
    repeat' split
    all_goals (first | rfl | simp)

@[simp] theorem raise_arr (s : State) (e : Nat) : (s.raise e).arr = s.arr := by
  unfold State.raise
  split
  · rfl
  · simp

@[simp] theorem deliver_phys (s : State) (e : Nat) (was : Bool) : (s.deliver e was).phys = s.phys := by
  unfold State.deliver
  split
  · rfl
  · dsimp only
    repeat' split
    all_goals (first | rfl | simp)

@[simp] theorem raise_phys (s : State) (e : Nat) : (s.raise e).phys = s.phys := by
  unfold State.raise
  split
  · rfl
  · simp

@[simp] theorem deliver_free (s : State) (e : Nat) (was : Bool) : (s.deliver e was).free = s.free := by
  unfold State.deliver
  split
  · rfl
  · dsimp only
    repeat' split
    all_goals (first | rfl | simp)

@[simp] theorem raise_free (s : State) (e : Nat) : (s.raise e).free = s.free := by
  unfold State.raise
  split
  · rfl
  · simp

@[simp] theorem deliver_pending (s : State) (e : Nat) (was : Bool) : (s.deliver e was).pending = s.pending := by
  unfold State.deliver
  split
  · rfl
  · dsimp only
    repeat' split
    all_goals (first | rfl | simp)

@[simp] theorem raise_pending (s : State) (e : Nat) : (s.raise e).pending = s.pending := by
  unfold State.raise
  split
  · rfl
  · simp

/-- An event writes no register but its source's status word and count (R848). -/
theorem reg_raise_ne (s : State) {e off : Nat} (h1 : off ≠ R.EV_STATUS (e / 32)) (h2 : off ≠ R.EV_COUNT e) :
    (s.raise e).reg off = s.reg off := by
  unfold State.raise
  split
  · rfl
  · dsimp only
    rw [reg_deliver, reg_bump_ne _ _ (by exact h2), reg_setReg_ne _ _ h1]

theorem get_raise_ne (s : State) {f : RF} {e : Nat} (h1 : f.off ≠ R.EV_STATUS (e / 32)) (h2 : f.off ≠ R.EV_COUNT e) :
    (s.raise e).get f = s.get f := by
  unfold State.get
  rw [reg_raise_ne s h1 h2]

theorem status_ne_count {m e : Nat} (h : m ≤ e + 575) : R.EV_STATUS m ≠ R.EV_COUNT e := by
  unfold R.EV_STATUS R.EV_COUNT
  omega

theorem reg_status_raise (s : State) (e : Nat) (h : s.eventAbsent e = false) :
    (s.raise e).reg (R.EV_STATUS (e / 32)) = setBit (s.reg (R.EV_STATUS (e / 32))) (e % 32) := by
  unfold State.raise
  rw [h]
  simp only [Bool.false_eq_true, if_false]
  rw [reg_deliver, reg_bump_ne _ _ (by exact status_ne_count (by omega)), reg_setReg_same,
    Nat.mod_eq_of_lt (setBit_lt _ _ _ (reg_lt s _) (Nat.mod_lt _ (by decide)))]

/-- R848: a source that the variant has is set when its event occurs. -/
theorem eventSet_raise (s : State) (e : Nat) (h : s.eventAbsent e = false) : (s.raise e).eventSet e = true := by
  unfold State.eventSet
  rw [reg_status_raise s e h, bit_setBit_same]

/-- R848: no other source's status changes. -/
theorem eventSet_raise_ne (s : State) {e f : Nat} (hf : f < 288) (h : f ≠ e) : (s.raise e).eventSet f = s.eventSet f := by
  unfold State.eventSet
  by_cases a : s.eventAbsent e = true
  · unfold State.raise
    rw [if_pos a]
  · by_cases q : f / 32 = e / 32
    · rw [q, reg_status_raise s e (by simpa using a), bit_setBit_ne]
      omega
    · rw [reg_raise_ne s]
      · unfold R.EV_STATUS; omega
      · exact status_ne_count (by omega)

/-- A status bit that is set stays set. -/
theorem eventSet_raise_mono (s : State) {e f : Nat} (hf : f < 288) (h : s.eventSet f = true) : (s.raise e).eventSet f = true := by
  by_cases q : f = e
  · subst q
    by_cases a : s.eventAbsent f = true
    · unfold State.raise
      rw [if_pos a, h]
    · exact eventSet_raise s f (by simpa using a)
  · rw [eventSet_raise_ne s hf q, h]

end Sys2Proof.Machine
end

