-- ==== Sys2Proof/Tests/Slice0.lean ====
section
/-!
SUPPORT. Tests/Slice0.lean: small tests by evaluation. `test_wf_…`: a term that each check of WellFormed refuses. The others show for
each statement of Certificates/Slice0/Obligations.lean a state and operands that meet its hypotheses, and what the command then does, as
the rule in the comment says.
-/

namespace Sys2Proof.Tests

open Sys2Proof Sys2Proof.Machine

set_option Elab.async false

/-! ### Helpers -/

/-- The state that a command leaves. -/
def after (c : Instr) (s : State) (p : State → Bool) : Bool :=
  match exec c s with
  | .next t => p t
  | _ => false

/-- An owned device in OPERATE whose gaffer is READY and whose pips count. -/
def up : State :=
  { ((State.reset.put R.GAF_MODE_MODE 5).put R.GAF_STATUS_READY 1).put R.GAF_LIFECYCLE_STATE 2 with tb := { counting := true } }

/-- The same device in BOOT. -/
def boot : State := up.put R.GAF_MODE_MODE 1

/-- A request with TAG 7 and no payload. -/
def ask : Request := { command := 0, tag := 7, length := 0 }

/-- A request with a payload. -/
def askWith (b : List Byte) : Request := { command := 0, tag := 7, length := BitVec.ofNat 16 b.length, payload := b }

/-- A timestamp of turn 0. -/
def stamp : Timestamp := State.reset.nowStamp

/-- An outstanding operation of MB0 with TAG 7. -/
def opOf (command : Nat) (args : List Nat) : Op := { mb := 0, tag := 7, command := command, args := args }

/-- A plane that enables hard ports on its region clock line 14. -/
def imageWith (ports : List HardPort) : Image := { handle := 1, pos := 0, ports := ports.map (fun p => (p, 14)) }

/-- The device with its clocks open, and planes 0 of regions 0 and 47 that enable the mailbox port, and ports of engine 1535, cluster 95 and the NoC. -/
def ported : State :=
  { up.ungateAll with fab := { images := [(0, imageWith [.mailbox]),
      (8 * 47, imageWith [.engines 1, .streamIn 31, .streamOut 31, .sram 1 1, .sram 1 2, .sram 1 3, .noc])] } }

/-- A device with one outstanding operation. -/
def withOp (s : State) (o : Op) : State := { s with gaf := { s.gaf with ops := [o] } }

/-! ### Well-formedness: each check refuses -/

theorem test_wf_request : wellFormed (.sysNop 0 { ask with length := 4 }) = false ∧ wellFormed (.sysNop 0 ask) = true := by decide +kernel
theorem test_wf_response :
    wellFormed (.peerResponseArrival 0 { command := 0, tag := 0, status := 0, detail := 0, turn := 0, pip := 0, payload := [1] }) = false := by
  decide +kernel
theorem test_wf_units : wellFormed (.bootSelfTestEnd [(3, 0), (3, 1)]) = false ∧ wellFormed (.bootTestWindowTimeout [5, 5]) = false
    ∧ wellFormed (.testModeEnd [(3, 0), (3, 1)]) = false := by decide +kernel
theorem test_wf_symbols : wellFormed (.stackLineRead 0 [(1, 0)] false) = false ∧ wellFormed (.stackLineRead 0 [(1, 1), (1, 2)] false) = false
    ∧ wellFormed (.stackLineRead 0 [(1, 1), (71, 2)] false) = true ∧ wellFormed (.patrolScrubLine 0 [(1, 0)]) = false := by decide +kernel
theorem test_wf_line_write : wellFormed (.stackLineWrite 0 63 [1, 2] []) = false ∧ wellFormed (.stackLineWrite 0 63 [1] []) = true
    ∧ wellFormed (.stackLineWrite 0 0 [] []) = false := by decide +kernel
theorem test_wf_network :
    let r : NocRequest := { src := 72, addr := 0, len := 16, tag := 0 }
    wellFormed (.write r false [1]) = false ∧ wellFormed (.winPush r 0 [1]) = false ∧ wellFormed (.winPoke r 0 [1]) = false
      ∧ wellFormed (.winPush r 0 [1, 2]) = true ∧ wellFormed (.data { src := 72, tag := 0 } [] 0) = false
      ∧ wellFormed (.hostApertureRequest r (some [1]) false) = false
      ∧ wellFormed (.hostCompletionArrival { src := 72, tag := 0 } { outcome := .ok, data := List.replicate 257 0 }) = false := by
  decide +kernel
theorem test_wf_host : wellFormed (.bar0Request 0 2 true (some [1]) [none, none]) = false ∧ wellFormed (.bar0Request 0 2 true none [none]) = false
    ∧ wellFormed (.bar2Access 0 2 (some [1])) = false ∧ wellFormed (.mspiWriteFrame 0 []) = false
    ∧ wellFormed (.pcieLinkStateChange true 0 1) = false ∧ wellFormed (.pcieLinkStateChange true 4 3) = false
    ∧ wellFormed (.dmaDescriptorComplete 0 { host := 0, loc := 0, len := 0, flags := 0 } { outcome := .ok, data := [1] } []) = false
    ∧ wellFormed (.arrayImageChunk 0 2 0 [1] true) = false := by decide +kernel
theorem test_wf_frames : wellFormed (.frameReceived 0 [] {}) = false ∧ wellFormed (.reinsertedFrame 0 { beats := [] } {}) = false := by
  decide +kernel

/-! ### The queue, the invariant, registers, events -/

theorem test_reset_queue_is_empty : State.reset.pending = [] := rfl

theorem test_a_step_exists : ∃ t, step State.reset = .next t := ⟨_, rfl⟩

theorem test_reset_is_canonical : State.reset.canonical := ⟨rfl, rfl, rfl, rfl, rfl⟩

theorem test_reset_inv : State.reset.Inv State.reset.fuses := ⟨test_reset_is_canonical, (by intro c h; cases h), rfl⟩

theorem test_field : (R.MB_STATUS_STATE 15).lo + (R.MB_STATUS_STATE 15).w ≤ 32 ∧ (up.put (R.MB_STATUS_STATE 15) 7).get (R.MB_STATUS_STATE 15) = 3 := by
  decide +kernel

/-- R848: the count stops at 0xFFFF. -/
theorem test_event : up.eventAbsent 0 = false ∧ up.eventAbsent 287 = false ∧ (up.raise 287).eventSet 287 = true
    ∧ ((up.put (R.EV_COUNT_COUNT 0) 0xFFFF).raise 0).get (R.EV_COUNT_COUNT 0) = 0xFFFF := by decide +kernel

/-- R368: an event 19 pips after a line's last toggle waits, one 20 pips after it toggles the line. -/
theorem test_event_line :
    let s (n : Nat) : State := { ((up.put (R.EV_ROUTE_EN 0) 1).put (R.EV_ROUTE_KIND 0) 2).put (R.EV_ROUTE_TARGET 0) 31 with
      tb := { counting := true, now := n }, evLast := [(31, 0)] }
    (s 19).lineReady 31 = false ∧ ((s 19).raise 0).evWait.contains 31 = true ∧ ((s 19).raise 0).evLines = 0
      ∧ (s 20).lineReady 31 = true ∧ ((s 20).raise 0).evLines = 2 ^ 31 := by decide +kernel

/-- R9 at both ends of its range. -/
theorem test_absent_events :
    let s := up.put R.ID_VARIANT_LANES 0x30
    s.is48 = true ∧ (s.raise 128).eventSet 128 = false ∧ (s.raise 175).eventSet 175 = false ∧ (s.raise 127).eventSet 127 = true
      ∧ (s.raise 176).eventSet 176 = true := by decide +kernel

/-! ### Mailboxes -/

theorem test_doorbells :
    let at_ (n : Nat) : State := up.put (R.MB_STATUS_STATE 15) n
    (at_ 0).get (R.MB_STATUS_STATE 15) = 0 ∧ after (.mbDoorbellRing 15) (at_ 0) (fun t => t.get (R.MB_STATUS_STATE 15) == 1 && tblFind 15 t.gaf.rungAt == some 0) = true
      ∧ (at_ 1).get (R.MB_STATUS_STATE 15) = 1 ∧ after (.mbDoorbellCancel 15) (at_ 1) (fun t => t.get (R.MB_STATUS_STATE 15) == 0) = true
      ∧ (at_ 3).get (R.MB_STATUS_STATE 15) = 3 ∧ (at_ 3).gaf.resetAfterAck.contains 15 = false
      ∧ after (.mbAck 15) (at_ 3) (fun t => t.get (R.MB_STATUS_STATE 15) == 0) = true := by decide +kernel

theorem test_ack_of_a_reset_mailbox :
    let s : State := { up.put (R.MB_STATUS_STATE 0) 3 with gaf := { resetAfterAck := [0] } }
    s.get (R.MB_STATUS_STATE 0) = 3 ∧ s.gaf.resetAfterAck.contains 0 = true
      ∧ after (.mbAck 0) s (fun t => t.get (R.MB_STATUS_STATE 0) == 0 && t.gaf.resetAfterAck.isEmpty) = true := by decide +kernel

theorem test_pop :
    let s : State := { up with gaf := { notices := [(3, [⟨1, 0⟩, ⟨2, 5⟩])] } }
    tblGet (fun _ => []) s.gaf.notices 3 = [⟨1, 0⟩, ⟨2, 5⟩] ∧ after (.mbCplPop 3) s (fun t => t.get (R.MB_CPL_TAG 3) == 2
      && t.get (R.MB_CPL_STATUS 3) == 5 && t.get (R.MB_STATUS_CPL_COUNT 3) == 1) = true := by decide +kernel

/-- R64. -/
theorem test_ignored_doorbells :
    let s := up.put (R.MB_STATUS_STATE 2) 2
    s.get (R.MB_STATUS_STATE 2) ≠ 0 ∧ s.get (R.MB_STATUS_STATE 2) ≠ 1 ∧ s.get (R.MB_STATUS_STATE 2) ≠ 3
      ∧ after (.mbDoorbellRing 2) s (fun t => t.get (R.MB_STATUS_RING_LOST 2) == 1 && t.get (R.MB_STATUS_STATE 2) == 2) = true := by
  decide +kernel

/-- R65. -/
theorem test_ring_with_cancel : mailboxSource up .host 3 = true
    ∧ after (.registerWrite (BitVec.ofNat 24 (R.MB_DOORBELL 3)) 3 .host) up (fun t => t.get (R.MB_STATUS_STATE 3) == 1) = true := by decide +kernel

/-- R92: a response 1 s after the RING is in time; one pip later it is late. -/
theorem test_late_response :
    let s (n : Nat) : State := { up with tb := { counting := true, now := n }, gaf := { rungAt := [(0, 0)] } }
    ((s 1250000000).respond 0 false 0 7 0 0 []).get R.GAF_YIELD_CODE = 0
      ∧ tblGet (fun _ => (s 1250000000).tb.now) (s 1250000000).gaf.rungAt 0 + 1250000000 = (s 1250000000).tb.now
      ∧ tblGet (fun _ => (s 1250000001).tb.now) (s 1250000001).gaf.rungAt 0 + 1250000000 < (s 1250000001).tb.now := by decide +kernel

/-- An enabled MB0 that takes a request at once. -/
def open0 : State := up.put (R.MB_CONFIG_ENABLED 0) 1

theorem test_commands_run : rowOf (.sysNop 0 ask) = some (0, ask, cmdSysNop, false) ∧ commandRuns cmdSysNop open0 0 (rowRequest cmdSysNop ask)
    ∧ after (.sysNop 0 ask) open0 (fun t => t.get (R.MB_STATUS_STATE 0) == 3 && t.eventSet 16) = true := by
  refine ⟨rfl, ?_, ?_⟩
  · unfold commandRuns State.takesAtOnce; decide +kernel
  · decide +kernel

theorem test_refused_command :
    let s := open0.put (R.MB_CONFIG_ENABLED 0) 1
    let r := rowRequest cmdSysNop { ask with version := 2 }
    s.takesAtOnce 0 ∧ forwardsTo s r = none ∧ (verdict cmdSysNop s 0 r).2 = some (stBadCommand, 0)
      ∧ after (.sysNop 0 { ask with version := 2 }) s (fun t => cellGet 0 t.mbuf (rspBuf 0 + 6) == BitVec.ofNat 8 stBadCommand) = true := by
  refine ⟨?_, ?_, ?_, ?_⟩ <;> first | (unfold State.takesAtOnce; decide +kernel) | decide +kernel

/-- R73: LOG_CLEAR with CHECK_ONLY leaves the log. -/
theorem test_check_only :
    let r := rowRequest cmdSysNop { ask with flags := 1 }
    open0.takesAtOnce 0 ∧ forwardsTo open0 r = none ∧ bit r.flags.toNat 0 = true ∧ (verdict cmdSysNop open0 0 r).2 = none := by
  refine ⟨?_, ?_, ?_, ?_⟩ <;> first | (unfold State.takesAtOnce; decide +kernel) | decide +kernel

theorem test_disabled_mailbox :
    let s := up.put (R.MB_CONFIG_ENABLED 15) 0
    s.takesAtOnce 15 ∧ s.get (R.MB_CONFIG_ENABLED 15) = 0
      ∧ after (.sysNop 15 ask) s (fun t => cellGet 0 t.mbuf (rspBuf 15 + 6) == BitVec.ofNat 8 stRefusedState) = true := by
  refine ⟨?_, ?_, ?_⟩ <;> first | (unfold State.takesAtOnce; decide +kernel) | decide +kernel

theorem test_disabled_mailbox_is_served :
    let s := (up.put (R.MB_STATUS_STATE 15) 1).put (R.MB_CONFIG_ENABLED 15) 0
    s.serving = true ∧ nextMailbox s = some 15 ∧ s.get (R.MB_CONFIG_ENABLED 15) = 0
      ∧ after .gafferTakeRequest s (fun t => t.get (R.MB_STATUS_STATE 15) == 3) = true := by decide +kernel

/-- R76: after MB15 comes MB0, whatever else is pending. -/
theorem test_next_mailbox :
    let s := ((open0.put (R.MB_STATUS_STATE 0) 1).put (R.MB_STATUS_STATE 14) 1).put R.MB_RR_LAST_LAST 15
    s.serving = true ∧ nextMailbox s = some 0
      ∧ after .gafferTakeRequest s (fun t => t.get R.MB_RR_LAST_LAST == 0 && t.get (R.MB_STATUS_STATE 14) == 1) = true := by decide +kernel

theorem test_before_ready :
    let s := up.put R.GAF_STATUS_READY 0
    let t : State := { up with gaf := { restarting := some 0 } }
    s.get R.GAF_STATUS_READY = 0 ∧ s.get (R.MB_STATUS_STATE 0) = 0 ∧ after (.sysNop 0 ask) s (fun t => t.get (R.MB_STATUS_STATE 0) == 1) = true
      ∧ t.gaf.restarting.isSome = true ∧ after (.sysNop 0 ask) t (fun t => t.get (R.MB_STATUS_STATE 0) == 1) = true := by decide +kernel

theorem test_busy_mailbox :
    let s := open0.put (R.MB_STATUS_STATE 0) 2
    s.get (R.MB_STATUS_STATE 0) ≠ 0 ∧ after (.sysNop 0 ask) s (fun t => t.get (R.MB_STATUS_RING_LOST 0) == 1) = true := by decide +kernel

theorem test_forward :
    let r := rowRequest cmdSysNop { ask with dest := 0x87 }
    open0.takesAtOnce 0 ∧ open0.has (R.MB_CONFIG_ENABLED 0) = true ∧ r.version = 1
      ∧ firstFail [checkLen cmdSysNop r, checkHeader open0 0 r] = none ∧ forwardsTo open0 r = some 7
      ∧ firstFail (if cmdSysNop.long && !bit r.flags.toNat 0 then (checkLimits open0 0).take 1 else []) = none
      ∧ after (.sysNop 0 { ask with dest := 0x87 }) open0 (fun t => t.get (R.MB_STATUS_STATE 0) == 2 && t.gaf.forwards.length == 1) = true := by
  refine ⟨?_, ?_, ?_, ?_, ?_, ?_, ?_⟩ <;> first | (unfold State.takesAtOnce; decide +kernel) | decide +kernel

/-! ### Restarts, modes, power -/

theorem test_restart_causes : up.mode ≠ mPowerOn ∧ up.bist.slice = none ∧ ({ up with bist := { slice := some { unit := 340 } } } : State).bist.slice.isSome = true
    ∧ after .watchdogExpiry (up.put R.GAF_MODE_MODE mLehr) (fun t => t.gaf.restarting == some 0) = true
    ∧ after .lockstepMismatch up (fun t => t.get R.GAF_STATUS_READY == 0 && t.get R.GAF_STATUS_LOCKSTEP_OK == 0) = true
    ∧ after .watchdogExpiry up (fun t => bit (t.reg R.GAF_RESTART_CAUSE) 3) = true
    ∧ after .gafferSramUe up (fun t => bit (t.reg R.GAF_RESTART_CAUSE) 4) = true
    ∧ after .fwFaultRestart up (fun t => bit (t.reg R.GAF_RESTART_CAUSE) 5) = true := by decide +kernel

/-- R55: a restart 10 s after the last one is the first again. -/
theorem test_restart_ends :
    let s : State := { up with gaf := { restarting := some (tenSeconds + 1), lastRestart := some 0 } }
    let bad : State := { s with sec := { slotSvn := [0, 0] }, regs := (s.put R.ID_SECURITY_VERSION_SVN 1).regs }
    s.gaf.restarting = some (tenSeconds + 1) ∧ (∀ p, s.gaf.lastRestart = some p → p + tenSeconds < tenSeconds + 1) ∧ s.mode ≠ mPowerOn
      ∧ s.imageRuns = true ∧ bad.imageRuns = false ∧ bad.mode ≠ mBoot ∧ (bad.put R.GAF_MODE_MODE mBoot).mode = mBoot
      ∧ s.gaf.ops = [] ∧ s.gaf.forwards = [] ∧ s.gaf.peerOps = []
      ∧ after .warmRestartComplete s (fun t => t.get R.GAF_STATUS_READY == 1 && t.eventSet 4) = true := by
  refine ⟨rfl, (by intro p h; cases h; decide), ?_, ?_, ?_, ?_, ?_, rfl, rfl, rfl, ?_⟩ <;> decide +kernel

theorem test_gaffer_rows : up.serving = true ∧ up.mode ≠ mSafeHold ∧ up.mode ≠ mLehr ∧ up.tb.pip ≤ 256
    ∧ after .gafferHeartbeatTick up (fun t => t.get R.GAF_HEARTBEAT_COUNT == 1) = true
    ∧ after .gafferTlBurstDeferred { up with tb := { counting := true, pip := 256 } } (fun t => t.gaf.held.isEmpty) = true := by decide +kernel

theorem test_power_on_is_left :
    let s : State := { (State.reset.put (R.PW_RAIL_STATE_STATE 0) 2).put (R.PW_RAIL_STATE_STATE 1) 2 with pins := { porN := true, furnace := true } }
    s.mode = mPowerOn ∧ s.pins.porN = true ∧ s.pins.progN = true ∧ s.pins.furnace = true ∧ s.railGood 0 = true ∧ s.railGood 1 = true
      ∧ State.reset.pins.porN = false
      ∧ after (.porNRise 7 7 true) State.reset (fun t => t.get R.NC_ARRAY_DEV_ID == 7 && t.get R.NC_ARRAY_COL == 3 && t.get R.NC_ARRAY_ROW == 1) = true := by
  decide +kernel

/-- R183, R196: the count stays at 255. -/
theorem test_mode_change :
    let s := up.put R.GAF_MODE_CHANGES 255
    (s.modeStep 11 255 false).mode = 11 ∧ (s.modeStep 11 255 false).get R.GAF_MODE_PREV = 5 ∧ (s.modeStep 11 255 false).get R.GAF_MODE_CHANGES = 255 := by
  decide +kernel

theorem test_power_fail :
    let low (a : Nat) : State := { up with pins := { pfailLow := true }, gaf := { pfailAction := a } }
    (low 1).pins.pfailLow = true ∧ (low 1).pins.pfailTaken = false ∧ (low 1).mode ≠ mPowerOn ∧ (low 1).gaf.pfailAction = 1
      ∧ (low 1).gaf.logLevels.getD 2 1 ≤ 3 ∧ after .pfailFilterExpiry (low 1) (fun t => t.eventSet 2 && t.mode == 5) = true
      ∧ (low 0).gaf.pfailAction = 0 ∧ (low 0).running = true ∧ after .pfailFilterExpiry (low 0) (fun t => t.mode == mStop) = true
      ∧ (low 0).sec.recordDue = false ∧ after .pfailNRise (low 0) (fun t => !t.pins.pfailLow) = true := by decide +kernel

theorem test_stop_rows :
    let s := (up.put R.GAF_MODE_MODE 7).put R.GAF_MODE_STOP_DONE 0
    let t : State := { ((up.put R.GAF_MODE_MODE 7).put R.GAF_MODE_STOP_DONE 1).put R.GAF_MODE_CAUSE 0x0C with gaf := { pfailAuto := true } }
    let u := (up.put R.GAF_MODE_MODE mStartUp).put R.CF_CFG_STATUS_STATE cfReleased
    s.mode = mStop ∧ s.get R.GAF_MODE_STOP_DONE = 0 ∧ s.phys.stopping = false
      ∧ t.gaf.pfailAuto = true ∧ t.pins.pfailLow = false ∧ t.mode = mStop ∧ t.get R.GAF_MODE_STOP_DONE = 1 ∧ t.cause = 0x0C
      ∧ u.mode = mStartUp ∧ u.phys.wakeAt = none ∧ u.cfState = cfReleased ∧ u.phys.doneHigh = false := by decide +kernel

/-! ### Clocks, rails, configuration, self-test, turns -/

theorem test_clocks :
    let live := (up.put R.CK_STATUS_QUAL 1).put R.CK_BASE_SRC_SRC 0
    up.mode ≠ mPowerOn ∧ up.qualified 5 = false ∧ bit up.phys.dead 1 = false ∧ after (.clockMonitorWindow 1 0) up (fun t => bit t.phys.dead 1) = true
      ∧ live.qualified 1 = false ∧ live.qualified 0 = true ∧ bit live.phys.dead 1 = false ∧ live.nodeSource 0 = 1
      ∧ after .basePllSlewEnd up (fun t => t.get R.CK_STATUS_BASE_LOCK == 7) = true := by decide +kernel

theorem test_clock_rows :
    let live := (up.put R.CK_STATUS_QUAL 3).put (R.CK_FPLL_CFG_EN 7) 1
    Machine.dist (1000000 * 10) (up.nominal10 5 1000000) ≤ 10000 ∧ live.has (R.CK_FPLL_CFG_EN 7) = true
      ∧ live.qualified (live.nodeSource 10) = true ∧ after (.fpllRelock 7) live (fun t => t.get (R.CK_FPLL_STATUS_LOCK 7) == 1) = true
      ∧ 100 * Machine.dist 8601 8192 ≤ 8192 * 5 ∧ 100 * Machine.dist 7783 8192 ≤ 8192 * 5
      ∧ (∀ q, q < 28 → up.get (R.LN_Q_CTRL_REF_SEL q) = 1 → up.get (R.LN_Q_CTRL_REF_FREQ q) = 0)
      ∧ after (.refclkMeasured 1 8601) up (fun t => t.get R.CK_STATUS_REF1_VALID == 1) = true
      ∧ boot.mode = mBoot ∧ boot.qualified 1 = false
      ∧ bit ((up.put R.CK_STATUS_BASE_LOCK 7).get R.CK_STATUS_BASE_LOCK) 2 = true
      ∧ after (.pllLossOfLock 2) (up.put R.CK_STATUS_BASE_LOCK 7) (fun t => t.get R.CK_STATUS_BASE_LOCK == 3 && t.eventSet 51) = true := by
  decide +kernel

theorem test_gating :
    let auto := (up.setReg (R.CK_AUTO_EN 4) 0x80)
    let forced := up.setReg (R.CK_FORCE 5) 0x80
    let sram := up.put (R.SB_CL_CTRL_CLK_EN 95) 0
    let metered : State := { up with phys := { gates := 0x80 } }
    bit (auto.reg (R.CK_AUTO_EN ((48 + 87) / 32))) ((48 + 87) % 32) = true ∧ (∀ i, i < 16 → auto.teState (16 * 87 + i) ≠ teRunning)
      ∧ after (.autoClockGate 87) auto (fun t => bit (t.reg (R.CK_GATED 4)) 7) = true
      ∧ forced.gateForced 167 = true ∧ after (.forcedGateClose 167) forced (fun t => bit (t.reg (R.CK_GATED 5)) 7) = true
      ∧ sram.gateForced 263 = true ∧ after (.forcedGateClose 263) sram (fun t => t.get (R.SB_CL_STATUS_READY 95) == 0) = true
      ∧ after (.gateRefused 263) sram (fun t => t.get R.CK_GATE_REFUSALS_COUNT == 1 && t.eventSet 52) = true
      ∧ bit metered.phys.gates 7 = true ∧ after (.freqMeterGateEnd 7 0x1FFFFFFFF) metered (fun t => t.reg (R.CK_FM_RES_HI 7) == 1) = true
      ∧ after (.freqMeterTimeout 7) metered (fun t => t.get (R.CK_FM_CTRL_ABORT 7) == 1) = true
      ∧ (up.put R.CK_STATUS_QUAL 2).qualified 1 = true ∧ up.get (R.PW_RAIL_CTRL_TARGET_MV 8) < 0xFFF := by decide +kernel

theorem test_rails :
    let s := (up.put (R.PW_RAIL_CTRL_TARGET_MV 20) 1000).put (R.PW_RAIL_STATE_STATE 20) 1
    let t := (up.put (R.PW_RAIL_CTRL_TARGET_MV 2) 1000).put (R.PW_RAIL_STATE_STATE 2) 2
    s.inBand 20 1050 = true ∧ s.inBand 20 950 = true ∧ s.inBand 20 1051 = false ∧ s.get (R.PW_RAIL_STATE_STATE 20) = 1
      ∧ t.get (R.PW_RAIL_STATE_STATE 2) = 2 ∧ t.inBand 2 949 = false ∧ boardRail 2 = false
      ∧ after (.railOutOfBand 2 949) t (fun t => t.get (R.PW_RAIL_STATE_STATE 2) == 3 && t.eventSet 54) = true
      ∧ after (.railOutOfBand 2 1051) t (fun t => t.get (R.PW_RAIL_STATE_STATE 2) == 4) = true
      ∧ after (.pmbAlert 0x7F 0 false) up (fun t => t.get R.PW_FLAGS_ALERT_SEEN == 1) = true
      ∧ up.has R.PW_STATUS_SUPPLY_OK_PIN ≠ !up.has R.PW_STATUS_SUPPLY_OK_PIN := by decide +kernel

theorem test_configuration :
    let cfg (st : Nat) : State := ((up.put R.GAF_MODE_MODE mConfigure).put R.CF_CFG_STATUS_STATE st).put R.CF_CFG_STATUS_INIT_DRIVE 0
    let su := (up.put R.GAF_MODE_MODE mStartUp).put R.CF_CFG_STATUS_STATE cfReleased
    let o := opOf 0x030D [0, 64]
    (cfg cfReceiving).awaitsStream = true ∧ bits (le (List.replicate 16 0) 7 1) 0 3 = (cfg cfReceiving).get R.NC_ARRAY_DEV_ID
      ∧ up.awaitsStream = false ∧ up.mode ≠ mConfigure ∧ (cfg cfReceiving).mode = mConfigure ∧ (cfg cfReceiving).onChain = true
      ∧ (cfg cfReceiving).cfState ≤ cfReceiving ∧ su.mode = mStartUp ∧ su.phys.wakeAt = none ∧ su.cfState = cfReleased
      ∧ after (.doneSample true) su (fun t => t.phys.doneHigh) = true
      ∧ (withOp up o).gaf.ops.find? (fun o => o.command == 0x030D) = some o ∧ (withOp up o).mode ≠ mConfigure
      ∧ (cfg cfWaitInit).get R.CF_CFG_STATUS_INIT_DRIVE = 0 ∧ (cfg cfWaitInit).cfState = cfWaitInit
      ∧ after .initNHigh (cfg cfWaitInit) (fun t => t.cfState == cfReceiving) = true := by decide +kernel

/-- The device with its stack memory ready under key slot 0. -/
def store : State := { up.put (R.MG_SLOT_STATE 0) 1 with mem := { ready := true } }

theorem test_stream_check_reads :
    let s := store
    (stackRead s 0xF0 0 64).1.mode ≠ mConfigure ∧ (stackRead s 0xF0 0 64).2.1 = rOk := by decide +kernel

theorem test_self_test :
    let b := boot.put R.PW_STATUS_SEQ 3
    let t := up.put R.GAF_MODE_MODE mTest
    let sl : Slice := { unit := 340, handed := true }
    b.mode = mBoot ∧ b.get R.PW_STATUS_SEQ = 3 ∧ b.failedUnits [] = [] ∧ b.unitAbsent 0 = false ∧ b.unitMapped 0 = false
      ∧ t.mode = mTest ∧ t.failedUnits [] = [] ∧ t.failedUnits [(387, 5)] = [(387, 5)]
      ∧ sl.handed = true ∧ sl.back = false := by decide +kernel

theorem test_turns :
    let src (n : Nat) : State := up.put R.TS_CTRL_SOURCE n
    let fly (n : Nat) : State := up.put R.TS_STATUS_FLY_STATE n
    let pps : State := { src 3 with tb := { counting := true, ppsLeft := 1 } }
    let lane := ((src 2).put R.TS_CTRL_MARKER_LANE 95).put (R.LN_STATUS_LOCK 95) 1
    up.tb.counting = true ∧ (src 1).get R.TS_CTRL_SOURCE = 1 ∧ up.has R.TS_CTRL_SYNC_EDGE = false ∧ (src 3).get R.TS_CTRL_SOURCE = 3
      ∧ ((src 3).arriveIn 8).get R.TS_CTRL_SOURCE = 3 ∧ lane.get R.TS_CTRL_MARKER_LANE = 95 ∧ lane.has (R.LN_STATUS_LOCK 95) = true
      ∧ lane.markerMatches 95 (lane.reg R.TS_MARKER_PAT) (lane.get R.TS_CTRL_MARKER_K) = true ∧ up.get R.TS_CTRL_SOURCE = 0
      ∧ pps.get R.TS_CTRL_SOURCE = 3 ∧ 0 < pps.tb.ppsLeft ∧ (fly 1).get R.TS_STATUS_FLY_STATE ≤ 1 ∧ (fly 2).get R.TS_STATUS_FLY_STATE = 2
      ∧ (fly 3).get R.TS_STATUS_FLY_STATE = 3 ∧ after .pipPllLock up (fun t => t.tb.counting && t.get R.TS_STATUS_PIP_LOCK == 1) = true
      ∧ after .pipPllUnlock (up.put R.TS_STATUS_PIP_LOCK 1) (fun t => t.get R.TS_STATUS_UNLOCK_SEEN == 1 && t.eventSet 38) = true := by
  decide +kernel

/-- R134: an edge within the first 1,024 pips ends no turn. -/
theorem test_early_edge :
    after (.syncInEdge true 0) (up.put R.TS_CTRL_SOURCE 1) (fun t => t.tb.turn == 0 && t.tb.pip == 8 && t.eventSet 34) = true := by decide +kernel

/-- R139. -/
theorem test_turn_wrap :
    let s : State := { up with tb := { counting := true, turn := 2 ^ 48 - 1 } }
    s.turnLoad = none ∧ (s.nextTurn 1024).tb.turn = 0 ∧ (s.nextTurn 1024).eventSet 39 = true ∧ up.tb.turn < 2 ^ 48 - 1 := by decide +kernel

/-- A schedule entry for the last pip before `pip`. -/
def entryAt (action pip : Nat) : SchedEntry :=
  { pip := pip, action := action, rel := false, target := 0, start := 0, period := 0, count := 0, arg := 0xFFFF, owner := 0xFF }

theorem test_schedule :
    let s (a : Nat) : State := { up with tb := { counting := true, sched := [(4095, entryAt a 0)] } }
    (s 8).tb.counting = true ∧ tblFind 4095 (s 8).tb.sched = some (entryAt 8 0) ∧ entryFires (entryAt 8 0) (s 8).tb.turn = true
      ∧ (entryAt 8 0).fired = 0 ∧ (entryAt 8 0).action = 8 ∧ (entryAt 8 0).arg < 65536
      ∧ after (.schedEvent 4095) (s 8) (fun t => t.get R.TS_SCHED_CODE_CODE == 0xFFFF && t.get R.TS_SCHED_CODE_INDEX == 4095) = true
      ∧ (entryAt 2 0).action = 2 ∧ up.running = true ∧ boot.running = false := by decide +kernel

/-! ### Capture, trigger, replay, contexts, placement -/

theorem test_capture :
    let unit (f : Nat) : State := (up.put (R.GU_CTRL_ENABLE 95) 1).put (R.GU_CTRL_FRAMING 95) f
    let live : State := { (up.put (R.CQ_STATE_STATE 1023) qRunning).put (R.CQ_CFG_MODE 1023) 1 with
      cap := { queues := [(1023, { half := [1], total := 2 ^ 20 })], drops := [(1024 * 95 + 1023, ⟨2, stamp⟩)] } }
    let o := opOf 0x0404 [1023]
    let locked (f : Nat) : State := (unit f).put (R.LN_STATUS_LOCK 95) 1
    let driven : State := { ((unit 2).ungateAll.put (R.CF_CTX_STATE_STATE 47) 1).put (R.CF_CTX_STATE_ACTIVE 47) 7 with
      fab := { images := [(383, imageWith [.reinsert 3])] } }
    let full : State := { driven with cap := { stored := [(95, 32)] } }
    95 < up.lanes ∧ (unit 1).has (R.GU_CTRL_ENABLE 95) = true ∧ (locked 1).has (R.LN_STATUS_LOCK 95) = true ∧ (locked 1).gatherClocked = true
      ∧ (locked 1).framesChars 95 = true ∧ (locked 3).framesChars 95 = true ∧ (locked 2).framesChars 95 = false
      ∧ (driven.get (R.GU_CTRL_FRAMING 95)) = 2 ∧ driven.reinsertDriver 95 = some 47 ∧ tblGet (fun _ => 0) driven.cap.stored 95 ≠ 32
      ∧ full.reinsertDriver 95 = some 47 ∧ tblGet (fun _ => 0) full.cap.stored 95 = 32
      ∧ tblFind (1024 * 95 + 1023) live.cap.drops = some ⟨2, stamp⟩ ∧ live.queueLive 1023 = true ∧ live.linearFull 1023 32 = false
      ∧ (live.queue 1023).half.length % 64 ≠ 0 ∧ 0 < (live.queue 1023).total / 2 ^ 20 ∧ (up.put (R.CQ_STATE_STATE 1023) qStopped).queueState 1023 = qStopped ∧ (withOp up o).opOf 0 7 = some o ∧ o.command = 0x0404
      ∧ (∀ q ∈ o.args, (withOp up o).sealPending q = false)
      ∧ after (.captureLineIntegrity 1023 { frames := [(95, stamp)], before := true }) live
        (fun t => t.get (R.CQ_STATE_INT_ERR 1023) == 1 && t.eventSet 209 && (t.queue 1023).prev.integrity) = true := by decide +kernel

theorem test_trigger :
    let te : TernEntry := { value := 1, mask := 1, action := 0 }
    let ee : ExactEntry := { key := 1, action := 0 }
    let s : State := { up with cap := { ternCopy := [(32767, te)], exactCopy := [(32767, ee)], timers := [3], tout := [(7, 9)] } }
    let armed : State := { up.put R.TG_STATUS_ARMED 1 with cap := { timers := [3] } }
    let count := (armed.put (R.TG_CNT_SRC_EN 3) 1).setReg (R.TG_CNT_LIMIT 3) 5
    tblFind 32767 s.cap.tern = none ∧ tblFind 32767 s.cap.ternCopy = some te ∧ tblFind 32767 s.cap.exact = none
      ∧ tblFind 32767 s.cap.exactCopy = some ee
      ∧ after (.classifierEntryRewrite true 32767) s (fun t => tblFind 32767 t.cap.tern == some te) = true
      ∧ after (.trigOutPulseEnd 7) s (fun t => t.cap.tout.isEmpty) = true
      ∧ bits (up.reg R.TG_TIN_CFG) 14 2 = 0 ∧ bit up.cap.trigIn 7 = false
      ∧ after (.trigInEdge 7 true) up (fun t => bit t.cap.pulses 23) = true
      ∧ up.cap.sampled = false ∧ after (.triggerTransition 0) up (fun t => t.cap.pulses == 0) = true
      ∧ armed.get R.TG_STATUS_ARMED = 1 ∧ armed.cap.timers.contains 3 = true ∧ after (.triggerTimerExpiry 3) armed (fun t => bit t.cap.pulses 47) = true
      ∧ count.get (R.TG_CNT_SRC_EN 3) = 1 ∧ count.reg (R.TG_CNT 3) < count.reg (R.TG_CNT_LIMIT 3)
      ∧ after (.triggerCounterLimit 3) count (fun t => t.reg (R.TG_CNT 3) == 5 && t.eventSet 223) = true
      ∧ up.get R.TG_STATUS_ARMED = 0 := by decide +kernel

/-- R613, R615: D21.5 and K28.5 (0011111010 at negative running disparity, 1100000101 at positive), and a word that is no symbol. -/
theorem test_symbols :
    decodeSymbol false 0x155 = ({ byte := 0xB5 }, false) ∧ decodeSymbol false 380 = ({ k := true, byte := 0xBC }, true)
      ∧ decodeSymbol true (1023 - 380) = ({ k := true, byte := 0xBC }, false)
      ∧ (decodeSymbol true 380).1 = { k := true, byte := 0xBC, dispErr := true } ∧ (decodeSymbol false 0).1 = { byte := 0, codeViol := true } := by
  decide +kernel

/-- R213, R354: a character of a locked lane reaches its receive port and, framed by KSET, opens a frame at a start comma; R358, R359: a
beat of the driving region opens a reinserted frame. -/
theorem test_frame_rows :
    let unit (f : Nat) : State := (((up.put (R.GU_CTRL_ENABLE 95) 1).put (R.GU_CTRL_FRAMING 95) f).put (R.LN_STATUS_LOCK 95) 1).put (R.LN_CTRL_MODE 95) 0
    let kset : State := (unit 1).setReg (R.GU_START01 95) 0x81FB
    let driven : State := { ((unit 2).ungateAll.put (R.CF_CTX_STATE_STATE 47) 1).put (R.CF_CTX_STATE_ACTIVE 47) 7 with
      fab := { images := [(383, imageWith [.reinsert 3])] } }
    after (.frameReceived 95 [(91, stamp)] {}) kset
      (fun t => (t.rxPort 95).part.map Prod.fst == [{ k := true, byte := 0xFB }] && (tblFind 95 t.cap.open_).isSome) = true
      ∧ after (.reinsertedFrame 95 { beats := [{ sof := true, at_ := stamp }], left := 1 } {}) driven
        (fun t => ((tblFind 95 t.cap.open_).map (fun f => f.payload.length)) == some 8 && tblGet (fun _ => 0) t.cap.stored 95 == 1) = true := by
  decide +kernel

/-- A pattern record of 4 bytes for lane 0, with its CRC (R301). -/
def pattern : List Byte :=
  let head : List Byte := List.replicate 14 0 ++ [4, 0] ++ List.replicate 12 0
  head ++ toLE 4 (crc32c head) ++ [1, 2, 3, 4] ++ List.replicate 28 0

/-- Engine 31 running with that pattern on lane 0, and the same engine at the pattern's end. -/
def replaying : State :=
  { (((up.put (R.RP_STATE_STATE 31) 2).setReg (R.RP_LANE 31 0) 1).put (R.RP_LENGTH_LEN 31) 2).put (R.RP_CFG_SUB_MODE 31) 1 with
    rep := { engines := [(31, { buf := pattern })] } }

def replayed : State := replaying.put (R.RP_PTR_PTR 31) 2

/-- Lane 0 in pass-through, substituted by engine 31. -/
def substituting (s : State) : State :=
  ((((s.put (R.RP_PT_CTRL_EN 0) 1).put (R.RP_PT_CTRL_SUB_EN 0) 1).put (R.RP_PT_CTRL_SUB_ENGINE 0) 31).put (R.LN_CTRL_MODE 0) 0).put
    (R.GU_CTRL_FRAMING 0) 1

def isRecord (r : Ready) : Bool := match r with
  | .record r => r.payload == [1, 2, 3, 4]
  | _ => false

def isEnded (r : Ready) : Bool := match r with
  | .ended => true
  | _ => false

theorem test_replay :
    let primed : State := { up with rep := { engines := [(31, { at_ := some (0, 0) })] } }
    let stopping : State := { replaying with rep := { engines := [(31, { stop := some (2, 0) })] } }
    (primed.engine 31).at_ = some (0, 0) ∧ primed.instantOf 0 0 = some 0 ∧ replaying.engineState 31 = 2
      ∧ replaying.substLane 31 = none ∧ (replaying.engine 31).ending = none ∧ replaying.replayClocked 31 = true ∧ replaying.stopDue 31 = none ∧ isRecord (replaying.nextRecord 31) = true
      ∧ isEnded (replayed.nextRecord 31) = true ∧ stopping.stopDue 31 = some 2
      ∧ (stopping.stopAfter 31 2).engineState 31 = 3
      ∧ (substituting replayed).substLane 31 = some 0 ∧ isEnded ((substituting replayed).nextRecord 31) = true
      ∧ (substituting replaying).substLane 31 = some 0 ∧ isRecord ((substituting replaying).nextRecord 31) = true
      ∧ (substituting replaying).has (R.RP_CFG_SUB_MODE 31) = true ∧ (substituting replaying).slotReady 0 = true
      ∧ (substituting replayed).slotReady 0 = true
      ∧ (up.put (R.LN_STATUS_CDR_LOCK 95) 1).has (R.LN_STATUS_CDR_LOCK 95) = true := by decide +kernel

theorem test_stopped_engine : (replaying.stopEngine 31 15).engineState 31 = 3 ∧ (replaying.stopEngine 31 15).get (R.RP_STATE_STOP_CAUSE 31) = 15
    ∧ (replaying.stopEngine 31 15).eventSet 239 = true := by decide +kernel

theorem test_substitution :
    after (.substitutionSlot 31 4 false (disparityAfter false [(false, 1), (false, 2), (false, 3), (false, 4)])) (substituting replaying)
      (fun t => t.reg (R.RP_LAUNCHED_LO 31) == 1) = true
    ∧ (substituting replaying).chainLength 31 = 4 := by decide +kernel

/-- A region clock line of 450 MHz on FPLL0. -/
def line450 (v : Nat) : State :=
  ((((up.ungateAll.put (R.CF_CTX_STATE_GROUP 47) 0xFF).put (R.CF_CTX_PLANES_VALID 47) v).put (R.CK_FPLL_CFG_EN 0) 1).put
    (R.CK_FPLL_STATUS_LOCK 0) 1).put (R.CK_FPLL_FREQ_KHZ 0) 450000 |>.put (R.CK_FPLL_STATUS_STOPPED 0) 0

/-- A request of region 47 for its plane 7, in pip `n`. -/
def requested (s : State) (n : Nat) : State :=
  { s with fab := { pend := [(175, { plane := 7, rank := 0, members := [47] })] }, tb := { counting := true, now := n } }

def switching (v n : Nat) : State := requested (line450 v) n

theorem requested_edge (s : State) (n : Nat) (runs : s.runs 47 = false) (clocked : s.regionClocked = true)
    (gate : bit (s.reg (R.CK_GATED (47 / 32))) (47 % 32) = false) (output : s.fpllOutput 0 = 450000) (step : s.regionStep 47 = 0) :
    (requested s n).switchEdge 47 7
      = decide ((64 * n + Config.clockPhase 0) * 450000 / 80000000 < (64 * (n + 1) + Config.clockPhase 0) * 450000 / 80000000) := by
  have a : (requested s n).runs 47 = false := runs
  have b : (requested s n).regionClocked = true := clocked
  have c : bit ((requested s n).reg (R.CK_GATED (47 / 32))) (47 % 32) = false := gate
  have d : (requested s n).fpllOutput 0 = 450000 := output
  have e : (requested s n).regionStep 47 = 0 := step
  have f : (requested s n).fpllPhase 0 = Config.clockPhase 0 := ite_self _
  have g : tblFind (8 * 47 + 7) (requested s n).fab.images = none := rfl
  have h : (requested s n).tb.now = n := rfl
  simp only [State.switchEdge, State.lineEdge, State.clockEdge, edgesBy, edgePasses, a, b, c, d, e, f, g, h, Option.map_none,
    Option.getD_none, Bool.not_true, Bool.or_self, if_true, Bool.false_eq_true, if_false, Nat.ofNat_pos, Bool.and_true]

/-- R351, R388: of three pips one has an edge of that line, whatever its phase. -/
theorem test_switching_edge : ∃ n, 4 ≤ n ∧ n ≤ 6 ∧ (switching 128 n).switchEdge 47 7 = true ∧ (switching 0 n).switchEdge 47 7 = true := by
  have edge : ∀ v n, v = 0 ∨ v = 128 → (switching v n).switchEdge 47 7
      = decide ((64 * n + Config.clockPhase 0) * 450000 / 80000000 < (64 * (n + 1) + Config.clockPhase 0) * 450000 / 80000000) := by
    rintro v n (rfl | rfl) <;> exact requested_edge _ n (by decide +kernel) (by decide +kernel) (by decide +kernel) (by decide +kernel)
      (by decide +kernel)
  have key : ∀ p : Nat, ∃ n, 4 ≤ n ∧ n ≤ 6 ∧ (64 * n + p) * 450000 / 80000000 < (64 * (n + 1) + p) * 450000 / 80000000 := by
    intro p
    by_cases a : (64 * 4 + p) * 450000 / 80000000 < (64 * 5 + p) * 450000 / 80000000
    · exact ⟨4, by omega, by omega, a⟩
    by_cases b : (64 * 5 + p) * 450000 / 80000000 < (64 * 6 + p) * 450000 / 80000000
    · exact ⟨5, by omega, by omega, b⟩
    · exact ⟨6, by omega, by omega, by omega⟩
  obtain ⟨n, lo, hi, h⟩ := key (Config.clockPhase 0)
  exact ⟨n, lo, hi, (edge 128 n (.inr rfl)).trans (decide_eq_true h), (edge 0 n (.inl rfl)).trans (decide_eq_true h)⟩

theorem test_contexts :
    let p : PendSwitch := { plane := 7, rank := 0, members := [47] }
    let s (v : Nat) : State := switching v 4
    let l (k : LoadKind) : Load := { kind := k, regions := [], plane := 0 }
    let loading (k : LoadKind) : State := { up.put R.CF_LOAD_STATUS_BUSY 1 with fab := { loads := [l k] } }
    let io : State := { up.put (R.CF_CTX_STATE_STATE 23) rgRunning with fab := { ioStatic := [(287, 0)], taps := [(287, 511)] } }
    (s 128).groupOf 47 = none ∧ tblFind 175 (s 128).fab.pend = some p ∧ (s 128).switchAllowed [47] 7 = true ∧ (s 128).activeOf 47 ≠ 7
      ∧ p.at_ + 4 ≤ (s 128).tb.now ∧ (s 128).inDead 47 = false ∧ (s 0).switchAllowed [47] 7 = false
      ∧ up.get R.CF_LOAD_STATUS_BUSY = 0 ∧ (loading .boot).get R.CF_LOAD_STATUS_BUSY = 1 ∧ (l .ctx).kind ≠ .boot ∧ (l .ctx).kind ≠ .migrate
      ∧ up.mode ≠ mLehr ∧ after (.scrubFrame 47 7 14399 0 (some 9)) up (fun t => t.reg R.CF_SCRUB_PERIOD == 9) = true
      ∧ (s 128).planeState 47 7 = plValid ∧ after (.scrubFrame 47 7 14399 1 none) (s 128) (fun t => t.eventSet 274) = true
      ∧ (s 1).planeState 47 ((s 1).activeOf 47) = plValid ∧ tblFind (riserKey 23 1599 false 15) (s 1).fab.illegal = none
      ∧ after (.riserIllegalDecode 23 { tile := 1599, riser := 15 }) (s 1) (fun t => t.eventSet 279) = true
      ∧ up.scrubTurn (16384 * (8 * 47 + 7) + 14399) = true
      ∧ io.ioDriven 287 = true ∧ after (.ioDelayInc 287 false) io (fun t => t.tapOf 287 == 511) = true
      ∧ after (.ioDelayDec 287 false) (io.setTap 287 0) (fun t => t.tapOf 287 == 0) = true := by decide +kernel

theorem test_switch :
    let s := up.put (R.CF_CTX_STATE_STATE 47) rgRunning
    s.runs 47 = true ∧ (s.takePlane 47 7).activeOf 47 = 7 ∧ (s.takePlane 47 7).rgState 47 = rgSwitching ∧ up.runs 47 = false ∧ up.cap.open_ = [] := by
  decide +kernel

theorem test_placement :
    let pl : Placement := { id := 1, handle := 1, mb := 0, origin := 0, plane := 0, regions := [] }
    let m : Migration := { id := 1, next := pl, op := none, copying := true }
    let q : Piece := { handle := 1, mb := 0, manifest := [], adding := true }
    let s : State := { withOp up (opOf 0x0300 [0, 0, 1]) with fab := { migrations := [m], pieces := [(1, q)] }, tb := { pip := 256 } }
    let k : SetMove := { old := [0], new := [16], copying := true }
    let moving : State := { up with fab := { setMoves := [k] } }
    moving.fab.migrations.find? (fun m => m.copying) = none ∧ moving.fab.setMoves.find? (fun m => m.copying) = some k
      ∧ after .bankCopyEnd moving (fun t => t.fab.setMoves == [{ k with copying := false, copied := true }]) = true
      ∧ 256 ≤ s.tb.pip ∧ s.fab.migrations.find? (fun m => m.copying) = some m
      ∧ s.dropDeadAdds.gaf.ops.find? (fun o => o.command == 0x0300) = some (opOf 0x0300 [0, 0, 1]) ∧ tblFind 1 s.dropDeadAdds.fab.pieces = some q := by
  decide +kernel

theorem test_slices :
    let s := (up.setReg R.BT_SCHED1 0x0101).put R.CK_BASE_SRC_SRC 0
    s.life = 2 ∧ s.mode = mOperate ∧ s.exponent 5 ≠ 0 ∧ s.bist.slice = none ∧ s.serving = true ∧ tblGet (fun _ => 0) s.bist.lastSlice 5 = 0
      ∧ s.oldestUnit 5 = some 356 ∧ s.windowOpen 387 = true ∧ (boot.testsDone [] [(0, 0)] false).lf40 = false := by decide +kernel

/-! ### Tap Engines, SRAM -/

/-- Engine 1535 in a state, at PC 255 of page 1, of which no frames are held: it may hold any word there. -/
def engineIn (st : Nat) (t : TapEngine) : State :=
  (((ported.put (R.TE_STATUS_STATE 1535) st).put (R.TE_STATUS_PC 1535) 255).put (R.TE_STATUS_PAGE 1535) 1).setTe 1535 t

/-- An instruction word of a Tap Engine without its opcode, from its fields (R476-R482): (lowest bit, value). -/
def word (fields : List (Nat × Nat)) : BitVec 44 := BitVec.ofNat 44 ((fields.map (fun f => 2 ^ f.1 * f.2)).sum)

theorem test_halt_nop_illegal :
    let s := engineIn 1 {}
    s.teState 1535 = 1 ∧ s.engineClocked 1535 = true ∧ (∀ x, s.teWord 1535 (s.tePc 1535) = some x → x = 0)
      ∧ after (.halt 1535 0 {}) s (fun t => t.teState 1535 == 3 && t.tePc 1535 == 0) = true
      ∧ after (.nop 1535 0 {}) s (fun t => t.teState 1535 == 1 && t.tePc 1535 == 0) = true
      ∧ after (.illegalOpcode 1535 3 0) s (fun t => t.teState 1535 == 4 && t.get (R.TE_FAULT_CAUSE 1535) == 1 && t.te.evq.length == 1) = true := by
  refine ⟨by decide +kernel, by decide +kernel, ?_, by decide +kernel, by decide +kernel, by decide +kernel⟩
  intro x h
  have : (engineIn 1 {}).teWord 1535 ((engineIn 1 {}).tePc 1535) = none := by decide +kernel
  rw [this] at h; cases h

/-- R477: MAC with DOT and CLR of accumulator 2: 1*5 + 2*6 + 3*7 + 4*8 = 70. -/
theorem test_mac :
    let w := word [(42, 2), (41, 1), (40, 1)]
    let s := engineIn 1 { c := [(0, 1), (1, 2), (2, 3), (3, 4)], d := [(0, 5), (1, 6), (2, 7), (3, 8)], acc := [0, 0, 9, 0] }
    macBad w.toNat = false ∧ bits w.toNat 31 2 = 0 ∧ after (.mac 1535 w {}) s (fun t => (t.teOf 1535).acc == [0, 0, 70, 0]) = true := by
  decide +kernel

/-- R478: TAPC enters the quad, and takes its last element. -/
theorem test_tapmv :
    let w := word [(42, 0), (41, 1), (40, 1)]
    let s := engineIn 1 { c := [(0, 1)], d := [(0, 5), (1, 6), (2, 7), (3, 8)], tapc := 3 }
    macBad w.toNat = false ∧ after (.tapmv 1535 w {}) s (fun t => (t.teOf 1535).tapc == 8 && ramQuad (t.teOf 1535).d 0 == [3, 5, 6, 7]
      && (t.teOf 1535).acc == [3, 0, 0, 0]) = true := by decide +kernel

/-- R479, R487: a move to TAPC saturates at 24 bits. -/
theorem test_mov :
    let w := word [(39, 4)]
    bits w.toNat 0 31 = 0 ∧ bits w.toNat 39 3 ≤ 4 ∧ bit w.toNat 33 = false
      ∧ after (.mov 1535 w {}) (engineIn 1 { acc := [2 ^ 40, 0, 0, 0] }) (fun t => (t.teOf 1535).tapc == 2 ^ 23 - 1 && t.has (R.TE_STATUS_MOV_SAT 1535)) = true := by
  decide +kernel

/-- R480: LD of an immediate into accumulator 1, sign-extended. -/
theorem test_ld :
    let w := word [(40, 1), (0, 2 ^ 32 - 1)]
    ldBad {} w.toNat = false ∧ after (.ld 1535 w {}) (engineIn 1 {}) (fun t => (t.teOf 1535).acc == [0, 2 ^ 64 - 1, 0, 0]) = true := by decide +kernel

/-- R481: ST of an immediate into the D RAM. -/
theorem test_st :
    let w := word [(43, 1), (37, 3), (35, 2), (0, 0xABCDEF)]
    bits w.toNat 37 3 ≤ 4 ∧ bits w.toNat 24 11 = 0 ∧ bits w.toNat 37 3 = 3
      ∧ after (.st 1535 w {}) (engineIn 1 {}) (fun t => ramQuad (t.teOf 1535).d 0 == [0, 0, 0xABCDEF, 0]) = true := by decide +kernel

/-- R483: LOOP, BR, SYNC and EV. -/
theorem test_loop_br_sync_ev :
    let s := (engineIn 1 {}).put (R.TE_STATUS_PC 1535) 3
    let loop := word [(28, 65535), (20, 5)]
    let br := word [(40, 0), (32, 255)]
    let ev := word [(42, 1), (39, 3), (37, 1)]
    bits loop.toNat 28 16 ≠ 0 ∧ s.tePc 1535 + 1 < bits loop.toNat 20 8 ∧ (s.teOf 1535).loops.length < 3
      ∧ after (.loop 1535 loop {}) s (fun t => (t.teOf 1535).loops == [⟨4, 5, 65535⟩] && t.get (R.TE_STATUS_DEPTH 1535) == 1) = true
      ∧ bits br.toNat 0 30 = 0 ∧ after (.br 1535 br {}) s (fun t => t.tePc 1535 == 255) = true
      ∧ (s.teOf 1535).streamMet 3 16 = true ∧ after (.sync 1535 (word [(41, 3), (37, 15)]) {}) s (fun t => t.tePc 1535 == 4) = true
      ∧ bits ev.toNat 39 3 ≤ 4 ∧ after (.ev 1535 ev {}) s (fun t => t.has (R.TE_STATUS_CMP 1535)) = true := by decide +kernel

theorem test_streams :
    let s := engineIn 2 { wait := some (1, 1), in1 := [[1, 2, 3, 4]], out1 := [⟨[1, 2, 3, 4], 0, true⟩] }
    let r := (ported.put (R.CF_CTX_STATE_STATE 47) 1)
    let ring := (store.put (R.NC_EP_STATUS_STATE (regionEndpoint 47)) 1).put (R.NC_EP_STATUS_STATE (targetEndpoint store .stack 0)) 1
    let gated := (engineIn 4 {}).put R.GAF_MODE_MODE mLehr
    let nin : State := (ring.put (R.TE_NIN_CTRL_EN 1535) 1).put (R.TE_NIN_PROD_INDEX 1535) 1
    let nout : State := (ring.setReg (R.TE_NOUT_CTRL 1535) (2 ^ 31 + 4)).setTe 1535 (s.teOf 1535)
    r.regionLive (1535 / 32) = true ∧ r.portRuns (1535 / 32) (.streamIn (1535 % 32)) = true ∧ gated.engineClocked 1535 = false ∧ nin.ringOpen 1535 = true ∧ nout.ringOpen 1535 = true
      ∧ nin.mustWait (nin.globalOf (nin.ringInAt 1535)) 16 false = false ∧ nout.mustWait (nout.globalOf (nout.ringOutAt 1535)) 16 true = false
      ∧ (r.teOf 1535).in0.length < 16
      ∧ after (.teStreamQuadIn 1535 0x1) r (fun t => (t.teOf 1535).in0 == [[1, 0, 0, 0]]) = true
      ∧ nin.has (R.TE_NIN_CTRL_EN 1535) = true ∧ nin.get (R.TE_NIN_PROD_INDEX 1535) ≠ nin.get (R.TE_NIN_CONS_INDEX 1535)
      ∧ (ringRead nin 1535 0).2.1 = rOk ∧ bit (nout.reg (R.TE_NOUT_CTRL 1535)) 31 = true
      ∧ (ringWrite nout 1535 0 (outBytes ⟨[1, 2, 3, 4], 0, true⟩)).2 = rOk ∧ (65536 + 0 - 0) % 65536 ≠ 2 ^ 4
      ∧ s.teState 1535 = 2 ∧ ((s.taken 1535 0).teOf 1535).streamMet 1 1 = true
      ∧ after (.teStallRelease 1535 0 9) s (fun t => t.teState 1535 == 1 && t.get (R.TE_STALLS_COUNT 1535) == 9) = true
      ∧ (engineIn 4 {}).teState 1535 = 4 ∧ after (.teCtrlRestart 1535) (engineIn 4 {}) (fun t => t.teState 1535 == 1 && t.tePc 1535 == 0) = true
      ∧ after (.teCtrlStop 1535) (engineIn 1 {}) (fun t => t.teState 1535 == 3) = true
      ∧ after (.teRamdataAccess 1535 (some 0xFFFFFFFF) .host) (engineIn 0 {}) (fun t => ramGet (t.teOf 1535).c 0 == 0xFFFFFF) = true
      ∧ after .teEvqPop { up with te := { evq := [⟨1, 2, 3, 0, false⟩] } } (fun t => t.te.evq.isEmpty) = true := by decide +kernel

/-- Cluster 95 accessible, and its region running. -/
def sram : State := (ported.put (R.SB_CL_STATUS_READY 95) 1).put (R.CF_CTX_STATE_STATE 47) 1

theorem test_sram :
    sram.clusterReady 95 = true ∧ sram.portReady 95 1 = true ∧ sram.portReady 95 3 = true ∧ after (.smInvalidOp 95 2) sram (fun t => (tblGet (fun _ => ⟨0, []⟩) t.answers (smPath 95 3)).status == rWindowOp) = true
      ∧ tblGet (fun _ => 0) sram.sram.bad (8192 * 1535 + tblGet (fun _ => 0) sram.sram.scrubbed 1535 % 8192) = 0
      ∧ after (.sramScrubWord 1535 0) sram (fun t => tblGet (fun _ => 0) t.sram.scrubbed 1535 == 1) = true ∧ (96 : Nat) ≤ (127 : Fin 128).val := by
  decide +kernel

theorem test_sram_write :
    let s := (List.range 16).foldl (fun t b => t.setReg (R.SB_OWNER (16 * 95 + b)) 47) sram
    ((s.stalled 95 1 0).wordUpset (s.physWord 95 0) 0).deniedBank 95 [0] (95 / 2) 0xFF = none
      ∧ after (.smWrite 95 0 0 0x0102030405060708 0xFF 0 0) s (fun t => t.sram.data.length == 8) = true := by decide +kernel

/-! ### Stack memory, the network, lanes -/

theorem test_stack_memory :
    let swept : State := store.put (R.MG_SEG_SWEEP 0) 1
    let slot : State := store.put (R.MG_SLOT_STATE 15) 3
    let o := opOf 0x0806 [0, 64]
    let scrub := withOp store o
    store.mem.ready = true ∧ store.lineExists 0 = true ∧ store.mode ≠ mLehr
      ∧ after (.stackLineWrite 0 63 [5] []) store (fun t => cellGet 0 t.mem.data 63 == 5) = true
      ∧ (up.put (R.SM_CH_STATUS_STATE 31) 1).get (R.SM_CH_STATUS_STATE 31) ≠ 0
      ∧ after (.channelRetrainFail 31) (up.put (R.SM_CH_STATUS_STATE 31) 1) (fun t => t.get (R.SM_CH_STATUS_STATE 31) == 3) = true
      ∧ swept.nextSweep = some 0 ∧ slot.get (R.MG_SLOT_STATE 15) = 3 ∧ slot.slotInflight 15 = 0
      ∧ after (.slotZeroise 15) slot (fun t => t.get (R.MG_SLOT_STATE 15) == 0 && t.eventSet 246) = true
      ∧ scrub.gaf.ops.find? (fun o => o.command == 0x0806) = some o ∧ scrub.has R.MG_STATUS_SWEEPING = false
      ∧ scrub.scrubLines 0 64 = [] := by decide +kernel

/-- The gaffer's request for 16 bytes at an address. -/
def gafferRequest (a : BitVec 43) : NocRequest := { src := 72, addr := a, len := 16, tag := 2047 }

/-- The gaffer's endpoint and those of stack memory, the SRAM and the control space open. -/
def network : State := [72, targetEndpoint store .stack 0, 239].foldl (fun t e => t.put (R.NC_EP_STATUS_STATE e) 1) store

theorem test_network_request :
    let r := gafferRequest 0
    let e := targetEndpoint network (targetOf network 0 16) 0
    (issuerOf r.src r.dev (r.col.map Fin.val)).isSome = true ∧ network.epState r.src = epOpen
      ∧ network.outOf r.src (nocDevice network r) r.tag.toNat = none ∧ portOf r.src = none ∧ network.mayIssue r.src r.col = true ∧ wellFormedRequest 0 16 false = true
      ∧ r.poison = false ∧ r.faults = []
      ∧ targetOf network 0 16 = .stack ∧ network.epState e = epOpen ∧ network.wayFailed (route r.src e) = false
      ∧ network.mustWait 0 16 true = false
      ∧ after (.write r false [1, 2, 3, 4, 5, 6, 7, 8, 9, 10, 11, 12, 13, 14, 15, 16]) network (fun t => cellGet 0 t.mem.data 15 == 16
        && t.noc.out.length == 1) = true := by decide +kernel

/-- A write that is outstanding at the gaffer's endpoint, answered OK. -/
def waiting : Outstanding :=
  { src := 72, dev := 0, tag := 5, dst := 40, addr := 0, len := 16, plane := 0, read := false, answer := some (rOk, []), away := false }

theorem test_network_answers :
    let s : State := { network with noc := { out := [waiting], snoops := [(48, 7, none), (48, 0, some 15)], acks := [(48, 9, none)] } }
    let p : NocResponse := { src := 72, tag := 5 }
    let away : State := { s with noc := { out := [{ waiting with away := true }] } }
    let host : State := { s with noc := { out := [{ waiting with dst := hostEndpoint, answer := none }] } }
    let e := network.put (R.NC_EP_STATUS_STATE 239) epClosing
    s.outOf p.src p.dev p.tag.toNat = some waiting ∧ s.returns waiting = true ∧ after (.resp p 0) s (fun t => t.noc.out.isEmpty) = true
      ∧ waiting.away = false ∧ after (.requestTimeout p) s (fun t => t.eventSet 269) = true
      ∧ after (.arrayRequestTimeout p) away (fun t => t.noc.out.isEmpty && t.eventSet 269) = true
      ∧ s.noc.snoops.contains (48, 7, none) = true ∧ after (.inv (some 48) 7) s (fun t => t.noc.acks.contains (48, 7, none)) = true
      ∧ s.noc.snoops.contains (48, 0, some 15) = true ∧ s.noc.acks.contains (48, 9, none) = true ∧ 9 / 2 ^ 34 = s.devId
      ∧ network.epState 239 = epOpen ∧ after (.endpointDead 239) network (fun t => t.epState 239 == epDead) = true
      ∧ e.epState 239 = epClosing ∧ after (.endpointClosed 239) e (fun t => t.epState 239 == epIsolated) = true
      ∧ (host.hostAnswer p rOk []).isSome = true ∧ after (.hostCompletionTimeout p) host (fun t => t.get R.HP_ERR2_TIMEOUTS == 1) = true := by
  decide +kernel

theorem test_read_answer :
    let o : Outstanding := { waiting with read := true, answer := some (rOk, [1]) }
    let s : State := { network with noc := { out := [o] } }
    s.outOf 72 0 5 = some o ∧ s.returns o = true ∧ o.store = false
      ∧ after (.data { src := 72, tag := 5 } [9] 0) s (fun t => (tblGet (fun _ => ⟨0, []⟩) t.answers 88).data == [1]) = true := by decide +kernel

/-- R833: a read of the aperture waits for the host; shut, it is answered UNMAPPED. -/
theorem test_host_aperture :
    let s : State := { (network.put (R.NC_EP_STATUS_STATE hostEndpoint) 1).put R.HP_APER_CTRL_EN 1 with
      host := { dlActive := true, busMaster := true, ready := true } }
    let r := gafferRequest 0xC000000000
    addrClass 0xC000000000 = .host ∧ addrClass 0xC03FFFFFFF = .host
      ∧ (issuerOf r.src r.dev (r.col.map Fin.val)).isSome = true ∧ s.epState r.src = epOpen ∧ s.outOf r.src (nocDevice s r) r.tag.toNat = none
      ∧ portOf r.src = none ∧ s.mayIssue r.src r.col = true ∧ wellFormedRequest (r.addr.toNat % 2 ^ 40) 16 false = true
      ∧ targetOf s r.addr.toNat 16 = .host ∧ s.epState hostEndpoint = epOpen ∧ s.wayFailed (route r.src hostEndpoint) = false
      ∧ after (.hostApertureRequest r none false) s (fun t => t.noc.out.map (·.answer) == [none]) = true
      ∧ after (.hostApertureRequest r (some []) false) s (fun t => t.noc.out.map (·.answer) == [some (rOk, [])]) = true
      ∧ after (.hostApertureRequest r none false) (s.put R.HP_APER_CTRL_EN 0) (fun t => t.noc.out.map (·.answer) == [some (rUnmapped, [])]) = true := by
  decide +kernel

theorem test_lanes :
    let s := ((((((up.put (R.LN_STATUS_PSTATE 95) 0).put (R.LN_STATUS_PLL_LOCK 95) 1).put (R.LN_STATUS_SIGNAL 95) 1).put (R.LN_STATUS_CDR_LOCK 95) 1).put
      (R.LN_CTRL_COMMAS 95) 7).put (R.LN_CTRL_MODE 95) 0)
    let k := ((s.put (R.LN_STATUS_LOCK 95) 1).put (R.LN_PRBS_CTRL_CHK_EN 95) 1).put (R.LN_STATUS_PRBS_SYNC 95) 1
    let one : Injection := { turn := 0, pip := 0, spacing := 0 }
    let inj (n : Nat) : State := { (up.put (R.LN_INJ_LEFT 95) n) with phys := { inj := [(95, one)] } }
    s.fitted 95 = true ∧ s.get (R.LN_STATUS_PSTATE 95) ≤ 1 ∧ s.has (R.LN_STATUS_SIGNAL 95) = true ∧ (signed32 (2 ^ 32 - 10000)).natAbs ≤ 10000
      ∧ after (.cdrLockAcquired 95 (BitVec.ofNat 32 (2 ^ 32 - 10000))) s (fun t => t.has (R.LN_STATUS_CDR_LOCK 95)) = true
      ∧ s.has (R.LN_CTRL_MODE 95) = false ∧ bit (s.get (R.LN_CTRL_COMMAS 95)) 2 = true ∧ s.has (R.LN_STATUS_ALIGNED 95) = false
      ∧ after (.commaAlign 95 2 false) s (fun t => t.has (R.LN_STATUS_ALIGNED 95)) = true
      ∧ k.has (R.LN_STATUS_LOCK 95) = true ∧ k.has (R.LN_STATUS_CAL_DONE 95) = false ∧ (k.put (R.LN_CTRL_ADAPT 95) 0).has (R.LN_CTRL_ADAPT 95) = false
      ∧ after (.eyeCalibrationDone 95 77) (k.put (R.LN_CTRL_ADAPT 95) 0) (fun t => t.get (R.GU_LAT_LAT 95) == 77) = true
      ∧ (up.put (R.LN_Q_STATUS_POWERED 27) 1).has (R.LN_Q_STATUS_POWERED 27) = true ∧ k.has (R.LN_PRBS_CTRL_CHK_EN 95) = true
      ∧ k.has (R.LN_STATUS_PRBS_SYNC 95) = true ∧ after (.prbsSyncLoss 95 64 32) k (fun t => !t.has (R.LN_STATUS_PRBS_SYNC 95)) = true
      ∧ tblFind 95 (inj 1).phys.inj = some one ∧ (inj 1).injectionDue 95 one = true ∧ after (.errorInjection 95) (inj 1) (fun t => t.phys.inj.isEmpty) = true
      ∧ (inj 2).injectionDue 95 one = true ∧ after (.errorInjection 95) (inj 2) (fun t => t.get (R.LN_INJ_LEFT 95) == 1) = true
      ∧ after (.laneCodeError 95 true) k (fun t => t.get (R.LN_CNT_CODE_COUNT 95) == 1) = true := by decide +kernel

theorem test_eye_scan :
    let e : EyeScan := { op := (0, 7), dest := 0, pStride := 16, vStride := 16, dwell := 0, lanes := [95] }
    let s : State := { withOp store (opOf 0x0908 []) with phys := { scan := some e } }
    s.phys.scan = some e ∧ s.opOf 0 7 = some (opOf 0x0908 []) ∧ e.lanes = [95] := by decide +kernel

/-! ### Temperature, power, security, the array -/

/-- A coded reading (R740): in eighths of a degree, two's complement. -/
def hot (z k : Nat) : BitVec 12 := BitVec.ofNat 12 ((zoneLevel z k + 2048) % 4096)

theorem test_thermal :
    let z := sensorZone 63
    let warm : State := ((up.put (R.TH_SENSOR_TEMP 63) (hot z 1).toNat).setZone z { at_ := 3 }).put (R.TH_ZONE_STATE_STEP z) 8
    let lim : State := { up with phys := { power := [{ reached := true, above := true, step := 8 }, {}, { step := 1 }] } }
    up.mode ≠ mPowerOn ∧ up.sensorState 63 ≠ 2 ∧ bit (warm.zone z).at_ 1 = true ∧ warm.zoneTemp z ≠ 0x800
      ∧ zoneLevel z 1 ≤ biased (warm.zoneTemp z) ∧ warm.zoneStep z < 9
      ∧ (up.put (R.TH_ZONE_STATE_STEP 0) 1).zoneStep 0 = 1 ∧ bit (up.zone 0).at_ 1 = false ∧ up.brokenIn 0 = 0 ∧ up.mode ≠ mLehr
      ∧ (lim.powerLimit 0).reached = true ∧ (lim.powerLimit 0).above = true ∧ (lim.powerLimit 0).step < 9
      ∧ (lim.powerLimit 2).reached = false ∧ 0 < (lim.powerLimit 2).step
      ∧ after (.powerStepRise 0) lim (fun t => (t.powerLimit 0).step == 9) = true
      ∧ after (.powerReading { dw := 1234, iLL := 5, iLU := 6, consumers := Vector.replicate 6 0 }) up (fun t => t.get R.TH_POWER_POWER_W == 123) = true
      ∧ up.has R.TH_STATUS_TRIP = false ∧ tempCode (hot z 3).toNat ≠ 0x800 ∧ zoneLevel z 3 ≤ biased (hot z 3).toNat := by decide +kernel

theorem test_security :
    let s := (up.put R.SC_ALARM_STATUS_LATCHED 0).put R.SC_ALARM_POLICY_POLICY 0
    let v := up.put (R.PW_RAIL_CTRL_TARGET_MV 6) 1000
    bit (s.get R.SC_ALARM_STATUS_LATCHED) 5 = false ∧ s.alarmResponse 5 = 0
      ∧ after .alarmShield s (fun t => t.get R.SC_ALARM_STATUS_LATCHED == 1 && t.eventSet 280) = true
      ∧ 12 * v.get (R.PW_RAIL_CTRL_TARGET_MV (alarmRail 2)) < 100 * Machine.dist 1121 (v.get (R.PW_RAIL_CTRL_TARGET_MV (alarmRail 2)))
      ∧ after (.alarmVoltage 2 1120) v (fun t => t.get R.SC_ALARM_STATUS_LATCHED == 0) = true
      ∧ deg 130 < biased (BitVec.ofNat 12 1041 : BitVec 12).toNat ∧ 360 + biased (BitVec.ofNat 12 (4096 - 361) : BitVec 12).toNat < 2048
      ∧ up.pins.alarmHeld = false ∧ (up.put R.GAF_MODE_MODE mZeroized).mode = mZeroized
      ∧ after .debugOpenTimeout (up.put R.GAF_LIFECYCLE_DEBUG_OPEN 1) (fun t => t.get R.GAF_LIFECYCLE_DEBUG_OPEN == 0) = true := by decide +kernel

theorem test_security_operations :
    let a := withOp up (opOf 0x0B00 [])
    let l := withOp up (opOf 0x0B02 [4])
    let p := withOp ((up.put R.GAF_MODE_MODE mProvision).put R.GAF_LIFECYCLE_STATE 0) (opOf 0x0B02 [1])
    let k := withOp (up.put R.GAF_LIFECYCLE_STATE 1) (opOf 0x0B06 [])
    a.gaf.ops.find? (fun o => o.command == 0x0B00) = some (opOf 0x0B00 []) ∧ l.gaf.ops.find? (fun o => o.command == 0x0B02) = some (opOf 0x0B02 [4])
      ∧ (opOf 0x0B02 [4]).args.getD 0 0 = 4 ∧ p.life = 0 ∧ p.mode = mProvision
      ∧ k.gaf.ops.find? (fun o => o.command == 0x0B06) = some (opOf 0x0B06 []) ∧ k.life = 1 ∧ k.mode ≠ mZeroized
      ∧ after (.lifecycleFusesBlown true) l (fun t => t.life == 4 && t.sec.vaultErased) = true
      ∧ (withOp (up.put R.SC_UPDATE_STATE 1) (opOf 0x0C01 [0, 0])).get R.SC_UPDATE_STATE = 1 := by decide +kernel

/-- R658: the operation's image chunk is read from stack memory. -/
theorem test_chunk_reads : (stackRead store 0xF0 0 (store.chunkLen 0)).2.1 = rOk := by decide +kernel

theorem test_array :
    let f : State := { up with gaf := { forwards := [⟨15, 7, 0x0100, 3⟩], peerOps := [{ mb := 15, tag := 9, command := 0x0100 }, { mb := 15, tag := 8, command := 0x0100, quiet := true }] } }
    let m := (up.put R.NC_ARRAY_MEMBERS 0x81)
    let u (st : Nat) : State := up.put (R.NC_SEAM_STATUS_STATE 3) st
    let ports : State := (List.range 6).foldl (fun t i => t.put (R.LN_STATUS_LOCK (114 + i)) 1) (u smTraining)
    let key : State := (((u smUp).setReg (R.NC_SEAM_TXCNT_HI 3) 0xFFFFFFFF).setReg (R.NC_SEAM_TXCNT_LO 3) 0xFFFF0000)
    let start : State := { (up.put R.TS_CTRL_SOURCE 1).put R.TS_LAST_LEN_LEN 1025 with tb := { counting := true, pip := 0 } }
    let pend : State := { up with arr := { start := some { turn := 9, op := none, waiting := 0x80 } } }
    f.gaf.forwards.find? (fun f => f.mb == 15) = some ⟨15, 7, 0x0100, 3⟩
      ∧ after (.forwardTimeout 15) f (fun t => t.gaf.forwards.isEmpty && t.get (R.MB_STATUS_STATE 15) == 3) = true
      ∧ (f.gaf.peerOps.find? (fun o => o.mb == 15 && o.tag == 9)).isSome = true
      ∧ after (.peerCompletionNotice 15 8 0) f (fun t => t.gaf.peerOps.length == 1 && t.gaf.notices.isEmpty) = true
      ∧ after (.peerResponseArrival 15 { command := 0x0100, tag := 7, status := 1, detail := 0, turn := 0, pip := 0, payload := [] }) f
        (fun t => t.gaf.peerOps.length == 3) = true
      ∧ after (.peerCompletionNotice 15 9 0) f (fun t => t.get (R.MB_CPL_TAG 15) == 9) = true
      ∧ 7 ≠ m.devId ∧ bit (m.get R.NC_ARRAY_MEMBERS) 7 = true ∧ after (.peerTriggerMessage 7 7) m (fun t => bit t.cap.pulses 63) = true
      ∧ (u smUp).seamLive 3 = true ∧ (u smRekeying).seamLive 3 = true
      ∧ after (.seamNackReceived 3 3 63 false) (u smUp) (fun t => t.get (R.NC_SEAM_ERR_RETRIES 3) == 64) = true
      ∧ key.seam 3 = smUp ∧ key.seamCount (R.NC_SEAM_TXCNT_LO 3) (R.NC_SEAM_TXCNT_HI 3) = rekeyAt
      ∧ key.seamCount (R.NC_SEAM_RXCNT_LO 3) (R.NC_SEAM_RXCNT_HI 3) < rekeyAt ∧ after (.seamCounterRekey 3) key (fun t => t.seam 3 == smRekeying) = true
      ∧ (u smRekeying).arr.keyGot.contains 3 = false ∧ (u smTraining).seam 3 = smTraining
      ∧ ports.portLocked 3 = true ∧ (u smUp).has (R.LN_STATUS_LOCK (96 + 6 * 3 + 5)) = false
      ∧ after (.seamTrainingDone 3 true) ports (fun t => t.seam 3 == smKeying && t.get (R.NC_SEAM_STATUS_LANES 3) == 63) = true
      ∧ (u smKeying).seam 3 = smKeying ∧ start.get R.TS_CTRL_SOURCE = 1 ∧ start.claimOf (claimKey 6 0) = none
      ∧ start.tb.pip + 1024 < start.get R.TS_LAST_LEN_LEN ∧ start.running = true
      ∧ after (.commonStartMessage 77) start (fun t => t.arr.start == some { turn := 77, op := none, waiting := 0 }) = true
      ∧ after (.commonStartConfirm 7 true) pend (fun t => (t.arr.start.map (·.waiting)) == some 0) = true := by decide +kernel

/-- Device 4 with a link that is being keyed. -/
def keyed : State :=
  { (up.put R.NC_ARRAY_DEV_ID 4).put (R.NC_SEAM_STATUS_STATE 2) smKeying with
    sec := { keys := [(2, 1), (3, 1)], ownerPub := [1], rows := [(0, sha256 [1])] } }

/-- R639, R649: device 4 has a neighbour to its south; its link is keyed in OWNED with the owner's keys. -/
theorem test_keying :
    keyed.seam 2 = smKeying ∧ keyed.life = 2 ∧ keyed.keysPresent = true ∧ seamNeighbour keyed.devId 2 = some 0 := by
  refine ⟨by decide +kernel, by decide +kernel, ?_, by decide +kernel⟩
  have a : keyed.life = 2 := by decide +kernel
  have c : keyed.get R.SC_STATUS_OWNER_ROW = 0 := by decide +kernel
  have d : tblGet (fun _ => 0) keyed.sec.rows 0 = sha256 keyed.sec.ownerPub := rfl
  have e : keyed.sec.vaultErased = false := rfl
  simp only [State.keysPresent, a, c, d, e]
  decide

theorem test_discover :
    let s := withOp up (opOf 0x0F00 [])
    (∀ p, p < 4 → s.seam p ≠ smTraining ∧ s.seam p ≠ smKeying ∧ s.seamLive p = false ∧ s.seam p ≠ smFailed)
      ∧ s.gaf.ops.any (fun o => o.command == 0x0F00) = true
      ∧ after (.arDiscoverComplete 0xFF) s (fun t => t.get R.NC_ARRAY_MEMBERS == 1) = true := by decide +kernel

theorem test_image_chunk :
    let s : State := { up.put R.SC_UPDATE_STATE 1 with sec := { imageLen := 65537 } }
    s.running = true ∧ imageRefused s = false ∧ s.get R.SC_UPDATE_STATE = 1 ∧ 1 < chunkCount s.sec.imageLen ∧ s.chunkLen 1 = 1 := by decide +kernel

/-! ### The host port, the serial ports -/

/-- A reachable host port. -/
def hosted : State :=
  { (72 :: 112 :: (List.range 32).map channelEndpoint).foldl (fun t e => t.put (R.NC_EP_STATUS_STATE e) 1) store with
    host := { dlActive := true, busMaster := true, ready := true } }

theorem test_host :
    let win := ((hosted.put (R.HP_WIN_LOCAL_EN 7) 1).put (R.HP_WIN_SIZE_SIZE_MIB 7) 1).put R.HP_BAR2_SIZE_LOG2 28
    let dma := hosted.put (R.HP_DMA_CTRL_STATE 7) 1
    let d : DmaDescriptor := { host := 0, loc := 0, len := 64, flags := 0 }
    hosted.barReachable = true ∧ win.barWindow 0xFFFFF 1 = some 7 ∧ win.mustWait (win.barAddress 7 0xFFFFF) 1 true = false
      ∧ after (.bar2Access 0xFFFFF 1 (some [9])) win (fun t => cellGet 0 t.mem.data 0xFFFFF == 9) = true
      ∧ win.has (R.HP_WIN_LOCAL_READ_ONLY 7) = false ∧ hosted.host.dlActive = true
      ∧ after (.bar2Resize 36) hosted (fun t => t.get R.HP_BAR2_SIZE_LOG2 == 36) = true
      ∧ after (.bar2Resize 28) hosted (fun t => t.get R.HP_BAR2_SIZE_LOG2 == 28) = true
      ∧ after (.pcieLinkStateChange true 4 8) hosted (fun t => t.get R.HP_LINK_WIDTH == 8) = true
      ∧ dma.get (R.HP_DMA_CTRL_STATE 7) = 1 ∧ dma.hostReachable = true ∧ dma.mustWait 0 64 true = false
      ∧ (dmaTransfer dma d { outcome := .ok, data := List.replicate 64 1 } []).code = 0
      ∧ after (.dmaDescriptorComplete 7 d { outcome := .ok, data := List.replicate 64 1 } []) dma (fun t => t.get (R.HP_DMA_CONS_INDEX 7) == 1) = true
      ∧ (ported.put (R.CF_CTX_STATE_STATE 0) 1).regionLive 0 = true ∧ (ported.put (R.CF_CTX_STATE_STATE 0) 1).portRuns 0 .mailbox = true
      ∧ after (.mbpAccess { sel := 3 } true false 0 0) (ported.put (R.CF_CTX_STATE_STATE 0) 1) (fun t => t.fab.mbp.ack) = true := by
  decide +kernel

/-- R17: ID_MAGIC is read over BAR0 (R827), and the word crosses in little-endian order. -/
theorem test_bar0 : after (.bar0Request 0 1 true none [none]) hosted (fun t => (tblGet (fun _ => ⟨0, []⟩) t.answers 0).data == toLE 4 (hosted.reg 0)) = true
    ∧ after (.bar0Request 0xFFFFFC 1 true (some [0]) [none]) hosted (fun _ => true) = true := by decide +kernel

theorem test_serial :
    let open_ : State := up.put R.GAF_LIFECYCLE_DEBUG_OPEN 1
    let punty : State := { up with pins := { jtagIr := 0x20, session := true } }
    let closed : State := { up.put R.SC_ALARM_POLICY_POLICY 0 with pins := { jtagIr := 0x20 } }
    mspiMayWrite up (R.MB_DOORBELL 8) = true ∧ after (.mspiWriteFrame (BitVec.ofNat 24 (R.MB_DOORBELL 8)) [1]) up (fun t => t.get (R.MB_STATUS_STATE 8) == 1) = true
      ∧ mspiMayRead (up.setRefused false) 0 = true ∧ after (.mspiStatusFrame 255) up (fun t => (tblGet (fun _ => ⟨0, []⟩) t.answers 2).data.length == 255) = true
      ∧ after .jtagIdcode up (fun t => t.pins.jtagIr == 1) = true
      ∧ after .puntySessionBegin open_ (fun t => t.pins.session && t.pins.jtagIr == 0x20) = true
      ∧ punty.pins.jtagIr = 0x20 ∧ punty.pins.session = true ∧ bits 1 0 2 = 1 ∧ bits 2 0 2 = 2
      ∧ closed.pins.session = false ∧ 4 * bits (1 + 4 * 8) 2 22 = 0x20
      ∧ after (.puntyAccess (1 + 4 * 8)) closed (fun t => bit (t.get R.SC_ALARM_STATUS_LATCHED) 4) = true
      ∧ after (.puntyAccess (1 + 4 * 7)) closed (fun t => !bit (t.get R.SC_ALARM_STATUS_LATCHED) 4) = true
      ∧ after .testLogicReset { punty with regs := open_.regs } (fun t => !t.pins.session && t.get R.GAF_LIFECYCLE_DEBUG_OPEN == 0) = true := by decide +kernel

/-! ### Words -/

/-- The table gives no row bits: no word spells a command, and withFetchWord leaves the state. -/
theorem test_no_words : decodeTableWord 16 0x1234 = none ∧ (State.reset.withFetchWord 16 0x1234).pending = [] := ⟨rfl, rfl⟩

end Sys2Proof.Tests
end

section
/-!
PROOFS. The scope family: the invariant of a step (O4, O5), a field's write (O6), the events that a variant lacks (O8), and the rows of
the host port and of register accesses (O59).
-/

namespace Sys2Proof.Machine

open Sys2Proof

/-! ### The invariant (O4, O5) -/

section Invariant

variable {fx : Fixed}

/-- `sound` in the words of the statements: the canonical form, and the queue and the fuses as `fx` says. -/
theorem State.sound_iff (s : State) : s.sound fx ↔ s.canonical ∧ s.pending = fx.1 ∧ s.fuses = fx.2 := by
  simp only [State.sound, parts, State.canonical, State.fuses, Prod.ext_iff, and_assoc]

/-- No command breaks `sound`: in the case of each row, `exec` is the row's own meaning, and the row's law `exec<Row>_sound` closes it. -/
theorem exec_sound (i : Instr) (s : State) (ok : s.sound fx) : soundOut fx (exec i s) := by
  cases i
  all_goals simp [exec, ok]

end Invariant

/-- Taking the front command changes the queue alone. -/
theorem State.sound_pending {queue : List Instr} {fuses : BitVec 256 × BitVec 256 × Nat} {s : State} (ok : s.sound (queue, fuses))
    (rest : List Instr) : State.sound { s with pending := rest } (rest, fuses) := by
  obtain ⟨hcanonical, -, hfuses⟩ := s.sound_iff.1 ok
  exact (State.sound_iff _).2 ⟨hcanonical, rfl, hfuses⟩

/-- A step takes at most the front command off the queue, and keeps the memories canonical and the fuses as they are. -/
theorem step_sound {queue : List Instr} {fuses : BitVec 256 × BitVec 256 × Nat} {s t : State} (ok : s.sound (queue, fuses))
    (h : step s = .next t) : t.sound (queue.tail, fuses) := by
  obtain ⟨-, rfl, -⟩ := s.sound_iff.1 ok
  unfold step at h
  split at h
  case h_1 hq =>
    cases h
    rw [hq] at ok ⊢
    exact idlePip_sound s ok
  case h_2 c rest hq =>
    have hexec := exec_sound c _ (State.sound_pending ok rest)
    rw [h] at hexec
    rw [hq]
    exact hexec

/-- Settles O4: a step keeps the memories and the fuses (R762, R766; that lifecycle changes leave an owner row's revoke
bits is the model's choice, log 65), and what is left of the queue stood in it before. -/
theorem everyStepKeepsTheInvariant : Obligations.EveryStepKeepsTheInvariant := by
  intro fuses s t ⟨hcanonical, hqueue, hfuses⟩ h
  have hs : s.sound (s.pending, fuses) := s.sound_iff.2 ⟨hcanonical, rfl, hfuses⟩
  obtain ⟨tcanonical, tqueue, tfuses⟩ := t.sound_iff.1 (step_sound hs h)
  refine ⟨tcanonical, fun c hc => hqueue c ?_, tfuses⟩
  rw [tqueue] at hc
  exact List.mem_of_mem_tail hc

/-- At reset every sparse memory is its reset content, which lists nothing. -/
theorem reset_canonical : State.reset.canonical := ⟨rfl, rfl, rfl, rfl, rfl⟩

/-- At reset no command waits. -/
theorem reset_queueFormed : State.reset.queueFormed := fun _ hc => nomatch hc

/-- Settles O5. -/
theorem resetMeetsTheInvariant : Obligations.ResetMeetsTheInvariant := ⟨reset_canonical, reset_queueFormed, rfl⟩

/-! ### A field is written (O6) -/

theorem sameWords_put (s : State) (f : RF) (v : Nat) : sameWords s (s.put f v) [f.off] :=
  fun _ h => reg_put_ne s f v (List.ne_of_not_mem_cons h)

theorem sameStores_put (s : State) (f : RF) (v : Nat) : sameStores s (s.put f v) := by
  simp [sameStores]

/-- Settles O6, from what a field reads after a write to it and after a write apart from it. -/
theorem writingAFieldWritesThatFieldOnly : Obligations.WritingAFieldWritesThatFieldOnly := fun s f v hw =>
  ⟨get_put_same s f v hw, sameWords_put s f v, fun g _ h => get_put_apart s g f v hw (.inr h), sameStores_put s f v, rfl, rfl, rfl⟩

/-! ### Events that the variant lacks (O8) -/

/-- R9: nothing happens on an event whose source the variant lacks. -/
theorem raise_of_eventAbsent {s : State} {e : Nat} (h : s.eventAbsent e = true) : s.raise e = s := by
  unfold State.raise
  exact if_pos h

/-- Settles O8: on LF96-48 these sources are absent. -/
theorem absentEventsAreNeverSet : Obligations.AbsentEventsAreNeverSet := by
  intro s e h48 hlo hhi
  have habsent : s.eventAbsent e = true := by simp [State.eventAbsent, h48, hlo, hhi]
  exact raise_of_eventAbsent habsent

/-! ### The rows of the host port (O59) -/

/-! #### BAR0 (R827) -/

/-- R827: a request of 1 to 16 words, aligned, within the space. -/
def bar0Formed (off : BitVec 24) (n : Fin 64) : Prop := 1 ≤ n.val ∧ n.val ≤ 16 ∧ off.toNat % 4 = 0 ∧ off.toNat + 4 * n.val ≤ 2 ^ 24

section Bar0

variable {s : State} {off : BitVec 24} {n : Fin 64} (fabric : List (Option (BitVec 32)))

/-- A formed write discards the words that fail. -/
theorem execBar0Request_write (words : List (BitVec 32)) (hr : s.barReachable = true) (hf : bar0Formed off n) :
    let w := bar0Write s off.toNat n words fabric
    execBar0Request off n true (some words) fabric s = .next (w.1.discard w.2) := by
  obtain ⟨h1, h16, halign, hend⟩ := hf
  simp [execBar0Request, hr, h1, h16, halign, hend, -Nat.reducePow]

/-- A formed read none of whose words fails is answered with them. -/
theorem execBar0Request_read (hr : s.barReachable = true) (hf : bar0Formed off n)
    (hok : (bar0Read s off.toNat n fabric).2.1 = rOk) :
    let r := bar0Read s off.toNat n fabric
    execBar0Request off n true none fabric s = .next (r.1.answer 0 rOk r.2.2) := by
  obtain ⟨h1, h16, halign, hend⟩ := hf
  simp [execBar0Request, hr, h1, h16, halign, hend, hok, -Nat.reducePow]

end Bar0

/-! #### BAR2 (R828-R832) -/

/-- An access that lies in the aperture and whole in window `k`. -/
def bar2Lands (s : State) (off : BitVec 36) (len : BitVec 13) (k : Nat) : Prop :=
  s.barReachable = true ∧ 0 < len.toNat ∧ off.toNat + len.toNat ≤ 2 ^ s.get R.HP_BAR2_SIZE_LOG2
    ∧ s.barWindow off.toNat len.toNat = some k

section Bar2

variable {s : State} {off : BitVec 36} {len : BitVec 13} {k : Nat}

theorem execBar2Access_read (h : bar2Lands s off len k) (hfree : s.mustWait (s.barAddress k off.toNat) len.toNat false = false)
    (hok : (bar2Read s (s.barAddress k off.toNat) len.toNat).2.1 = rOk) :
    let r := bar2Read s (s.barAddress k off.toNat) len.toNat
    execBar2Access off len none s = .next (r.1.answer 1 rOk r.2.2) := by
  obtain ⟨hr, hpos, hend, hwin⟩ := h
  simp [execBar2Access, hr, Nat.pos_iff_ne_zero.1 hpos, Nat.not_lt.2 hend, hwin, hfree, hok]

theorem execBar2Access_write (b : List Byte) (h : bar2Lands s off len k) (hrw : s.has (R.HP_WIN_LOCAL_READ_ONLY k) = false)
    (hfree : s.mustWait (s.barAddress k off.toNat) len.toNat true = false)
    (hok : (bar2Write s (s.barAddress k off.toNat) (fit len.toNat b)).2 = false) :
    execBar2Access off len (some b) s = .next (bar2Write s (s.barAddress k off.toNat) (fit len.toNat b)).1 := by
  obtain ⟨hr, hpos, hend, hwin⟩ := h
  simp [execBar2Access, hr, Nat.pos_iff_ne_zero.1 hpos, Nat.not_lt.2 hend, hwin, hrw, hfree, hok]

/-- A resize within the variant's range sets the size and disables the windows beyond it. -/
theorem execBar2Resize_inRange {k : Fin 64} (hup : s.host.dlActive = true) (hlo : 28 ≤ k.val)
    (hhi : k.val ≤ (if s.is48 then 35 else 36)) :
    execBar2Resize k s = .next (iterate 8 (fun w t =>
      if 2 ^ (k.val - 20) < t.get (R.HP_WIN_OFFSET_OFFSET_MIB w) + t.get (R.HP_WIN_SIZE_SIZE_MIB w) then t.put (R.HP_WIN_LOCAL_EN w) 0
      else t) (s.put R.HP_BAR2_SIZE_LOG2 k)) := by
  unfold execBar2Resize
  rw [if_neg]
  rintro (hdown | hsmall | hlarge)
  · simp [hup] at hdown
  · exact Nat.not_lt.2 hlo hsmall
  · exact Nat.not_lt.2 hhi hlarge

end Bar2

/-! #### Link, configuration space and resets (R823-R825) -/

/-- PERST_N has the level `high`: the pin, whether the port may train, and what HP_LINK shows of it. -/
def State.perstLevel (s : State) (high : Bool) : State :=
  State.put { s with pins := { s.pins with perstN := high }, host := { s.host with ready := high } } R.HP_LINK_PERST_PIN (b2n high)

theorem execPerstNAssert_eq (s : State) : execPerstNAssert s = .next (s.perstLevel false).linkDown.resetHost := rfl

theorem execPerstNRelease_eq (s : State) : execPerstNRelease s = .next (s.perstLevel true) := rfl

@[simp] theorem perstLevel_perstN (s : State) (high : Bool) : (s.perstLevel high).pins.perstN = high := rfl

@[simp] theorem perstLevel_ready (s : State) (high : Bool) : (s.perstLevel high).host.ready = high := rfl

theorem get_perstLevel (s : State) (high : Bool) : (s.perstLevel high).get R.HP_LINK_PERST_PIN = b2n high := by
  unfold State.perstLevel
  rw [get_put_same _ _ _ (by decide)]
  cases high <;> rfl

theorem sameWords_perstLevel (s : State) (high : Bool) : sameWords s (s.perstLevel high) [R.HP_LINK] :=
  sameWords_put { s with pins := _, host := _ } R.HP_LINK_PERST_PIN (b2n high)

/-- But for the pin, no store changes. -/
theorem sameStores_perstLevel (s : State) (high : Bool) : sameStores s { s.perstLevel high with pins := s.pins } := by
  simp [sameStores, State.perstLevel]

theorem execHotReset_linkUp {s : State} (hup : s.host.dlActive = true) : execHotReset s = .next s.linkDown.resetHost := if_pos hup

theorem execFunctionLevelReset_linkUp {s : State} (hup : s.host.dlActive = true) : execFunctionLevelReset s = .next s.resetHost :=
  if_pos hup

/-- R822: the port trains only when it is ready, and only to a speed and a width that exist. -/
theorem execPcieLinkStateChange_up {s : State} {speed : Fin 5} {width : Fin 9} (hready : s.host.ready = true) (hspeed : speed.val ≠ 0)
    (hwidth : width.val ∈ [1, 2, 4, 8]) :
    execPcieLinkStateChange true speed width s
      = .next ((State.put { s with host := { s.host with dlActive := true } } R.HP_LINK_SPEED speed).put R.HP_LINK_WIDTH
          width).showHost.sendAllPending := by
  have hw : [1, 2, 4, 8].contains width.val = true := List.contains_iff_mem.2 hwidth
  simp only [execPcieLinkStateChange, hready, hspeed, hw, Bool.not_true, Bool.false_eq_true, if_false, or_self]

/-- R825: what the configuration space takes from a write: with MSI-X Enable at 0 nothing is held pending (log 75). -/
def HostPort.configured (h : HostPort) (bm d3 en fm : Bool) : HostPort :=
  { h with busMaster := bm, d3hot := d3, msixEnable := en, functionMask := fm, pba := if en then h.pba else 0 }

theorem execPcieConfigWrite_linkUp {s : State} (bm d3 en fm : Bool) (hup : s.host.dlActive = true) :
    execPcieConfigWrite bm d3 en fm s = .next (State.showHost { s with host := s.host.configured bm d3 en fm }).sendAllPending := by
  simp [execPcieConfigWrite, hup, HostPort.configured]

/-! #### DMA (R834-R836) -/

/-- A transfer that succeeds without an interrupt moves CONS on and shows its bytes. -/
theorem execDmaDescriptorComplete_done {s : State} {c : Fin 8} {d : DmaDescriptor} {h : HostCompletion}
    {rem : List (BitVec 4 × List Byte)} (hrun : s.get (R.HP_DMA_CTRL_STATE c) = 1) (hhost : s.hostReachable = true)
    (hfree : s.mustWait (d.loc.toNat % 2 ^ 43) d.len.toNat (!bit d.flags.toNat 0) = false) (hok : (dmaTransfer s d h rem).code = 0)
    (hquiet : bit d.flags.toNat 1 = false) :
    execDmaDescriptorComplete c d h rem s
      = .next ((((dmaTransfer s d h rem).next.answer (8 + c) 0 (dmaTransfer s d h rem).data).put (R.HP_DMA_CONS_INDEX c)
          (s.get (R.HP_DMA_CONS_INDEX c) + 1)).showDma c) := by
  simp [execDmaDescriptorComplete, hrun, hhost, hfree, hok, hquiet, -Nat.reducePow]

/-! #### U00's mailbox port (R364) -/

/-- An access to a buffer of MB4 to MB7 is performed and acknowledged while U00 runs and the port's line has edges. -/
theorem execMbpAccess_buffer {s : State} (sel : MbpSelect) (addr : BitVec 11) (data : BitVec 32) (we : Bool)
    (hlive : s.regionLive 0 = true) (hrun : s.portRuns 0 .mailbox = true) :
    let n := 4 + sel.sel.toNat
    let off := mbpOffset n true addr.toNat
    let w := mailboxWrite s false n off data.toNat
    let r := mailboxRead s off
    execMbpAccess sel true we addr data s
      = .next (if we then w.1.mbpAnswer true w.2 0 [] else s.mbpAnswer true r.1 r.2 (toLE 4 r.2)) := by
  cases we <;> simp [execMbpAccess, hlive, hrun]

/-- Settles O59: each row by what it does when it acts. -/
theorem hostPortRowsAct : Obligations.HostPortRowsAct := by
  intro s
  refine ⟨?bar0, ?bar2, ?resize, ?perstAssert, ?resets, ?perstRelease, ?link, ?config, ?dma, fun _ _ => rfl, fun _ _ => rfl, fun _ => rfl,
    ?mailboxPort, fun _ _ _ => ⟨rfl, rfl⟩⟩
  case bar0 =>
    intro off n words fabric hr h1 h16 halign hend
    have hf : bar0Formed off n := ⟨h1, h16, halign, hend⟩
    exact ⟨execBar0Request_write fabric words hr hf, execBar0Request_read fabric hr hf⟩
  case bar2 =>
    intro off len b k hr hpos hend hwin
    have hlands : bar2Lands s off len k := ⟨hr, hpos, hend, hwin⟩
    exact ⟨execBar2Access_read hlands, execBar2Access_write b hlands⟩
  case resize => exact fun _ => execBar2Resize_inRange
  case perstAssert =>
    exact ⟨s.perstLevel false, execPerstNAssert_eq s, perstLevel_perstN s false, get_perstLevel s false, sameWords_perstLevel s false,
      sameStores_perstLevel s false⟩
  case resets => exact fun hup => ⟨execHotReset_linkUp hup, execFunctionLevelReset_linkUp hup⟩
  case perstRelease =>
    exact ⟨s.perstLevel true, execPerstNRelease_eq s, perstLevel_perstN s true, perstLevel_ready s true, get_perstLevel s true,
      sameWords_perstLevel s true, sameStores_perstLevel s true⟩
  case link => exact fun speed width => ⟨rfl, execPcieLinkStateChange_up⟩
  case config =>
    intro bm d3 en fm hup
    exact ⟨{ s with host := s.host.configured bm d3 en fm }, execPcieConfigWrite_linkUp bm d3 en fm hup, rfl, rfl, rfl, rfl, rfl, rfl,
      by simp [sameStores]⟩
  case dma => exact fun c d h rem => execDmaDescriptorComplete_done
  case mailboxPort =>
    intro sel addr data hlive hrun
    exact ⟨execMbpAccess_buffer sel addr data true hlive hrun, execMbpAccess_buffer sel addr data false hlive hrun⟩

end Sys2Proof.Machine
end

section
/-!
PROOFS. The family of the device at a glance: the rows of gather units and capture queues (O39).
-/

namespace Sys2Proof.Machine

open Sys2Proof

/-! ### The rows of capture (O39) -/

/-! #### Line words of a lane (R28, R212-R217, R221, R319) -/

/-- The decoder's disparity stands in the receive port alone. -/
@[simp] theorem setDisparity_regs (s : State) (n : Nat) (rd : Bool) : (s.setDisparity n rd).regs = s.regs := by
  unfold State.setDisparity
  split <;> rfl

@[simp] theorem setDisparity_rep (s : State) (n : Nat) (rd : Bool) : (s.setDisparity n rd).rep = s.rep := by
  unfold State.setDisparity
  split <;> rfl

theorem has_setDisparity (s : State) (n : Nat) (rd : Bool) (f : RF) : (s.setDisparity n rd).has f = s.has f := by
  simp only [State.has, State.get, State.reg, setDisparity_regs]

section Lane

variable {s : State} {n : Nat}

/-- R319, R321: a lane without pass-through, or whose pass-through is broken, forwards nothing. -/
theorem forward_of_off (l : List (RxChar × Timestamp)) (h : s.has (R.RP_PT_CTRL_EN n) = false ∨ s.rep.broken.contains n = true) :
    s.forward n l = s := by
  unfold State.forward
  rw [if_neg]
  rcases h with hoff | hbroken
  · rw [hoff, Bool.false_and]
    exact Bool.false_ne_true
  · rw [hbroken, Bool.not_true, Bool.and_false]
    exact Bool.false_ne_true

/-- R319: a lane in pass-through forwards each character, and forgets those that have left. -/
theorem forward_of_on (l : List (RxChar × Timestamp)) (hen : s.has (R.RP_PT_CTRL_EN n) = true)
    (hwhole : s.rep.broken.contains n = false) :
    s.forward n l = forEach l (fun c t => t.forwardChar n c) { s with rep := { s.rep with
      forwarded := tblSet (fun _ => []) s.rep.forwarded n
        ((tblGet (fun _ => []) s.rep.forwarded n).filter (fun f => decide (s.nowFine ≤ f.out))) } } := by
  unfold State.forward
  exact if_pos (by rw [hen, hwhole]; rfl)

/-- What is not framed by characters reaches the receive port alone. -/
theorem gather_of_not_framesChars (l : List (RxChar × Timestamp)) (gu : GatherCond) (h : (s.receive n l).framesChars n = false) :
    s.gather n l gu = s.receive n l := by
  simp only [State.gather, h, Bool.false_eq_true, if_false]

theorem gather_of_framesChars (l : List (RxChar × Timestamp)) (gu : GatherCond) (h : (s.receive n l).framesChars n = true) :
    s.gather n l gu = (s.receive n l).gatherChars n l gu :=
  if_pos h

end Lane

section LineWords

variable {s : State} {lane : Fin 96}

/-- The words of a locked lane are decoded, forwarded, and gathered where the gather unit has its clock (log 105). -/
theorem execFrameReceived_locked (line : List (BitVec 10 × Timestamp)) (gu : GatherCond) (hpresent : lane.val < s.lanes)
    (hlock : s.has (R.LN_STATUS_LOCK lane) = true) :
    let c := s.lineChars lane (s.rxPort lane).rd line
    let l := c.1.map (fun x => (x.1, s.atBalls lane x.2))
    let v := (s.setDisparity lane c.2).forward lane l
    execFrameReceived lane line gu s = .next (if v.gatherClocked then v.gather lane l gu else v) := by
  unfold execFrameReceived
  rw [if_neg]
  simp only [hlock, Bool.not_true, Bool.false_eq_true, or_false, Nat.not_le.2 hpresent, not_false_eq_true]

/-- R357-R359: the driving region's beats are taken while the store of 32 has room. -/
theorem execReinsertedFrame_driven {r : Nat} (frame : Reinserted) (gu : GatherCond) (hpresent : lane.val < s.lanes)
    (hen : s.has (R.GU_CTRL_ENABLE lane) = true) (hframing : s.get (R.GU_CTRL_FRAMING lane) = 2) (hclock : s.gatherClocked = true)
    (hdriver : s.reinsertDriver lane = some r) :
    let held := tblGet (fun _ => 0) s.cap.stored lane
    let beats := frame.beats.take (32 - held)
    execReinsertedFrame lane frame gu s = .next (forEach beats (fun b t => t.takeBeat lane r b gu)
      { s with cap := { s.cap with stored := tblSet (fun _ => 0) s.cap.stored lane (min frame.left.val (held + beats.length)) } }) := by
  simp only [execReinsertedFrame, Nat.not_le.2 hpresent, hen, hframing, hclock, hdriver, Bool.not_true, Bool.false_eq_true, ne_eq,
    not_true_eq_false, or_self, if_false]

end LineWords

/-! #### Records that a queue writes of itself (R228, R244) -/

section Records

variable {s : State} {q : Fin 1024}

/-- R244: a live queue with room takes the marker that a lane owes it. -/
theorem dropMarker_owed {lane : Nat} {d : Drops} (howed : tblFind (1024 * lane + q) s.cap.drops = some d) (hlive : s.queueLive q = true)
    (hroom : s.linearFull q 32 = false) : s.dropMarker lane q = (s.writeMarker lane q d).checkPost q := by
  simp [State.dropMarker, howed, hlive, hroom]

/-- R228: a pad record completes the half line that a live or stopped queue holds, where there is room. -/
theorem execPadRecordTimer_halfLine (hhalf : (s.queue q).half.length % 64 ≠ 0) (hstate : s.queueLive q = true ∨ s.queueState q = qStopped)
    (hroom : s.linearFull q 32 = false) : execPadRecordTimer q s = .next ((appendRecord s q (padRecord s)).checkPost q) := by
  have htakes : (s.queueLive q || s.queueState q == qStopped) = true := by simpa using hstate
  simp only [execPadRecordTimer, hhalf, htakes, hroom, Bool.not_true, Bool.false_eq_true, or_self, if_false]

end Records

/-! #### A line that failed (R245) -/

/-- R245, R197: the frames whose records started in a failed line of queue `q` are lost, and a lossless lane's guarantee yields. -/
def State.countLost (s : State) (q : Nat) (l : List (Nat × Timestamp)) : State :=
  forEach l (fun e t =>
    let t := t.countDrop e.1 q e.2
    if t.has (R.GU_CTRL_LOSSLESS e.1) then t.yielded 4 3 e.1 else t) s

section FailedLine

variable {s : State} {q mib : Nat} {l : List (Nat × Timestamp)}

/-- A line of the MiB in progress marks the entry that is being gathered. -/
theorem lineIntegrity_current (h : ((s.countLost q l).queue q).total / 2 ^ 20 = mib) :
    let x := (s.countLost q l).queue q
    s.lineIntegrity q mib l = ((s.countLost q l).setQueue q { x with acc := { x.acc with integrity := true } }).captureFailed q :=
  congrArg (fun t : State => t.captureFailed q) (if_pos h.symm)

/-- A line of a MiB that is left has that MiB's entry written again (log 120). -/
theorem lineIntegrity_left (h : mib < ((s.countLost q l).queue q).total / 2 ^ 20) :
    let x := (s.countLost q l).queue q
    let a := { x.prev with integrity := true }
    s.lineIntegrity q mib l = (((s.countLost q l).setQueue q { x with prev := a }).writeIndex q mib a false).captureFailed q :=
  congrArg (fun t : State => t.captureFailed q) ((if_neg h.ne).trans (if_neg h.not_gt))

end FailedLine

theorem execCaptureLineIntegrity_taken {s : State} {q : Fin 1024} (line : LineFail)
    (hstate : s.queueLive q = true ∨ s.queueState q = qStopped) :
    execCaptureLineIntegrity q line s
      = .next (s.lineIntegrity q ((s.queue q).total / 2 ^ 20 - b2n line.before) (line.frames.map (fun f => (f.1.val, f.2)))) :=
  if_pos hstate

/-- The lost frames as the operands name them. -/
theorem countLost_map (s : State) (q : Nat) (frames : List (Fin 96 × Timestamp)) :
    s.countLost q (frames.map (fun f => (f.1.val, f.2))) = forEach frames (fun (f : Fin 96 × Timestamp) t =>
      let v := t.countDrop f.1.val q f.2
      if v.has (R.GU_CTRL_LOSSLESS f.1.val) then v.yielded 4 3 f.1.val else v) s :=
  List.foldl_map

/-! #### Sealing (R253) -/

/-- R253: once no stop is pending for a listed queue, CQ_SEAL seals them all and ends. -/
theorem execCqSealComplete_stopped {s : State} {mb : Fin 16} {tag : BitVec 16} {o : Op} (hop : s.opOf mb tag.toNat = some o)
    (hcommand : o.command = 0x0404) (hstopped : ∀ q ∈ o.args, s.sealPending q = false) :
    execCqSealComplete mb tag s = .next ((forEach o.args (fun q t => t.sealQueue q) s).endOp o stOk 0) := by
  have hall : o.args.all (fun q => !s.sealPending q) = true := List.all_eq_true.2 fun q hq => by rw [hstopped q hq]; rfl
  simp only [execCqSealComplete, hop, hcommand, hall, and_self, if_true]

/-- Settles O39: each row by what it does when it acts. The model's choices are that a gather unit without its clock gathers nothing
(log 105), the fields of pad record and drop marker (log 93, 95), and that a failed line of the MiB left last has that MiB's entry
written again (log 120). -/
theorem captureRowsAct : Obligations.CaptureRowsAct := by
  intro s
  refine ⟨?lineWords, fun _ frame gu _ => execReinsertedFrame_driven frame gu, ?marker, fun _ => execPadRecordTimer_halfLine, ?failedLine,
    fun _ _ _ => execCqSealComplete_stopped⟩
  case lineWords =>
    intro lane line gu hpresent hlock c l d v u
    have hrow : exec (.frameReceived lane line gu) s = .next (if v.gatherClocked then v.gather lane l gu else v) :=
      execFrameReceived_locked line gu hpresent hlock
    refine ⟨fun hstill => ?_, fun hclock hports => ?_, fun hclock hframes => ?_, fun hoff => ?_, fun hen hwhole => ?_⟩
    · rw [hrow, hstill]
      rfl
    · rw [hrow, hclock, if_pos rfl, gather_of_not_framesChars l gu hports]
    · rw [hrow, hclock, if_pos rfl, gather_of_framesChars l gu hframes]
      rfl
    · rw [← has_setDisparity s lane c.2, ← setDisparity_rep s lane c.2] at hoff
      exact forward_of_off l hoff
    · rw [← has_setDisparity s lane c.2] at hen
      rw [← setDisparity_rep s lane c.2] at hwhole
      exact forward_of_on l hen hwhole
  case marker =>
    intro lane q d howed hlive hroom
    exact congrArg Host.Outcome.next (dropMarker_owed howed hlive hroom)
  case failedLine =>
    intro q frames hstate u m x failed
    have hlost : s.countLost q (frames.map (fun f => (f.1.val, f.2))) = u := countLost_map s q frames
    refine ⟨fun hcur => ?_, fun hcur hpos => ?_⟩
    · refine (execCaptureLineIntegrity_taken { frames := frames } hstate).trans (congrArg Host.Outcome.next ?_)
      rw [lineIntegrity_current (by rw [hlost]; exact hcur), hlost]
      rfl
    · refine (execCaptureLineIntegrity_taken { frames := frames, before := true } hstate).trans (congrArg Host.Outcome.next ?_)
      have hleft : m - 1 < x.total / 2 ^ 20 := (Nat.sub_one_lt_of_lt hpos).trans_eq hcur.symm
      rw [lineIntegrity_left (by rw [hlost]; exact hleft), hlost]
      rfl

end Sys2Proof.Machine
end

section
/-!
PROOFS. The family of the gaffer and the mailboxes: the doorbells (O9 to O11), the response and the mailbox's event (O12, O13), the
service of a mailbox command (O14 to O21), warm restarts (O22, O23) and the other rows of the gaffer (O24).
-/

namespace Sys2Proof.Machine

open Sys2Proof

/-! ### Which registers a chain of operations writes -/

section SameWords

variable {s t : State} {offs : List Nat}

theorem sameWords.refl (s : State) (offs : List Nat) : sameWords s s offs := fun _ _ => rfl

theorem sameWords.setReg {off : Nat} (h : sameWords s t offs) (hoff : off ∈ offs) (v : Nat) : sameWords s (t.setReg off v) offs :=
  fun o ho => (reg_setReg_ne t v (ne_of_mem_of_not_mem hoff ho).symm).trans (h o ho)

theorem sameWords.put (h : sameWords s t offs) (f : RF) (hf : f.off ∈ offs) (v : Nat) : sameWords s (t.put f v) offs := h.setReg hf _

theorem sameWords.bump (h : sameWords s t offs) (f : RF) (hf : f.off ∈ offs) : sameWords s (t.bump f) offs := h.put f hf _

theorem sameWords.raise (h : sameWords s t offs) (e : Nat) (hstatus : R.EV_STATUS (e / 32) ∈ offs) (hcount : R.EV_COUNT e ∈ offs) :
    sameWords s (t.raise e) offs :=
  fun o ho => (reg_raise_ne t (ne_of_mem_of_not_mem hstatus ho).symm (ne_of_mem_of_not_mem hcount ho).symm).trans (h o ho)

/-- A field of a register that is not among `offs` reads what it read. -/
theorem sameWords.get {f : RF} (h : sameWords s t offs) (hf : f.off ∉ offs) : t.get f = s.get f := by
  unfold State.get
  rw [h _ hf]

theorem sameWords.has {f : RF} (h : sameWords s t offs) (hf : f.off ∉ offs) : t.has f = s.has f := by
  unfold State.has
  rw [h.get hf]

end SameWords

/-- An entry below ERROR changes the log alone (R116, R120). -/
def Gaffer.logged (g : Gaffer) (e : LogEntry) : Gaffer :=
  { g with log := (if 4096 ≤ g.log.length then g.log.drop 1 else g.log) ++ [e], logNext := (g.logNext + 1) % 2 ^ 32 }

theorem logAlways_of_lt (s : State) {severity : Nat} (h : severity < 4) (group code mailbox a0 a1 a2 : Nat) :
    s.logAlways severity group code mailbox a0 a1 a2
      = { s with gaf := s.gaf.logged ⟨s.gaf.logNext, s.tb.turn, s.tb.pip, severity, group, code, mailbox, a0, a1, a2⟩ } :=
  if_neg (Nat.not_le.2 h)

/-- The variant lacks lane events only (R9). -/
theorem eventAbsent_of_lt (s : State) {e : Nat} (h : e < 128) : s.eventAbsent e = false := by
  simp [State.eventAbsent, Nat.not_le.2 h]

/-! ### The doorbells (O9, O10, O11) -/

section Doorbells

variable {s : State} {mb : Nat}

@[simp] theorem get_put_state (s : State) (mb v : Nat) : (s.put (R.MB_STATUS_STATE mb) v).get (R.MB_STATUS_STATE mb) = v % 4 :=
  get_put_same s _ v (Nat.le_of_ble_eq_true rfl)

theorem ring_idle (h : s.get (R.MB_STATUS_STATE mb) = 0) :
    ring s mb
      = State.put { s with gaf := { s.gaf with rungAt := tblPut mb s.tb.now s.gaf.rungAt } } (R.MB_STATUS_STATE mb) 1 :=
  if_pos h

theorem ring_busy (h : s.get (R.MB_STATUS_STATE mb) ≠ 0) : ring s mb = s.put (R.MB_STATUS_RING_LOST mb) 1 := if_neg h

theorem cancel_pending (h : s.get (R.MB_STATUS_STATE mb) = 1) : cancel s mb = s.put (R.MB_STATUS_STATE mb) 0 := if_pos h

theorem cancel_ignored (h : s.get (R.MB_STATUS_STATE mb) ≠ 1) : cancel s mb = s := if_neg h

theorem acknowledge_ignored (h : s.get (R.MB_STATUS_STATE mb) ≠ 3) : acknowledge s mb = s := if_neg h

/-- R63, R113: DONE becomes IDLE, and a mailbox that asked for its own reset is reset. -/
theorem acknowledge_done (h : s.get (R.MB_STATUS_STATE mb) = 3) :
    acknowledge s mb = if s.gaf.resetAfterAck.contains mb then (s.put (R.MB_STATUS_STATE mb) 0).resetMailbox mb
      else s.put (R.MB_STATUS_STATE mb) 0 :=
  if_pos h

/-! #### Completion notices (R59) -/

/-- The registers of a mailbox show how many notices wait and the oldest, or 0xFFFF and 0. -/
theorem showNotices_eq {l : List Notice} (h : tblGet (fun _ => []) s.gaf.notices mb = l) :
    s.showNotices mb = ((s.put (R.MB_STATUS_CPL_COUNT mb) l.length).put (R.MB_CPL_TAG mb) (l.head?.elim 0xFFFF Notice.tag)).put
      (R.MB_CPL_STATUS mb) (l.head?.elim 0 Notice.status) := by
  unfold State.showNotices
  rw [h]
  cases l <;> rfl

theorem status_ne_cpl (m n : Nat) : R.MB_STATUS m ≠ R.MB_CPL n := by
  unfold R.MB_STATUS R.MB_CPL
  omega

/-- What the registers read of a mailbox's notices. -/
theorem get_showNotices {l : List Notice} (h : tblGet (fun _ => []) s.gaf.notices mb = l) :
    let t := s.showNotices mb
    t.get (R.MB_STATUS_CPL_COUNT mb) = l.length % 2 ^ 5 ∧ t.get (R.MB_CPL_TAG mb) = l.head?.elim 0xFFFF Notice.tag % 2 ^ 16
      ∧ t.get (R.MB_CPL_STATUS mb) = l.head?.elim 0 Notice.status % 2 ^ 16 := by
  have hcount (u : State) (f : RF) (v : Nat) (hf : f.off = R.MB_CPL mb) (hw : f.lo + f.w ≤ 32) :
      (u.put f v).get (R.MB_STATUS_CPL_COUNT mb) = u.get (R.MB_STATUS_CPL_COUNT mb) :=
    get_put_apart u (R.MB_STATUS_CPL_COUNT mb) f v hw (.inl (hf ▸ status_ne_cpl mb mb))
  rw [showNotices_eq h]
  refine ⟨?_, ?_, get_put_same _ (R.MB_CPL_STATUS mb) _ (Nat.le_refl 32)⟩
  · rw [hcount _ (R.MB_CPL_STATUS mb) _ rfl (Nat.le_refl 32), hcount _ (R.MB_CPL_TAG mb) _ rfl (Nat.le_of_ble_eq_true rfl)]
    exact get_put_same s (R.MB_STATUS_CPL_COUNT mb) _ (Nat.le_of_ble_eq_true rfl)
  · rw [get_put_apart _ (R.MB_CPL_TAG mb) (R.MB_CPL_STATUS mb) _ (Nat.le_refl 32) (.inr (.inl (Nat.le_refl 16)))]
    exact get_put_same _ (R.MB_CPL_TAG mb) _ (Nat.le_of_ble_eq_true rfl)

theorem sameWords_showNotices (s : State) (mb : Nat) : sameWords s (s.showNotices mb) [R.MB_STATUS mb, R.MB_CPL mb] := by
  rw [showNotices_eq rfl]
  exact (((sameWords.refl s [R.MB_STATUS mb, R.MB_CPL mb]).put (R.MB_STATUS_CPL_COUNT mb) (.head _) _).put (R.MB_CPL_TAG mb)
    (.tail _ (.head _)) _).put (R.MB_CPL_STATUS mb) (.tail _ (.head _)) _

theorem sameStores_showNotices (s : State) (mb : Nat) : sameStores s (s.showNotices mb) := by
  rw [showNotices_eq rfl]
  simp [sameStores]

@[simp] theorem showNotices_gaf (s : State) (mb : Nat) : (s.showNotices mb).gaf = s.gaf := by
  rw [showNotices_eq rfl]
  rfl

/-- What is set is what waits. -/
theorem notices_setNotices (s : State) (mb : Nat) (l : List Notice) :
    tblGet (fun _ => []) (s.setNotices mb l).gaf.notices mb = l := by
  simp [State.setNotices]

theorem get_setNotices (s : State) (mb : Nat) (l : List Notice) :
    let t := s.setNotices mb l
    t.get (R.MB_STATUS_CPL_COUNT mb) = l.length % 2 ^ 5 ∧ t.get (R.MB_CPL_TAG mb) = l.head?.elim 0xFFFF Notice.tag % 2 ^ 16
      ∧ t.get (R.MB_CPL_STATUS mb) = l.head?.elim 0 Notice.status % 2 ^ 16 :=
  get_showNotices (tblGet_tblSet_same _ _ _ _)

theorem sameWords_setNotices (s : State) (mb : Nat) (l : List Notice) : sameWords s (s.setNotices mb l) [R.MB_STATUS mb, R.MB_CPL mb] :=
  sameWords_showNotices { s with gaf := _ } mb

theorem sameStores_setNotices (s : State) (mb : Nat) (l : List Notice) : sameStores s (s.setNotices mb l) :=
  sameStores_showNotices { s with gaf := _ } mb

/-- R59: a POP leaves the notices behind the oldest. -/
theorem popNotice_cons {n : Notice} {rest : List Notice} (h : tblGet (fun _ => []) s.gaf.notices mb = n :: rest) :
    popNotice s mb = s.setNotices mb rest := by
  simp [popNotice, h]

end Doorbells

/-- Settles O9: a doorbell in its state is the model's own operation, and a POP shows the notices that are left. -/
theorem doorbellsMoveTheMailbox : Obligations.DoorbellsMoveTheMailbox := by
  intro s mb
  refine ⟨fun h => ?ring, fun h => ?cancel, fun h hplain => ?ack, fun h hreset => ?reset, fun n rest hnotices hlen => ?pop⟩
  case ring => exact congrArg Host.Outcome.next (ring_idle h)
  case cancel => exact congrArg Host.Outcome.next (cancel_pending h)
  case ack => exact congrArg Host.Outcome.next ((acknowledge_done h).trans (by rw [hplain]; rfl))
  case reset => exact congrArg Host.Outcome.next ((acknowledge_done h).trans (if_pos hreset))
  case pop =>
    obtain ⟨hcount, htag, hstatus⟩ := get_setNotices s mb rest
    refine ⟨s.setNotices mb rest, congrArg Host.Outcome.next (popNotice_cons hnotices), notices_setNotices s mb rest, ?_, htag, hstatus,
      sameWords_setNotices s mb rest, sameStores_setNotices s mb rest⟩
    exact hcount.trans (Nat.mod_eq_of_lt (by omega))

/-- Settles O10: outside its state a RING sets RING_LOST, a CANCEL and an ACK do nothing. -/
theorem ignoredDoorbells : Obligations.IgnoredDoorbells := fun _ _ =>
  ⟨fun h => congrArg Host.Outcome.next (ring_busy h), fun h => congrArg Host.Outcome.next (cancel_ignored h),
    fun h => congrArg Host.Outcome.next (acknowledge_ignored h)⟩

/-! #### The doorbell register (R57, R65) -/

/-- The doorbell lies among the registers of its mailbox. -/
theorem mailboxAt_doorbell (mb : Fin 16) : mailboxAt (R.MB_DOORBELL mb) = some mb.val := by
  have hlo : 0x010000 ≤ R.MB_DOORBELL mb := Nat.le_add_right _ _
  have hhi : R.MB_DOORBELL mb < 0x010400 := by unfold R.MB_DOORBELL; omega
  unfold mailboxAt
  rw [if_pos ⟨hlo, hhi⟩]
  unfold R.MB_DOORBELL
  congr 1
  omega

/-- R65: a write of MB_DOORBELL with RING set rings, whatever else is set. -/
theorem mailboxWrite_ring (s : State) (gaffer : Bool) (mb : Fin 16) {v : Nat} (h : bit v 0 = true) :
    mailboxWrite s gaffer mb (R.MB_DOORBELL mb) v = (ring s mb, rOk) := by
  have hreg : ¬0x800000 ≤ R.MB_DOORBELL mb := by unfold R.MB_DOORBELL; omega
  unfold mailboxWrite
  simp only [hreg, if_false, if_true, h]

/-- R58: a mailbox's source writes its doorbell. -/
theorem ctlWrite_doorbell {s : State} {who : Requester} {mb : Fin 16} {v : Nat} (hsource : mailboxSource s who mb = true)
    (h : bit v 0 = true) : ctlWrite s who (R.MB_DOORBELL mb) v = (ring s mb, rOk) := by
  have halign : R.MB_DOORBELL mb % 4 = 0 := by unfold R.MB_DOORBELL; omega
  unfold ctlWrite
  simp only [halign, ne_eq, not_true_eq_false, if_false, mailboxAt_doorbell, hsource, if_true, mailboxWrite_ring _ _ _ h]

/-- Settles O11. -/
theorem ringWrittenWithCancelActsAlone : Obligations.RingWrittenWithCancelActsAlone := by
  intro s mb v who hsource hring _
  have hoff : (BitVec.ofNat 24 (R.MB_DOORBELL mb)).toNat = R.MB_DOORBELL mb := by
    rw [BitVec.toNat_ofNat]
    unfold R.MB_DOORBELL
    omega
  show execRegisterWrite _ v who s = _
  unfold execRegisterWrite
  rw [hoff, ctlWrite_doorbell hsource hring]

/-! ### The response (O12, O13) -/

/-! #### A guarantee that yields (R118, R198) -/

/-- From `s` to `t`, guarantee `code` has yielded: what is shown and counted of it, and what is left alone. -/
structure Yielded (code : Nat) (s t : State) : Prop where
  words : sameWords s t [R.GAF_YIELD, R.EV_STATUS 0, R.EV_COUNT 1]
  stores : sameStores s t
  shown : t.get R.GAF_YIELD_CODE = code % 16
  counted : t.gaf.yields = s.gaf.yields.set (code - 1) (satAdd 32 (s.gaf.yields.getD (code - 1) 0) 1)
  ops : t.gaf.ops = s.gaf.ops
  events : ∀ e < 288, s.eventSet e = true → t.eventSet e = true

section Yield

variable {code : Nat} {s t : State}

/-- The other parts of the gaffer's own state do not matter. -/
theorem Yielded.withGaf (h : Yielded code s t) {g : Gaffer} (hyields : g.yields = t.gaf.yields) (hops : g.ops = t.gaf.ops) :
    Yielded code s { t with gaf := g } :=
  ⟨h.words, h.stores, h.shown, hyields.trans h.counted, hops.trans h.ops, h.events⟩

theorem Yielded.drawn (h : Yielded code s t) : Yielded code s t.drawn := ⟨h.words, h.stores, h.shown, h.counted, h.ops, h.events⟩

theorem sameStores_raise (s : State) (e : Nat) : sameStores s (s.raise e) := by
  simp [sameStores]

theorem sameStores.trans {u : State} (h : sameStores s t) (k : sameStores t u) : sameStores s u := by
  simp_all [sameStores]

/-- EV_GAF_YIELD is set, and no event is cleared. -/
theorem Yielded.raise (h : Yielded code s t) : Yielded code s (t.raise 1) :=
  ⟨h.words.raise 1 (.tail _ (.head _)) (.tail _ (.tail _ (.head _))), h.stores.trans (sameStores_raise t 1),
    (get_raise_ne t (by decide) (by decide)).trans h.shown, by rw [raise_gaf, h.counted], by rw [raise_gaf, h.ops],
    fun e he hset => eventSet_raise_mono t he (h.events e he hset)⟩

/-- GAF_YIELD shows the guarantee and the one it yields to, and counts. -/
def State.yieldShown (s : State) (code overCode : Nat) : State :=
  ((s.put R.GAF_YIELD_CODE code).put R.GAF_YIELD_OVER overCode).bump R.GAF_YIELD_COUNT

theorem sameWords_yieldShown (s : State) (code overCode : Nat) : sameWords s (s.yieldShown code overCode) [R.GAF_YIELD] :=
  (((sameWords.refl s _).put R.GAF_YIELD_CODE (.head _) _).put R.GAF_YIELD_OVER (.head _) _).bump R.GAF_YIELD_COUNT (.head _)

theorem get_yieldShown (s : State) (code overCode : Nat) : (s.yieldShown code overCode).get R.GAF_YIELD_CODE = code % 16 := by
  unfold State.yieldShown
  rw [get_bump_apart _ _ _ (by decide) (.inr (by decide)), get_put_apart _ _ _ _ (by decide) (.inr (by decide)),
    get_put_same _ _ _ (by decide)]
  rfl

theorem eventSet_yieldShown (s : State) (code overCode e : Nat) : (s.yieldShown code overCode).eventSet e = s.eventSet e := by
  have hoff : R.EV_STATUS (e / 32) ∉ [R.GAF_YIELD] := by
    rw [List.mem_singleton]
    unfold R.EV_STATUS R.GAF_YIELD
    omega
  unfold State.eventSet
  rw [sameWords_yieldShown s code overCode _ hoff]

/-- The gaffer's state with the yield counted and the time spent on the other guarantee noted (R92). -/
def State.yieldCounted (s : State) (code overCode : Nat) : Gaffer :=
  { s.gaf with yields := s.gaf.yields.set (code - 1) (satAdd 32 (s.gaf.yields.getD (code - 1) 0) 1),
               worked := tblSet (fun _ => 0) s.gaf.worked overCode (s.tb.now + 1) }

theorem yieldShown_spec (s : State) (code overCode : Nat) :
    Yielded code s { s.yieldShown code overCode with gaf := s.yieldCounted code overCode } where
  words := fun off h => sameWords_yieldShown s code overCode off (fun hoff => h (List.mem_singleton.1 hoff ▸ .head _))
  stores := by simp [sameStores, State.yieldShown]
  shown := get_yieldShown s code overCode
  counted := rfl
  ops := rfl
  events := fun e _ hset => (eventSet_yieldShown s code overCode e).trans hset

/-- R198: a yield is recorded and logged once in a turn; whether it is or not, the guarantee has yielded. -/
theorem yielded_spec (s : State) (code overCode detail : Nat) : Yielded code s (s.yielded code overCode detail) := by
  have hcounted := yieldShown_spec s code overCode
  unfold State.yielded
  dsimp only
  split
  · exact hcounted
  · rw [logAlways_of_lt _ (by decide)]
    refine Yielded.withGaf (Yielded.raise ?_) rfl rfl
    exact Yielded.withGaf hcounted rfl rfl

end Yield

/-! #### Lateness (R91, R92) -/

section Lateness

variable {s : State} {mb : Nat}

theorem noteLateness_onTime (h : s.tb.now ≤ tblGet (fun _ => s.tb.now) s.gaf.rungAt mb + 1250000000) : s.noteLateness mb = s := if_pos h

theorem noteLateness_late (h : tblGet (fun _ => s.tb.now) s.gaf.rungAt mb + 1250000000 < s.tb.now) :
    Yielded 7 s (s.noteLateness mb) := by
  unfold State.noteLateness
  dsimp only
  rw [if_neg (Nat.not_le.2 h)]
  split
  · exact yielded_spec s 7 _ mb
  · exact (yielded_spec s 7 _ mb).drawn

theorem noteLateness_cases (s : State) (mb : Nat) : s.noteLateness mb = s ∨ Yielded 7 s (s.noteLateness mb) :=
  (Nat.lt_or_ge _ _).symm.imp noteLateness_onTime noteLateness_late

end Lateness

/-! #### The response itself (R61, R63, R66, R69) -/

/-- R59: a response is counted among the mailbox's, and one of BUSY among those too. -/
def State.countRequest (s : State) (mb status : Nat) : State :=
  if status = stBusy then (s.bump (R.MB_STATS_REQUESTS mb)).bump (R.MB_STATS_BUSY mb) else s.bump (R.MB_STATS_REQUESTS mb)

theorem sameWords.countRequest {s t : State} {offs : List Nat} (h : sameWords s t offs) (mb status : Nat) (hoff : R.MB_STATS mb ∈ offs) :
    sameWords s (t.countRequest mb status) offs := by
  have hcount := h.bump (R.MB_STATS_REQUESTS mb) hoff
  unfold State.countRequest
  split
  · exact hcount.bump (R.MB_STATS_BUSY mb) hoff
  · exact hcount

/-- Counting writes a register alone. -/
theorem countRequest_eq (s : State) (mb status : Nat) : s.countRequest mb status = { s with regs := (s.countRequest mb status).regs } := by
  unfold State.countRequest
  split <;> rfl

section Response

variable (s : State) (mb status : Nat) (b : List Byte)

/-- A response of the bytes `b` stands in its buffer, the mailbox is in DONE, and its event has occurred; lateness is not yet looked at. -/
def State.responded : State :=
  ((State.countRequest { s with mbuf := cellsSet 0 s.mbuf (rspBuf mb) b } mb status).put (R.MB_STATUS_STATE mb) 3).raise (16 + mb)

theorem respond_eq (fwd : Bool) (command tag detail : Nat) (payload : List Byte) : s.respond mb fwd command tag status detail payload
    = (s.responded mb status (responseBytes fwd command tag status detail s.tb.turn s.tb.pip payload)).noteLateness mb := rfl

theorem sameStores_responded : sameStores { s with mbuf := cellsSet 0 s.mbuf (rspBuf mb) b } (s.responded mb status b) := by
  unfold State.responded
  rw [countRequest_eq]
  simp [sameStores]

theorem responded_tb : (s.responded mb status b).tb = s.tb := by
  unfold State.responded
  rw [countRequest_eq]
  simp

theorem responded_gaf : (s.responded mb status b).gaf = s.gaf := by
  unfold State.responded
  rw [countRequest_eq]
  simp

/-- R92: a response in time is no yield. -/
theorem respond_onTime (fwd : Bool) (command tag detail : Nat) (payload : List Byte)
    (h : s.tb.now ≤ tblGet (fun _ => s.tb.now) s.gaf.rungAt mb + 1250000000) :
    s.respond mb fwd command tag status detail payload
      = s.responded mb status (responseBytes fwd command tag status detail s.tb.turn s.tb.pip payload) :=
  (respond_eq ..).trans (noteLateness_onTime (by rwa [responded_tb, responded_gaf]))

/-- R92: a late response is a yield of guarantee 7. -/
theorem respond_late (fwd : Bool) (command tag detail : Nat) (payload : List Byte)
    (h : tblGet (fun _ => s.tb.now) s.gaf.rungAt mb + 1250000000 < s.tb.now) :
    Yielded 7 (s.responded mb status (responseBytes fwd command tag status detail s.tb.turn s.tb.pip payload))
      (s.respond mb fwd command tag status detail payload) := by
  rw [respond_eq]
  exact noteLateness_late (by rwa [responded_tb, responded_gaf])

variable {mb} (hmb : mb < 16)

include hmb

theorem eventWord_eq : R.EV_STATUS ((16 + mb) / 32) = R.EV_STATUS 0 := by
  rw [Nat.div_eq_of_lt (by omega)]

/-- The registers that a response in time writes. -/
theorem sameWords_responded : sameWords s (s.responded mb status b) [R.MB_STATUS mb, R.MB_STATS mb, R.EV_STATUS 0, R.EV_COUNT (16 + mb)] := by
  have hword : R.EV_STATUS ((16 + mb) / 32) ∈ [R.MB_STATUS mb, R.MB_STATS mb, R.EV_STATUS 0, R.EV_COUNT (16 + mb)] := by
    rw [eventWord_eq hmb]
    exact .tail _ (.tail _ (.head _))
  have hcount := (sameWords.refl { s with mbuf := cellsSet 0 s.mbuf (rspBuf mb) b } [R.MB_STATUS mb, R.MB_STATS mb, R.EV_STATUS 0,
    R.EV_COUNT (16 + mb)]).countRequest mb status (.tail _ (.head _))
  exact (hcount.put (R.MB_STATUS_STATE mb) (.head _) 3).raise (16 + mb) hword (.tail _ (.tail _ (.tail _ (.head _))))

theorem status_ne_eventWord (m : Nat) (hm : m < 9) : R.MB_STATUS mb ≠ R.EV_STATUS m := by
  unfold R.MB_STATUS R.EV_STATUS
  omega

theorem status_ne_eventCount (e : Nat) : R.MB_STATUS mb ≠ R.EV_COUNT e := by
  unfold R.MB_STATUS R.EV_COUNT
  omega

theorem get_state_responded : (s.responded mb status b).get (R.MB_STATUS_STATE mb) = 3 := by
  unfold State.responded
  rw [get_raise_ne _ (status_ne_eventWord hmb _ (by omega)) (status_ne_eventCount hmb _), get_put_state]

theorem eventSet_responded : (s.responded mb status b).eventSet (16 + mb) = true :=
  eventSet_raise _ _ (eventAbsent_of_lt _ (by omega))

/-- R63, R66: the mailbox is in DONE. -/
theorem get_state_respond (fwd : Bool) (command tag detail : Nat) (payload : List Byte) :
    (s.respond mb fwd command tag status detail payload).get (R.MB_STATUS_STATE mb) = 3 := by
  rw [respond_eq]
  rcases noteLateness_cases (s.responded mb status _) mb with hintime | hlate
  · rw [hintime]
    exact get_state_responded s status _ hmb
  · have hoff : R.MB_STATUS mb ∉ [R.GAF_YIELD, R.EV_STATUS 0, R.EV_COUNT 1] := by
      simp only [List.mem_cons, List.not_mem_nil, or_false, not_or]
      exact ⟨by unfold R.MB_STATUS R.GAF_YIELD; omega, status_ne_eventWord hmb 0 (by omega), status_ne_eventCount hmb 1⟩
    exact (hlate.words.get hoff).trans (get_state_responded s status _ hmb)

/-- R66: its event has occurred. -/
theorem eventSet_respond (fwd : Bool) (command tag detail : Nat) (payload : List Byte) :
    (s.respond mb fwd command tag status detail payload).eventSet (16 + mb) = true := by
  rw [respond_eq]
  rcases noteLateness_cases (s.responded mb status _) mb with hintime | hlate
  · rw [hintime]
    exact eventSet_responded s status _ hmb
  · exact hlate.events _ (by omega) (eventSet_responded s status _ hmb)

/-- A register of the gaffer other than GAF_YIELD shows nothing of a response. -/
theorem get_respond_ne (fwd : Bool) (command tag detail : Nat) (payload : List Byte) {f : RF} (hf : f.off < 0x010000)
    (hyield : f.off ≠ R.GAF_YIELD) : (s.respond mb fwd command tag status detail payload).get f = s.get f := by
  have hstatus : f.off ≠ R.MB_STATUS mb := by unfold R.MB_STATUS; omega
  have hstats : f.off ≠ R.MB_STATS mb := by unfold R.MB_STATS; omega
  have hword : f.off ≠ R.EV_STATUS 0 := by unfold R.EV_STATUS; omega
  have hcount (e : Nat) : f.off ≠ R.EV_COUNT e := by unfold R.EV_COUNT; omega
  have hresponded := (sameWords_responded s status
    (responseBytes fwd command tag status detail s.tb.turn s.tb.pip payload) hmb).get (f := f) (by simp [hstatus, hstats, hword, hcount])
  rw [respond_eq]
  rcases noteLateness_cases (s.responded mb status _) mb with hintime | hlate
  · rw [hintime]
    exact hresponded
  · exact (hlate.words.get (by simp [hyield, hword, hcount])).trans hresponded

end Response

/-- Settles O12: a late response sets EV_GAF_YIELD beside EV_016 + n. -/
theorem doneAndNoticesSetTheMailboxEvent : Obligations.DoneAndNoticesSetTheMailboxEvent := fun s mb =>
  ⟨fun fwd command tag status detail payload =>
      ⟨get_state_respond s status mb.isLt fwd command tag detail payload, eventSet_respond s status mb.isLt fwd command tag detail payload⟩,
    fun _ _ => eventSet_raise _ _ (eventAbsent_of_lt _ (by omega))⟩

/-- Refutes O13: the yield counters are a list, and in a state that lists none of them a late response finds no counter of guarantee 7
to count in. At reset eight are listed; of states that list the seventh, `respond_fillsItsOwnBufferOnly` says what O13 says. -/
theorem not_aResponseFillsItsOwnBufferOnly : ¬ Obligations.AResponseFillsItsOwnBufferOnly := by
  intro h
  obtain ⟨-, -, -, -, -, -, -, -, -, -, hlate⟩ :=
    h { gaf := { yields := [], rungAt := [(0, 0)] }, tb := { now := 1250000001 } } 0 false 0 0 0 0 []
  obtain ⟨-, hcounted, -⟩ := hlate (by decide)
  rw [(respond_late _ _ _ _ _ _ _ _ (by decide)).counted, responded_gaf] at hcounted
  exact absurd hcounted (by decide)

/-- R61, R92: where the counter of guarantee 7 stands, a response writes the mailbox's response buffer alone (`cellGet_cellsSet_in` and
`cellGet_cellsSet_out` read it back), and a late one is a yield of guarantee 7. -/
theorem respond_fillsItsOwnBufferOnly (s : State) (mb : Fin 16) (fwd : Bool) (command tag status detail : Nat) (payload : List Byte)
    (hcounters : 6 < s.gaf.yields.length) :
    let b := responseBytes fwd command tag status detail s.tb.turn s.tb.pip payload
    let t := s.respond mb fwd command tag status detail payload
    let rung := tblGet (fun _ => s.tb.now) s.gaf.rungAt mb.val
    sameStores { s with mbuf := cellsSet 0 s.mbuf (rspBuf mb) b } t
      ∧ (s.tb.now ≤ rung + 1250000000 →
          sameWords s t [R.MB_STATUS mb, R.MB_STATS mb, R.EV_STATUS 0, R.EV_COUNT (16 + mb)] ∧ t.gaf = s.gaf)
      ∧ (rung + 1250000000 < s.tb.now →
          t.get R.GAF_YIELD_CODE = 7 ∧ t.gaf.yields.getD 6 0 = satAdd 32 (s.gaf.yields.getD 6 0) 1 ∧ t.gaf.ops = s.gaf.ops) := by
  intro b t rung
  have hresponded := sameStores_responded s mb status b
  rcases Nat.lt_or_ge (rung + 1250000000) s.tb.now with hlate | hintime
  · have hyield : Yielded 7 (s.responded mb status b) t := respond_late s mb status fwd command tag detail payload hlate
    refine ⟨hresponded.trans hyield.stores, fun h => absurd hlate (Nat.not_lt.2 h), fun _ => ⟨hyield.shown, ?_, ?_⟩⟩
    · rw [hyield.counted, responded_gaf, List.getD_eq_getElem?_getD, List.getElem?_set_self hcounters]
      rfl
    · rw [hyield.ops, responded_gaf]
  · have ht : t = s.responded mb status b := respond_onTime s mb status fwd command tag detail payload hintime
    rw [ht]
    exact ⟨hresponded, fun _ => ⟨sameWords_responded s status b mb.isLt, responded_gaf s mb status b⟩,
      fun h => absurd h (Nat.not_lt.2 hintime)⟩

/-! ### The service of a mailbox command (O14 to O21) -/

/-! #### The rows of the commands -/

/-- What `plainRow` lists is what `exec` runs: instruction by instruction, those that it does not list being excluded by `h`. -/
theorem exec_of_plainRow {i : Instr} {mb : Fin 16} {req : Request} {c : Cmd} (h : plainRow i = some (mb, req, c)) (s : State) :
    exec i s = commandRow c mb req s := by
  cases i <;> cases h <;> rfl

/-- R194: so it is for the commands that may require a credential, with the alarm after them. -/
theorem exec_of_credentialRow {i : Instr} {mb : Fin 16} {req : Request} {c : Cmd} (h : credentialRow i = some (mb, req, c)) (s : State) :
    exec i s = credRow c mb req s := by
  cases i <;> cases h <;> rfl

/-- A row of the table of commands answers the state that its command's row leaves, settled. -/
theorem exec_of_rowOf {i : Instr} {mb : Fin 16} {req : Request} {c : Cmd} {alarm : Bool} {s t : State}
    (h : rowOf i = some (mb, req, c, alarm)) (ht : commandRow c mb req s = .next t) : exec i s = .next (settled alarm s t) := by
  unfold rowOf at h
  split at h
  case h_1 hplain =>
    cases h
    rw [exec_of_plainRow hplain, ht]
    rfl
  case h_2 hcred =>
    cases h
    rw [exec_of_credentialRow hcred, credRow, ht]
    rfl
  case h_3 => cases h

/-- R194: without a failed credential the alarm is not raised. -/
theorem debugAlarm_of_get_eq {s t : State} (h : t.get R.GAF_LIFECYCLE_CRED_FAILS = s.get R.GAF_LIFECYCLE_CRED_FAILS) :
    t.debugAlarm s = t :=
  if_neg (by omega)

theorem settled_of_get_eq {s t : State} (alarm : Bool) (h : t.get R.GAF_LIFECYCLE_CRED_FAILS = s.get R.GAF_LIFECYCLE_CRED_FAILS) :
    settled alarm s t = t := by
  cases alarm
  · rfl
  · exact debugAlarm_of_get_eq h

/-! #### Registers that the taking of a request leaves alone -/

theorem notMem_status {mb off : Nat} (h : off % 0x40 ≠ 4) : off ∉ [R.MB_STATUS mb] := by
  rw [List.mem_singleton]
  unfold R.MB_STATUS
  omega

theorem notMem_taken {mb off : Nat} (hstatus : off % 0x40 ≠ 4) (hactive : off % 0x40 ≠ 0x14) (hlast : off ≠ R.MB_RR_LAST) :
    off ∉ [R.MB_STATUS mb, R.MB_ACTIVE mb, R.MB_RR_LAST] := by
  simp only [List.mem_cons, List.not_mem_nil, or_false, not_or]
  refine ⟨?_, ?_, hlast⟩
  · unfold R.MB_STATUS
    omega
  · unfold R.MB_ACTIVE
    omega

theorem config_notMem_taken (mb : Nat) : R.MB_CONFIG mb ∉ [R.MB_STATUS mb, R.MB_ACTIVE mb, R.MB_RR_LAST] := by
  refine notMem_taken ?_ ?_ ?_ <;> unfold R.MB_CONFIG
  · omega
  · omega
  · unfold R.MB_RR_LAST
    omega

/-! #### The request is written, rung and taken -/

section Taken

variable {s : State} {mb : Nat} (r : Request)

/-- A request that a mailbox in IDLE is given stands in its buffer, and the mailbox is rung. -/
theorem ring_writeRequest_idle (h : s.get (R.MB_STATUS_STATE mb) = 0) :
    ring (writeRequest s mb r) mb
      = State.put { s with mbuf := cellsSet 0 s.mbuf (reqBuf mb) (requestBytes r),
                           gaf := { s.gaf with rungAt := tblPut mb s.tb.now s.gaf.rungAt } } (R.MB_STATUS_STATE mb) 1 := by
  unfold writeRequest
  rw [if_neg (by omega)]
  exact ring_idle h

/-- R63: a write that is discarded in PENDING shows in the mailbox's status. -/
theorem sameWords_writeRequest (s : State) (mb : Nat) : sameWords s (writeRequest s mb r) [R.MB_STATUS mb] := by
  unfold writeRequest
  split
  · exact (sameWords.refl s _).put (R.MB_STATUS_ACCESS_DENIED mb) (.head _) 1
  · exact sameWords.refl s _

theorem get_state_writeRequest (s : State) (mb : Nat) :
    (writeRequest s mb r).get (R.MB_STATUS_STATE mb) = s.get (R.MB_STATUS_STATE mb) := by
  unfold writeRequest
  split
  · exact get_put_apart s _ (R.MB_STATUS_ACCESS_DENIED mb) 1 (Nat.le_of_ble_eq_true rfl) (.inr (.inl (Nat.le_of_ble_eq_true rfl)))
  · rfl

/-- A write of a request changes registers and buffers alone. -/
theorem writeRequest_eq (s : State) (mb : Nat) :
    writeRequest s mb r = { s with regs := (writeRequest s mb r).regs, mbuf := (writeRequest s mb r).mbuf } := by
  unfold writeRequest
  split <;> rfl

theorem sameWords.takeMailbox {s t : State} {offs : List Nat} (h : sameWords s t offs) (hstatus : R.MB_STATUS mb ∈ offs)
    (hactive : R.MB_ACTIVE mb ∈ offs) (hlast : R.MB_RR_LAST ∈ offs) : sameWords s (takeMailbox t mb r) offs :=
  (((h.put (R.MB_STATUS_STATE mb) hstatus 2).put (R.MB_ACTIVE_COMMAND mb) hactive _).put (R.MB_ACTIVE_TAG mb) hactive _).put
    R.MB_RR_LAST_LAST hlast mb

/-- The registers that the taking of a request writes. -/
theorem sameWords_requestTaken (s : State) (mb : Fin 16) (h : s.get (R.MB_STATUS_STATE mb) = 0) :
    sameWords s (requestTaken s mb r) [R.MB_STATUS mb, R.MB_ACTIVE mb, R.MB_RR_LAST] := by
  unfold requestTaken
  rw [ring_writeRequest_idle r h]
  exact ((sameWords.refl { s with mbuf := _, gaf := _ } [R.MB_STATUS mb.val, R.MB_ACTIVE mb.val, R.MB_RR_LAST]).put
    (R.MB_STATUS_STATE mb) (.head _) 1).takeMailbox r (.head _) (.tail _ (.head _)) (.tail _ (.tail _ (.head _)))

theorem requestTaken_gaf (s : State) (mb : Fin 16) (h : s.get (R.MB_STATUS_STATE mb) = 0) :
    (requestTaken s mb r).gaf = { s.gaf with rungAt := tblPut mb.val s.tb.now s.gaf.rungAt } := by
  unfold requestTaken
  rw [ring_writeRequest_idle r h]
  rfl

end Taken

/-! #### A command's row (R64, R75, R76) -/

section Row

variable {s : State} {mb : Fin 16} (c : Cmd) (req : Request)

/-- The mailbox that is served next depends on registers alone. -/
theorem nextMailbox_congr {s t : State} (h : t.regs = s.regs) : nextMailbox t = nextMailbox s := by
  simp only [nextMailbox, State.get, State.reg, h]

/-- The gaffer serves as READY and a warm restart say. -/
theorem serving_congr {s t : State} (hready : t.get R.GAF_STATUS_READY = s.get R.GAF_STATUS_READY)
    (hrestart : t.gaf.restarting = s.gaf.restarting) : t.serving = s.serving := by
  simp only [State.serving, State.has, hready, hrestart]

theorem serving_requestRung (r : Request) (h : s.get (R.MB_STATUS_STATE mb) = 0) :
    (ring (writeRequest s mb r) mb).serving = s.serving := by
  rw [ring_writeRequest_idle r h]
  exact serving_congr (((sameWords.refl { s with mbuf := _, gaf := _ } [R.MB_STATUS mb.val]).put (R.MB_STATUS_STATE mb) (.head _) 1).get
    (notMem_status (by decide))) rfl

/-- A row whose mailbox is to be served at once serves the request taken. -/
theorem commandRow_taken (h : s.takesAtOnce mb) :
    commandRow c mb req s = .next (serveRequest (some c) (requestTaken s mb (rowRequest c req)) mb (rowRequest c req)) := by
  obtain ⟨hidle, hserving, hnext⟩ := h
  have hs := (serving_requestRung (rowRequest c req) hidle).trans hserving
  have hn : nextMailbox (ring (writeRequest s mb (rowRequest c req)) mb) = some mb.val := by
    rw [ring_writeRequest_idle _ hidle]
    exact (nextMailbox_congr rfl).trans hnext
  simp [commandRow, requestTaken, hidle, hs, hn]

/-- R75: while the gaffer does not serve, the request is written and rung, and stays. -/
theorem commandRow_notServing (hidle : s.get (R.MB_STATUS_STATE mb) = 0) (h : s.serving = false) :
    commandRow c mb req s = .next (ring (writeRequest s mb (rowRequest c req)) mb) := by
  simp [commandRow, hidle, (serving_requestRung (rowRequest c req) hidle).trans h]

/-- R64: behind a mailbox that is not in IDLE the row rings in vain. -/
theorem commandRow_busy (h : s.get (R.MB_STATUS_STATE mb) ≠ 0) :
    commandRow c mb req s = .next ((writeRequest s mb (rowRequest c req)).put (R.MB_STATUS_RING_LOST mb) 1) := by
  have hbusy := h
  rw [← get_state_writeRequest (rowRequest c req)] at hbusy
  simp [commandRow, h, ring_busy hbusy]

end Row

/-! #### What is answered (R72 to R74) -/

/-- The state that a command's answer leaves, with the operation it starts outstanding. -/
def Reply.started (a : Reply) : State :=
  match a.op with
  | some o => a.next.startOp o
  | none => a.next

/-- What serving makes of a verdict: the status of the first check that fails; after the checks, with CHECK_ONLY the command's dry answer
(R73), and else its own action and what that answers. -/
def answerTo (c : Cmd) (mb : Nat) (r : Request) (v : State × Chk) : State :=
  match v.2 with
  | some x => v.1.respond mb false r.command.toNat r.tag.toNat x.1 x.2 []
  | none =>
    if bit r.flags.toNat 0 then v.1.respond mb false r.command.toNat r.tag.toNat stOk 0 (c.dry v.1 mb r)
    else
      let a := c.act v.1 mb r
      a.started.respond mb false r.command.toNat r.tag.toNat a.status a.detail a.payload

section Answer

variable {c : Cmd} {mb : Nat} {r : Request} {v : State × Chk}

theorem answerTo_refused {x : Nat × Nat} (h : v.2 = some x) :
    answerTo c mb r v = v.1.respond mb false r.command.toNat r.tag.toNat x.1 x.2 [] := by
  simp only [answerTo, h]

theorem answerTo_checkOnly (h : v.2 = none) (honly : bit r.flags.toNat 0 = true) :
    answerTo c mb r v = v.1.respond mb false r.command.toNat r.tag.toNat stOk 0 (c.dry v.1 mb r) := by
  simp only [answerTo, h, honly, if_true]

theorem answerTo_acted (h : v.2 = none) (hact : bit r.flags.toNat 0 = false) :
    let a := c.act v.1 mb r
    answerTo c mb r v = a.started.respond mb false r.command.toNat r.tag.toNat a.status a.detail a.payload := by
  simp only [answerTo, h, hact, Bool.false_eq_true, if_false]

end Answer

section Verdict

variable (c : Cmd) (s : State) (mb : Fin 16) (r : Request)

theorem serveLocal_authFailed (hneed : (c.creds s mb r).isEmpty = false) (hauth : credOk s mb r (c.creds s mb r) = false) :
    serveLocal c s mb r = answerTo c mb r ((s.authFailed r.credSlot.toNat).freshNonce mb, some (stAuthFail, 0)) := by
  simp [serveLocal, hneed, hauth, answerTo]

theorem serveLocal_authPassed (h : ¬((c.creds s mb r).isEmpty = false ∧ credOk s mb r (c.creds s mb r) = false)) :
    let t := if (c.creds s mb r).isEmpty then s else s.freshNonce mb
    serveLocal c s mb r = answerTo c mb r (t, firstFail (checksAfterAuth c t mb r)) := by
  cases hneed : (c.creds s mb r).isEmpty
  · have hauth : credOk s mb r (c.creds s mb r) = true := by simpa [hneed] using h
    simp only [serveLocal, answerTo, hneed, hauth, Bool.false_eq_true, if_false, if_true]
    cases firstFail (checksAfterAuth c (s.freshNonce mb) mb r) <;> rfl
  · simp only [serveLocal, answerTo, hneed, if_true]
    cases firstFail (checksAfterAuth c s mb r) <;> rfl

/-- R74: before any other check. -/
theorem serveRequest_disabled (c : Option Cmd) (s : State) (mb : Nat) (r : Request) (h : s.has (R.MB_CONFIG_ENABLED mb) = false) :
    serveRequest c s mb r = s.respond mb false r.command.toNat r.tag.toNat stRefusedState 0 [] := by
  simp [serveRequest, h]

/-- R72: past checks 1 to 3 a request for this device is served here. -/
theorem serveRequest_here {s : State} {r : Request} (henabled : s.has (R.MB_CONFIG_ENABLED mb) = true) (hversion : r.version = 1)
    (hhead : firstFail [checkLen c r, checkHeader s mb r] = none) (hhere : forwardsTo s r = none) :
    serveRequest (some c) s mb r = serveLocal c s mb r := by
  simp [serveRequest, henabled, hversion, hhead, hhere]

/-- R72: a request for this device is answered by its verdict. -/
theorem serveRequest_verdict (hhere : forwardsTo (requestTaken s mb r) r = none) :
    serveRequest (some c) (requestTaken s mb r) mb r = answerTo c mb r (verdict c s mb r) := by
  unfold verdict
  dsimp only
  split
  case isTrue hoff => exact serveRequest_disabled _ _ _ _ hoff
  rename_i henabled
  rw [Bool.not_eq_false] at henabled
  split
  case isTrue hversion =>
    simp only [serveRequest, henabled, hversion, answerTo, Bool.not_true, Bool.false_eq_true, if_false, ne_eq, not_false_eq_true, if_true]
  rename_i hversion
  rw [not_not] at hversion
  split
  case isTrue hhead =>
    obtain ⟨x, hx⟩ := Option.isSome_iff_exists.1 hhead
    simp [serveRequest, henabled, hversion, hx, answerTo]
  rename_i hhead
  rw [Option.not_isSome_iff_eq_none] at hhead
  rw [serveRequest_here c mb henabled hversion hhead hhere]
  split
  case isTrue hauth => exact serveLocal_authFailed c _ mb r hauth.1 hauth.2
  case isFalse hauth => exact serveLocal_authPassed c _ mb r hauth

end Verdict

/-! #### The statements -/

section Served

variable {i : Instr} {s : State} {mb : Fin 16} {req : Request} {c : Cmd} {alarm : Bool}

/-- The taking of a request leaves NC_ARRAY alone. -/
theorem forwardsTo_requestTaken (r : Request) (h : s.get (R.MB_STATUS_STATE mb) = 0) :
    forwardsTo (requestTaken s mb r) r = forwardsTo s r := by
  unfold forwardsTo
  rw [(sameWords_requestTaken r s mb h).get (notMem_taken (by decide) (by decide) (by decide))]

/-- A row that is taken at once and is for this device answers its verdict. -/
theorem exec_of_takesAtOnce (hrow : rowOf i = some (mb, req, c, alarm)) (htaken : s.takesAtOnce mb)
    (hhere : forwardsTo s (rowRequest c req) = none) :
    exec i s = .next (settled alarm s (answerTo c mb (rowRequest c req) (verdict c s mb (rowRequest c req)))) := by
  rw [exec_of_rowOf hrow (commandRow_taken c req htaken),
    serveRequest_verdict c s mb _ ((forwardsTo_requestTaken _ htaken.1).trans hhere)]

end Served

/-- Settles O14: the verdict lets every check pass, and CHECK_ONLY is not set. That a row is the whole exchange, from the write of the
request to its answer, is the model's choice (log 7). -/
theorem mailboxCommandsRun : Obligations.MailboxCommandsRun := by
  intro i s mb req c alarm hrow r ⟨htaken, hhere, hpass, hact⟩
  rw [exec_of_takesAtOnce hrow htaken hhere, answerTo_acted hpass hact]
  rfl

/-- Settles O15: the verdict is the status of the first check that fails. -/
theorem refusedCommandsOnlyAnswer : Obligations.RefusedCommandsOnlyAnswer := by
  intro i s mb req c alarm x hrow r htaken hhere hfail
  rw [exec_of_takesAtOnce hrow htaken hhere, answerTo_refused hfail]

/-- Settles O16: the checks pass, and CHECK_ONLY is set. -/
theorem checkOnlyDoesNotAct : Obligations.CheckOnlyDoesNotAct := by
  intro i s mb req c alarm hrow r htaken hhere honly hpass
  rw [exec_of_takesAtOnce hrow htaken hhere, answerTo_checkOnly hpass honly]

/-! #### The round robin (R76) -/

section Next

variable {s : State} {n : Nat}

/-- R76: the mailbox that is served next is one of the sixteen, and its request is pending. -/
theorem nextMailbox_lt (h : nextMailbox s = some n) : n < 16 := by
  obtain ⟨i, -, rfl⟩ := List.mem_map.1 (List.mem_of_find?_eq_some h)
  omega

theorem get_state_nextMailbox (h : nextMailbox s = some n) : s.get (R.MB_STATUS_STATE n) = 1 :=
  eq_of_beq (List.find?_some (p := fun m => s.get (R.MB_STATUS_STATE m) == 1) h)

theorem exec_gafferTakeRequest (hserving : s.serving = true) (hnext : nextMailbox s = some n) :
    let r := fittedRequest (parseRequest (cellsGet 0 s.mbuf (reqBuf n) 4096))
    exec .gafferTakeRequest s = .next ((serveRequest (commandOf r.command.toNat) (takeMailbox s n r) n r).debugAlarm s) := by
  show execGafferTakeRequest s = _
  simp only [execGafferTakeRequest, hserving, hnext, Bool.not_true, Bool.false_eq_true, if_false]

end Next

/-! #### A disabled mailbox (O17) -/

/-- Settles O17: neither the taking nor the answer is a failed credential, so no alarm follows (R194). -/
theorem aDisabledMailboxRefusesEveryRequest : Obligations.ADisabledMailboxRefusesEveryRequest := by
  refine ⟨?row, ?next⟩
  case row =>
    intro i s mb req c alarm hrow r htaken hoff
    have hdisabled : (requestTaken s mb r).has (R.MB_CONFIG_ENABLED mb) = false := by
      simp [State.has, (sameWords_requestTaken r s mb htaken.1).get (f := R.MB_CONFIG_ENABLED mb) (config_notMem_taken mb), hoff]
    rw [exec_of_rowOf hrow (commandRow_taken c req htaken), serveRequest_disabled _ _ _ _ hdisabled]
    refine congrArg Host.Outcome.next (settled_of_get_eq alarm ?_)
    rw [get_respond_ne _ _ mb.isLt _ _ _ _ _ (by decide) (by decide)]
    exact (sameWords_requestTaken r s mb htaken.1).get (notMem_taken (by decide) (by decide) (by decide))
  case next =>
    intro s n hserving hnext hoff r
    have hwords := (sameWords.refl s [R.MB_STATUS n, R.MB_ACTIVE n, R.MB_RR_LAST]).takeMailbox r (.head _) (.tail _ (.head _))
      (.tail _ (.tail _ (.head _)))
    have hdisabled : (takeMailbox s n r).has (R.MB_CONFIG_ENABLED n) = false := by
      simp [State.has, hwords.get (f := R.MB_CONFIG_ENABLED n) (config_notMem_taken n), hoff]
    rw [exec_gafferTakeRequest hserving hnext, serveRequest_disabled _ _ _ _ hdisabled]
    refine congrArg Host.Outcome.next (debugAlarm_of_get_eq ?_)
    rw [get_respond_ne _ _ (nextMailbox_lt hnext) _ _ _ _ _ (by decide) (by decide)]
    exact hwords.get (notMem_taken (by decide) (by decide) (by decide))

/-! #### Requests that are not taken (O18, O19) -/

theorem exec_gafferTakeRequest_notServing {s : State} (h : s.serving = false) : exec .gafferTakeRequest s = .next s := by
  show execGafferTakeRequest s = _
  simp [execGafferTakeRequest, h]

/-- Settles O18: the row rings and no more, and the gaffer takes nothing. -/
theorem beforeReadyARequestStaysPending : Obligations.BeforeReadyARequestStaysPending := by
  intro s h
  have hserving : s.serving = false := by
    rcases h with hready | hrestart
    · simp [State.serving, State.has, hready]
    · simp [State.serving, hrestart]
  refine ⟨fun i mb req c alarm hrow hidle => ?_, exec_gafferTakeRequest_notServing hserving⟩
  refine ⟨_, exec_of_rowOf hrow (commandRow_notServing c req hidle hserving), ?_⟩
  rw [ring_writeRequest_idle _ hidle, settled_of_get_eq, get_put_state]
  exact get_put_apart _ R.GAF_LIFECYCLE_CRED_FAILS _ _ (Nat.le_of_ble_eq_true rfl) (.inl (List.ne_of_not_mem_cons (notMem_status (by decide))))

/-- Settles O19: the RING is lost, and what else the request may have touched is its buffer. -/
theorem aBusyMailboxLosesTheRing : Obligations.ABusyMailboxLosesTheRing := by
  intro i s mb req c alarm hrow hbusy
  have hwords : sameWords s ((writeRequest s mb (rowRequest c req)).put (R.MB_STATUS_RING_LOST mb) 1) [R.MB_STATUS mb] :=
    (sameWords_writeRequest _ s mb).put (R.MB_STATUS_RING_LOST mb) (.head _) 1
  refine ⟨_, (exec_of_rowOf hrow (commandRow_busy c req hbusy)).trans (congrArg Host.Outcome.next (settled_of_get_eq alarm
    (hwords.get (notMem_status (by decide))))), ?_, get_put_same _ _ 1 (Nat.le_of_ble_eq_true rfl), hwords, ?_⟩
  · rw [get_put_apart _ (R.MB_STATUS_STATE mb) (R.MB_STATUS_RING_LOST mb) 1 (Nat.le_of_ble_eq_true rfl) (.inr (.inl (Nat.le_refl 2))),
      get_state_writeRequest]
  · rw [writeRequest_eq]
    simp

/-! #### A request for a peer (O20) -/

section Peer

variable {s t : State} {mb : Nat} {c : Cmd} {r : Request}

/-- The header check looks at the gaffer's operations alone. -/
theorem checkHeader_congr (hops : t.gaf.ops = s.gaf.ops) (hpeer : t.gaf.peerOps = s.gaf.peerOps) (mb : Nat) (r : Request) :
    checkHeader t mb r = checkHeader s mb r := by
  simp only [checkHeader, State.opOf, hops, hpeer]

theorem checkLimits_congr (hops : t.gaf.ops = s.gaf.ops) (hpeer : t.gaf.peerOps = s.gaf.peerOps) (hnotices : t.gaf.notices = s.gaf.notices)
    (mb : Nat) : checkLimits t mb = checkLimits s mb := by
  unfold checkLimits State.noticeLoad
  rw [hops, hpeer, hnotices]

/-- R658: checks 1 to 3, and the first limit for a command that is ACCEPTED, stand before the forwarding. -/
theorem serveRequest_peer {d : Nat} (henabled : s.has (R.MB_CONFIG_ENABLED mb) = true) (hversion : r.version = 1)
    (hhead : firstFail [checkLen c r, checkHeader s mb r] = none) (hpeer : forwardsTo s r = some d)
    (hlimit : firstFail (if c.long && !bit r.flags.toNat 0 then (checkLimits s mb).take 1 else []) = none) :
    serveRequest (some c) s mb r = forwardRequest s mb r d := by
  simp only [serveRequest, henabled, hversion, hhead, hpeer, hlimit, Bool.not_true, Bool.false_eq_true, if_false, ne_eq,
    not_true_eq_false]

/-- Forwarding is the gaffer's own note, and shows in no register. -/
theorem get_forwardRequest (s : State) (mb : Nat) (r : Request) (d : Nat) (f : RF) : (forwardRequest s mb r d).get f = s.get f := rfl

theorem sameWords.forwardRequest {offs : List Nat} (h : sameWords s t offs) (mb : Nat) (r : Request) (d : Nat) :
    sameWords s (forwardRequest t mb r d) offs := h

/-- R60, R63: what the mailbox registers show of a request taken. -/
theorem get_takeMailbox (s : State) (mb : Nat) (r : Request) :
    (takeMailbox s mb r).get (R.MB_STATUS_STATE mb) = 2 ∧ (takeMailbox s mb r).get (R.MB_ACTIVE_COMMAND mb) = r.command.toNat
      ∧ (takeMailbox s mb r).get (R.MB_ACTIVE_TAG mb) = r.tag.toNat ∧ (takeMailbox s mb r).get R.MB_RR_LAST_LAST = mb % 16 := by
  have hstatus (m : Nat) : (R.MB_STATUS_STATE mb).off ≠ R.MB_ACTIVE m := by
    show R.MB_STATUS mb ≠ _
    unfold R.MB_STATUS R.MB_ACTIVE
    omega
  have hlast (m : Nat) : R.MB_ACTIVE m ≠ R.MB_RR_LAST := by unfold R.MB_ACTIVE R.MB_RR_LAST; omega
  have hlast' : R.MB_STATUS mb ≠ R.MB_RR_LAST := by unfold R.MB_STATUS R.MB_RR_LAST; omega
  unfold takeMailbox
  refine ⟨?_, ?_, ?_, get_put_same _ R.MB_RR_LAST_LAST mb (by decide)⟩
  · rw [get_put_apart _ _ R.MB_RR_LAST_LAST _ (by decide) (.inl hlast'),
      get_put_apart _ _ (R.MB_ACTIVE_TAG mb) _ (Nat.le_of_ble_eq_true rfl) (.inl (hstatus mb)),
      get_put_apart _ _ (R.MB_ACTIVE_COMMAND mb) _ (Nat.le_of_ble_eq_true rfl) (.inl (hstatus mb)), get_put_state]
  · rw [get_put_apart _ _ R.MB_RR_LAST_LAST _ (by decide) (.inl (hlast mb)),
      get_put_apart _ (R.MB_ACTIVE_COMMAND mb) (R.MB_ACTIVE_TAG mb) _ (Nat.le_of_ble_eq_true rfl) (.inr (.inl (Nat.le_refl 16))),
      get_put_same _ _ _ (Nat.le_of_ble_eq_true rfl)]
    exact Nat.mod_eq_of_lt r.command.isLt
  · rw [get_put_apart _ _ R.MB_RR_LAST_LAST _ (by decide) (.inl (hlast mb)), get_put_same _ _ _ (Nat.le_of_ble_eq_true rfl)]
    exact Nat.mod_eq_of_lt r.tag.isLt

end Peer

/-- Settles O20. -/
theorem aRequestForAPeerIsForwarded : Obligations.ARequestForAPeerIsForwarded := by
  intro i s mb req c alarm d hrow r htaken henabled hversion hhead hpeer hlimit
  have hgaf := requestTaken_gaf r s mb htaken.1
  have hwords := sameWords_requestTaken r s mb htaken.1
  have hheader : checkHeader (requestTaken s mb r) mb r = checkHeader s mb r :=
    checkHeader_congr (by rw [hgaf]) (by rw [hgaf]) mb r
  have hlimits : checkLimits (requestTaken s mb r) mb = checkLimits s mb :=
    checkLimits_congr (by rw [hgaf]) (by rw [hgaf]) (by rw [hgaf]) mb
  have hserve : serveRequest (some c) (requestTaken s mb r) mb r = forwardRequest (requestTaken s mb r) mb r d :=
    serveRequest_peer ((hwords.has (f := R.MB_CONFIG_ENABLED mb) (config_notMem_taken mb)).trans henabled) hversion (by rw [hheader, hhead])
      ((forwardsTo_requestTaken r htaken.1).trans hpeer) (by rw [hlimits, hlimit])
  obtain ⟨hstate, hcommand, htag, -⟩ := get_takeMailbox (ring (writeRequest s mb r) mb) mb r
  have hforwarded := hwords.forwardRequest mb r d
  refine ⟨forwardRequest (requestTaken s mb r) mb r d, ?_, (get_forwardRequest ..).trans hstate, ?_, (get_forwardRequest ..).trans hcommand,
    (get_forwardRequest ..).trans htag, hforwarded⟩
  · rw [exec_of_rowOf hrow (commandRow_taken c req htaken), hserve]
    exact congrArg Host.Outcome.next (settled_of_get_eq alarm (hforwarded.get (notMem_taken (by decide) (by decide) (by decide))))
  · unfold forwardRequest
    rw [hgaf]

/-! #### The round robin (O21) -/

/-- Settles O21. -/
theorem theGafferServesTheNextMailbox : Obligations.TheGafferServesTheNextMailbox := by
  intro s n hserving hnext r
  obtain ⟨-, -, -, hlast⟩ := get_takeMailbox s n r
  exact ⟨exec_gafferTakeRequest hserving hnext, get_state_nextMailbox hnext, hlast.trans (Nat.mod_eq_of_lt (nextMailbox_lt hnext))⟩

/-! ### Warm restarts (O22, O23) -/

section WarmRestart

variable {s : State}

/-- R49-R51, R56: what a warm restart's start shows: its cause, one more restart, and READY 0. -/
def State.restartShown (s : State) (b : Nat) : State :=
  ((s.setReg R.GAF_RESTART_CAUSE (setBit (s.reg R.GAF_RESTART_CAUSE) b)).bump R.GAF_RESTART_COUNT_COUNT).put R.GAF_STATUS_READY 0

/-- The gaffer notes when the restart began, and the one before it (R54). -/
def State.restartTimed (s : State) : State :=
  { s with gaf := { s.gaf with restarting := some s.tb.now, lastRestart := s.gaf.restarting.elim s.gaf.lastRestart some } }

theorem reg_restartTimed (s : State) (off : Nat) : s.restartTimed.reg off = s.reg off := rfl

theorem get_restartTimed (s : State) (f : RF) : s.restartTimed.get f = s.get f := rfl

theorem warmRestart_eq (b : Nat) (h : s.mode ≠ mPowerOn) :
    s.warmRestart b = (s.restartShown b).abandonAnySlice.restartTimed := by
  unfold State.warmRestart
  rw [if_neg h]
  dsimp only
  split <;> rename_i hlast <;> simp only [State.restartTimed, State.restartShown, hlast] <;> rfl

/-- R812: the slice in progress is abandoned. -/
theorem warmRestart_slice {sl : Slice} (b : Nat) (h : s.mode ≠ mPowerOn) (hslice : s.bist.slice = some sl) :
    s.warmRestart b = ((s.restartShown b).abandonSlice sl.unit).restartTimed := by
  rw [warmRestart_eq b h, State.abandonAnySlice, show (s.restartShown b).bist.slice = some sl from hslice]

theorem warmRestart_noSlice (b : Nat) (h : s.mode ≠ mPowerOn) (hslice : s.bist.slice = none) :
    s.warmRestart b = (s.restartShown b).restartTimed := by
  rw [warmRestart_eq b h, State.abandonAnySlice, show (s.restartShown b).bist.slice = none from hslice]

theorem sameWords_restartShown (s : State) (b : Nat) :
    sameWords s (s.restartShown b) [R.GAF_RESTART_CAUSE, R.GAF_RESTART_COUNT, R.GAF_STATUS] :=
  (((sameWords.refl s _).setReg (.head _) _).bump R.GAF_RESTART_COUNT_COUNT (.tail _ (.head _))).put R.GAF_STATUS_READY
    (.tail _ (.tail _ (.head _))) 0

theorem reg_cause_restartShown {b : Nat} (hb : b < 32) :
    (s.restartShown b).reg R.GAF_RESTART_CAUSE = setBit (s.reg R.GAF_RESTART_CAUSE) b := by
  unfold State.restartShown
  rw [reg_put_ne _ _ _ (by decide), reg_bump_ne _ _ (by decide), reg_setReg_same, Nat.mod_eq_of_lt (setBit_lt _ _ _ (reg_lt s _) hb)]

theorem get_count_restartShown (b : Nat) :
    (s.restartShown b).get R.GAF_RESTART_COUNT_COUNT = min (s.get R.GAF_RESTART_COUNT_COUNT + 1) 0xFFFF := by
  unfold State.restartShown
  rw [get_put_apart _ _ _ _ (by decide) (.inl (by decide)), get_bump_same _ _ (by decide), get_setReg_ne _ _ (by decide)]
  rfl

theorem get_ready_restartShown (b : Nat) : (s.restartShown b).get R.GAF_STATUS_READY = 0 := get_put_same _ _ _ (by decide)

theorem get_lockstep_restartShown (b : Nat) : (s.restartShown b).get R.GAF_STATUS_LOCKSTEP_OK = s.get R.GAF_STATUS_LOCKSTEP_OK := by
  unfold State.restartShown
  rw [get_put_apart _ _ _ _ (by decide) (.inr (by decide)), get_bump_apart _ _ _ (by decide) (.inl (by decide)),
    get_setReg_ne _ _ (by decide)]

end WarmRestart

/-- A lockstep mismatch shows LOCKSTEP_OK 0 before the restart starts (R49). -/
def State.restartFrom (s : State) (b : Nat) : State := if b = 2 then s.put R.GAF_STATUS_LOCKSTEP_OK 0 else s

theorem restartFrom_eq (s : State) (b : Nat) : s.restartFrom b = { s with regs := (s.restartFrom b).regs } := by
  unfold State.restartFrom
  split <;> rfl

theorem sameWords_restartFrom (s : State) (b : Nat) : sameWords s (s.restartFrom b) [R.GAF_STATUS] := by
  unfold State.restartFrom
  split
  · exact (sameWords.refl s _).put R.GAF_STATUS_LOCKSTEP_OK (.head _) 0
  · exact sameWords.refl s _

theorem get_lockstep_restartFrom (s : State) (b : Nat) :
    (s.restartFrom b).get R.GAF_STATUS_LOCKSTEP_OK = if b = 2 then 0 else s.get R.GAF_STATUS_LOCKSTEP_OK := by
  unfold State.restartFrom
  split
  · exact get_put_same s _ 0 (by decide)
  · rfl

/-- The causes of a warm restart and their bits. -/
def restartRows : List (Instr × Nat) := [(.lockstepMismatch, 2), (.watchdogExpiry, 3), (.gafferSramUe, 4), (.fwFaultRestart, 5)]

theorem exec_restartRow {x : Instr × Nat} (hx : x ∈ restartRows) (s : State) : exec x.1 s = .next ((s.restartFrom x.2).warmRestart x.2) := by
  simp only [restartRows, List.mem_cons, List.not_mem_nil, or_false] at hx
  rcases hx with rfl | rfl | rfl | rfl <;> rfl

theorem restartRow_lt {x : Instr × Nat} (hx : x ∈ restartRows) : x.2 < 32 := by
  simp only [restartRows, List.mem_cons, List.not_mem_nil, or_false] at hx
  rcases hx with rfl | rfl | rfl | rfl <;> decide

/-- Settles O22: every row starts a warm restart from the state that its cause shows. -/
theorem warmRestartCausesStartARestart : Obligations.WarmRestartCausesStartARestart := by
  intro s hmode x hx
  have hfrom := sameWords_restartFrom s x.2
  have hnotOn : (s.restartFrom x.2).mode ≠ mPowerOn := (hfrom.get (f := R.GAF_MODE_MODE) (by decide)).trans_ne hmode
  have hsame : (s.restartFrom x.2).bist = s.bist := by rw [restartFrom_eq]
  refine ⟨fun sl hslice => ?slice, fun hslice => ?noSlice⟩
  case slice =>
    exact (exec_restartRow hx s).trans (congrArg Host.Outcome.next (warmRestart_slice x.2 hnotOn (by rw [hsame, hslice])))
  case noSlice =>
    have hstart := warmRestart_noSlice x.2 hnotOn (by rw [hsame, hslice])
    have hshown := sameWords_restartShown (s.restartFrom x.2) x.2
    have hcause : ((s.restartFrom x.2).restartShown x.2).restartTimed.reg R.GAF_RESTART_CAUSE
        = setBit (s.reg R.GAF_RESTART_CAUSE) x.2 := by
      rw [reg_restartTimed, reg_cause_restartShown (restartRow_lt hx), hfrom _ (by decide)]
    refine ⟨_, (exec_restartRow hx s).trans (congrArg Host.Outcome.next hstart), by rw [hcause, bit_setBit_same],
      fun b _ hb => by rw [hcause, bit_setBit_ne _ hb], ?count, get_ready_restartShown x.2, ?_⟩
    case count =>
      rw [get_restartTimed, get_count_restartShown, hfrom.get (f := R.GAF_RESTART_COUNT_COUNT) (by decide)]
    have hmodeSame : ((s.restartFrom x.2).restartShown x.2).restartTimed.mode = s.mode :=
      (hshown.get (f := R.GAF_MODE_MODE) (by decide)).trans (hfrom.get (f := R.GAF_MODE_MODE) (by decide))
    have hlockstep := (get_lockstep_restartShown (s := s.restartFrom x.2) x.2).trans (get_lockstep_restartFrom s x.2)
    rw [get_restartTimed, hlockstep, hmodeSame, restartFrom_eq]
    simp [State.restartTimed, State.restartShown]

/-! #### The end of a warm restart (O23) -/

section RestartEnd

variable {s : State}

/-- The restart that began at `start` is over. -/
def State.restartOver (s : State) (start : Nat) : State :=
  { s with gaf := { s.gaf with restarting := none, lastRestart := some start } }

/-- R55: the end of a restart is shown, and EV_GAF_RESTART raised. -/
def State.restartEndShown (s : State) : State := ((s.put R.GAF_STATUS_WARM 1).put R.GAF_STATUS_LOCKSTEP_OK 1).raise 4

/-- R54, R55: what was in progress has been answered, and the end of the restart is shown, raised and logged. -/
def State.restartEnded (s : State) (start : Nat) : State :=
  let b := (s.restartOver start).restartAnswers.restartEndShown
  b.logAlways 2 0x00 0x0001 0 (b.reg R.GAF_RESTART_CAUSE) (b.get R.GAF_RESTART_COUNT_COUNT) 0

/-- R54: did the restart before this one begin within 10 s of it? -/
def State.secondRestart (s : State) (start : Nat) : Bool := s.gaf.lastRestart.any (fun p => decide (start ≤ p + tenSeconds))

theorem execWarmRestartComplete_restarting {start : Nat} (h : s.gaf.restarting = some start) :
    execWarmRestartComplete s
      = if !s.imageRuns && s.mode != mBoot && s.mode != mPowerOn then .next s
        else if (s.restartEnded start).mode = mPowerOn then .next (s.restartEnded start)
        else if !(s.restartEnded start).imageRuns then .next ((s.restartEnded start).enterSafeHold 0x14)
        else if s.secondRestart start then .next (((s.restartEnded start).enterSafeHold 0x1F).put R.GAF_STATUS_READY 1)
        else .next (if (s.restartEnded start).mode = mBoot then s.restartEnded start
          else (s.restartEnded start).put R.GAF_STATUS_READY 1) := by
  unfold execWarmRestartComplete State.secondRestart
  rw [h]
  cases s.gaf.lastRestart <;> rfl

/-- A restart whose image does not verify ends in BOOT alone (log 68). -/
theorem exec_warmRestartComplete_unverified {start : Nat} (h : s.gaf.restarting = some start) (himage : s.imageRuns = false)
    (hboot : s.mode ≠ mBoot) (hon : s.mode ≠ mPowerOn) : exec .warmRestartComplete s = .next s :=
  (execWarmRestartComplete_restarting h).trans (if_pos (by simp [himage, hboot, hon]))

section Ends

variable {start : Nat} (h : s.gaf.restarting = some start) (hruns : s.imageRuns = true ∨ s.mode = mBoot ∨ s.mode = mPowerOn)
  (hon : (s.restartEnded start).mode ≠ mPowerOn)

include h hruns hon

/-- R52, R180: the restart ends; the image that is running must verify still, and be the first restart within 10 s. -/
theorem exec_warmRestartComplete_ends : exec .warmRestartComplete s
    = if !(s.restartEnded start).imageRuns then .next ((s.restartEnded start).enterSafeHold 0x14)
      else if s.secondRestart start then .next (((s.restartEnded start).enterSafeHold 0x1F).put R.GAF_STATUS_READY 1)
      else .next (if (s.restartEnded start).mode = mBoot then s.restartEnded start
        else (s.restartEnded start).put R.GAF_STATUS_READY 1) := by
  have hguard : ¬(!s.imageRuns && s.mode != mBoot && s.mode != mPowerOn) = true := by
    rcases hruns with h | h | h <;> simp [h]
  exact (execWarmRestartComplete_restarting h).trans ((if_neg hguard).trans (if_neg hon))

theorem exec_warmRestartComplete_fails (himage : (s.restartEnded start).imageRuns = false) :
    exec .warmRestartComplete s = .next ((s.restartEnded start).enterSafeHold 0x14) := by
  rw [exec_warmRestartComplete_ends h hruns hon, himage]
  rfl

theorem exec_warmRestartComplete_second (himage : (s.restartEnded start).imageRuns = true) (hsecond : s.secondRestart start = true) :
    exec .warmRestartComplete s = .next (((s.restartEnded start).enterSafeHold 0x1F).put R.GAF_STATUS_READY 1) := by
  rw [exec_warmRestartComplete_ends h hruns hon, himage, hsecond]
  rfl

theorem exec_warmRestartComplete_first (himage : (s.restartEnded start).imageRuns = true) (hfirst : s.secondRestart start = false) :
    exec .warmRestartComplete s
      = .next (if (s.restartEnded start).mode = mBoot then s.restartEnded start else (s.restartEnded start).put R.GAF_STATUS_READY 1) := by
  rw [exec_warmRestartComplete_ends h hruns hon, himage, hfirst]
  rfl

end Ends

/-- R55: where nothing was in progress nothing is answered. -/
theorem restartAnswers_idle (hops : s.gaf.ops = []) (hforwards : s.gaf.forwards = []) (hpeer : s.gaf.peerOps = []) :
    s.restartAnswers = s := by
  simp only [State.restartAnswers, hforwards, hops, hpeer, forEach, List.foldl_nil]
  rw [← hops, ← hforwards, ← hpeer]

/-- Then the end of the restart changes the log beside what it shows. -/
theorem restartEnded_idle (start : Nat) (hops : s.gaf.ops = []) (hforwards : s.gaf.forwards = []) (hpeer : s.gaf.peerOps = []) :
    ∃ e, s.restartEnded start
      = { (s.restartOver start).restartEndShown with gaf := (s.restartOver start).restartEndShown.gaf.logged e } := by
  unfold State.restartEnded
  rw [restartAnswers_idle (s := s.restartOver start) hops hforwards hpeer]
  exact ⟨_, logAlways_of_lt _ (by decide) ..⟩

theorem sameWords_restartEndShown (s : State) : sameWords s s.restartEndShown [R.GAF_STATUS, R.EV_STATUS 0, R.EV_COUNT 4] :=
  (((sameWords.refl s _).put R.GAF_STATUS_WARM (.head _) 1).put R.GAF_STATUS_LOCKSTEP_OK (.head _) 1).raise 4 (.tail _ (.head _))
    (.tail _ (.tail _ (.head _)))

theorem get_restartEndShown (s : State) :
    s.restartEndShown.get R.GAF_STATUS_WARM = 1 ∧ s.restartEndShown.get R.GAF_STATUS_LOCKSTEP_OK = 1 := by
  unfold State.restartEndShown
  rw [get_raise_ne _ (by decide) (by decide), get_raise_ne _ (by decide) (by decide)]
  refine ⟨?_, get_put_same _ _ 1 (by decide)⟩
  rw [get_put_apart _ _ _ _ (by decide) (.inr (by decide)), get_put_same _ _ 1 (by decide)]
  rfl

theorem eventSet_restartEndShown (s : State) : s.restartEndShown.eventSet 4 = true := eventSet_raise _ 4 (eventAbsent_of_lt _ (by decide))

theorem sameStores_restartEndShown (s : State) : sameStores s s.restartEndShown := by
  simp [sameStores, State.restartEndShown]

@[simp] theorem restartEndShown_gaf (s : State) : s.restartEndShown.gaf = s.gaf := by
  simp [State.restartEndShown]

end RestartEnd

/-- Settles O23. That a restart whose image does not verify ends in BOOT alone is the model's choice (log 68). -/
theorem aWarmRestartEnds : Obligations.AWarmRestartEnds := by
  intro s start h a b u runs
  refine ⟨exec_warmRestartComplete_unverified h, exec_warmRestartComplete_fails h, fun hruns hon himage hsecond => ?second,
    fun hruns hon himage hfirst => ?first, fun hops hforwards hpeer => ?idle⟩
  case second =>
    obtain ⟨p, hp, hle⟩ := hsecond
    exact exec_warmRestartComplete_second h hruns hon himage (by simp [State.secondRestart, hp, hle])
  case first =>
    refine exec_warmRestartComplete_first h hruns hon himage ?_
    unfold State.secondRestart
    cases hlast : s.gaf.lastRestart with
    | none => rfl
    | some p => simpa using hfirst p hlast
  case idle =>
    obtain ⟨e, he⟩ := restartEnded_idle start hops hforwards hpeer
    have hu : u = _ := he
    obtain ⟨hwarm, hlockstep⟩ := get_restartEndShown (s.restartOver start)
    obtain ⟨hmem, hsram, hmbuf, hsec, -, hfab, -, -, htb, -⟩ := sameStores_restartEndShown (s.restartOver start)
    rw [hu]
    refine ⟨?_, ?_, ?_, hwarm, hlockstep, eventSet_restartEndShown _, hmem, hsram, hfab, htb, hmbuf, hsec⟩
    · exact (sameWords_restartEndShown (s.restartOver start)).get (f := R.GAF_MODE_MODE) (by decide)
    · rw [restartEndShown_gaf]
      rfl
    · rw [restartEndShown_gaf]
      rfl

/-! ### The other rows of the gaffer (O24) -/

theorem wrapInc_heartbeat (s : State) :
    sameWords s (s.wrapInc R.GAF_HEARTBEAT_COUNT) [R.GAF_HEARTBEAT] :=
  (sameWords.refl s _).put R.GAF_HEARTBEAT_COUNT (.head _) _

theorem exec_heartbeat_running {s : State} (hserving : s.serving = true) (hlehr : s.mode ≠ mLehr)
    (hrom : s.mode = mSafeHold → s.cause ≠ 0x14) : exec .gafferHeartbeatTick s = .next (s.wrapInc R.GAF_HEARTBEAT_COUNT) := by
  have hnotRom : ¬(s.mode = mSafeHold ∧ s.cause = 0x14) := fun h => hrom h.1 h.2
  exact if_pos ⟨hserving, hlehr, by simp [hnotRom]⟩

/-- Settles O24: a burst waits for a turn of which no more than 256 pips have passed (the model's reading of R150, logs 16 and 86). -/
theorem gafferRowsAct : Obligations.GafferRowsAct := by
  intro s
  refine ⟨fun hserving hlehr hrom => ?_, fun _ => rfl, fun hearly => ?_, fun hlate => ?_⟩
  · exact ⟨_, exec_heartbeat_running hserving hlehr hrom, get_wrapInc_same s _ (by decide), wrapInc_heartbeat s, by simp [sameStores], rfl⟩
  · have hnow : s.late = false := decide_eq_false (Nat.not_lt.2 hearly)
    exact if_neg (by rw [hnow]; exact Bool.false_ne_true)
  · have hlate : s.late = true := decide_eq_true hlate
    exact if_pos hlate

end Sys2Proof.Machine
end

section
/-!
PROOFS. The family of turns and pips: a pip on an empty queue (O2), the timebase after a reset (O29), the rows of the turn sources and of
the pip PLL (O35), the turn counter (O36), and the turn schedule (O37, O38).
-/

namespace Sys2Proof.Machine

open Sys2Proof

/-! ### An empty queue (O2) -/

/-- Settles O2: the next state is the model's choice (log 6). -/
theorem emptyQueueLetsOnePipPass : Obligations.EmptyQueueLetsOnePipPass := by
  intro s hempty
  unfold step
  rw [hempty]

/-! ### The timebase after a reset (O29) -/

/-- An offset outside the block of the timebase's registers. -/
def awayFromTimebase (off : Nat) : Prop := off < 0x030000 ∨ 0x040000 ≤ off

/-- From `s` to `t` the timebase and its registers stay. -/
def keepsTimebase (s t : State) : Prop := t.tb = s.tb ∧ ∀ off, ¬awayFromTimebase off → t.reg off = s.reg off

section KeepsTimebase

variable {s t : State}

theorem keepsTimebase.refl (s : State) : keepsTimebase s s := ⟨rfl, fun _ _ => rfl⟩

theorem keepsTimebase.setReg {off : Nat} (h : keepsTimebase s t) (hoff : awayFromTimebase off) (v : Nat) :
    keepsTimebase s (t.setReg off v) :=
  ⟨h.1, fun o ho => (reg_setReg_ne t v (fun heq => ho (by rwa [heq]))).trans (h.2 o ho)⟩

theorem keepsTimebase.put (h : keepsTimebase s t) (f : RF) (hf : awayFromTimebase f.off) (v : Nat) : keepsTimebase s (t.put f v) :=
  h.setReg hf _

theorem keepsTimebase.forEach {α : Type} {l : List α} {f : α → State → State} (h : keepsTimebase s t)
    (hf : ∀ a ∈ l, ∀ u, keepsTimebase s u → keepsTimebase s (f a u)) : keepsTimebase s (forEach l f t) :=
  List.foldlRecOn l _ h fun u hu a ha => hf a ha u hu

theorem keepsTimebase.iterate {n : Nat} {f : Nat → State → State} (h : keepsTimebase s t)
    (hf : ∀ i u, keepsTimebase s u → keepsTimebase s (f i u)) : keepsTimebase s (iterate n f t) :=
  List.foldlRecOn _ _ h fun u hu i _ => hf i u hu

/-- What is done only in some states, to a state in which the timebase has stayed. -/
theorem keepsTimebase.ite {u : State} {c : Prop} [Decidable c] (h : keepsTimebase s t) (hstep : keepsTimebase s t → keepsTimebase s u) :
    keepsTimebase s (if c then u else t) := by
  split
  · exact hstep h
  · exact h

theorem keepsTimebase.freshNonce (h : keepsTimebase s t) (mb : Nat) : keepsTimebase s (t.freshNonce mb) :=
  (h.setReg (off := R.SC_NONCE_LO mb) (by unfold awayFromTimebase R.SC_NONCE_LO; omega) _).setReg
    (off := R.SC_NONCE_HI mb) (by unfold awayFromTimebase R.SC_NONCE_HI; omega) _

theorem keepsTimebase.variantResets (h : keepsTimebase s t) : keepsTimebase s t.variantResets := by
  refine ((h.ite fun h => ?absent).ite fun h => ?slow).put R.NC_ARRAY_MEMBERS (.inr (by decide)) _
  case absent =>
    refine ((h.iterate fun i u hu => ?sensor).iterate fun i u hu => ?zone).iterate fun i u hu => ?endpoint
    case sensor => exact hu.put _ (by simp only [awayFromTimebase, R.TH_SENSOR_STATE, R.TH_SENSOR]; omega) _
    case zone => exact hu.put _ (by simp only [awayFromTimebase, R.TH_ZONE_STATE_LEVEL, R.TH_ZONE_STATE]; omega) _
    case endpoint => exact hu.put _ (by simp only [awayFromTimebase, R.NC_EP_STATUS_STATE, R.NC_EP_STATUS]; omega) _
  case slow => exact (h.put (R.CK_FPLL_FREQ_KHZ 6) (.inr (by decide)) _).put (R.CK_FPLL_FREQ_KHZ 7) (.inr (by decide)) _

end KeepsTimebase

theorem keptFields_awayFromTimebase : ∀ f ∈ keptFields, awayFromTimebase f.off := by
  unfold awayFromTimebase
  decide

/-- R178, R180: entry into POWER-ON leaves the timebase in its state of power-on reset. -/
theorem enterPowerOn_keepsTimebase (s : State) (cause : Nat) : keepsTimebase State.reset (s.enterPowerOn cause) := by
  refine keepsTimebase.put (keepsTimebase.ite ?nonces fun h => ?cause) R.GAF_MODE_CAUSE (.inl (by decide)) _
  case cause => exact h.setReg (off := R.GAF_RESTART_CAUSE) (.inl (by decide)) _
  case nonces =>
    refine keepsTimebase.iterate (keepsTimebase.variantResets ?rails) fun n u hu => hu.freshNonce n
    refine keepsTimebase.iterate (keepsTimebase.forEach ?blank fun f hf u hu => ?kept) fun k u hu => hu.ite fun hu => ?rail
    case blank => exact ⟨rfl, fun _ _ => rfl⟩
    case kept => exact hu.put f (keptFields_awayFromTimebase f hf) _
    case rail =>
      exact (hu.put (R.PW_RAIL_STATE_STATE k) (by simp only [awayFromTimebase, R.PW_RAIL_STATE_STATE, R.PW_RAIL_STATE]; omega) _).put
        (R.PW_RAIL_MEAS_MV k) (by simp only [awayFromTimebase, R.PW_RAIL_MEAS_MV, R.PW_RAIL_MEAS]; omega) _

/-- R132: what the timebase is in after a power-on reset. -/
theorem timebase_of_keepsTimebase {t : State} (h : keepsTimebase State.reset t) :
    t.get R.TS_CTRL_SOURCE = 0 ∧ t.reg R.TS_PERIOD = 1250000 ∧ t.get R.TS_CTRL_PIP_REF = 0 ∧ t.get R.TS_CTRL_FLY_EN = 0
      ∧ t.entryAt 0 = some entryZero ∧ ∀ i, i ≠ 0 → t.entryAt i = none := by
  obtain ⟨htb, hreg⟩ := h
  have hctrl : t.reg R.TS_CTRL = 0 := (hreg _ (by unfold awayFromTimebase; decide)).trans (by decide +kernel)
  have hperiod : t.reg R.TS_PERIOD = 1250000 := (hreg _ (by unfold awayFromTimebase; decide)).trans (by decide +kernel)
  have hsched : t.tb.sched = [] := by rw [htb]; rfl
  have hget : ∀ f : RF, f.off = R.TS_CTRL → t.get f = 0 := fun f hf => by
    unfold State.get bits
    rw [hf, hctrl, Nat.zero_div, Nat.zero_mod]
  refine ⟨hget _ rfl, hperiod, hget _ rfl, hget _ rfl, if_pos rfl, fun i hi => ?_⟩
  unfold State.entryAt
  rw [if_neg hi, hsched, tblFind_nil]

/-- Settles O29. -/
theorem theTimebaseAfterReset : Obligations.TheTimebaseAfterReset := by
  rintro t (rfl | ⟨s, h | h⟩)
  · exact timebase_of_keepsTimebase (keepsTimebase.refl _)
  · cases h
    exact timebase_of_keepsTimebase (enterPowerOn_keepsTimebase _ 0)
  · cases h
    exact timebase_of_keepsTimebase (enterPowerOn_keepsTimebase _ 1)

/-! ### The rows of the turn sources and of the pip PLL (O35) -/

section TurnRows

variable {s : State}

theorem sourceIs_of_counting {src : Nat} (hcount : s.tb.counting = true) (hsrc : s.get R.TS_CTRL_SOURCE = src) : s.sourceIs src = true := by
  simp [State.sourceIs, hcount, hsrc]

/-- R131: the edge that SYNC_EDGE selects gives a boundary. -/
theorem execSyncInEdge_selected {rising : Bool} (pip : BitVec 32) (hsource : s.sourceIs 1 = true)
    (hedge : rising ≠ s.has R.TS_CTRL_SYNC_EDGE) :
    execSyncInEdge rising pip s = .next (s.arriveIn (pip.toNat + 8 - s.tb.pip)) :=
  if_pos (by rw [hsource, bne_iff_ne.2 hedge]; rfl)

/-- R136: the edge gives a boundary, and where PPS is the source still, the derived ones are counted from it. -/
theorem execPpsInEdge_active (pip : BitVec 32) (hsource : s.sourceIs 3 = true)
    (hstill : (s.arriveIn (pip.toNat + 8 - s.tb.pip)).get R.TS_CTRL_SOURCE = 3) :
    let n := pip.toNat + 8 - s.tb.pip
    let u := s.arriveIn n
    execPpsInEdge pip s = .next { u with tb := { u.tb with ppsAt := s.tb.now + n, ppsLeft := u.get R.TS_PPS_DIV_DIV - 1 } } :=
  (if_pos hsource).trans (congrArg Host.Outcome.next (if_pos hstill))

theorem execMarkerMatch_active {lane : Fin 96} {word : BitVec 32} {kflags : BitVec 4} (pip : BitVec 32) (hsource : s.sourceIs 2 = true)
    (hlane : s.get R.TS_CTRL_MARKER_LANE = lane) (hlock : s.has (R.LN_STATUS_LOCK lane) = true)
    (hmatch : s.markerMatches lane word.toNat kflags.toNat = true) :
    execMarkerMatch lane word kflags pip s = .next (s.arriveIn (pip.toNat + s.get R.TS_SRC_LATENCY_LAT - s.tb.pip)) :=
  if_pos (by rw [hsource, hlane, hlock, hmatch, beq_self_eq_true]; rfl)

theorem execPpsSubdivisionBoundary_left (hsource : s.sourceIs 3 = true) (hleft : 0 < s.tb.ppsLeft) :
    let at_ := max s.tb.now (s.tb.ppsAt + s.ppsStep)
    execPpsSubdivisionBoundary s = .next ((s.ppsNext at_).arriveIn (at_ - s.tb.now)) :=
  if_pos (by rw [hsource, decide_eq_true hleft]; rfl)

theorem execSyntheticBoundary_counting (hcount : s.tb.counting = true) (hfly : s.get R.TS_STATUS_FLY_STATE ≤ 1) :
    execSyntheticBoundary s = .next s.runOut :=
  if_pos (by rw [hcount, decide_eq_true hfly]; rfl)

theorem execFlywheelHoldoverEntry_tracking (hcount : s.tb.counting = true) (hfly : s.get R.TS_STATUS_FLY_STATE = 2) :
    execFlywheelHoldoverEntry s = .next s.runOut :=
  if_pos (by rw [hcount, hfly]; rfl)

theorem execHoldoverSyntheticBoundary_holdover (hcount : s.tb.counting = true) (hfly : s.get R.TS_STATUS_FLY_STATE = 3) :
    execHoldoverSyntheticBoundary s = .next s.runOut :=
  if_pos (by rw [hcount, hfly]; rfl)

/-- R130: the pip PLL has locked, and the counters count. -/
def State.pllLocked (s : State) : State :=
  State.put { s with tb := { s.tb with counting := true, locks := (s.tb.now, true) :: s.tb.locks } } R.TS_STATUS_PIP_LOCK 1

theorem execPipPllLock_poweredOn (h : s.mode ≠ mPowerOn) : execPipPllLock s = .next s.pllLocked := if_neg h

theorem get_pllLocked (s : State) : s.pllLocked.get R.TS_STATUS_PIP_LOCK = 1 := get_put_same _ _ _ (by decide)

theorem sameWords_pllLocked (s : State) : sameWords s s.pllLocked [R.TS_STATUS] :=
  sameWords_put { s with tb := _ } R.TS_STATUS_PIP_LOCK 1

/-- R129: the pip PLL has lost its lock: PIP_LOCK, UNLOCK_SEEN and the event show it. -/
def State.pllUnlocked (s : State) : State :=
  ((State.put { s with tb := { s.tb with locks := (s.tb.now, false) :: s.tb.locks } } R.TS_STATUS_PIP_LOCK 0).put
    R.TS_STATUS_UNLOCK_SEEN 1).raise 38

theorem execPipPllUnlock_locked (h : s.get R.TS_STATUS_PIP_LOCK = 1) : execPipPllUnlock s = .next s.pllUnlocked :=
  if_pos (by rw [State.has, h]; rfl)

theorem get_lock_pllUnlocked (s : State) : s.pllUnlocked.get R.TS_STATUS_PIP_LOCK = 0 := by
  unfold State.pllUnlocked
  rw [get_raise_ne _ (by decide) (by decide), get_put_apart _ _ _ _ (by decide) (.inr (by decide)), get_put_same _ _ _ (by decide)]
  rfl

theorem get_unlockSeen_pllUnlocked (s : State) : s.pllUnlocked.get R.TS_STATUS_UNLOCK_SEEN = 1 := by
  unfold State.pllUnlocked
  rw [get_raise_ne _ (by decide) (by decide), get_put_same _ _ _ (by decide)]
  rfl

theorem eventSet_pllUnlocked (s : State) : s.pllUnlocked.eventSet 38 = true := eventSet_raise _ 38 (eventAbsent_of_lt _ (by decide))

theorem pllUnlocked_tb (s : State) : s.pllUnlocked.tb = { s.tb with locks := (s.tb.now, false) :: s.tb.locks } := by
  simp [State.pllUnlocked]

/-- But for the timebase, no store changes. -/
theorem sameStores_pllUnlocked (s : State) : sameStores s { s.pllUnlocked with tb := s.tb } := by
  simp [sameStores, State.pllUnlocked]

end TurnRows

/-- Settles O35: each row by what it does when it acts. R131 gives the latency of an edge (8 pips) and of a marker (LAT); that a row lets
the pips up to the boundary pass, and that a pip already past counts as now, is the model's choice (log 9). -/
theorem turnRowsAct : Obligations.TurnRowsAct := by
  intro s
  refine ⟨?sync, ?pps, ?marker, ?internal, ?subdivision, execSyntheticBoundary_counting, execFlywheelHoldoverEntry_tracking,
    execHoldoverSyntheticBoundary_holdover, ?lock, ?unlock⟩
  case sync => exact fun hcount hsrc rising pip => execSyncInEdge_selected pip (sourceIs_of_counting hcount hsrc)
  case pps => exact fun hcount hsrc pip => execPpsInEdge_active pip (sourceIs_of_counting hcount hsrc)
  case marker => exact fun hcount hsrc lane word kflags pip => execMarkerMatch_active pip (sourceIs_of_counting hcount hsrc)
  case internal => exact fun hcount hsrc => if_pos (sourceIs_of_counting hcount hsrc)
  case subdivision => exact fun hcount hsrc => execPpsSubdivisionBoundary_left (sourceIs_of_counting hcount hsrc)
  case lock =>
    exact fun hmode => ⟨s.pllLocked, execPipPllLock_poweredOn hmode, rfl, get_pllLocked s, sameWords_pllLocked s, rfl, rfl⟩
  case unlock =>
    exact fun hlock => ⟨s.pllUnlocked, execPipPllUnlock_locked hlock, get_lock_pllUnlocked s, get_unlockSeen_pllUnlocked s,
      eventSet_pllUnlocked s, pllUnlocked_tb s, sameStores_pllUnlocked s⟩

/-! ### The turn counter (O36) -/

section TurnCounter

variable {s : State}

/-- R148, step 1: the turn that follows a turn of `len` pips where no load sets the counter. -/
def State.turnBegun (s : State) (len : Nat) : State :=
  let now := s.tb.now + (len - s.tb.pip)
  { s with
    tb := { s.tb with
      turn := (s.tb.turn + 1) % 2 ^ 48, pip := 0, now := now, turnStart := now, load := none,
      past := ⟨s.tb.turn, s.tb.turnStart, s.has R.TS_STATUS_TURN_SYNTH⟩ :: s.tb.past }
    gaf := { s.gaf with yieldedNow := [] } }

theorem releaseLoads_of_turnLoad_none (h : s.turnLoad = none) : s.releaseLoads = false := by
  unfold State.turnLoad at h
  split at h
  · cases h
  · next hnot => exact Bool.not_eq_true _ ▸ hnot

/-- R139, R148: without a load the counter counts, and the event is raised when it wraps. -/
theorem nextTurn_of_turnLoad_none (len : Nat) (h : s.turnLoad = none) :
    s.nextTurn len = if s.tb.turn + 1 = 2 ^ 48 then (s.turnBegun len).raise 39 else s.turnBegun len := by
  simp [State.nextTurn, h, releaseLoads_of_turnLoad_none h, State.turnBegun, -Nat.reducePow]

theorem turnBegun_eventSet (s : State) (len e : Nat) : (s.turnBegun len).eventSet e = s.eventSet e := rfl

theorem turnBegun_turn (s : State) (len : Nat) : (s.turnBegun len).tb.turn = (s.tb.turn + 1) % 2 ^ 48 := rfl

end TurnCounter

/-- Settles O36. -/
theorem theTurnCounterWraps : Obligations.TheTurnCounterWraps := by
  intro s len hload
  rw [nextTurn_of_turnLoad_none len hload]
  refine ⟨fun hlast => ?wraps, fun hbelow => ?counts⟩
  case wraps =>
    rw [if_pos (by omega), raise_tb, turnBegun_turn, hlast]
    exact ⟨rfl, eventSet_raise _ 39 (eventAbsent_of_lt _ (by decide))⟩
  case counts =>
    rw [if_neg (by omega), turnBegun_turn, turnBegun_eventSet]
    exact ⟨Nat.mod_eq_of_lt (by omega), rfl⟩

/-! ### The turn schedule (O37, O38) -/

/-- The rows of the schedule and the actions of their entries. -/
def scheduleRows (idx : Fin 4096) : List (Instr × Nat) :=
  [(.schedCtxSwitch idx, 2), (.schedGateClose idx, 3), (.schedGateOpen idx, 4), (.schedTrigArm idx, 5), (.schedReplayLaunch idx, 6),
    (.schedTrigOut idx, 7), (.schedEvent idx, 8)]

theorem exec_scheduleRow {idx : Fin 4096} {x : Instr × Nat} (hx : x ∈ scheduleRows idx) (s : State) :
    exec x.1 s = scheduled x.2 idx s := by
  simp only [scheduleRows, List.mem_cons, List.not_mem_nil, or_false] at hx
  rcases hx with rfl | rfl | rfl | rfl | rfl | rfl | rfl <;> rfl

/-- R161: the row of an entry that fires in this turn and has not fired lets the pips up to the entry's own pass. -/
theorem scheduled_due {s : State} {idx : Fin 4096} {e : SchedEntry} (hcount : s.tb.counting = true)
    (hentry : tblFind idx.val s.tb.sched = some e) (hfires : entryFires e s.tb.turn = true) (hfired : e.fired = 0) :
    scheduled e.action idx s = .next (s.pass (e.pip - s.tb.pip)).fireDue := by
  unfold scheduled
  rw [hentry]
  exact if_pos (by rw [hcount, hfires, hfired, beq_self_eq_true]; rfl)

/-- Settles O37. That the row lets the time to its entry's pip pass, and that an entry fires at most once a turn, is the model's choice
(logs 9 and 12). -/
theorem scheduleRowsFire : Obligations.ScheduleRowsFire := by
  intro s idx e hcount hentry hfires hfired x hx haction
  rw [exec_scheduleRow hx, ← haction]
  exact scheduled_due hcount hentry hfires hfired

section Fires

variable {s : State} {idx : Nat} {e : SchedEntry}

/-- R161: an EVENT entry raises EV_SCHED and shows its ARG and its index. -/
theorem fireAction_event (h : e.action = 8) :
    s.fireAction idx e = ((s.raise 40).put R.TS_SCHED_CODE_CODE e.arg).put R.TS_SCHED_CODE_INDEX idx := if_pos h

/-- R164: outside OPERATE and THROTTLED the other entries do nothing. -/
theorem fireAction_notRunning (hrunning : s.running = false) (h : e.action ≠ 8) : s.fireAction idx e = s := by
  unfold State.fireAction
  rw [if_neg h, hrunning]
  rfl

theorem eventSet_put {f : RF} {n : Nat} (v : Nat) (h : R.EV_STATUS (n / 32) ≠ f.off) : (s.put f v).eventSet n = s.eventSet n := by
  unfold State.eventSet
  rw [reg_put_ne s f v h]

theorem eventSet_fireAction_event (h : e.action = 8) : (s.fireAction idx e).eventSet 40 = true := by
  rw [fireAction_event h, eventSet_put _ (by decide), eventSet_put _ (by decide)]
  exact eventSet_raise s 40 (eventAbsent_of_lt s (by decide))

theorem get_code_fireAction_event (h : e.action = 8) (harg : e.arg < 65536) :
    (s.fireAction idx e).get R.TS_SCHED_CODE_CODE = e.arg := by
  rw [fireAction_event h, get_put_apart _ _ _ _ (by decide) (.inr (by decide)), get_put_same _ _ _ (by decide)]
  exact Nat.mod_eq_of_lt harg

theorem get_index_fireAction_event (h : e.action = 8) (hidx : idx < 4096) :
    (s.fireAction idx e).get R.TS_SCHED_CODE_INDEX = idx := by
  rw [fireAction_event h, get_put_same _ _ _ (by decide)]
  exact Nat.mod_eq_of_lt hidx

theorem sameStores_fireAction_event (h : e.action = 8) : sameStores s (s.fireAction idx e) := by
  rw [fireAction_event h]
  simp [sameStores]

/-- Where no operation of the gaffer waits for the entry, none is named. -/
theorem fireSwitch_of_noneWaits (group plane : Nat) {gaffer : Bool}
    (h : ∀ a ∈ s.fab.after, (gaffer && a.index == some idx) = false) :
    s.fireSwitch idx group plane gaffer = requestSwitch s group plane (if gaffer then 0 else 1) none := by
  have hkeep : s.fab.after.filter (fun a => !(gaffer && a.index == some idx)) = s.fab.after :=
    List.filter_eq_self.2 fun a ha => by rw [h a ha]; rfl
  have hfind : s.fab.after.find? (fun a => gaffer && a.index == some idx) = none :=
    List.find?_eq_none.2 fun a ha => by rw [h a ha]; exact Bool.false_ne_true
  simp only [State.fireSwitch, hkeep, hfind, Option.bind_none]

section Running

variable (hrunning : s.running = true)

include hrunning

theorem fireAction_switch (h : e.action = 2) :
    s.fireAction idx e = s.fireSwitch idx e.target (e.arg % 8) (e.owner == 0xFF) := by
  simp [State.fireAction, hrunning, h]

theorem fireAction_mailboxSwitch (h : e.action = 2) (howner : e.owner ≠ 0xFF) :
    s.fireAction idx e = requestSwitch s e.target (e.arg % 8) 1 none := by
  rw [fireAction_switch hrunning h, beq_false_of_ne howner]
  exact fireSwitch_of_noneWaits _ _ fun _ _ => rfl

theorem fireAction_gafferSwitch (h : e.action = 2) (howner : e.owner = 0xFF) (hnone : ∀ a ∈ s.fab.after, a.index ≠ some idx) :
    s.fireAction idx e = requestSwitch s e.target (e.arg % 8) 0 none := by
  rw [fireAction_switch hrunning h, howner]
  exact fireSwitch_of_noneWaits _ _ fun a ha => beq_false_of_ne (hnone a ha)

theorem fireAction_closeGate (h : e.action = 3) : s.fireAction idx e = s.closeGate e.target := by
  simp [State.fireAction, hrunning, h]

theorem fireAction_openGate (h : e.action = 4) : s.fireAction idx e = s.openGate e.target := by
  simp [State.fireAction, hrunning, h]

theorem fireAction_armTrigger (h : e.action = 5) : s.fireAction idx e = s.armTrigger := by
  simp [State.fireAction, hrunning, h]

theorem fireAction_startEngine (h : e.action = 6) : s.fireAction idx e = s.startEngine e.target s.tb.now := by
  simp [State.fireAction, hrunning, h]

theorem fireAction_startPulse (h : e.action = 7) : s.fireAction idx e = s.startPulse e.target e.arg := by
  simp [State.fireAction, hrunning, h]

end Running

end Fires

/-- Settles O38: the ranks of a scheduled switch rest on R400, R401 and the model's choice (logs 12 and 103). -/
theorem firingEntriesAct : Obligations.FiringEntriesAct := by
  intro s idx e
  refine ⟨fun haction harg hidx => ?event, fireAction_notRunning, fun hrunning => ?running⟩
  case event =>
    exact ⟨eventSet_fireAction_event haction, get_code_fireAction_event haction harg, get_index_fireAction_event haction hidx,
      sameStores_fireAction_event haction⟩
  case running =>
    exact ⟨fireAction_mailboxSwitch hrunning, fireAction_gafferSwitch hrunning, fireAction_closeGate hrunning,
      fireAction_openGate hrunning, fireAction_armTrigger hrunning, fireAction_startEngine hrunning, fireAction_startPulse hrunning⟩

end Sys2Proof.Machine
end

section
/-!
PROOFS. The family of modes and lifecycle: entry into POWER-ON (O25), its end (O26), what a mode change records (O27), the rows of the
power-fail warning (O28) and of security (O57).
-/

namespace Sys2Proof.Machine

open Sys2Proof

/-! ### What a chain of operations keeps -/

section Preserves

variable {P : State → Prop} {s : State}

theorem forEach_preserves {α : Type} {l : List α} {f : α → State → State} (h : P s) (hf : ∀ a ∈ l, ∀ u, P u → P (f a u)) :
    P (forEach l f s) :=
  List.foldlRecOn l _ h fun u hu a ha => hf a ha u hu

theorem iterate_preserves {n : Nat} {f : Nat → State → State} (h : P s) (hf : ∀ i u, P u → P (f i u)) : P (iterate n f s) :=
  List.foldlRecOn _ _ h fun u hu i _ => hf i u hu

/-- What is done only in some states. -/
theorem ite_preserves {c : Prop} [Decidable c] {t : State} (h : P s) (ht : P s → P t) : P (if c then t else s) := by
  split
  · exact ht h
  · exact h

end Preserves

/-- A field keeps its value where one apart from it is written in some states only. -/
theorem get_ite_put_apart (s : State) (c : Prop) [Decidable c] (f g : RF) (v : Nat) (hg : g.lo + g.w ≤ 32) (h : f.apart g) :
    (if c then s else s.put g v).get f = s.get f := by
  split
  · rfl
  · exact get_put_apart s f g v hg h

/-- A field's value fits its width. -/
theorem get_mod_width (s : State) (f : RF) : s.get f % 2 ^ f.w = s.get f := Nat.mod_mod _ _

/-! ### Entry into POWER-ON (O25) -/

section EnterPowerOn

/-- The pins of a device in reset: the levels that the board drives, and what its straps gave (R178, R866). -/
def Pins.inReset (p : Pins) : Pins :=
  { porN := p.porN, progN := p.progN, pfailLow := p.pfailLow, furnace := p.furnace, iopull := p.iopull, devId := p.devId,
    perstN := p.perstN }

/-- The device in its state of power-on reset, but for what its registers keep: fuses, vault store, flash and pins stay (R178). -/
def State.inReset (s : State) : State :=
  { pins := s.pins.inReset, pending := s.pending, free := s.free,
    sec := { s.sec with transportKey := 0, bitstreamKey := 0, report := [], recordDue := false, bootSegs := 0, staged := false } }

/-- From `s` to `t` registers and free values alone have changed. -/
def sameButRegs (s t : State) : Prop := ∃ regs free, t = { s with regs := regs, free := free }

/-- From `s` to `t` registers and free values alone have changed, and no register of the gaffer itself. -/
def keepsGafferWords (s t : State) : Prop := sameButRegs s t ∧ ∀ off, off < 0x010000 → t.reg off = s.reg off

variable {s t : State}

theorem sameButRegs.refl (s : State) : sameButRegs s s := ⟨_, _, rfl⟩

theorem sameButRegs.setReg (h : sameButRegs s t) (off v : Nat) : sameButRegs s (t.setReg off v) := by
  obtain ⟨regs, free, rfl⟩ := h
  exact ⟨_, _, rfl⟩

theorem sameButRegs.put (h : sameButRegs s t) (f : RF) (v : Nat) : sameButRegs s (t.put f v) := h.setReg _ _

theorem sameButRegs.drawn (h : sameButRegs s t) : sameButRegs s t.drawn := by
  obtain ⟨regs, free, rfl⟩ := h
  exact ⟨_, _, rfl⟩

theorem keepsGafferWords.refl (s : State) : keepsGafferWords s s := ⟨.refl s, fun _ _ => rfl⟩

theorem keepsGafferWords.setReg (h : keepsGafferWords s t) {off : Nat} (hoff : 0x010000 ≤ off) (v : Nat) :
    keepsGafferWords s (t.setReg off v) :=
  ⟨h.1.setReg off v, fun o ho => (reg_setReg_ne t v (by omega)).trans (h.2 o ho)⟩

theorem keepsGafferWords.put (h : keepsGafferWords s t) (f : RF) (hf : 0x010000 ≤ f.off) (v : Nat) : keepsGafferWords s (t.put f v) :=
  h.setReg hf _

theorem keepsGafferWords.freshNonce (h : keepsGafferWords s t) (mb : Nat) : keepsGafferWords s (t.freshNonce mb) := by
  have hwords := (h.setReg (off := R.SC_NONCE_LO mb) (by unfold R.SC_NONCE_LO; omega) t.peekFree).setReg
    (off := R.SC_NONCE_HI mb) (by unfold R.SC_NONCE_HI; omega) (t.peekFree / 2 ^ 32)
  exact ⟨hwords.1.drawn, hwords.2⟩

theorem keepsGafferWords.variantResets (h : keepsGafferWords s t) : keepsGafferWords s t.variantResets := by
  refine (ite_preserves (ite_preserves h fun h => ?absent) fun h => ?slow).put R.NC_ARRAY_MEMBERS (by decide) _
  case absent =>
    refine iterate_preserves (iterate_preserves (iterate_preserves h fun i u hu => ?sensor) fun i u hu => ?zone) fun i u hu => ?endpoint
    case sensor => exact hu.put _ (by simp only [R.TH_SENSOR_STATE, R.TH_SENSOR]; omega) _
    case zone => exact hu.put _ (by simp only [R.TH_ZONE_STATE_LEVEL, R.TH_ZONE_STATE]; omega) _
    case endpoint => exact hu.put _ (by simp only [R.NC_EP_STATUS_STATE, R.NC_EP_STATUS]; omega) _
  case slow => exact (h.put (R.CK_FPLL_FREQ_KHZ 6) (by decide) _).put (R.CK_FPLL_FREQ_KHZ 7) (by decide) _

/-- R178: the fields that a reset does not change have been carried over. -/
def State.fieldsKept (s : State) : State := forEach keptFields (fun f t => t.put f (s.get f)) s.inReset

/-- POWER-ON has been entered; its cause is not yet shown. -/
def State.resetKept (s : State) : State :=
  let rails := iterate 21 (fun k t => if boardRail k then
      (t.put (R.PW_RAIL_STATE_STATE k) (s.get (R.PW_RAIL_STATE_STATE k))).put (R.PW_RAIL_MEAS_MV k) (s.get (R.PW_RAIL_MEAS_MV k))
    else t) s.fieldsKept
  iterate 16 (fun n t => t.freshNonce n) rails.variantResets

theorem enterPowerOn_eq (s : State) (cause : Nat) : s.enterPowerOn cause
    = (if cause = 1 then s.resetKept.setReg R.GAF_RESTART_CAUSE 2 else s.resetKept).put R.GAF_MODE_CAUSE cause := rfl

/-- The board's rails, the variant's reset values and the nonces are no registers of the gaffer itself. -/
theorem keepsGafferWords_resetKept (s : State) : keepsGafferWords s.fieldsKept s.resetKept := by
  refine iterate_preserves (keepsGafferWords.variantResets (iterate_preserves (.refl _) fun k u hu => ite_preserves hu fun hu => ?rail))
    fun n u hu => hu.freshNonce n
  exact (hu.put (R.PW_RAIL_STATE_STATE k) (by simp only [R.PW_RAIL_STATE_STATE, R.PW_RAIL_STATE]; omega) _).put
    (R.PW_RAIL_MEAS_MV k) (by simp only [R.PW_RAIL_MEAS_MV, R.PW_RAIL_MEAS]; omega) _

theorem sameButRegs_fieldsKept (s : State) : sameButRegs s.inReset s.fieldsKept :=
  forEach_preserves (.refl _) fun f _ _ hu => hu.put f _

/-- A register that holds no field that a reset keeps is reset. -/
theorem reg_fieldsKept {off : Nat} (h : ∀ f ∈ keptFields, off ≠ f.off) : s.fieldsKept.reg off = (resetWord off).toNat :=
  forEach_preserves (P := fun u => u.reg off = (resetWord off).toNat) rfl fun f hf u hu => (reg_put_ne u f _ (h f hf)).trans hu

/-- Of fields that share no bit, each holds what it was given. -/
theorem get_forEach_put {l : List RF} (v : RF → Nat) (hl : l.Pairwise RF.apart) (hw : ∀ f ∈ l, f.lo + f.w ≤ 32) {f : RF}
    (hf : f ∈ l) (s : State) : (forEach l (fun g t => t.put g (v g)) s).get f = v f % 2 ^ f.w := by
  induction l generalizing s with
  | nil => cases hf
  | cons g l ih =>
    obtain ⟨hg, hl⟩ := List.pairwise_cons.1 hl
    rcases List.mem_cons.1 hf with hfg | hmem
    · have hgiven : (s.put g (v g)).get f = v f % 2 ^ f.w := hfg ▸ get_put_same s g (v g) (hw g (.head _))
      exact forEach_preserves (P := fun u => u.get f = v f % 2 ^ f.w) (s := s.put g (v g)) hgiven fun a ha u hu =>
        (get_put_apart u f a _ (hw a (.tail _ ha)) (hfg ▸ hg a ha)).trans hu
    · exact ih hl (fun a ha => hw a (.tail _ ha)) hmem _

theorem keptFields_apart : keptFields.Pairwise RF.apart := by
  unfold RF.apart
  decide

/-- R178: fuses, straps and levels of input balls are not reset. -/
theorem get_fieldsKept {f : RF} (hf : f ∈ keptFields) (s : State) : s.fieldsKept.get f = s.get f :=
  (get_forEach_put s.get keptFields_apart (by decide) hf s.inReset).trans (get_mod_width s f)

theorem get_resetKept (s : State) {f : RF} (hf : f.off < 0x010000) : s.resetKept.get f = s.fieldsKept.get f := by
  unfold State.get
  rw [(keepsGafferWords_resetKept s).2 _ hf]

/-- R180: everything but registers is as after power-on reset, save fuses, vault store, flash and pins. -/
theorem sameButRegs_enterPowerOn (s : State) (cause : Nat) : sameButRegs s.inReset (s.enterPowerOn cause) := by
  have hkept : sameButRegs s.inReset s.resetKept := by
    obtain ⟨regs, free, hfields⟩ := sameButRegs_fieldsKept s
    obtain ⟨regs', free', hreset⟩ := (keepsGafferWords_resetKept s).1
    exact ⟨regs', free', by rw [hreset, hfields]⟩
  rw [enterPowerOn_eq]
  exact (ite_preserves hkept fun h => h.setReg _ _).put _ _

/-- The cause of POWER-ON is written beside the fields of `f`. -/
theorem get_enterPowerOn (s : State) (cause : Nat) {f : RF} (hcause : f.apart R.GAF_MODE_CAUSE) (hrestart : f.off ≠ R.GAF_RESTART_CAUSE)
    (hf : f.off < 0x010000) : (s.enterPowerOn cause).get f = s.fieldsKept.get f := by
  rw [enterPowerOn_eq, get_put_apart _ _ _ _ (by decide) hcause, ← get_resetKept s hf]
  split
  · exact get_setReg_ne _ 2 hrestart
  · rfl

theorem mode_enterPowerOn (s : State) (cause : Nat) : (s.enterPowerOn cause).mode = mPowerOn := by
  refine (get_enterPowerOn s cause (f := R.GAF_MODE_MODE) (.inr (by decide)) (by decide) (by decide)).trans ?_
  unfold State.get
  rw [reg_fieldsKept (by decide)]
  decide +kernel

theorem cause_enterPowerOn (s : State) (cause : Nat) : (s.enterPowerOn cause).cause = cause % 256 := get_put_same _ _ _ (by decide)

theorem life_enterPowerOn (s : State) (cause : Nat) : (s.enterPowerOn cause).life = s.life :=
  (get_enterPowerOn s cause (f := R.GAF_LIFECYCLE_STATE) (.inl (by decide)) (by decide) (by decide)).trans
    (get_fieldsKept (by decide) s)

theorem restartCause_enterPowerOn (s : State) (cause : Nat) :
    (s.enterPowerOn cause).reg R.GAF_RESTART_CAUSE = if cause = 1 then 2 else 1 := by
  rw [enterPowerOn_eq, reg_put_ne _ _ _ (by decide)]
  split
  · exact reg_setReg_same _ _ _
  · rw [(keepsGafferWords_resetKept s).2 _ (by decide), reg_fieldsKept (by decide)]
    decide +kernel

theorem pins_enterPowerOn (s : State) (cause : Nat) : (s.enterPowerOn cause).pins = s.pins.inReset := by
  obtain ⟨regs, free, h⟩ := sameButRegs_enterPowerOn s cause
  rw [h]
  rfl

/-- What entry into POWER-ON from `s` leaves: the registers named, and every store as after power-on reset, save what `inReset` keeps. -/
structure PowerOnEntered (s : State) (cause : Nat) (t : State) : Prop where
  mode : t.mode = mPowerOn
  causeShown : t.cause = cause % 256
  restartCause : t.reg R.GAF_RESTART_CAUSE = if cause = 1 then 2 else 1
  life : t.life = s.life
  stores : sameButRegs s.inReset t

theorem powerOnEntered (s : State) (cause : Nat) : PowerOnEntered s cause (s.enterPowerOn cause) where
  mode := mode_enterPowerOn s cause
  causeShown := cause_enterPowerOn s cause
  restartCause := restartCause_enterPowerOn s cause
  life := life_enterPowerOn s cause
  stores := sameButRegs_enterPowerOn s cause

/-- R180: what O25 says of POR_N. -/
theorem exec_porNLow_enters (s : State) :
    ∃ t, exec .porNLow s = .next t ∧ PowerOnEntered { s with pins := { s.pins with porN := false } } 0 t :=
  ⟨_, rfl, powerOnEntered _ 0⟩

/-- R180: what O25 says of PROG_N. That PROG_N resets as much as POR_N does is the model's choice (log 59). -/
theorem exec_progNLow_enters (s : State) :
    ∃ t, exec .progNLow s = .next t ∧ PowerOnEntered { s with pins := { s.pins with progN := false } } 1 t :=
  ⟨_, rfl, powerOnEntered _ 1⟩

end EnterPowerOn

section TryBoot

variable {s : State}

/-- R180: the conditions under which POWER-ON is left. -/
theorem tryBoot_of_ready (hmode : s.mode = mPowerOn) (hpor : s.pins.porN = true) (hprog : s.pins.progN = true)
    (hfurnace : s.pins.furnace = true) (haux : s.railGood 0 = true) (hbase : s.railGood 1 = true) : s.tryBoot = s.enterBoot 2 true :=
  if_pos ⟨hmode, hpor, hprog, hfurnace, haux, hbase⟩

theorem tryBoot_of_notReady (h : s.pins.porN = false ∨ s.pins.progN = false ∨ s.pins.furnace = false ∨ s.railGood 0 = false
    ∨ s.railGood 1 = false) : s.tryBoot = s := by
  refine if_neg fun ⟨_, hpor, hprog, hfurnace, haux, hbase⟩ => ?_
  simp [hpor, hprog, hfurnace, haux, hbase] at h

/-- A supply that is out of its band is not good. -/
theorem railGood_put_down (s : State) (k : Nat) : (s.put (R.PW_RAIL_STATE_STATE k) 3).railGood k = false := by
  unfold State.railGood
  rw [get_put_same _ _ _ (Nat.le_of_ble_eq_true rfl)]
  rfl

theorem tryBoot_put_auxDown (s : State) :
    (s.put (R.PW_RAIL_STATE_STATE 0) 3).tryBoot = s.put (R.PW_RAIL_STATE_STATE 0) 3 :=
  tryBoot_of_notReady (.inr (.inr (.inr (.inl (railGood_put_down s 0)))))

/-- R702: without VCC_AUX the furnace oscillator stops, too. -/
theorem exec_auxBelowReset (s : State) : exec (.coreSupplyBelowReset 0) s
    = .next (State.tryBoot { (s.enterPowerOn 0).put (R.PW_RAIL_STATE_STATE 0) 3 with
        pins := { (s.enterPowerOn 0).pins with furnace := false } }) := rfl

/-- What O25 says of the other supplies. That BOOT is entered at once where the supply has recovered is the model's choice (log 59). -/
theorem exec_supplyBelowReset {k : Fin 21} (hk : k.val ≠ 0) (s : State) : exec (.coreSupplyBelowReset k) s
    = .next (if boardRail k then (s.enterPowerOn 0).put (R.PW_RAIL_STATE_STATE k) 3 else s.enterPowerOn 0).tryBoot := by
  show execCoreSupplyBelowReset k s = _
  unfold execCoreSupplyBelowReset
  dsimp only
  rw [if_neg hk]

end TryBoot

/-- Refutes O25: with VCC_AUX the furnace oscillator is lost (R702), so in a device whose oscillator had qualified that supply's row leaves
more than the rail's state changed. The rest of O25 is `exec_porNLow_enters`, `exec_progNLow_enters` and `exec_supplyBelowReset`. -/
theorem not_powerOnIsEnteredFromEveryMode : ¬ Obligations.PowerOnIsEnteredFromEveryMode := by
  intro h
  obtain ⟨-, -, hsupply⟩ := h { pins := { furnace := true } }
  have heq := hsupply 0
  rw [exec_auxBelowReset, tryBoot_of_notReady (.inr (.inr (.inl rfl))), if_pos (show boardRail (0 : Fin 21) = true from rfl)] at heq
  have hfurnace := congrArg (fun u : State => u.pins.furnace) (Host.Outcome.next.inj (heq.trans (congrArg _ (tryBoot_put_auxDown _))))
  rw [put_pins, pins_enterPowerOn] at hfurnace
  exact Bool.false_ne_true hfurnace

/-! ### The end of POWER-ON (O26) -/

section Straps

variable (s : State) (cfgMode devId : BitVec 3) (iopull : Bool)

/-- POR_N is high, and the straps are sampled (R866): the mode of configuration, the device's place in its array (R639) and its member
bit (R668). -/
def State.strapped : State :=
  let d := devId.toNat
  (((((State.put { s with pins := { s.pins with porN := true, iopull := iopull, devId := d } } R.CF_CFG_STATUS_CFG_MODE
    cfgMode.toNat).put R.NC_ARRAY_DEV_ID d).put R.NC_ARRAY_COL (d % 4)).put R.NC_ARRAY_ROW (d / 4)).put R.NC_ARRAY_MEMBERS (2 ^ d))

theorem exec_porNRise (h : s.pins.porN = false) :
    exec (.porNRise cfgMode devId iopull) s = .next (s.strapped cfgMode devId iopull).tryBoot :=
  if_neg (by rw [h]; exact Bool.false_ne_true)

theorem sameWords_strapped : sameWords s (s.strapped cfgMode devId iopull) [R.CF_CFG_STATUS, R.NC_ARRAY] :=
  (((((sameWords.refl { s with pins := _ } [R.CF_CFG_STATUS, R.NC_ARRAY]).put R.CF_CFG_STATUS_CFG_MODE (.head _) _).put
    R.NC_ARRAY_DEV_ID (.tail _ (.head _)) _).put R.NC_ARRAY_COL (.tail _ (.head _)) _).put R.NC_ARRAY_ROW (.tail _ (.head _)) _).put
    R.NC_ARRAY_MEMBERS (.tail _ (.head _)) _

theorem get_cfgMode_strapped : (s.strapped cfgMode devId iopull).get R.CF_CFG_STATUS_CFG_MODE = cfgMode.toNat := by
  unfold State.strapped
  rw [get_put_apart _ _ _ _ (by decide) (.inl (by decide)), get_put_apart _ _ _ _ (by decide) (.inl (by decide)),
    get_put_apart _ _ _ _ (by decide) (.inl (by decide)), get_put_apart _ _ _ _ (by decide) (.inl (by decide)),
    get_put_same _ _ _ (by decide)]
  exact Nat.mod_eq_of_lt cfgMode.isLt

/-- The fields of NC_ARRAY lie side by side, so each holds its strap, of three bits. -/
theorem get_array_strapped : let t := s.strapped cfgMode devId iopull
    t.get R.NC_ARRAY_DEV_ID = devId.toNat ∧ t.get R.NC_ARRAY_COL = devId.toNat % 4 ∧ t.get R.NC_ARRAY_ROW = devId.toNat / 4
      ∧ t.get R.NC_ARRAY_MEMBERS = 2 ^ devId.toNat := by
  have hd : devId.toNat < 8 := devId.isLt
  have hmember : 2 ^ devId.toNat < 2 ^ 8 := Nat.pow_lt_pow_right (by decide) hd
  unfold State.strapped
  refine ⟨?dev, ?col, ?row, ?members⟩
  case dev =>
    rw [get_put_apart _ _ _ _ (by decide) (.inr (by decide)), get_put_apart _ _ _ _ (by decide) (.inr (by decide)),
      get_put_apart _ _ _ _ (by decide) (.inr (by decide)), get_put_same _ _ _ (by decide)]
    exact Nat.mod_eq_of_lt hd
  case col =>
    rw [get_put_apart _ _ _ _ (by decide) (.inr (by decide)), get_put_apart _ _ _ _ (by decide) (.inr (by decide)),
      get_put_same _ _ _ (by decide)]
    exact Nat.mod_mod _ _
  case row =>
    rw [get_put_apart _ _ _ _ (by decide) (.inr (by decide)), get_put_same _ _ _ (by decide)]
    exact Nat.mod_eq_of_lt (by show devId.toNat / 4 < 2; omega)
  case members => exact (get_put_same _ _ _ (by decide)).trans (Nat.mod_eq_of_lt hmember)

end Straps

/-- Settles O26: the fields of NC_ARRAY are R639's and R668's. -/
theorem powerOnIsLeftWhenItsConditionsHold : Obligations.PowerOnIsLeftWhenItsConditionsHold := by
  intro s
  refine ⟨fun hlow cfgMode devId iopull => ?straps, rfl, rfl, tryBoot_of_ready, fun _ => tryBoot_of_notReady⟩
  case straps =>
    obtain ⟨hdev, hcol, hrow, hmembers⟩ := get_array_strapped s cfgMode devId iopull
    exact ⟨_, exec_porNRise s cfgMode devId iopull hlow, rfl, rfl, rfl, get_cfgMode_strapped s cfgMode devId iopull, hdev, hcol, hrow,
      hmembers, sameWords_strapped s cfgMode devId iopull, rfl, rfl⟩

/-! ### The end of an operation -/

section EndOp

/-- An operation's notice writes the registers of its mailbox, of its event and GAF_STATUS: none of the gaffer's others, and where the
mailbox exists none beyond the event registers. -/
def awayFromNotice (mb off : Nat) : Prop := off ≠ R.GAF_STATUS ∧ (off < 0x010000 ∨ mb < 16 ∧ 0x030000 ≤ off)

variable {s : State} {o : Op} {off : Nat} (status detail : Nat)

theorem reg_pushNotice {mb : Nat} (tag : Nat) (h : awayFromNotice mb off) : (s.pushNotice mb tag status).reg off = s.reg off := by
  obtain ⟨-, hoff⟩ := h
  unfold State.pushNotice
  rw [reg_raise_ne _ (by unfold R.EV_STATUS; omega) (by unfold R.EV_COUNT; omega)]
  refine sameWords_setNotices s mb _ off ?_
  simp only [List.mem_cons, List.not_mem_nil, or_false, not_or]
  exact ⟨by unfold R.MB_STATUS; omega, by unfold R.MB_CPL; omega⟩

theorem pushNotice_gaf (s : State) (mb tag status : Nat) :
    ∃ notices, (s.pushNotice mb tag status).gaf = { s.gaf with notices := notices } := by
  unfold State.pushNotice State.setNotices
  rw [raise_gaf, showNotices_gaf]
  exact ⟨_, rfl⟩

/-- The operation is over, its outcome kept, and its notice not yet pushed (R94). -/
def State.opOver (s : State) (o : Op) (status detail : Nat) : State :=
  let prog := if o.progress = 255 then 255 else if status = 0 then 100 else o.progress
  State.showOps { s with gaf := { s.gaf with
    ops := s.gaf.ops.filter (fun x => !(x.mb == o.mb && x.tag == o.tag)),
    done := keepDone ⟨o.mb, o.tag, o.command, status, detail, s.tb.turn, prog⟩ s.gaf.done } }

theorem endOp_eq (s : State) (o : Op) (status detail : Nat) : s.endOp o status detail
    = if o.quiet then s.opOver o status detail else (s.opOver o status detail).pushNotice o.mb o.tag status := rfl

/-- Until its notice, the end of an operation shows in GAF_STATUS alone (R81). -/
theorem sameWords_opOver (s : State) (o : Op) : sameWords s (s.opOver o status detail) [R.GAF_STATUS] :=
  sameWords_put { s with gaf := _ } R.GAF_STATUS_LONG_OPS _

theorem reg_endOp (h : awayFromNotice o.mb off) : (s.endOp o status detail).reg off = s.reg off := by
  have hover := sameWords_opOver status detail s o off (fun hoff => h.1 (List.mem_singleton.1 hoff))
  rw [endOp_eq]
  split
  · exact hover
  · exact (reg_pushNotice status o.tag h).trans hover

/-- Of the gaffer's own state, the end of an operation changes notices, operations and outcomes. -/
theorem endOp_gaf (s : State) (o : Op) (status detail : Nat) : ∃ notices done, (s.endOp o status detail).gaf
    = { s.gaf with notices := notices, done := done, ops := s.gaf.ops.filter (fun x => !(x.mb == o.mb && x.tag == o.tag)) } := by
  rw [endOp_eq]
  split
  · exact ⟨_, _, rfl⟩
  · obtain ⟨notices, hgaf⟩ := pushNotice_gaf (s.opOver o status detail) o.mb o.tag status
    exact ⟨notices, _, hgaf⟩

/-- A status bit that is set stays set. -/
theorem eventSet_pushNotice_mono {mb e : Nat} (tag : Nat) (hmb : mb < 16) (he : e < 288) (h : s.eventSet e = true) :
    (s.pushNotice mb tag status).eventSet e = true := by
  refine eventSet_raise_mono _ he ?_
  unfold State.eventSet
  rw [sameWords_setNotices s mb _ _ ?_]
  · exact h
  · simp only [List.mem_cons, List.not_mem_nil, or_false, not_or]
    exact ⟨(status_ne_eventWord hmb _ (by omega)).symm, by unfold R.MB_CPL R.EV_STATUS; omega⟩

theorem eventSet_endOp_mono {e : Nat} (hmb : o.mb < 16) (he : e < 288) (h : s.eventSet e = true) :
    (s.endOp o status detail).eventSet e = true := by
  have hword : R.EV_STATUS (e / 32) ∉ [R.GAF_STATUS] := by
    rw [List.mem_singleton]
    unfold R.EV_STATUS R.GAF_STATUS
    omega
  have hover : (s.opOver o status detail).eventSet e = true :=
    (congrArg (bit · _) (sameWords_opOver status detail s o _ hword)).trans h
  rw [endOp_eq]
  split
  · exact hover
  · exact eventSet_pushNotice_mono status o.tag hmb he hover

end EndOp

/-! ### A mode change (O27) -/

section StopOps

variable {s t : State}

/-- What is dropped of a stopped operation's work leaves registers, the log and the operations. -/
theorem dropWork_keeps (s : State) (o : Op) : (s.dropWork o).regs = s.regs
    ∧ ∃ shadow held, (s.dropWork o).gaf = { s.gaf with shadow := shadow, held := held } := by
  unfold State.dropWork
  split_ifs <;> exact ⟨rfl, _, _, rfl⟩

/-- The log and the time of the mode change stay where operations are stopped, and so do the registers away from their notices. -/
structure KeepsRecord (s t : State) : Prop where
  words : ∀ off, (∀ mb < 16, awayFromNotice mb off) → t.reg off = s.reg off
  events : ∀ e < 288, s.eventSet e = true → t.eventSet e = true
  log : t.gaf.log = s.gaf.log
  modeTurn : t.gaf.modeTurn = s.gaf.modeTurn
  modePip : t.gaf.modePip = s.gaf.modePip

theorem KeepsRecord.refl (s : State) : KeepsRecord s s := ⟨fun _ _ => rfl, fun _ _ h => h, rfl, rfl, rfl⟩

/-- R82: an operation is stopped. -/
def State.stopOp (s : State) (o : Op) : State := (s.dropWork o).endOp o 0x0300 0

theorem stopOps_eq (s : State) (cause : Nat) :
    s.stopOps cause = forEach (s.gaf.ops.filter (fun o => !opSpared s.mode cause o)) (fun o t => t.stopOp o) s := rfl

theorem KeepsRecord.stopOp (h : KeepsRecord s t) {o : Op} (hmb : o.mb < 16) : KeepsRecord s (t.stopOp o) := by
  obtain ⟨hregs, shadow, held, hgaf⟩ := dropWork_keeps t o
  obtain ⟨notices, done, hend⟩ := endOp_gaf (t.dropWork o) o 0x0300 0
  have hreg : ∀ off, (t.dropWork o).reg off = t.reg off := fun off => by simp only [State.reg, hregs]
  rw [hgaf] at hend
  refine ⟨fun off hoff => ?words, fun e he hset => ?events, ?_, ?_, ?_⟩
  case words => exact ((reg_endOp 0x0300 0 (hoff _ hmb)).trans (hreg off)).trans (h.words off hoff)
  case events =>
    refine eventSet_endOp_mono 0x0300 0 hmb he ?_
    unfold State.eventSet
    rw [hreg]
    exact h.events e he hset
  · exact (congrArg Gaffer.log hend).trans h.log
  · exact (congrArg Gaffer.modeTurn hend).trans h.modeTurn
  · exact (congrArg Gaffer.modePip hend).trans h.modePip

theorem keepsRecord_stopOps (cause : Nat) (hops : ∀ o ∈ s.gaf.ops, o.mb < 16) : KeepsRecord s (s.stopOps cause) := by
  rw [stopOps_eq]
  exact forEach_preserves (.refl s) fun o ho u hu => hu.stopOp (hops o (List.mem_of_mem_filter ho))

theorem mem_ops_stopOp {x o : Op} (h : x ∈ (s.stopOp o).gaf.ops) : x ∈ s.gaf.ops ∧ x ≠ o := by
  obtain ⟨-, shadow, held, hgaf⟩ := dropWork_keeps s o
  obtain ⟨notices, done, hend⟩ := endOp_gaf (s.dropWork o) o 0x0300 0
  unfold State.stopOp at h
  rw [hend, hgaf] at h
  obtain ⟨hmem, hother⟩ := List.mem_filter.1 h
  refine ⟨hmem, ?_⟩
  rintro rfl
  simp at hother

/-- No operation that has been stopped is outstanding. -/
theorem mem_ops_forEach_stopOp {l : List Op} {x : Op} (h : x ∈ (forEach l (fun o t => t.stopOp o) s).gaf.ops) :
    x ∈ s.gaf.ops ∧ x ∉ l := by
  induction l generalizing s with
  | nil => exact ⟨h, List.not_mem_nil⟩
  | cons o l ih =>
    obtain ⟨hmem, hl⟩ := ih h
    obtain ⟨hold, hne⟩ := mem_ops_stopOp hmem
    exact ⟨hold, List.not_mem_cons_of_ne_of_not_mem hne hl⟩

/-- R82: the operations that are left are those that the change spares. -/
theorem opSpared_of_mem_stopOps {cause : Nat} {o : Op} (h : o ∈ (s.stopOps cause).gaf.ops) : opSpared s.mode cause o = true := by
  rw [stopOps_eq] at h
  obtain ⟨hmem, hnot⟩ := mem_ops_forEach_stopOp h
  by_contra hspared
  exact hnot (List.mem_filter.2 ⟨hmem, by simpa using hspared⟩)

end StopOps

section ModeStep

variable (s : State) (m cause : Nat) (keep : Bool)

/-- GAF_MODE shows the change (R183, R880). -/
def State.modeShown : State :=
  let a := (s.put R.GAF_MODE_PREV s.mode).put R.GAF_MODE_MODE m
  let b := if keep then a else a.put R.GAF_MODE_CAUSE cause
  (if m = mStop then b else b.put R.GAF_MODE_STOP_DONE 0).bump R.GAF_MODE_CHANGES

/-- The change is shown and timed (R208). -/
def State.modeTimed : State :=
  let a := s.modeShown m cause keep
  { a with gaf := { a.gaf with modeTurn := a.tb.turn, modePip := a.tb.pip } }

/-- The change is shown, timed, raised and logged, and no operation is stopped yet. -/
def State.modeRecorded : State :=
  let a := s.modeTimed m cause keep
  (a.raise 0).logAlways 2 0x02 0x0002 0 m s.mode a.cause

/-- R286: the sequencer disarms on entry to any mode other than OPERATE and THROTTLED. -/
def State.disarmedIn (s : State) (m : Nat) : State :=
  if m = mOperate ∨ m = mThrottled then s else s.put R.TG_STATUS_ARMED 0

theorem modeStep_eq : s.modeStep m cause keep = ((s.modeRecorded m cause keep).disarmedIn m).stopOps cause := rfl

/-! #### What GAF_MODE shows -/

variable {s m cause keep}

/-- The change's cause and STOP_DONE, written or not, and CHANGES lie beside the field `f`. -/
theorem get_modeShown_apart {f : RF} (hcause : f.apart R.GAF_MODE_CAUSE) (hdone : f.apart R.GAF_MODE_STOP_DONE)
    (hchanges : f.apart R.GAF_MODE_CHANGES) :
    (s.modeShown m cause keep).get f = ((s.put R.GAF_MODE_PREV s.mode).put R.GAF_MODE_MODE m).get f := by
  unfold State.modeShown
  rw [get_bump_apart _ _ _ (by decide) hchanges, get_ite_put_apart _ _ _ _ _ (by decide) hdone,
    get_ite_put_apart _ _ _ _ _ (by decide) hcause]

theorem get_mode_modeShown (hm : m < 12) : (s.modeShown m cause keep).get R.GAF_MODE_MODE = m := by
  rw [get_modeShown_apart (.inr (by decide)) (.inr (by decide)) (.inr (by decide)), get_put_same _ _ _ (by decide)]
  exact Nat.mod_eq_of_lt (by show m < 16; omega)

theorem get_prev_modeShown : (s.modeShown m cause keep).get R.GAF_MODE_PREV = s.mode := by
  rw [get_modeShown_apart (.inr (by decide)) (.inr (by decide)) (.inr (by decide)),
    get_put_apart _ _ _ _ (by decide) (.inr (by decide)), get_put_same _ _ _ (by decide)]
  exact get_mod_width s R.GAF_MODE_MODE

theorem get_cause_modeShown (hcause : cause < 256) :
    (s.modeShown m cause keep).get R.GAF_MODE_CAUSE = if keep then s.cause else cause := by
  unfold State.modeShown
  rw [get_bump_apart _ _ _ (by decide) (.inr (by decide)), get_ite_put_apart _ _ _ _ _ (by decide) (.inr (by decide))]
  split
  · rw [get_put_apart _ _ _ _ (by decide) (.inr (by decide)), get_put_apart _ _ _ _ (by decide) (.inr (by decide))]
    rfl
  · rw [get_put_same _ _ _ (by decide)]
    exact Nat.mod_eq_of_lt hcause

theorem get_changes_modeShown :
    (s.modeShown m cause keep).get R.GAF_MODE_CHANGES = min (s.get R.GAF_MODE_CHANGES + 1) 255 := by
  unfold State.modeShown
  rw [get_bump_same _ _ (by decide), get_ite_put_apart _ _ _ _ _ (by decide) (.inr (by decide)),
    get_ite_put_apart _ _ _ _ _ (by decide) (.inr (by decide)), get_put_apart _ _ _ _ (by decide) (.inr (by decide)),
    get_put_apart _ _ _ _ (by decide) (.inr (by decide))]
  rfl

/-! #### What is recorded beside it -/

theorem modeShown_stores : (s.modeShown m cause keep).gaf = s.gaf ∧ (s.modeShown m cause keep).tb = s.tb := by
  unfold State.modeShown
  split_ifs <;> exact ⟨rfl, rfl⟩

theorem modeTimed_gaf : (s.modeTimed m cause keep).gaf = { s.gaf with modeTurn := s.tb.turn, modePip := s.tb.pip } := by
  obtain ⟨hgaf, htb⟩ := modeShown_stores (s := s) (m := m) (cause := cause) (keep := keep)
  simp only [State.modeTimed, hgaf, htb]

/-- The entry that the change writes below ERROR. -/
theorem modeRecorded_eq : ∃ e : LogEntry, e.seq = s.gaf.logNext ∧ e.severity = 2 ∧ e.group = 0x02
    ∧ s.modeRecorded m cause keep = { (s.modeTimed m cause keep).raise 0 with
        gaf := Gaffer.logged { s.gaf with modeTurn := s.tb.turn, modePip := s.tb.pip } e } := by
  unfold State.modeRecorded
  dsimp only
  rw [logAlways_of_lt _ (by decide), raise_gaf, modeTimed_gaf]
  exact ⟨_, rfl, rfl, rfl, rfl⟩

/-- The record of the change beside GAF_MODE: the log, the time and the event; the operations are still outstanding. -/
theorem modeRecorded_spec : let u := s.modeRecorded m cause keep
    (∃ e ∈ u.gaf.log, e.seq = s.gaf.logNext ∧ e.severity = 2 ∧ e.group = 0x02) ∧ u.gaf.modeTurn = s.tb.turn
      ∧ u.gaf.modePip = s.tb.pip ∧ u.gaf.ops = s.gaf.ops ∧ u.eventSet 0 = true := by
  obtain ⟨e, hseq, hseverity, hgroup, hrecorded⟩ := modeRecorded_eq (s := s) (m := m) (cause := cause) (keep := keep)
  intro u
  rw [show u = _ from hrecorded]
  exact ⟨⟨e, List.mem_append_right _ (.head _), hseq, hseverity, hgroup⟩, rfl, rfl, rfl,
    eventSet_raise _ 0 (eventAbsent_of_lt _ (by decide))⟩

theorem disarmedIn_gaf (s : State) (m : Nat) : (s.disarmedIn m).gaf = s.gaf := by
  unfold State.disarmedIn
  split <;> rfl

theorem reg_disarmedIn_ne {off : Nat} (h : off ≠ R.TG_STATUS) : (s.disarmedIn m).reg off = s.reg off := by
  unfold State.disarmedIn
  split
  · rfl
  · exact reg_put_ne s R.TG_STATUS_ARMED 0 h

/-- The fields of GAF_MODE are those that the change shows, until operations are stopped. -/
theorem get_disarmedIn_modeRecorded {f : RF} (hf : f.off = R.GAF_MODE) :
    ((s.modeRecorded m cause keep).disarmedIn m).get f = (s.modeShown m cause keep).get f := by
  obtain ⟨e, -, -, -, hrecorded⟩ := modeRecorded_eq (s := s) (m := m) (cause := cause) (keep := keep)
  unfold State.get
  rw [reg_disarmedIn_ne (by rw [hf]; decide), hrecorded, hf]
  exact congrArg (bits · _ _) (reg_raise_ne (s.modeTimed m cause keep) (by decide) (by decide))

theorem eventSet_disarmedIn (e : Nat) (he : e < 288) : (s.disarmedIn m).eventSet e = s.eventSet e := by
  unfold State.eventSet
  rw [reg_disarmedIn_ne (by unfold R.EV_STATUS R.TG_STATUS; omega)]

end ModeStep

/-- R183, R286, R82: what O27 says of a device whose operations are of mailboxes that exist. Beside R183 it says that the trigger matrix is
disarmed outside OPERATE and THROTTLED, and which operations are spared (R82, R190); `keep` is R880's. -/
theorem modeStep_records {s : State} {m cause : Nat} (keep : Bool) (hm : m < 12) (hcause : cause < 256)
    (hops : ∀ o ∈ s.gaf.ops, o.mb < 16) :
    let t := s.modeStep m cause keep
    t.mode = m ∧ t.get R.GAF_MODE_PREV = s.mode ∧ t.cause = (if keep then s.cause else cause)
      ∧ t.get R.GAF_MODE_CHANGES = min (s.get R.GAF_MODE_CHANGES + 1) 255 ∧ t.eventSet 0 = true
      ∧ (∃ e ∈ t.gaf.log, e.seq = s.gaf.logNext ∧ e.severity = 2 ∧ e.group = 0x02)
      ∧ t.gaf.modeTurn = s.tb.turn ∧ t.gaf.modePip = s.tb.pip ∧ (m ≠ mOperate → m ≠ mThrottled → t.get R.TG_STATUS_ARMED = 0)
      ∧ (∀ o ∈ t.gaf.ops, opSpared m cause o = true) := by
  obtain ⟨hlog, hturn, hpip, holdOps, hevent⟩ := modeRecorded_spec (s := s) (m := m) (cause := cause) (keep := keep)
  have hgaf := disarmedIn_gaf (s.modeRecorded m cause keep) m
  have hkeeps := keepsRecord_stopOps (s := (s.modeRecorded m cause keep).disarmedIn m) cause (by rwa [hgaf, holdOps])
  have hshown {f : RF} (hf : f.off = R.GAF_MODE) : (s.modeStep m cause keep).get f = (s.modeShown m cause keep).get f := by
    rw [← get_disarmedIn_modeRecorded hf, modeStep_eq]
    unfold State.get
    rw [hkeeps.words _ fun mb _ => hf ▸ ⟨by decide, .inl (by decide)⟩]
  refine ⟨(hshown rfl).trans (get_mode_modeShown hm), (hshown rfl).trans get_prev_modeShown,
    (hshown rfl).trans (get_cause_modeShown hcause), (hshown rfl).trans get_changes_modeShown, ?event, ?log, ?turn, ?pip,
    fun hoperate hthrottled => ?disarmed, fun o ho => ?spared⟩
  case event => exact hkeeps.events 0 (by decide) ((eventSet_disarmedIn 0 (by decide)).trans hevent)
  case log => rwa [modeStep_eq, hkeeps.log, hgaf]
  case turn => rw [modeStep_eq, hkeeps.modeTurn, hgaf, hturn]
  case pip => rw [modeStep_eq, hkeeps.modePip, hgaf, hpip]
  case disarmed =>
    rw [modeStep_eq]
    unfold State.get
    rw [hkeeps.words _ fun mb hmb => ⟨by decide, .inr ⟨hmb, by decide⟩⟩]
    unfold State.disarmedIn
    rw [if_neg (by simp [hoperate, hthrottled])]
    exact get_put_same _ R.TG_STATUS_ARMED 0 (by decide)
  case spared =>
    have hmode : ((s.modeRecorded m cause keep).disarmedIn m).mode = m :=
      (get_disarmedIn_modeRecorded rfl).trans (get_mode_modeShown hm)
    rw [modeStep_eq] at ho
    rw [← hmode]
    exact opSpared_of_mem_stopOps ho

/-- Refutes O27: a state can list an operation of a mailbox that no device has, and the status word of that mailbox's event is TG_STATUS:
the notice of the stopped operation sets ARMED in POWER-ON. Of operations of mailboxes that exist `modeStep_records` says what O27 says. -/
theorem not_aModeChangeIsRecorded : ¬ Obligations.AModeChangeIsRecorded := by
  intro h
  obtain ⟨-, -, -, -, -, -, -, -, hdisarmed, -⟩ :=
    h { gaf := { ops := [{ mb := 10485744, tag := 0, command := 0 }] } } mPowerOn 0 false (by decide) (by decide)
  exact absurd (hdisarmed (by decide) (by decide)) (by decide +kernel)

/-! ### The log -/

section Log

variable {s : State} {offs : List Nat}

/-- R119: an entry of its group's level or above is recorded. -/
theorem log_of_level {severity group : Nat} (a0 a1 a2 : Nat) (h : s.gaf.logLevels.getD group 1 ≤ severity) :
    s.log severity group a0 a1 a2 = s.logAlways severity group 0x0100 0 a0 a1 a2 := if_neg (Nat.not_lt.2 h)

/-- A log entry changes the log; one of ERROR or above occurs as EV_LOG_ERROR, too (R120). -/
theorem log_cases (s : State) (severity group a0 a1 a2 : Nat) : s.log severity group a0 a1 a2 = s
    ∨ ∃ g, s.log severity group a0 a1 a2 = { s with gaf := g }
      ∨ s.log severity group a0 a1 a2 = State.raise { s with gaf := g } 5 := by
  unfold State.log State.logAlways
  split_ifs
  · exact .inl rfl
  · exact .inr ⟨_, .inr rfl⟩
  · exact .inr ⟨_, .inl rfl⟩

theorem sameWords_log (s : State) (severity group a0 a1 a2 : Nat) :
    sameWords s (s.log severity group a0 a1 a2) [R.EV_STATUS 0, R.EV_COUNT 5] := by
  obtain h | ⟨g, h | h⟩ := log_cases s severity group a0 a1 a2 <;> rw [h]
  · exact .refl s _
  · exact .refl s _
  · exact (sameWords.refl { s with gaf := g } _).raise 5 (.head _) (.tail _ (.head _))

theorem sameStores_log (s : State) (severity group a0 a1 a2 : Nat) : sameStores s (s.log severity group a0 a1 a2) := by
  obtain h | ⟨g, h | h⟩ := log_cases s severity group a0 a1 a2 <;> rw [h]
  · simp [sameStores]
  · simp [sameStores]
  · exact sameStores_raise { s with gaf := g } 5

theorem eventSet_log_mono {severity group a0 a1 a2 e : Nat} (he : e < 288) (h : s.eventSet e = true) :
    (s.log severity group a0 a1 a2).eventSet e = true := by
  obtain hlog | ⟨g, hlog | hlog⟩ := log_cases s severity group a0 a1 a2 <;> rw [hlog]
  · exact h
  · exact h
  · exact eventSet_raise_mono { s with gaf := g } he h

end Log

/-! ### The rows of the power-fail warning (O28) -/

section PowerFail

variable {s : State}

/-- PFAIL_N has the level `high`, and PW_STATUS shows it. -/
def State.pfailLevel (s : State) (high : Bool) : State :=
  State.put { s with pins := { s.pins with pfailLow := !high, pfailTaken := false } } R.PW_STATUS_PFAIL_PIN (b2n high)

theorem exec_pfailNFall (s : State) : exec .pfailNFall s = .next (s.pfailLevel false) := rfl

/-- Where no record waits, nothing is written. -/
theorem exec_pfailNRise (h : s.sec.recordDue = false) : exec .pfailNRise s = .next (s.pfailLevel true) :=
  congrArg Host.Outcome.next (if_neg (by rw [put_sec, h]; exact Bool.false_ne_true))

theorem get_pfailLevel (s : State) (high : Bool) : (s.pfailLevel high).get R.PW_STATUS_PFAIL_PIN = b2n high := by
  unfold State.pfailLevel
  rw [get_put_same _ _ _ (by decide)]
  cases high <;> rfl

theorem sameWords_pfailLevel (s : State) (high : Bool) : sameWords s (s.pfailLevel high) [R.PW_STATUS] :=
  sameWords_put { s with pins := _ } R.PW_STATUS_PFAIL_PIN (b2n high)

/-- The warning has been taken, and its event has occurred (R201). -/
def State.pfailTaken (s : State) : State := State.raise { s with pins := { s.pins with pfailTaken := true } } 2

theorem get_pfailTaken {f : RF} (hstatus : f.off ≠ R.EV_STATUS 0) (hcount : f.off ≠ R.EV_COUNT 2) : s.pfailTaken.get f = s.get f :=
  get_raise_ne { s with pins := _ } hstatus hcount

theorem mode_pfailTaken (s : State) : s.pfailTaken.mode = s.mode := get_pfailTaken (by decide) (by decide)

theorem pfailTaken_gaf (s : State) : s.pfailTaken.gaf = s.gaf := raise_gaf _ 2

section Expiry

variable (hlow : s.pins.pfailLow = true) (htaken : s.pins.pfailTaken = false)

include hlow htaken

theorem exec_pfailFilterExpiry (hon : s.mode ≠ mPowerOn) : exec .pfailFilterExpiry s
    = if s.gaf.pfailAction = 1 then .next (s.pfailTaken.log 3 0x02 0 0 0)
      else .next (if s.running ∨ s.mode = mLehr then s.pfailTaken.enterPfail else s.pfailTaken.causeIgnored 0x0C) := by
  have hrunning : s.pfailTaken.running = s.running := by simp only [State.running, mode_pfailTaken]
  have hguard : ¬(!s.pins.pfailLow ∨ s.pins.pfailTaken ∨ s.mode = mPowerOn) := by simp [hlow, htaken, hon]
  rw [← hrunning, ← mode_pfailTaken, ← pfailTaken_gaf]
  exact if_neg hguard

/-- R202: where the policy is to log, the warning is raised and logged, and nothing stops. -/
theorem exec_pfailFilterExpiry_logs (hon : s.mode ≠ mPowerOn) (haction : s.gaf.pfailAction = 1)
    (hlevel : s.gaf.logLevels.getD 2 1 ≤ 3) : ∃ e : LogEntry, e.seq = s.gaf.logNext ∧ e.severity = 3
      ∧ exec .pfailFilterExpiry s = .next { s.pfailTaken with gaf := s.gaf.logged e } := by
  rw [exec_pfailFilterExpiry hlow htaken hon, if_pos haction, log_of_level _ _ _ (by rwa [pfailTaken_gaf]),
    logAlways_of_lt _ (by decide), pfailTaken_gaf]
  exact ⟨_, rfl, rfl, rfl⟩

/-- R201: where the policy is to stop, the running device enters the power-fail stop. -/
theorem exec_pfailFilterExpiry_stops (haction : s.gaf.pfailAction = 0) (hrunning : s.running = true) :
    exec .pfailFilterExpiry s = .next s.pfailTaken.enterPfail := by
  have hon : s.mode ≠ mPowerOn := by
    rintro hmode
    rw [State.running, hmode] at hrunning
    exact Bool.false_ne_true hrunning
  rw [exec_pfailFilterExpiry hlow htaken hon, haction, if_neg (by decide), if_pos (.inl hrunning)]

end Expiry

theorem exec_pfailAutoResume (hauto : s.gaf.pfailAuto = true) (hhigh : s.pins.pfailLow = false) (hmode : s.mode = mStop)
    (hdone : s.get R.GAF_MODE_STOP_DONE = 1) (hcause : s.cause = 0x0C) : exec .pfailAutoResume s = .next s.beginResume :=
  if_pos ⟨hauto, by rw [hhigh]; rfl, hmode, by rw [State.has, hdone]; rfl, hcause⟩

theorem exec_fabricStopAckEnd (hmode : s.mode = mStop) (hdone : s.get R.GAF_MODE_STOP_DONE = 0) (hstopping : s.phys.stopping = false) :
    exec .fabricStopAckEnd s = .next s.stopSequence :=
  if_pos ⟨hmode, by rw [State.has, hdone]; rfl, by rw [hstopping]; rfl⟩

theorem exec_startupTimeout (hmode : s.mode = mStartUp) (hwake : s.phys.wakeAt = none) (hcf : s.cfState = cfReleased)
    (hdone : s.phys.doneHigh = false) : exec .startupTimeout s = .next (s.enterSafeHold 0x11) :=
  if_pos ⟨hmode, by rw [hwake]; rfl, hcf, by rw [hdone]; rfl⟩

end PowerFail

/-- Settles O28: each row by what it does when it acts; that the time-out of START-UP leads to SAFE HOLD is R180's and R693's. -/
theorem powerFailRowsAct : Obligations.PowerFailRowsAct := by
  intro s
  refine ⟨?fall, fun hlow htaken hon haction hlevel => ?logs, fun hlow htaken => exec_pfailFilterExpiry_stops hlow htaken,
    fun hdue => ?rise, exec_pfailAutoResume, exec_fabricStopAckEnd, exec_startupTimeout⟩
  case fall =>
    exact ⟨_, exec_pfailNFall s, rfl, rfl, get_pfailLevel s false, sameWords_pfailLevel s false, rfl, rfl, rfl⟩
  case logs =>
    obtain ⟨e, hseq, hseverity, hexec⟩ := exec_pfailFilterExpiry_logs hlow htaken hon haction hlevel
    refine ⟨_, hexec, eventSet_raise _ 2 (eventAbsent_of_lt _ (by decide)), mode_pfailTaken s, ?pins,
      ⟨e, List.mem_append_right _ (.head _), hseq, hseverity⟩, raise_mem _ 2, raise_rep _ 2, raise_fab _ 2⟩
    case pins => exact congrArg Pins.pfailTaken (raise_pins { s with pins := { s.pins with pfailTaken := true } } 2)
  case rise =>
    exact ⟨_, exec_pfailNRise hdue, rfl, get_pfailLevel s true, (sameWords_pfailLevel s true).get (f := R.GAF_MODE_MODE) (by decide),
      sameWords_pfailLevel s true, rfl, rfl⟩

/-! ### The rows of security (O57) -/

/-! #### Alarms (R775-R778) -/

section Alarm

variable (s : State) (k : Nat)

/-- R777: an alarm is latched and counted, and EV_SC_ALARM raised. -/
def State.alarmLatched : State :=
  ((s.put R.SC_ALARM_STATUS_LATCHED (setBit (s.get R.SC_ALARM_STATUS_LATCHED) k)).bump R.SC_ALARM_COUNT_COUNT).raise 280

theorem sameWords_alarmLatched :
    sameWords s (s.alarmLatched k) [R.SC_ALARM_STATUS, R.SC_ALARM_COUNT, R.EV_STATUS 8, R.EV_COUNT 280] :=
  (((sameWords.refl s _).put R.SC_ALARM_STATUS_LATCHED (.head _) _).bump R.SC_ALARM_COUNT_COUNT (.tail _ (.head _))).raise 280
    (.tail _ (.tail _ (.head _))) (.tail _ (.tail _ (.tail _ (.head _))))

theorem get_latched_alarmLatched {k : Nat} (hk : k < 6) :
    (s.alarmLatched k).get R.SC_ALARM_STATUS_LATCHED = setBit (s.get R.SC_ALARM_STATUS_LATCHED) k := by
  unfold State.alarmLatched
  rw [get_raise_ne _ (by decide) (by decide), get_bump_apart _ _ _ (by decide) (.inl (by decide)), get_put_same _ _ _ (by decide)]
  exact Nat.mod_eq_of_lt (setBit_lt _ _ 6 (Nat.mod_lt _ (by decide)) hk)

theorem sameStores_alarmLatched : sameStores s (s.alarmLatched k) := sameStores_raise _ 280

theorem eventSet_alarmLatched : (s.alarmLatched k).eventSet 280 = true := by
  refine eventSet_raise _ 280 ?_
  simp [State.eventAbsent]

/-- The alarm is latched, counted, raised and logged; its response has not acted. -/
def State.alarmLogged : State := (s.alarmLatched k).log 5 0x0B k (s.alarmResponse k) 0

theorem sameWords_alarmLogged : sameWords (s.alarmLatched k) (s.alarmLogged k) [R.EV_STATUS 0, R.EV_COUNT 5] := sameWords_log _ _ _ _ _ _

theorem mode_alarmLogged : (s.alarmLogged k).mode = s.mode :=
  ((sameWords_alarmLogged s k).get (f := R.GAF_MODE_MODE) (by decide)).trans
    ((sameWords_alarmLatched s k).get (f := R.GAF_MODE_MODE) (by decide))

variable {s k}

/-- R776-R778: an alarm whose response is LOG drives ALARM_N, but in ZEROIZED. -/
theorem raiseAlarm_of_log (hfresh : bit (s.get R.SC_ALARM_STATUS_LATCHED) k = false) (hon : s.mode ≠ mPowerOn)
    (hlog : s.alarmResponse k = 0) :
    s.raiseAlarm k = if s.mode = mZeroized then s.alarmLogged k else (s.alarmLogged k).driveAlarm true := by
  have hguard : ¬(bit (s.get R.SC_ALARM_STATUS_LATCHED) k = true ∨ s.mode = mPowerOn) := by simp [hfresh, hon]
  refine (if_neg hguard).trans ?_
  show (if (s.alarmLogged k).mode = mZeroized ∨ ((s.alarmLogged k).mode = mSafeHold ∧ s.alarmResponse k = 1) then s.alarmLogged k
    else if s.alarmResponse k = 2 then _ else if s.alarmResponse k = 1 then _ else (s.alarmLogged k).driveAlarm true) = _
  rw [mode_alarmLogged, hlog]
  simp

/-- Driving ALARM_N writes ALARM_PIN alone, beside the ball. -/
theorem sameWords_driveAlarm (s : State) (low : Bool) : sameWords s (s.driveAlarm low) [R.SC_ALARM_STATUS] :=
  sameWords_put { s with pins := _ } R.SC_ALARM_STATUS_ALARM_PIN _

theorem get_latched_driveAlarm (s : State) (low : Bool) :
    (s.driveAlarm low).get R.SC_ALARM_STATUS_LATCHED = s.get R.SC_ALARM_STATUS_LATCHED :=
  get_put_apart { s with pins := _ } R.SC_ALARM_STATUS_LATCHED R.SC_ALARM_STATUS_ALARM_PIN _ (by decide) (.inr (by decide))

/-- What an alarm shows, and what it leaves. -/
structure AlarmShown (s : State) (k : Nat) (t : State) : Prop where
  latched : bit (t.get R.SC_ALARM_STATUS_LATCHED) k = true
  event : t.eventSet 280 = true
  mode : t.mode = s.mode
  sec : t.sec = s.sec
  mem : t.mem = s.mem

theorem alarmShown_alarmLogged (hk : k < 6) : AlarmShown s k (s.alarmLogged k) := by
  have hstores := (sameStores_alarmLatched s k).trans (sameStores_log (s.alarmLatched k) 5 0x0B k (s.alarmResponse k) 0)
  obtain ⟨hmem, -, -, hsec, -⟩ := hstores
  refine ⟨?_, eventSet_log_mono (by decide) (eventSet_alarmLatched s k), mode_alarmLogged s k, hsec, hmem⟩
  rw [(sameWords_alarmLogged s k).get (by decide), get_latched_alarmLatched s hk, bit_setBit_same]

theorem AlarmShown.driveAlarm {t : State} (h : AlarmShown s k t) (low : Bool) : AlarmShown s k (t.driveAlarm low) := by
  refine ⟨?_, ?_, ((sameWords_driveAlarm t low).get (f := R.GAF_MODE_MODE) (by decide)).trans h.mode, h.sec, h.mem⟩
  · rw [get_latched_driveAlarm, h.latched]
  · exact (congrArg (bit · _) (sameWords_driveAlarm t low _ (by decide))).trans h.event

theorem alarmShown_raiseAlarm (hk : k < 6) (hfresh : bit (s.get R.SC_ALARM_STATUS_LATCHED) k = false) (hon : s.mode ≠ mPowerOn)
    (hlog : s.alarmResponse k = 0) : AlarmShown s k (s.raiseAlarm k) := by
  rw [raiseAlarm_of_log hfresh hon hlog]
  split
  · exact alarmShown_alarmLogged hk
  · exact (alarmShown_alarmLogged hk).driveAlarm true

end Alarm

/-- R775: a reading below -45 or above 130 degrees. -/
theorem exec_alarmTemperature {s : State} {t : BitVec 12} (h : 360 + biased t.toNat < 2048 ∨ deg 130 < biased t.toNat) :
    exec (.alarmTemperature t) s = .next (s.raiseAlarm 3) := by
  show execAlarmTemperature t s = _
  unfold execAlarmTemperature
  rw [if_pos h]

theorem exec_alarmPulseEnd {s : State} (h : s.pins.alarmHeld = false) : exec .alarmPulseEnd s = .next (s.driveAlarm false) :=
  if_neg (by rw [h]; exact Bool.false_ne_true)

/-! #### Lifecycle and owner's keys (R192, R772) -/

section Lifecycle

variable {s : State} {o : Op}

theorem retakeBodies_regs (s : State) : s.retakeBodies.regs = s.regs := by
  unfold State.retakeBodies
  dsimp only
  split <;> rfl

theorem sameWords.showVault {t : State} {offs : List Nat} (h : sameWords s t offs) (hoff : R.SC_STATUS ∈ offs) :
    sameWords s t.showVault offs :=
  (h.put R.SC_STATUS_OWNER_KEYS hoff _).put R.SC_STATUS_VAULT_ERASED hoff _

/-- The registers that show a change of the lifecycle state (R772, R781). -/
def lifeWords : List Nat := [R.GAF_LIFECYCLE, R.EV_STATUS 0, R.EV_COUNT 3, R.SC_STATUS]

theorem sameWords_setLife (s : State) (target : Nat) : sameWords s (s.setLife target) lifeWords := by
  have hlife := ((sameWords.refl s lifeWords).put R.GAF_LIFECYCLE_STATE (by decide) target).raise 3 (by decide) (by decide)
  have hopen := ite_preserves (P := (sameWords s · lifeWords)) (c := target = 1 ∨ target = 4) hlife
    fun h => h.put R.GAF_LIFECYCLE_DEBUG_OPEN (by decide) 0
  intro off hoff
  unfold State.setLife State.reg
  rw [retakeBodies_regs]
  exact hopen.showVault (by decide) off hoff

/-- Neither the lifecycle state nor an operation's end changes the mode, whatever its mailbox. -/
theorem mode_endOp_setLife (s : State) (target : Nat) (o : Op) (status detail : Nat) :
    ((s.setLife target).endOp o status detail).mode = s.mode := by
  refine Eq.trans ?_ ((sameWords_setLife s target).get (f := R.GAF_MODE_MODE) (by decide))
  exact congrArg (bits · _ _) (reg_endOp status detail ⟨by decide, .inl (by decide)⟩)

section FusesBlown

variable (h : s.gaf.ops.find? (fun o => o.command == 0x0B02) = some o)

include h

/-- A blow whose verify fails ends its operation with INTERNAL and raises the LIFECYCLE alarm (log 53). -/
theorem exec_lifecycleFusesBlown_failed : exec (.lifecycleFusesBlown false) s = .next ((s.endOp o stInternal 0).raiseAlarm 4) := by
  show execLifecycleFusesBlown false s = _
  unfold execLifecycleFusesBlown
  rw [h]
  rfl

theorem exec_lifecycleFusesBlown_retired (htarget : o.args.getD 0 0 = 4) :
    exec (.lifecycleFusesBlown true) s = .next ((s.eraseOwner.setLife 4).endOp o stOk 0) := by
  show execLifecycleFusesBlown true s = _
  unfold execLifecycleFusesBlown
  rw [h]
  dsimp only
  rw [htarget]
  simp

/-- R180: a device that is provisioned in PROVISION boots. -/
theorem exec_lifecycleFusesBlown_provisioned (htarget : o.args.getD 0 0 = 1) (hlife : s.life = 0) (hmode : s.mode = mProvision) :
    exec (.lifecycleFusesBlown true) s = .next (((s.setLife 1).endOp o stOk 0).enterBoot 0x1D false) := by
  show execLifecycleFusesBlown true s = _
  unfold execLifecycleFusesBlown
  rw [h]
  dsimp only
  rw [htarget]
  simp [hlife, mode_endOp_setLife, hmode]

end FusesBlown

section OwnerKeys

variable (h : s.gaf.ops.find? (fun o => o.command == 0x0B06) = some o) (hlife : s.life = 1)

include h hlife

theorem exec_ownerKeyLoadComplete_failed : exec (.ownerKeyLoadComplete false) s = .next ((s.endOp o stInternal 0).raiseAlarm 4) := by
  show execOwnerKeyLoadComplete false s = _
  unfold execOwnerKeyLoadComplete
  rw [h]
  exact if_pos ⟨hlife, rfl⟩

/-- R192: the owner's row is blown, and the device is OWNED. -/
theorem exec_ownerKeyLoadComplete_owned :
    let t := s.storeOwner o.data
    let u : State := { t with sec := { t.sec with rows := tblPut (t.get R.SC_STATUS_OWNER_ROW) (sha256 t.sec.ownerPub) t.sec.rows } }
    ((u.setLife 2).endOp o stOk 0).mode ≠ mZeroized → exec (.ownerKeyLoadComplete true) s = .next ((u.setLife 2).endOp o stOk 0) := by
  intro t u hmode
  show execOwnerKeyLoadComplete true s = _
  unfold execOwnerKeyLoadComplete
  rw [h]
  simp only [hlife, Bool.not_true, Bool.false_eq_true, and_false, if_false, if_true]
  exact congrArg Host.Outcome.next (if_neg hmode)

end OwnerKeys

/-- R846. -/
theorem exec_debugOpenTimeout (hlife : s.life = 2) (hsession : s.pins.session = false) :
    exec .debugOpenTimeout s = .next (s.put R.GAF_LIFECYCLE_DEBUG_OPEN 0) :=
  if_pos ⟨hlife, by rw [hsession]; rfl⟩

theorem exec_attestReportComplete (h : s.gaf.ops.find? (fun o => o.command == 0x0B00) = some o) :
    let u : State := { s with sec := { s.sec with report := o.data ++ fit 17088 (attestSignature o.data) } }
    let v := u.wrapInc R.SC_REPORT_SEQ_SEQ
    exec .attestReportComplete s = .next (v.endOp o stOk (v.reg R.SC_REPORT_SEQ % 65536)) := by
  show execAttestReportComplete s = _
  unfold execAttestReportComplete
  rw [h]

/-- R793: a chunk whose bytes are those announced is written. -/
theorem exec_upChunkComplete (back : Bool) (h : s.gaf.ops.find? (fun o => o.command == 0x0C01) = some o)
    (hstate : s.get R.SC_UPDATE_STATE = 1 ∨ s.get R.SC_UPDATE_STATE = 2) :
    let i := o.args.getD 0 0
    let x := stackRead s 0xF0 (o.args.getD 1 0) (s.chunkLen i)
    x.2.1 = rOk → sha256 x.2.2 = BitVec.ofNat 256 (le o.data 0 32) → exec (.upChunkComplete back) s
      = .next ((x.1.writeChunk i x.2.2 back).1.endOp o (x.1.writeChunk i x.2.2 back).2.1 (x.1.writeChunk i x.2.2 back).2.2) := by
  intro i x hread hdigest
  have hloading : ¬(s.get R.SC_UPDATE_STATE ≠ 1 ∧ s.get R.SC_UPDATE_STATE ≠ 2) := by omega
  have hgood : ¬(x.2.1 ≠ rOk ∨ sha256 x.2.2 ≠ BitVec.ofNat 256 (le o.data 0 32)) := by simp [hread, hdigest]
  show execUpChunkComplete back s = _
  unfold execUpChunkComplete
  rw [h]
  exact (if_neg hloading).trans (if_neg hgood)

end Lifecycle

/-- Settles O57: each row by what it does when it acts. That a failed verify gives INTERNAL and the LIFECYCLE alarm is the model's choice
(log 53). -/
theorem securityRowsAct : Obligations.SecurityRowsAct := by
  intro s
  refine ⟨⟨rfl, rfl, fun _ _ hmv => if_pos hmv, fun _ => exec_alarmTemperature, fun k hfresh hon hlog => ?alarm⟩, exec_alarmPulseEnd,
    fun hmode => if_pos hmode, fun _ => exec_attestReportComplete, fun o h => ?fuses, fun o h => ?owner, fun hlife hsession => ?debug,
    fun o h hstate => ?chunk⟩
  case alarm =>
    obtain ⟨hlatched, hevent, hmode, hsec, hmem⟩ := alarmShown_raiseAlarm k.isLt hfresh hon hlog
    exact ⟨hlatched, hevent, hmode, hsec, hmem⟩
  case fuses =>
    exact ⟨exec_lifecycleFusesBlown_failed h, exec_lifecycleFusesBlown_retired h, exec_lifecycleFusesBlown_provisioned h⟩
  case owner =>
    exact ⟨exec_ownerKeyLoadComplete_failed h, fun hlife _ => exec_ownerKeyLoadComplete_owned h hlife⟩
  case debug =>
    exact ⟨_, exec_debugOpenTimeout hlife hsession, get_put_same _ _ 0 (by decide), sameWords_put _ _ _, sameStores_put _ _ _⟩
  case chunk => exact fun hread hdigest back => exec_upChunkComplete back h hstate hread hdigest

end Sys2Proof.Machine
end

section
/-!
PROOFS. The family of gather units and capture queues: a line write that fails (O40).
-/

namespace Sys2Proof.Machine

open Sys2Proof

/-! ### The table of queues -/

section Queues

variable (s : State)

theorem queue_setQueue_same (q : Nat) (x : Queue) : (s.setQueue q x).queue q = x := by
  simp [State.queue, State.setQueue, tblGet]

theorem queue_setQueue_ne {p q : Nat} (h : p ≠ q) (x : Queue) : (s.setQueue q x).queue p = s.queue p := by
  simp [State.queue, State.setQueue, tblGet, tblFind_tblPut_ne h]

@[simp] theorem eventLine_cap (l : Nat) : (s.eventLine l).cap = s.cap := by
  unfold State.eventLine
  split <;> rfl

/-- R849: of the capture hardware a delivery touches the trigger pulses alone. -/
theorem deliver_queues (e : Nat) (was : Bool) : (s.deliver e was).cap.queues = s.cap.queues := by
  unfold State.deliver
  dsimp only
  split
  · rfl
  · split
    · split
      · rfl
      · rw [msix_cap]
    · split
      · rw [eventLine_cap]
      · split <;> rfl

theorem raise_queues (e : Nat) : (s.raise e).cap.queues = s.cap.queues := by
  unfold State.raise
  split
  · rfl
  · exact deliver_queues _ _ _

theorem queue_raise (e p : Nat) : (s.raise e).queue p = s.queue p := by
  unfold State.queue
  rw [raise_queues]

/-- The sources above the lane events are present on both variants (R9). -/
theorem eventAbsent_of_gt {e : Nat} (h : 175 < e) : s.eventAbsent e = false := by
  simp [State.eventAbsent, Nat.not_le.2 h]

end Queues

/-! ### A failed line is counted, marked and reported (R245) -/

section Failed

variable (s : State)

theorem captureFailed_queue (q p : Nat) : (s.captureFailed q).queue p = s.queue p := queue_raise _ 209 p

theorem captureFailed_stores (q : Nat) :
    (s.captureFailed q).mem = s.mem ∧ (s.captureFailed q).sram = s.sram ∧ (s.captureFailed q).gaf = s.gaf :=
  ⟨raise_mem _ 209, raise_sram _ 209, raise_gaf _ 209⟩

/-- The queue's mark is neither a word of the events nor the count of failed writes. -/
theorem get_intErr_captureFailed (q : Fin 1024) : (s.captureFailed q).get (R.CQ_STATE_INT_ERR q) = 1 := by
  have hstatus : R.CQ_STATE q ≠ R.EV_STATUS (209 / 32) := by unfold R.CQ_STATE R.EV_STATUS; omega
  have hcount : R.CQ_STATE q ≠ R.EV_COUNT 209 := by unfold R.CQ_STATE R.EV_COUNT; omega
  have hfails : R.CQ_STATE q ≠ R.QC_INT_FAILS (s.homeOf q) := by unfold R.CQ_STATE R.QC_INT_FAILS; omega
  unfold State.captureFailed
  rw [get_raise_ne _ hstatus hcount, get_bump_apart _ _ _ (Nat.le_of_ble_eq_true rfl) (.inl hfails)]
  exact get_put_same s _ 1 (Nat.le_of_ble_eq_true rfl)

theorem eventSet_captureFailed (q : Nat) : (s.captureFailed q).eventSet 209 = true :=
  eventSet_raise _ 209 (eventAbsent_of_gt _ (by decide))

end Failed

/-- R245: the index entry that queue `q` is gathering says that a line of its MiB failed. -/
def State.markAcc (s : State) (q : Nat) : State :=
  s.setQueue q { s.queue q with acc := { (s.queue q).acc with integrity := true } }

/-- A failed line of the MiB in progress in which no record started loses no frame. -/
theorem exec_captureLineIntegrity_noFrames {s : State} {q : Fin 1024} (hlive : s.queueLive q = true) :
    exec (.captureLineIntegrity q {}) s = .next ((s.markAcc q).captureFailed q) :=
  (execCaptureLineIntegrity_taken {} (.inl hlive)).trans (congrArg Host.Outcome.next (lineIntegrity_current (l := []) rfl))

/-- Settles O40: the queue's entry is marked, then `captureFailed` marks the queue, counts the failed write and raises the event, and
neither reaches another queue, a memory or the gaffer. -/
theorem aLineWriteFailureMarksTheQueue : Obligations.ALineWriteFailureMarksTheQueue := by
  intro s q hlive
  obtain ⟨hmem, hsram, hgaf⟩ := captureFailed_stores (s.markAcc q) q
  refine ⟨_, exec_captureLineIntegrity_noFrames hlive, get_intErr_captureFailed _ q, eventSet_captureFailed _ q, ?marked, ?others,
    hmem, hsram, hgaf⟩
  case marked =>
    rw [captureFailed_queue, State.markAcc, queue_setQueue_same]
  case others =>
    intro p hp
    rw [captureFailed_queue, State.markAcc, queue_setQueue_ne s (Fin.val_ne_of_ne hp)]

end Sys2Proof.Machine
end

section
/-!
PROOFS. The family of the classifier and the trigger matrix: the rows that rewrite an entry and that move the matrix's inputs (O41).
-/

namespace Sys2Proof.Machine

open Sys2Proof

/-! ### An entry is rewritten (R272) -/

section Rewrite

variable {s : State}

/-- R849: of the capture hardware a delivery touches the trigger pulses alone: the classifier's tables stay. -/
theorem deliver_cap (s : State) (e : Nat) (was : Bool) : (s.deliver e was).cap = { s.cap with pulses := (s.deliver e was).cap.pulses } := by
  unfold State.deliver
  dsimp only
  repeat' split
  all_goals simp

theorem raise_cap (s : State) (e : Nat) : (s.raise e).cap = { s.cap with pulses := (s.raise e).cap.pulses } := by
  unfold State.raise
  split
  · rfl
  · exact deliver_cap _ _ _

/-- Showing the tables' fill in the registers changes neither table. -/
theorem showTables_cap (s : State) : s.showTables.cap = { s.cap with pulses := s.showTables.cap.pulses } := by
  unfold State.showTables
  dsimp only
  split
  · exact raise_cap _ 217
  · rfl

@[simp] theorem showTables_exact (s : State) : s.showTables.cap.exact = s.cap.exact := by rw [showTables_cap]

@[simp] theorem showTables_tern (s : State) : s.showTables.cap.tern = s.cap.tern := by rw [showTables_cap]

@[simp] theorem showTables_mem (s : State) : s.showTables.mem = s.mem := by
  unfold State.showTables
  dsimp only
  split
  · exact raise_mem _ 217
  · rfl

/-- R272: the gaffer's copy of a ternary entry takes its place in the table. -/
def State.ternRewritten (s : State) (i : Nat) (e : TernEntry) : State :=
  State.showTables { s with cap := { s.cap with tern := tblPut i e s.cap.tern } }

/-- R272: the gaffer's copy of an exact entry takes its place in the table. -/
def State.exactRewritten (s : State) (i : Nat) (e : ExactEntry) : State :=
  State.showTables { s with cap := { s.cap with exact := tblPut i e s.cap.exact } }

theorem execClassifierEntryRewrite_ternary {idx : BitVec 15} {e : TernEntry} (hgone : tblFind idx.toNat s.cap.tern = none)
    (hcopy : tblFind idx.toNat s.cap.ternCopy = some e) :
    execClassifierEntryRewrite true idx s = .next (s.ternRewritten idx.toNat e) := by
  simp [execClassifierEntryRewrite, hgone, hcopy, State.ternRewritten]

theorem execClassifierEntryRewrite_exact {idx : BitVec 15} {e : ExactEntry} (hgone : tblFind idx.toNat s.cap.exact = none)
    (hcopy : tblFind idx.toNat s.cap.exactCopy = some e) :
    execClassifierEntryRewrite false idx s = .next (s.exactRewritten idx.toNat e) := by
  simp [execClassifierEntryRewrite, hgone, hcopy, State.exactRewritten]

theorem ternRewritten_tern (s : State) (i : Nat) (e : TernEntry) : (s.ternRewritten i e).cap.tern = tblPut i e s.cap.tern :=
  showTables_tern _

theorem ternRewritten_exact (s : State) (i : Nat) (e : TernEntry) : (s.ternRewritten i e).cap.exact = s.cap.exact := showTables_exact _

theorem exactRewritten_exact (s : State) (i : Nat) (e : ExactEntry) : (s.exactRewritten i e).cap.exact = tblPut i e s.cap.exact :=
  showTables_exact _

theorem exactRewritten_tern (s : State) (i : Nat) (e : ExactEntry) : (s.exactRewritten i e).cap.tern = s.cap.tern := showTables_tern _

end Rewrite

/-- The capture hardware is none of the other stores. -/
theorem sameStores_withCap (s : State) (c : Capture) : sameStores s { s with cap := c } := by
  simp [sameStores]

/-! ### An edge of a TRIG_IN ball (R277) -/

section TrigIn

variable {s : State} {pin : Fin 8}

/-- R277: a TRIG_IN ball that was low has risen, and its input is true in this pip. -/
def State.trigInRisen (s : State) (i : Nat) : State :=
  State.pulse { s with cap := { s.cap with trigIn := setBit s.cap.trigIn i } } (16 + i)

/-- A pin in rising-edge mode (0) sees its ball rise. -/
theorem execTrigInEdge_rising (hmode : bits (s.reg R.TG_TIN_CFG) (2 * pin) 2 = 0) (hlow : bit s.cap.trigIn pin = false) :
    execTrigInEdge pin true s = .next (s.trigInRisen pin) := by
  simp [execTrigInEdge, hmode, hlow, putBit, State.trigInRisen]

theorem trigIn_trigInRisen (s : State) (i : Nat) : bit (s.trigInRisen i).cap.trigIn i = true := bit_setBit_same _ _

theorem pulses_trigInRisen (s : State) (i : Nat) : bit (s.trigInRisen i).cap.pulses (16 + i) = true := bit_setBit_same _ _

end TrigIn

/-! ### The sample of a pip (R277, R281) -/

section Sample

variable {s : State}

/-- R277: the matrix has sampled this pip, and no input holds over into the next. -/
def State.sampleTaken (s : State) : State := { s with cap := { s.cap with pulses := 0, frames := [], sampled := true } }

/-- A sequencer that is not armed only takes the sample. -/
theorem triggerSample_disarmed (lines : Nat) (h : s.get R.TG_STATUS_ARMED = 0) : triggerSample s lines = s.sampleTaken := by
  have hoff : s.sampleTaken.has R.TG_STATUS_ARMED = false := bne_eq_false_iff_eq.2 h
  exact if_pos (.inl (by rw [← State.sampleTaken, hoff]; rfl))

theorem execTriggerTransition_due (lines : Byte) (h : s.cap.sampled = false) :
    execTriggerTransition lines s = .next (triggerSample s lines.toNat) := if_neg (by simp [h])

theorem execTriggerTransition_sampled (lines : Byte) (h : s.cap.sampled = true) : execTriggerTransition lines s = .next s := if_pos h

end Sample

/-! ### Timers and counters (R279, R280) -/

section TimersCounters

variable {s : State}

theorem timerExpires_timers (s : State) (i : Nat) : (s.timerExpires i).cap.timers.contains i = false := by
  simp [State.timerExpires]

theorem pulses_timerExpires (s : State) (i : Nat) : bit (s.timerExpires i).cap.pulses (44 + i) = true := bit_setBit_same _ _

theorem reg_timerExpires (s : State) (i : Nat) : (s.timerExpires i).reg (R.TG_TMR i) = 0 := reg_setReg_same s (R.TG_TMR i) 0

theorem sameWords_timerExpires (s : State) (i : Nat) : sameWords s (s.timerExpires i) [R.TG_TMR i] :=
  (sameWords.refl s _).setReg (List.mem_singleton_self _) 0

theorem sameStores_timerExpires (s : State) (i : Nat) : sameStores s (s.timerExpires i) := by
  simp [sameStores, State.timerExpires, State.pulse]

/-- R279: a counter stands at its limit, and the event says so. -/
def State.limitReached (s : State) (c : Nat) : State := (s.setReg (R.TG_CNT c) (s.reg (R.TG_CNT_LIMIT c))).raise 223

theorem execTriggerCounterLimit_below {c : Fin 4} (harmed : s.get R.TG_STATUS_ARMED = 1) (hen : s.get (R.TG_CNT_SRC_EN c) = 1)
    (hbelow : s.reg (R.TG_CNT c) < s.reg (R.TG_CNT_LIMIT c)) : execTriggerCounterLimit c s = .next (s.limitReached c) :=
  if_pos ⟨by rw [State.has, harmed]; rfl, by rw [State.has, hen]; rfl, hbelow⟩

/-- The counter is no word of the events. -/
theorem reg_limitReached (s : State) (c : Nat) : (s.limitReached c).reg (R.TG_CNT c) = s.reg (R.TG_CNT_LIMIT c) := by
  have hstatus : R.TG_CNT c ≠ R.EV_STATUS (223 / 32) := by unfold R.TG_CNT R.EV_STATUS; omega
  have hcount : R.TG_CNT c ≠ R.EV_COUNT 223 := by unfold R.TG_CNT R.EV_COUNT; omega
  unfold State.limitReached
  rw [reg_raise_ne _ hstatus hcount, reg_setReg_same, Nat.mod_eq_of_lt (reg_lt s _)]

theorem eventSet_limitReached (s : State) (c : Nat) : (s.limitReached c).eventSet 223 = true :=
  eventSet_raise _ 223 (eventAbsent_of_gt _ (by decide))

theorem sameStores_limitReached (s : State) (c : Nat) : sameStores s (s.limitReached c) := sameStores_raise (s.setReg _ _) 223

end TimersCounters

/-- Settles O41: each row by what it does when it acts. That the fabric lines of a sample are an operand of its row is the model's choice
(log 92). -/
theorem triggerRowsAct : Obligations.TriggerRowsAct := by
  intro s
  refine ⟨fun idx e hgone hcopy => ?ternary, fun idx e hgone hcopy => ?exact, fun out => ?pulseEnd,
    fun pin level hmode hlow hlevel => ?edge,
    fun lines => ⟨execTriggerTransition_due lines, execTriggerTransition_sampled lines, fun h => ?disarmed⟩,
    fun n hruns => ?timer, fun c harmed hen hbelow => ?counter⟩
  case ternary =>
    refine ⟨_, execClassifierEntryRewrite_ternary hgone hcopy, ?_, fun j hj => ?_, ternRewritten_exact s _ e, showTables_mem _⟩
    · rw [ternRewritten_tern, tblFind_tblPut_same]
    · rw [ternRewritten_tern, tblFind_tblPut_ne hj]
  case exact =>
    refine ⟨_, execClassifierEntryRewrite_exact hgone hcopy, ?_, fun j hj => ?_, exactRewritten_tern s _ e, showTables_mem _⟩
    · rw [exactRewritten_exact, tblFind_tblPut_same]
    · rw [exactRewritten_exact, tblFind_tblPut_ne hj]
  case pulseEnd =>
    exact ⟨_, rfl, tblFind_tblDel_same _ _, fun _ hj => tblFind_tblDel_ne hj _, rfl, sameStores_withCap s _⟩
  case edge =>
    subst hlevel
    exact ⟨_, execTrigInEdge_rising hmode hlow, trigIn_trigInRisen s pin, pulses_trigInRisen s pin, rfl,
      sameStores_withCap s _⟩
  case disarmed =>
    rw [triggerSample_disarmed _ h]
    exact ⟨rfl, rfl, rfl, rfl, sameStores_withCap s _⟩
  case timer =>
    exact ⟨_, if_pos hruns, reg_timerExpires s n, timerExpires_timers s n, pulses_timerExpires s n, sameWords_timerExpires s n,
      sameStores_timerExpires s n⟩
  case counter =>
    exact ⟨_, execTriggerCounterLimit_below harmed hen hbelow, reg_limitReached s c, eventSet_limitReached s c,
      sameStores_limitReached s c⟩

end Sys2Proof.Machine
end

section
/-!
PROOFS. The family of replay engines and pass-through: an engine that stops (O43), a frame in its slot (O44), the rows (O42).
-/

namespace Sys2Proof.Machine

open Sys2Proof

/-! ### The table of engines -/

section Engines

variable (s : State) (e : Nat) (x : Engine)

@[simp] theorem engine_setEngine_same : (s.setEngine e x).engine e = x := tblGet_tblSet_same _ _ _ _

@[simp] theorem setEngine_regs : (s.setEngine e x).regs = s.regs := rfl

@[simp] theorem setEngine_mem : (s.setEngine e x).mem = s.mem := rfl

end Engines

/-! ### An engine stops (R316, R318) -/

section Stop

variable {s : State} {e : Nat}

/-- R316: RP_STATE of an engine that has stopped: STOPPED, its cause, and no loop open. -/
def State.stopShown (s : State) (e cause : Nat) : State :=
  ((s.put (R.RP_STATE_STATE e) 3).put (R.RP_STATE_STOP_CAUSE e) cause).put (R.RP_STATE_DEPTH e) 0

theorem get_state_stopShown (cause : Nat) : (s.stopShown e cause).get (R.RP_STATE_STATE e) = 3 := by
  unfold State.stopShown
  rw [get_put_apart _ _ (R.RP_STATE_DEPTH e) _ (Nat.le_of_ble_eq_true rfl) (.inr (.inl (Nat.le_of_ble_eq_true rfl))),
    get_put_apart _ _ (R.RP_STATE_STOP_CAUSE e) _ (Nat.le_of_ble_eq_true rfl) (.inr (.inl (Nat.le_of_ble_eq_true rfl)))]
  exact get_put_same s _ 3 (Nat.le_of_ble_eq_true rfl)

theorem get_cause_stopShown {cause : Nat} (h : cause < 16) : (s.stopShown e cause).get (R.RP_STATE_STOP_CAUSE e) = cause := by
  unfold State.stopShown
  rw [get_put_apart _ _ (R.RP_STATE_DEPTH e) _ (Nat.le_of_ble_eq_true rfl) (.inr (.inr (Nat.le_of_ble_eq_true rfl))),
    get_put_same _ _ _ (Nat.le_of_ble_eq_true rfl)]
  exact Nat.mod_eq_of_lt h

theorem get_depth_stopShown (cause : Nat) : (s.stopShown e cause).get (R.RP_STATE_DEPTH e) = 0 :=
  get_put_same _ (R.RP_STATE_DEPTH e) 0 (Nat.le_of_ble_eq_true rfl)

theorem sameWords_stopShown (cause : Nat) : sameWords s (s.stopShown e cause) [R.RP_STATE e] :=
  (((sameWords.refl s _).put (R.RP_STATE_STATE e) (List.mem_singleton_self _) 3).put (R.RP_STATE_STOP_CAUSE e)
    (List.mem_singleton_self _) cause).put (R.RP_STATE_DEPTH e) (List.mem_singleton_self _) 0

/-- R316: of the registers, priming shows in PRIMED alone. -/
theorem get_prime_apart {f : RF} (h : f.apart (R.RP_STATE_PRIMED e)) : (s.prime e).get f = s.get f :=
  get_put_apart _ f (R.RP_STATE_PRIMED e) _ (Nat.le_of_ble_eq_true rfl) h

/-- A running engine that stops shows it, is primed again and raises its event; what was cut of its transmission and the instant of its
stop are no registers. -/
theorem stopEngine_running (cause : Nat) (hrun : s.engineState e = 2) :
    ∃ t : State, t.regs = (s.stopShown e cause).regs ∧ t.mem = s.mem ∧ s.stopEngine e cause = (t.prime e).raise (232 + e / 4) := by
  refine ⟨_, ?_, ?_, if_pos hrun⟩ <;> split <;> rfl

/-- Neither priming nor the event reaches another field of the engines' states. -/
theorem get_stopEngine {k cause : Nat} {f : RF} (hrun : s.engineState e = 2) (he : e < 32) (hf : f.off = R.RP_STATE k)
    (hprimed : f.apart (R.RP_STATE_PRIMED e)) : (s.stopEngine e cause).get f = (s.stopShown e cause).get f := by
  obtain ⟨t, hregs, -, hstop⟩ := stopEngine_running cause hrun
  have hstatus : f.off ≠ R.EV_STATUS ((232 + e / 4) / 32) := by rw [hf]; unfold R.RP_STATE R.EV_STATUS; omega
  have hcount : f.off ≠ R.EV_COUNT (232 + e / 4) := by rw [hf]; unfold R.RP_STATE R.EV_COUNT; omega
  rw [hstop, get_raise_ne _ hstatus hcount, get_prime_apart hprimed]
  unfold State.get State.reg
  rw [hregs]

theorem engineState_stopEngine_ne {k : Nat} (cause : Nat) (hrun : s.engineState e = 2) (he : e < 32) (hk : k ≠ e) :
    (s.stopEngine e cause).engineState k = s.engineState k := by
  have hoff : R.RP_STATE k ≠ R.RP_STATE e := by unfold R.RP_STATE; omega
  exact (get_stopEngine hrun he rfl (.inl hoff)).trans ((sameWords_stopShown cause).get fun h => hoff (List.mem_singleton.1 h))

theorem eventSet_stopEngine (cause : Nat) (hrun : s.engineState e = 2) : (s.stopEngine e cause).eventSet (232 + e / 4) = true := by
  obtain ⟨t, -, -, hstop⟩ := stopEngine_running cause hrun
  rw [hstop]
  exact eventSet_raise _ _ (eventAbsent_of_gt _ (by omega))

theorem stopEngine_mem (cause : Nat) (hrun : s.engineState e = 2) : (s.stopEngine e cause).mem = s.mem := by
  obtain ⟨t, -, hmem, hstop⟩ := stopEngine_running cause hrun
  rw [hstop, raise_mem]
  exact hmem

end Stop

/-- Settles O43: the three fields are written, and priming and the event reach none of them. -/
theorem aStoppedEngineShowsItsCause : Obligations.AStoppedEngineShowsItsCause := by
  intro s e cause hrun hcause
  refine ⟨?state, ?cause, ?depth, eventSet_stopEngine cause hrun, ?others, stopEngine_mem cause hrun⟩
  case state =>
    exact (get_stopEngine hrun e.isLt rfl (.inr (.inl (Nat.le_of_ble_eq_true rfl)))).trans (get_state_stopShown cause)
  case cause =>
    exact (get_stopEngine hrun e.isLt rfl (.inr (.inr (Nat.le_of_ble_eq_true rfl)))).trans (get_cause_stopShown hcause)
  case depth =>
    exact (get_stopEngine hrun e.isLt rfl (.inr (.inr (Nat.le_of_ble_eq_true rfl)))).trans (get_depth_stopShown cause)
  case others =>
    intro k hk
    exact engineState_stopEngine_ne cause hrun e.isLt (Fin.val_ne_of_ne hk)

/-! ### A frame in its slot (R322-R324) -/

section Slot

variable (s : State) (e n : Nat)

/-- Seeing that a disparity was realigned cuts nothing that a lane transmits. -/
theorem seeFixes_sent : s.seeFixes.rep.sent = s.rep.sent :=
  forEach_preserves (P := fun t => t.rep.sent = s.rep.sent) rfl fun _ _ _ hu => hu

theorem replaceForwarded_sent (at_ count : Nat) : (s.replaceForwarded n at_ count).rep.sent = s.rep.sent := rfl

/-- R324: realigning the disparity changes the forwarded characters alone. -/
theorem ite_aligned_realign_sent (c : Prop) [Decidable c] (from_ : Nat) :
    (if c then s.aligned n from_ else s.realign n from_).rep.sent = s.rep.sent := by
  split
  · rfl
  · unfold State.realign
    dsimp only
    split <;> rfl

/-- R322, R323: what goes out in a slot of `room` characters for a frame `l` whose last record has `flags`: the frame, cut at the slot's end,
and under REPLACE IDLE up to the slot's end. -/
def State.slotSymbols (room flags : Nat) (l : List (Bool × Byte)) : List (Bool × Byte) :=
  let sent := fitSlot room flags l
  let idle := s.get (R.RP_CFG_IDLE e)
  sent ++ if s.has (R.RP_CFG_SUB_MODE e) then [] else List.replicate (room - sent.length) (bit idle 8, BitVec.ofNat 8 idle)

theorem slotSymbols_of_fits {room : Nat} (flags : Nat) {l : List (Bool × Byte)} (h : l.length ≤ room) :
    s.slotSymbols e room flags l = l ++ if s.has (R.RP_CFG_SUB_MODE e) then [] else
      List.replicate (room - l.length) (bit (s.get (R.RP_CFG_IDLE e)) 8, BitVec.ofNat 8 (s.get (R.RP_CFG_IDLE e))) := by
  have hfit : fitSlot room flags l = l := if_pos h
  unfold State.slotSymbols
  rw [hfit]

/-- R324: how the disparity is realigned after the frame does not touch the frame itself. -/
theorem substitute_sends (at_ room : Nat) (r : PatRecord) (before after : Bool) :
    ∃ x, tblFind n (s.substitute e n at_ room r before after).rep.sent = some x ∧ x.engine = e ∧ x.launch = at_
      ∧ x.symbols = s.slotSymbols e room (State.sendChain n e 4096 at_ s).2.2 (State.sendChain n e 4096 at_ s).2.1 := by
  unfold State.substitute
  simp only [ite_aligned_realign_sent, replaceForwarded_sent, seeFixes_sent, tblFind_tblPut_same]
  exact ⟨_, rfl, rfl, rfl, rfl⟩

/-- R300: a record without MORE ends its chain. -/
theorem sendChain_of_last {s : State} {e : Nat} {r : PatRecord} (fuel at_ : Nat) (hnext : s.nextRecord e = .record r)
    (hlast : bit r.source 11 = false) :
    (State.sendChain n e (fuel + 1) at_ s).2 = (symbolsOf false r.flags (s.outputPayload e r).2, r.flags) := by
  rw [State.sendChain, hnext]
  simp [hlast]

end Slot

/-! ### The row of a slot -/

section SlotRow

variable {s : State} {e : Fin 32} {n : Nat} (hlane : s.substLane e = some n) (hrun : s.engineState e = 2) (hready : s.slotReady n = true)
  (hending : (s.engine e).ending = none) (hclock : s.replayClocked e = true) (hdue : s.stopDue e = none)
include hlane hrun hready hending hclock hdue

theorem execSubstitutionSlot_ended (chars : BitVec 21) (before after : Bool) (hnext : s.nextRecord e = .ended) :
    execSubstitutionSlot e chars before after s = .next (s.stopAfter e 1) := by
  simp [execSubstitutionSlot, hlane, hrun, hready, hending, hclock, hdue, hnext]

/-- R322: the slot begins no earlier than the frame's instant, and under INSERT holds all of it. -/
theorem execSubstitutionSlot_record {chars : BitVec 21} (before after : Bool) {r : PatRecord} {sched : Nat}
    (hnext : s.nextRecord e = .record r) (hsched : s.scheduledAt e r = some sched) (hroom : 0 < chars.toNat)
    (hcome : sched < s.nowFine + 64) (hfits : s.has (R.RP_CFG_SUB_MODE e) = true → s.chainLength e ≤ chars.toNat) :
    execSubstitutionSlot e chars before after s
      = .next (s.substitute e n (max s.nowFine sched) chars.toNat r before after) := by
  have htaken : ¬(chars.toNat = 0 ∨ s.nowFine + 64 ≤ sched ∨ s.has (R.RP_CFG_SUB_MODE e) ∧ chars.toNat < s.chainLength e) := by
    rintro (h | h | ⟨hinsert, h⟩)
    · omega
    · omega
    · exact Nat.not_lt.2 (hfits hinsert) h
  simp [execSubstitutionSlot, hlane, hrun, hready, hending, hclock, hdue, hnext, hsched, htaken]

end SlotRow

/-- Settles O44: the slot is taken, and a chain of one record that fits is the frame that goes out. -/
theorem aSubstitutionSlotSendsTheRecord : Obligations.ASubstitutionSlotSendsTheRecord := by
  intro s e n chars before after r sched hlane hrun hready hending hclock hdue hnext hsched hroom hcome hfits
  refine ⟨execSubstitutionSlot_record hlane hrun hready hending hclock hdue before after hnext hsched hroom hcome hfits, ?_⟩
  intro hlast _ _ _ _ hlength
  obtain ⟨x, hsent, hengine, hlaunch, hsymbols⟩ := substitute_sends s e n (max s.nowFine sched) chars.toNat r before after
  refine ⟨x, hsent, hengine, ?_, hlaunch⟩
  rw [hsymbols, sendChain_of_last n 4095 _ hnext hlast]
  exact slotSymbols_of_fits s e r.flags hlength

/-! ### The rows of replay engines (R303-R321) -/

section Rows

variable {s : State} {e : Fin 32}

/-- R317: the instant of an AT start has come. -/
theorem startAt_due {t p i : Nat} (hat : (s.engine e).at_ = some (t, p)) (hinstant : s.instantOf t p = some i) :
    let u := s.setEngine e { s.engine e with at_ := none }
    s.startAt e = if u.running = true then u.startEngine e i else u := by
  simp [State.startAt, hat, hinstant]

section Fetch

variable (hstate : s.engineState e ≠ 0) (hclock : s.replayClocked e = true) (n : BitVec 12)
include hstate hclock

theorem execPatternFetchReturn_own : execPatternFetchReturn e { lines := n } s
    = .next ((iterate n.toNat (fun _ t => t.fetchLine e) s).showPrimed e) := by
  simp [execPatternFetchReturn, hstate, hclock]

/-- R197: the bandwidth that the fetch took from the NoC is a yield. -/
theorem execPatternFetchReturn_fromNoc (c : Fin 32) : execPatternFetchReturn e { lines := n, fromNoc := some c } s
    = .next ((iterate n.toNat (fun _ t => t.fetchLine e) (s.yielded 6 5 c)).showPrimed e) := by
  simp [execPatternFetchReturn, hstate, hclock]

end Fetch

section Launch

variable (hrun : s.engineState e = 2) (hlane : s.substLane e = none) (hending : (s.engine e).ending = none)
  (hclock : s.replayClocked e = true) (delayed : Bool)
include hrun hlane hending hclock

/-- R318: a pending stop is taken instead of the record. -/
theorem execRecordLaunch_stop {cause : Nat} (hdue : s.stopDue e = some cause) :
    execRecordLaunch e delayed s = .next (s.stopAfter e cause) := by
  simp [execRecordLaunch, hrun, hlane, hending, hclock, hdue]

variable (hdue : s.stopDue e = none)
include hdue

theorem execRecordLaunch_record {r : PatRecord} (hnext : s.nextRecord e = .record r) :
    execRecordLaunch e delayed s = .next (s.launch e r delayed) := by
  simp [execRecordLaunch, hrun, hlane, hending, hclock, hdue, hnext]

/-- R311. -/
theorem execRecordLaunch_ended (hnext : s.nextRecord e = .ended) : execRecordLaunch e delayed s = .next (s.stopAfter e 1) := by
  simp [execRecordLaunch, hrun, hlane, hending, hclock, hdue, hnext]

/-- R309. -/
theorem execRecordLaunch_failed (hnext : s.nextRecord e = .failed) : execRecordLaunch e delayed s = .next (s.stopEngine e 5) := by
  simp [execRecordLaunch, hrun, hlane, hending, hclock, hdue, hnext]

/-- R301. -/
theorem execRecordLaunch_bad (hnext : s.nextRecord e = .bad) : execRecordLaunch e delayed s = .next (s.stopEngine e 4) := by
  simp [execRecordLaunch, hrun, hlane, hending, hclock, hdue, hnext]

end Launch

theorem execReplayRecordBoundaryStop_due {cause : Nat} (hdue : s.stopDue e = some cause) :
    execReplayRecordBoundaryStop e s = .next (s.stopAfter e cause) := by
  simp [execReplayRecordBoundaryStop, hdue]

/-- R316: nothing of the engine's is still in transmission. -/
theorem stopAfter_ended {k : Nat} (cause : Nat) (h : s.lastEnd k ≤ s.nowFine) : s.stopAfter k cause = s.stopEngine k cause := if_pos h

/-- R316: the stop waits for the end of the transmission. -/
theorem stopAfter_sending {k : Nat} (cause : Nat) (h : s.nowFine < s.lastEnd k) :
    s.stopAfter k cause = s.setEngine k { s.engine k with ending := some (s.lastEnd k, cause) } := if_neg (Nat.not_le.2 h)

/-- R321: the lane is no longer in electrical idle. -/
def State.resumed (s : State) (n : Nat) : State := { s with rep := { s.rep with broken := s.rep.broken.filter (fun x => x != n) } }

theorem execPassthroughResume_locked {lane : Fin 96} (hlock : s.has (R.LN_STATUS_CDR_LOCK lane) = true) :
    execPassthroughResume lane s = .next (s.resumed lane) := if_pos hlock

theorem resumed_notBroken (s : State) (n : Nat) : (s.resumed n).rep.broken.contains n = false := by
  simp [State.resumed]

end Rows

/-- Settles O42: each row by what it does when it acts. A fetch yields 6 over 5 as R197 and R198 rank the guarantees. -/
theorem replayRowsAct : Obligations.ReplayRowsAct := by
  intro s e
  refine ⟨fun t p i hat hinstant => ?start, fun n hstate hclock => ?fetch, fun hrun hlane hending hclock d => ?launch,
    fun cause hdue => execReplayRecordBoundaryStop_due hdue, fun cause => ?stopAfter,
    fun n chars a b hlane hrun hready hending hclock hdue hnext =>
      execSubstitutionSlot_ended hlane hrun hready hending hclock hdue chars a b hnext,
    fun lane hlock => ?resume⟩
  case start =>
    exact congrArg Host.Outcome.next (startAt_due hat hinstant)
  case fetch =>
    exact ⟨execPatternFetchReturn_own hstate hclock n, execPatternFetchReturn_fromNoc hstate hclock n⟩
  case launch =>
    exact ⟨fun _ hdue => execRecordLaunch_stop hrun hlane hending hclock d hdue, fun hdue =>
      ⟨fun _ hnext => execRecordLaunch_record hrun hlane hending hclock d hdue hnext,
        execRecordLaunch_ended hrun hlane hending hclock d hdue,
        execRecordLaunch_failed hrun hlane hending hclock d hdue,
        execRecordLaunch_bad hrun hlane hending hclock d hdue⟩⟩
  case stopAfter =>
    refine ⟨stopAfter_ended cause, fun hsending => ?_⟩
    rw [stopAfter_sending cause hsending]
    exact ⟨rfl, congrArg Engine.ending (engine_setEngine_same s e _), rfl⟩
  case resume =>
    exact ⟨_, execPassthroughResume_locked hlock, resumed_notBroken s lane, rfl, rfl, rfl, rfl⟩

end Sys2Proof.Machine
end

section
/-!
PROOFS. The family of fabric event lines: an event is set, counted and delivered on its route (O7).
-/

namespace Sys2Proof.Machine

open Sys2Proof

/-! ### An event is recorded (R848) -/

section Recorded

variable (s : State) (e : Nat)

/-- R848: what event source `e` records when it occurs, before its route is looked at: its status bit and its count. -/
def State.eventRecorded : State :=
  (s.setReg (R.EV_STATUS (e / 32)) (setBit (s.reg (R.EV_STATUS (e / 32))) (e % 32))).bump (R.EV_COUNT_COUNT e)

variable {s e} in
theorem raise_of_present (h : s.eventAbsent e = false) : s.raise e = (s.eventRecorded e).deliver e (s.eventSet e) := by
  unfold State.raise
  exact if_neg (Bool.eq_false_iff.1 h)

theorem sameWords_eventRecorded : sameWords s (s.eventRecorded e) [R.EV_STATUS (e / 32), R.EV_COUNT e] :=
  ((sameWords.refl s _).setReg (.head _) _).bump (R.EV_COUNT_COUNT e) (.tail _ (.head _))

theorem get_count_eventRecorded :
    (s.eventRecorded e).get (R.EV_COUNT_COUNT e) = min (s.get (R.EV_COUNT_COUNT e) + 1) 0xFFFF := by
  have hoff : (R.EV_COUNT_COUNT e).off ≠ R.EV_STATUS (e / 32) := (status_ne_count (by omega)).symm
  unfold State.eventRecorded
  rw [get_bump_same _ _ (Nat.le_of_ble_eq_true rfl), get_setReg_ne _ _ hoff]
  rfl

/-- An event's own record does not reach its route. -/
theorem route_notMem_recorded : R.EV_ROUTE e ∉ [R.EV_STATUS (e / 32), R.EV_COUNT e] := by
  simp only [List.mem_cons, List.not_mem_nil, or_false, R.EV_ROUTE, R.EV_STATUS, R.EV_COUNT]
  omega

@[simp] theorem get_kind_eventRecorded : (s.eventRecorded e).get (R.EV_ROUTE_KIND e) = s.get (R.EV_ROUTE_KIND e) :=
  (sameWords_eventRecorded s e).get (route_notMem_recorded e)

@[simp] theorem get_target_eventRecorded : (s.eventRecorded e).get (R.EV_ROUTE_TARGET e) = s.get (R.EV_ROUTE_TARGET e) :=
  (sameWords_eventRecorded s e).get (route_notMem_recorded e)

@[simp] theorem has_en_eventRecorded : (s.eventRecorded e).has (R.EV_ROUTE_EN e) = s.has (R.EV_ROUTE_EN e) :=
  (sameWords_eventRecorded s e).has (route_notMem_recorded e)

@[simp] theorem eventRecorded_evLines : (s.eventRecorded e).evLines = s.evLines := rfl

@[simp] theorem eventRecorded_cap : (s.eventRecorded e).cap = s.cap := rfl

@[simp] theorem eventRecorded_host : (s.eventRecorded e).host = s.host := rfl

@[simp] theorem lineReady_eventRecorded (l : Nat) : (s.eventRecorded e).lineReady l = s.lineReady l := rfl

end Recorded

/-! ### What a message, a line and the trigger matrix take of a delivery -/

section Carriers

variable {s : State}

/-- R839: a message depends on the host port alone. -/
theorem msix_host_congr {t : State} (h : t.host = s.host) (v : Nat) : (t.msix v).host = (s.msix v).host := by
  unfold State.msix
  rw [h]
  dsimp only
  split
  · exact h
  · split <;> rfl

@[simp] theorem eventLine_host (l : Nat) : (s.eventLine l).host = s.host := by
  unfold State.eventLine
  split <;> rfl

theorem eventLine_evLines (l : Nat) : (s.eventLine l).evLines = if s.lineReady l = true then s.evLines ^^^ 2 ^ l else s.evLines := by
  unfold State.eventLine
  split <;> rfl

/-- R368: an event on a line that toggled too recently is merged into the line's next toggle. -/
theorem eventLine_waits {l : Nat} (h : s.lineReady l = false) : (s.eventLine l).evWait.contains l = true := by
  have hwait : s.eventLine l = { s with evWait := l :: s.evWait.filter (· != l) } := if_neg (Bool.eq_false_iff.1 h)
  simp [hwait]

end Carriers

/-! ### An event is delivered on its route (R849) -/

section Delivered

variable (s : State) (e : Nat) (was : Bool)

/-- R849: the route is enabled and of KIND `k`. -/
abbrev State.routedBy (k : Nat) : Prop := s.has (R.EV_ROUTE_EN e) = true ∧ s.get (R.EV_ROUTE_KIND e) = k

/-- R849: a delivery is a message, an event line's, a trigger pulse, or nothing. -/
theorem deliver_cases :
    ((s.routedBy e 1 ∧ was = false) ∧ s.deliver e was = s.msix (s.get (R.EV_ROUTE_TARGET e)))
      ∨ (s.routedBy e 2 ∧ s.deliver e was = s.eventLine (s.get (R.EV_ROUTE_TARGET e) % 32))
      ∨ (s.routedBy e 3 ∧ s.deliver e was = s.pulse (32 + s.get (R.EV_ROUTE_TARGET e) % 8))
      ∨ (¬(s.routedBy e 1 ∧ was = false) ∧ ¬s.routedBy e 2 ∧ ¬s.routedBy e 3 ∧ s.deliver e was = s) := by
  by_cases hon : s.has (R.EV_ROUTE_EN e) = true
  case neg => exact .inr (.inr (.inr ⟨fun h => hon h.1.1, fun h => hon h.1, fun h => hon h.1, by simp [State.deliver, hon]⟩))
  by_cases hmessage : s.get (R.EV_ROUTE_KIND e) = 1
  · cases was with
    | false => exact .inl ⟨⟨⟨hon, hmessage⟩, rfl⟩, by simp [State.deliver, hon, hmessage]⟩
    | true => exact .inr (.inr (.inr (by simp [State.routedBy, State.deliver, hon, hmessage])))
  by_cases hline : s.get (R.EV_ROUTE_KIND e) = 2
  · exact .inr (.inl ⟨⟨hon, hline⟩, by simp [State.deliver, hon, hline]⟩)
  by_cases hpulse : s.get (R.EV_ROUTE_KIND e) = 3
  · exact .inr (.inr (.inl ⟨⟨hon, hpulse⟩, by simp [State.deliver, hon, hpulse, State.pulse]⟩))
  · exact .inr (.inr (.inr (by simp [State.routedBy, State.deliver, hmessage, hline, hpulse])))

/-- A route has one KIND. -/
theorem not_routedBy {s : State} {e j k : Nat} (h : s.routedBy e j) (hne : j ≠ k) : ¬s.routedBy e k := fun hk =>
  hne (h.2.symm.trans hk.2)

theorem deliver_evLines :
    (s.deliver e was).evLines = if s.routedBy e 2 ∧ s.lineReady (s.get (R.EV_ROUTE_TARGET e) % 32) = true then
      s.evLines ^^^ 2 ^ (s.get (R.EV_ROUTE_TARGET e) % 32) else s.evLines := by
  rcases deliver_cases s e was with ⟨⟨hroute, -⟩, h⟩ | ⟨hroute, h⟩ | ⟨hroute, h⟩ | ⟨-, hnot, -, h⟩
  · rw [h, msix_evLines, if_neg fun hline => not_routedBy hroute (by decide) hline.1]
  · rw [h, eventLine_evLines]
    simp only [and_iff_right hroute]
  · rw [h, if_neg fun hline => not_routedBy hroute (by decide) hline.1]
    rfl
  · rw [h, if_neg fun hline => hnot hline.1]

theorem deliver_waits (hroute : s.routedBy e 2) (hready : s.lineReady (s.get (R.EV_ROUTE_TARGET e) % 32) = false) :
    (s.deliver e was).evWait.contains (s.get (R.EV_ROUTE_TARGET e) % 32) = true := by
  rcases deliver_cases s e was with ⟨⟨hother, -⟩, -⟩ | ⟨-, h⟩ | ⟨hother, -⟩ | ⟨-, hnot, -, -⟩
  · exact absurd hroute (not_routedBy hother (by decide))
  · rw [h]
    exact eventLine_waits hready
  · exact absurd hroute (not_routedBy hother (by decide))
  · exact absurd hroute hnot

theorem deliver_cap_pulsed :
    (s.deliver e was).cap = if s.routedBy e 3 then
      { s.cap with pulses := setBit s.cap.pulses (32 + s.get (R.EV_ROUTE_TARGET e) % 8) } else s.cap := by
  rcases deliver_cases s e was with ⟨⟨hroute, -⟩, h⟩ | ⟨hroute, h⟩ | ⟨hroute, h⟩ | ⟨-, -, hnot, h⟩
  · rw [h, msix_cap, if_neg (not_routedBy hroute (by decide))]
  · rw [h, eventLine_cap, if_neg (not_routedBy hroute (by decide))]
  · rw [h, if_pos hroute]
    rfl
  · rw [h, if_neg hnot]

theorem deliver_host :
    (s.deliver e was).host = if s.routedBy e 1 ∧ was = false then (s.msix (s.get (R.EV_ROUTE_TARGET e))).host else s.host := by
  rcases deliver_cases s e was with ⟨hroute, h⟩ | ⟨hroute, h⟩ | ⟨hroute, h⟩ | ⟨hnot, -, -, h⟩
  · rw [h, if_pos hroute]
  · rw [h, eventLine_host, if_neg fun hmessage => not_routedBy hroute (by decide) hmessage.1]
  · rw [h, if_neg fun hmessage => not_routedBy hroute (by decide) hmessage.1]
    rfl
  · rw [h, if_neg hnot]

end Delivered

/-- Settles O7: the source records the event, which leaves its route as it was, and the delivery on that route writes no register. -/
theorem eventsAreSetCountedAndDelivered : Obligations.EventsAreSetCountedAndDelivered := by
  intro s e he hpresent
  have hraise := raise_of_present hpresent
  refine ⟨eventSet_raise s e hpresent, ?count, fun f hf hne => eventSet_raise_ne s hf hne, ?words, ?lines, ?waits, ?pulses, ?messages,
    raise_gaf s e, sameStores_raise s e⟩
  case count =>
    rw [hraise, State.get, reg_deliver]
    exact get_count_eventRecorded s e
  case words => exact (sameWords.refl s _).raise e (.head _) (.tail _ (.head _))
  case lines => simp [hraise, deliver_evLines, State.routedBy, and_assoc]
  case waits =>
    intro hon hkind hready
    have hroute : (s.eventRecorded e).routedBy e 2 := by simp [State.routedBy, hon, hkind]
    rw [hraise, ← get_target_eventRecorded]
    exact deliver_waits _ e _ hroute (by simpa using hready)
  case pulses => simp [hraise, deliver_cap_pulsed, State.routedBy]
  case messages =>
    rw [hraise, deliver_host, msix_host_congr (eventRecorded_host s e)]
    simp [State.routedBy, and_assoc]

end Sys2Proof.Machine
end

section
/-!
PROOFS. The family of context planes and placements: the rows of contexts and of the fabric's I/O (O45), of the library and of migrations
(O48), a switch that is taken (O46) and one that is refused (O47).
-/

namespace Sys2Proof.Machine

open Sys2Proof

/-! ### CONTEXT_SWITCH at a switching edge (R388, R398, R401) -/

/-- R388, R401: this pip has the switching edge of region `r` for the pending request `p`, which is its group's, or its own. -/
structure SwitchDue (s : State) (r g : Nat) (p : PendSwitch) : Prop where
  named : s.groupOf r = some g ∨ (s.groupOf r = none ∧ g = 128 + r)
  pending : tblFind g s.fab.pend = some p
  member : p.members.contains r = true
  late : p.at_ + 4 ≤ s.tb.now
  alive : s.inDead r = false
  edge : s.switchEdge r p.plane = true

section Switch

variable {s : State} {r g : Nat} {p : PendSwitch}

theorem SwitchDue.group (h : SwitchDue s r g p) : (s.groupOf r).getD (128 + r) = g := by
  rcases h.named with hgroup | ⟨hnone, rfl⟩
  · rw [hgroup]
    rfl
  · rw [hnone]
    rfl

/-- R398: a request whose target a member may not switch to is refused. -/
theorem contextSwitch_refused (h : SwitchDue s r g p) (hbegan : p.began = false) (hallowed : s.switchAllowed p.members p.plane = false) :
    contextSwitch s r = (s.refuseSwitch p.members).endPend g := by
  have hlate := Nat.not_lt.2 h.late
  have hmember := h.member
  simp only [List.contains_eq_mem, decide_eq_true_eq] at hmember
  simp [contextSwitch, h.group, h.pending, hmember, hlate, h.alive, h.edge, hbegan, hallowed]

/-- R388: a request that begins takes the members that do not show its plane yet. -/
theorem contextSwitch_begins (h : SwitchDue s r g p) (hbegan : p.began = false) (hallowed : s.switchAllowed p.members p.plane = true)
    (hactive : s.activeOf r ≠ p.plane) :
    let todo := p.members.filter (fun m => s.activeOf m != p.plane)
    contextSwitch s r = (s.beginSwitch p todo).switchRegion g r p todo := by
  intro todo
  have hlate := Nat.not_lt.2 h.late
  have hmember := h.member
  simp only [List.contains_eq_mem, decide_eq_true_eq] at hmember
  have htodo : r ∈ todo := List.mem_filter.2 ⟨hmember, by simpa using hactive⟩
  have hsome : todo ≠ [] := List.ne_nil_of_mem htodo
  simp [contextSwitch, h.group, h.pending, hmember, hlate, h.alive, h.edge, hbegan, hallowed, htodo, hsome, todo]

/-- R388: a request that has begun goes on in the members that are left, and is not checked again. -/
theorem contextSwitch_goesOn (h : SwitchDue s r g p) (hbegan : p.began = true) :
    contextSwitch s r = (s.beginSwitch p p.members).switchRegion g r p p.members := by
  have hlate := Nat.not_lt.2 h.late
  have hmember := h.member
  simp only [List.contains_eq_mem, decide_eq_true_eq] at hmember
  have hsome : p.members ≠ [] := List.ne_nil_of_mem hmember
  simp [contextSwitch, h.group, h.pending, hmember, hlate, h.alive, h.edge, hbegan, hsome]

end Switch

/-! ### Loads (R405, R406) -/

section Loads

variable {s : State} {l : Load} {rest : List Load} (fail : Bool)

theorem configLoadStart_idle (h : s.get R.CF_LOAD_STATUS_BUSY = 0) : configLoadStart s = s.beginLoad := by
  simp [configLoadStart, State.has, h]

variable (hloads : s.fab.loads = l :: rest) (hbusy : s.get R.CF_LOAD_STATUS_BUSY = 1)

include hloads hbusy

theorem execConfigLoadComplete_boot (hkind : l.kind = .boot) : execConfigLoadComplete fail s = .next (s.bootLoaded l fail) := by
  simp [execConfigLoadComplete, State.has, hloads, hbusy, hkind]

theorem execConfigLoadComplete_migrate (hkind : l.kind = .migrate) : execConfigLoadComplete fail s
    = .next (migrateLoaded (State.showLoad { s with fab := { s.fab with loads := rest } } false) l fail) := by
  simp [execConfigLoadComplete, State.has, hloads, hbusy, hkind]

theorem execConfigLoadComplete_other (hboot : l.kind ≠ .boot) (hmigrate : l.kind ≠ .migrate) :
    execConfigLoadComplete fail s = .next (loadComplete s fail) := by
  simp only [execConfigLoadComplete, State.has, hloads, hbusy]
  cases hkind : l.kind with
  | boot => exact absurd hkind hboot
  | migrate => exact absurd hkind hmigrate
  | _ => rfl

end Loads

/-! ### Scrubbing (R408, R411, R344) -/

section Scrub

variable {s : State} {r p frame : Nat}

/-- R408, R420: a frame without an error, with which a pass ends, shows in the pass's registers alone. -/
theorem scrubFrame_clean (us : Nat) (hmode : s.mode ≠ mLehr) (hturn : s.scrubTurn (16384 * (8 * r + p) + frame) = true) :
    scrubFrame s r p frame 0 (some us)
      = ((s.wrapInc R.CF_SCRUB_STATUS_PASSES).setReg R.CF_SCRUB_PERIOD us).riserRead (16384 * (8 * r + p) + frame) := by
  simp [scrubFrame, hmode, hturn]

@[simp] theorem reg_riserRead (s : State) (key off : Nat) : (s.riserRead key).reg off = s.reg off := rfl

/-- R408, R420: what the registers show of a symbol corrected in a frame; `riser`: one that a riser's
decoding had the scrubber read. -/
def State.correctionShown (s : State) (r p frame : Nat) (riser : Bool) : State :=
  let u := ((s.bump R.CF_SCRUB_CORRECTED_COUNT).put R.CF_SCRUB_STATUS_CORR_SEEN 1).scrubLast r p frame false
  if riser then u.put R.CF_SCRUB_STATUS_RISER_SEEN 1 else u

theorem scrubFrame_corrected (hmode : s.mode ≠ mLehr) (hturn : s.scrubTurn (16384 * (8 * r + p) + frame) = true)
    (hplane : s.planeState r p ≠ plLoading) :
    let key := 16384 * (8 * r + p) + frame
    scrubFrame s r p frame 1 none = ((s.riserRead key).correctionShown r p frame (s.fab.scrubFirst.contains key)).raise 274 := by
  simp [scrubFrame, hmode, hturn, hplane, State.correctionShown]

theorem sameButRegs_correctionShown (s : State) (r p frame : Nat) (riser : Bool) : sameButRegs s (s.correctionShown r p frame riser) := by
  have hlast : sameButRegs s (((s.bump R.CF_SCRUB_CORRECTED_COUNT).put R.CF_SCRUB_STATUS_CORR_SEEN 1).scrubLast r p frame false) :=
    ((((((sameButRegs.refl s).put _ _).put _ _).put _ _).put _ _).put _ _).put _ _
  cases riser
  · exact hlast
  · exact hlast.put _ _

theorem get_scrubLast (s : State) (r p frame : Nat) (uncorr : Bool) {f : RF} (hf : f.off ≠ R.CF_SCRUB_LAST) :
    (s.scrubLast r p frame uncorr).get f = s.get f := by
  unfold State.scrubLast
  rw [get_put_apart _ _ R.CF_SCRUB_LAST_UNCORR _ (by decide) (.inl hf), get_put_apart _ _ R.CF_SCRUB_LAST_FRAME _ (by decide) (.inl hf),
    get_put_apart _ _ R.CF_SCRUB_LAST_PLANE _ (by decide) (.inl hf), get_put_apart _ _ R.CF_SCRUB_LAST_REGION _ (by decide) (.inl hf)]

theorem get_correctionShown (s : State) (r p frame : Nat) (riser : Bool) {f : RF} (hlast : f.off ≠ R.CF_SCRUB_LAST)
    (hriser : f.apart R.CF_SCRUB_STATUS_RISER_SEEN) :
    (s.correctionShown r p frame riser).get f
      = ((s.bump R.CF_SCRUB_CORRECTED_COUNT).put R.CF_SCRUB_STATUS_CORR_SEEN 1).get f := by
  unfold State.correctionShown
  cases riser
  · exact get_scrubLast _ r p frame false hlast
  · exact (get_put_apart _ _ R.CF_SCRUB_STATUS_RISER_SEEN 1 (by decide) hriser).trans (get_scrubLast _ r p frame false hlast)

theorem get_corrSeen_correctionShown (s : State) (r p frame : Nat) (riser : Bool) :
    (s.correctionShown r p frame riser).get R.CF_SCRUB_STATUS_CORR_SEEN = 1 := by
  rw [get_correctionShown s r p frame riser (by decide) (.inr (by decide)), get_put_same _ _ _ (by decide)]
  rfl

theorem get_count_correctionShown (s : State) (r p frame : Nat) (riser : Bool) :
    (s.correctionShown r p frame riser).get R.CF_SCRUB_CORRECTED_COUNT
      = min (s.get R.CF_SCRUB_CORRECTED_COUNT + 1) (2 ^ R.CF_SCRUB_CORRECTED_COUNT.w - 1) := by
  rw [get_correctionShown s r p frame riser (by decide) (.inl (by decide)), get_put_apart _ _ _ _ (by decide) (.inl (by decide)),
    get_bump_same _ _ (by decide)]

end Scrub

/-- R342, R344, R411: the first time that a riser of a VALID plane decodes 0b11. -/
theorem execRiserIllegalDecode_first {s : State} {pair : Fin 24} {x : RiserSite}
    (hplane : s.planeState (if x.upper then pair else 24 + pair) (s.activeOf (24 + pair)) = plValid)
    (hfirst : tblFind (riserKey pair x.tile x.upper x.riser) s.fab.illegal = none) :
    let key := s.riserFrame pair x
    execRiserIllegalDecode pair x s = .next { s.raise 279 with
      fab := { s.fab with scrubFirst := s.fab.scrubFirst.filter (fun y => y != key) ++ [key],
                          illegal := tblPut (riserKey pair x.tile x.upper x.riser) key s.fab.illegal } } := by
  simp [execRiserIllegalDecode, hplane, hfirst]

/-! ### I/O delay lines (R376, R377) -/

section DelayLines

variable {s : State} {io : Fin 288}

theorem execIoDelayLoad_driven (v : BitVec 9) (h : s.ioDriven io = true) : execIoDelayLoad io v s = .next (s.setTap io v.toNat) := if_pos h

theorem execIoDelayInc_driven (h : s.ioDriven io = true) : execIoDelayInc io false s = .next (s.setTap io (min 511 (s.tapOf io + 1))) := by
  simp [execIoDelayInc, h]

theorem execIoDelayDec_driven (h : s.ioDriven io = true) : execIoDelayDec io false s = .next (s.setTap io (s.tapOf io - 1)) := by
  simp [execIoDelayDec, h]

/-- R377: with the other strobe in the same cycle neither acts. -/
theorem execIoDelayInc_both (s : State) (io : Fin 288) : execIoDelayInc io true s = .next s := by simp [execIoDelayInc]

theorem execIoDelayDec_both (s : State) (io : Fin 288) : execIoDelayDec io true s = .next s := by simp [execIoDelayDec]

end DelayLines

/-- Settles O45. -/
theorem contextRowsAct : Obligations.ContextRowsAct := by
  intro s
  refine ⟨?switch, fun h => congrArg Host.Outcome.next (configLoadStart_idle h), ?complete, ?clean, ?corrected, ?riser, ?delay⟩
  case switch =>
    intro r g p hnamed hpending hmember hlate halive hedge
    have hdue : SwitchDue s r g p := ⟨hnamed, hpending, hmember, hlate, halive, hedge⟩
    exact ⟨fun hbegan hallowed hactive => congrArg Host.Outcome.next (contextSwitch_begins hdue hbegan hallowed hactive),
      fun hbegan => congrArg Host.Outcome.next (contextSwitch_goesOn hdue hbegan)⟩
  case complete =>
    intro l rest fail hloads hbusy
    exact ⟨execConfigLoadComplete_boot fail hloads hbusy, execConfigLoadComplete_migrate fail hloads hbusy,
      execConfigLoadComplete_other fail hloads hbusy⟩
  case clean =>
    intro r p frame us hmode hturn
    refine ⟨_, congrArg Host.Outcome.next (scrubFrame_clean us.toNat hmode hturn), ?_, ?_, rfl, rfl⟩
    · rw [reg_riserRead, reg_setReg_same, Nat.mod_eq_of_lt us.isLt]
    · exact ((sameWords.refl s _).put R.CF_SCRUB_STATUS_PASSES (.tail _ (.head _)) _).setReg (.head _) us.toNat
  case corrected =>
    intro r p frame hmode hplane hturn
    obtain ⟨_, _, hregs⟩ := sameButRegs_correctionShown (s.riserRead (16384 * (8 * r + p) + frame)) r p frame
      (s.fab.scrubFirst.contains (16384 * (8 * r + p) + frame))
    refine ⟨_, congrArg Host.Outcome.next (scrubFrame_corrected hmode hturn (hplane ▸ by decide)), ?_, ?_, ?_, ?_, ?_⟩
    · rw [get_raise_ne _ (by decide) (by decide), get_corrSeen_correctionShown]
    · rw [get_raise_ne _ (by decide) (by decide), get_count_correctionShown]
      rfl
    · exact eventSet_raise _ 274 (eventAbsent_of_gt _ (by decide))
    · rw [raise_mem, hregs]
      rfl
    · rw [raise_gaf, hregs]
      rfl
  case riser =>
    intro pair x hplane k key hfirst
    exact ⟨_, execRiserIllegalDecode_first hplane hfirst, eventSet_raise s 279 (eventAbsent_of_gt _ (by decide)), rfl, raise_mem s 279,
      raise_gaf s 279⟩
  case delay =>
    intro io hdriven
    exact ⟨fun v => execIoDelayLoad_driven v hdriven, execIoDelayInc_driven hdriven, execIoDelayDec_driven hdriven,
      execIoDelayInc_both s io, execIoDelayDec_both s io⟩

/-! ### Migrations and sets that a drain moves (R451, R454) -/

section BankCopies

variable (s : State)

/-- R451: a LOCAL set of a migration that has moved is copied unless it has been. -/
def Migration.copyBegun (m : Migration) : Migration := if m.moved && !m.copying && !m.copied then { m with copying := true } else m

theorem copying_copyBegun {m : Migration} (hmoved : m.copyBegun.moved = true) (hcopied : m.copyBegun.copied = false) :
    m.copyBegun.copying = true := by
  by_cases hdue : (m.moved && !m.copying && !m.copied) = true
  · rw [Migration.copyBegun, if_pos hdue]
  · rw [Migration.copyBegun, if_neg hdue] at *
    simpa [hmoved, hcopied] using hdue

/-- R454: a set that a drain moves is copied unless it has been. -/
def SetMove.copyBegun (m : SetMove) : SetMove := { m with copying := !m.copied }

/-- R451, R454: the copies begin. -/
def State.copiesBegun : State :=
  { s with fab := { s.fab with migrations := s.fab.migrations.map Migration.copyBegun, setMoves := s.fab.setMoves.map SetMove.copyBegun } }

variable {s} in
theorem execBankCopyStart_due (h : 256 ≤ s.tb.pip) : execBankCopyStart s = .next s.copiesBegun := if_neg (Nat.not_lt.2 h)

/-- A copy of banks changes the SRAM alone. -/
theorem copySet_eq (old new : List Nat) : s.copySet old new = { s with sram := (s.copySet old new).sram } :=
  forEach_preserves (P := fun t => t = { s with sram := t.sram }) rfl fun _ _ t ht => by rw [ht]; rfl

/-- What a copy leaves in the SRAM depends on the SRAM alone. -/
theorem copySet_withFab (f : Fabric) (old new : List Nat) :
    State.copySet { s with fab := f } old new = { s.copySet old new with fab := f } := by
  unfold State.copySet forEach
  induction old.zip new generalizing s with
  | nil => rfl
  | cons x rest ih => exact ih (s.copyBank x.1 x.2)

variable {s} in
/-- R454: where no migration copies, the copy of the first set that a drain moves ends. -/
theorem execBankCopyEnd_set {m : SetMove} (hnone : s.fab.migrations.find? (fun m => m.copying) = none)
    (hsome : s.fab.setMoves.find? (fun m => m.copying) = some m) :
    execBankCopyEnd s = .next { s.copySet m.old m.new with
      fab := { s.fab with
        setMoves := s.fab.setMoves.map (fun x => if x = m then { m with copying := false, copied := true } else x) } } := by
  rw [← copySet_withFab]
  simp [execBankCopyEnd, hnone, hsome]

variable {s} in
/-- R451: the copy of the migration that began first ends, and its switch is scheduled. -/
theorem execBankCopyEnd_migration {m : Migration} (h : s.fab.migrations.find? (fun m => m.copying) = some m) :
    execBankCopyEnd s = .next (((forEach m.copies (fun x t => t.copySet x.1 x.2) s).setMigration
      { m with copying := false, copied := true }).migrationSwitch m m.ran) := by
  simp [execBankCopyEnd, h]

end BankCopies

/-! ### Adding a piece (R432) -/

section LibraryAdd

variable {s : State} {o : Op} {q : Piece} (hadd : s.dropDeadAdds.gaf.ops.find? (fun o => o.command == 0x0300) = some o)
  (hpiece : tblFind (o.args.getD 2 0) s.dropDeadAdds.fab.pieces = some q)

include hadd hpiece

/-- R432: the checks of the piece pass. -/
theorem libraryAddComplete_passed {p : State × Nat × Nat × Tbl (List Byte)}
    (hp : pieceOutcome s.dropDeadAdds (o.args.getD 0 0) q.manifest = p) (hok : p.2.1 = stOk) :
    libraryAddComplete s = (State.endOp { p.1 with fab := { p.1.fab with
      pieces := tblPut (o.args.getD 2 0) { q with adding := false, frames := p.2.2.2 } p.1.fab.pieces } } o stOk 0).showPlaced := by
  simp only [libraryAddComplete, hadd, hpiece, hp]
  exact if_pos hok

/-- R432: a check of the piece fails. -/
theorem libraryAddComplete_failed {p : State × Nat × Nat × Tbl (List Byte)}
    (hp : pieceOutcome s.dropDeadAdds (o.args.getD 0 0) q.manifest = p) (hbad : p.2.1 ≠ stOk) :
    libraryAddComplete s = (p.1.drawn.endOp (p.1.partChecked o) p.2.1 p.2.2.1).dropDeadAdds := by
  simp only [libraryAddComplete, hadd, hpiece, hp]
  exact if_neg hbad

end LibraryAdd

/-- Settles O48. -/
theorem placementRowsAct : Obligations.PlacementRowsAct := by
  intro s
  refine ⟨fun hpip => ⟨s.copiesBegun, execBankCopyStart_due hpip, rfl, rfl, rfl, ?migrations, ?sets⟩,
    fun m hcopying => execBankCopyEnd_migration hcopying, ?setEnd, ?library⟩
  case migrations =>
    intro m hm hmoved hcopied
    obtain ⟨n, -, rfl⟩ := List.mem_map.1 hm
    exact copying_copyBegun hmoved hcopied
  case sets =>
    intro m hm hcopied
    obtain ⟨n, -, rfl⟩ := List.mem_map.1 hm
    simpa [SetMove.copyBegun] using hcopied
  case setEnd =>
    intro m hnone hsome
    refine ⟨_, execBankCopyEnd_set hnone hsome, rfl, rfl, ?_, ?_⟩
    · rw [copySet_eq]
    · rw [copySet_eq]
  case library =>
    intro o q u h p hadd hpiece
    exact ⟨fun hok => congrArg Host.Outcome.next (libraryAddComplete_passed hadd hpiece rfl hok),
      fun hbad => congrArg Host.Outcome.next (libraryAddComplete_failed hadd hpiece rfl hbad)⟩

/-! ### A region takes a plane (R360, R387, R388, R401) -/

section TakePlane

variable (s : State) (r plane : Nat)

/-- R387, R388, R401: what a region's registers show from its switching edge on; `ran`: it ran before. -/
def State.switchShown (ran : Bool) : State :=
  let t := ((s.put (R.CF_CTX_STATE_ACTIVE r) plane).bump (R.CF_CTX_SWITCHES_COUNT r)).put (R.CF_CTX_LAST_TURN_TURN r) s.tb.turn
  let t := ((t.put (R.CF_CTX_LAST_PIP_PIP r) s.tb.pip).put (R.CF_CTX_STATE_PEND r) 0).put (R.CF_CTX_STATE_PEND_PLANE r) 0
  if ran then t.put (R.CF_CTX_STATE_STATE r) rgSwitching else t

theorem reloadTaps_regs : (s.reloadTaps r).regs = s.regs := by
  unfold State.reloadTaps
  dsimp only
  split
  · rfl
  · refine iterate_preserves (P := fun t => t.regs = s.regs) rfl fun i t ht => ?_
    split
    · split <;> exact ht
    · exact ht

theorem releaseFlops_regs : (s.releaseFlops r).regs = s.regs := by
  unfold State.releaseFlops
  split <;> rfl

/-- R388: at E0 the region has captured, its reinserted frames are cut, and its dead cycle has begun; the registers do not show it yet. -/
def State.deadBegun : State :=
  let t := (s.captureE0 r).cutReinserted r
  { t with fab := { t.fab with planesBefore := tblPut r ((t.tb.now, t.activeOf r) :: t.planesOf r) t.fab.planesBefore
                               dead := tblPut r t.tb.now t.fab.dead } }

theorem takePlane_eq : s.takePlane r plane = State.reloadTaps (if s.runs r then (s.deadBegun r).switchShown r plane true
    else ((s.deadBegun r).switchShown r plane false).releaseFlops r) r := rfl

theorem get_takePlane (f : RF) : (s.takePlane r plane).get f = ((s.deadBegun r).switchShown r plane (s.runs r)).get f := by
  unfold State.get State.reg
  rw [takePlane_eq, reloadTaps_regs]
  cases s.runs r
  · exact congrArg (fun regs => bits (tblGet resetWord regs f.off).toNat f.lo f.w) (releaseFlops_regs _ r)
  · rfl

variable {s r} in
/-- R360: where no frame that the region reinserts is in progress, none is cut. -/
theorem cutReinserted_of_none (h : ∀ e ∈ s.cap.open_, e.2.origin = 1 → e.2.region ≠ r) : s.cutReinserted r = s := by
  have hnone : s.cap.open_.filter (fun e => e.2.origin == 1 && e.2.region == r) = [] := by
    simpa [List.filter_eq_nil_iff] using h
  unfold State.cutReinserted
  rw [hnone]
  rfl

variable {s r} in
theorem get_deadBegun_of_none (h : ∀ e ∈ s.cap.open_, e.2.origin = 1 → e.2.region ≠ r) (f : RF) :
    (s.deadBegun r).get f = s.get f := by
  change ((s.captureE0 r).cutReinserted r).get f = s.get f
  rw [cutReinserted_of_none (s := s.captureE0 r) h]
  rfl

/-! #### The registers of a switch -/

variable (ran : Bool)

/-- The last write of a switch is of STATE. -/
theorem get_switchShown_apart {f : RF} (hstate : f.apart (R.CF_CTX_STATE_STATE r)) :
    (s.switchShown r plane ran).get f = (s.switchShown r plane false).get f := by
  cases ran
  · rfl
  · exact get_put_apart _ f (R.CF_CTX_STATE_STATE r) _ (Nat.le_of_ble_eq_true rfl) hstate

/-- The counts and instants of a switch are in other words than its region's state. -/
theorem get_switchShown_word {f : RF} (hf : f.off = R.CF_CTX_STATE r) (hpend : f.apart (R.CF_CTX_STATE_PEND r))
    (hplane : f.apart (R.CF_CTX_STATE_PEND_PLANE r)) :
    (s.switchShown r plane false).get f = (s.put (R.CF_CTX_STATE_ACTIVE r) plane).get f := by
  have hcount : f.off ≠ R.CF_CTX_SWITCHES r := by rw [hf]; unfold R.CF_CTX_STATE R.CF_CTX_SWITCHES; omega
  have hturn : f.off ≠ R.CF_CTX_LAST_TURN r := by rw [hf]; unfold R.CF_CTX_STATE R.CF_CTX_LAST_TURN; omega
  have hpip : f.off ≠ R.CF_CTX_LAST_PIP r := by rw [hf]; unfold R.CF_CTX_STATE R.CF_CTX_LAST_PIP; omega
  calc (s.switchShown r plane false).get f
    _ = _ := get_put_apart _ f (R.CF_CTX_STATE_PEND_PLANE r) 0 (Nat.le_of_ble_eq_true rfl) hplane
    _ = _ := get_put_apart _ f (R.CF_CTX_STATE_PEND r) 0 (Nat.le_of_ble_eq_true rfl) hpend
    _ = _ := get_put_apart _ f (R.CF_CTX_LAST_PIP_PIP r) _ (Nat.le_of_ble_eq_true rfl) (.inl hpip)
    _ = _ := get_put_apart _ f (R.CF_CTX_LAST_TURN_TURN r) _ (Nat.le_of_ble_eq_true rfl) (.inl hturn)
    _ = _ := get_bump_apart _ f (R.CF_CTX_SWITCHES_COUNT r) (Nat.le_of_ble_eq_true rfl) (.inl hcount)

theorem get_active_switchShown (h : plane < 8) : (s.switchShown r plane ran).get (R.CF_CTX_STATE_ACTIVE r) = plane := by
  rw [get_switchShown_apart _ _ _ _ (.inr (.inl (Nat.le_of_ble_eq_true rfl))),
    get_switchShown_word _ _ _ rfl (.inr (.inl (Nat.le_of_ble_eq_true rfl))) (.inr (.inl (Nat.le_of_ble_eq_true rfl))),
    get_put_same _ _ _ (Nat.le_of_ble_eq_true rfl)]
  exact Nat.mod_eq_of_lt h

theorem get_state_switchShown : (s.switchShown r plane ran).get (R.CF_CTX_STATE_STATE r)
    = if ran = true then rgSwitching else s.get (R.CF_CTX_STATE_STATE r) := by
  cases ran
  · rw [get_switchShown_word _ _ _ rfl (.inr (.inl (Nat.le_of_ble_eq_true rfl))) (.inr (.inl (Nat.le_of_ble_eq_true rfl)))]
    exact get_put_apart s _ (R.CF_CTX_STATE_ACTIVE r) plane (Nat.le_of_ble_eq_true rfl) (.inr (.inr (Nat.le_of_ble_eq_true rfl)))
  · exact get_put_same _ (R.CF_CTX_STATE_STATE r) rgSwitching (Nat.le_of_ble_eq_true rfl)

theorem get_pend_switchShown : (s.switchShown r plane ran).get (R.CF_CTX_STATE_PEND r) = 0 := by
  rw [get_switchShown_apart _ _ _ _ (.inr (.inr (Nat.le_of_ble_eq_true rfl)))]
  calc (s.switchShown r plane false).get (R.CF_CTX_STATE_PEND r)
    _ = _ := get_put_apart _ _ (R.CF_CTX_STATE_PEND_PLANE r) 0 (Nat.le_of_ble_eq_true rfl) (.inr (.inr (Nat.le_of_ble_eq_true rfl)))
    _ = 0 := get_put_same _ (R.CF_CTX_STATE_PEND r) 0 (Nat.le_of_ble_eq_true rfl)

theorem get_count_switchShown : (s.switchShown r plane ran).get (R.CF_CTX_SWITCHES_COUNT r)
    = min (s.get (R.CF_CTX_SWITCHES_COUNT r) + 1) (2 ^ (R.CF_CTX_SWITCHES_COUNT r).w - 1) := by
  have hstate : R.CF_CTX_SWITCHES r ≠ R.CF_CTX_STATE r := by unfold R.CF_CTX_STATE R.CF_CTX_SWITCHES; omega
  have hturn : R.CF_CTX_SWITCHES r ≠ R.CF_CTX_LAST_TURN r := by unfold R.CF_CTX_SWITCHES R.CF_CTX_LAST_TURN; omega
  have hpip : R.CF_CTX_SWITCHES r ≠ R.CF_CTX_LAST_PIP r := by unfold R.CF_CTX_SWITCHES R.CF_CTX_LAST_PIP; omega
  rw [get_switchShown_apart _ _ _ _ (.inl hstate)]
  calc (s.switchShown r plane false).get (R.CF_CTX_SWITCHES_COUNT r)
    _ = _ := get_put_apart _ _ (R.CF_CTX_STATE_PEND_PLANE r) 0 (Nat.le_of_ble_eq_true rfl) (.inl hstate)
    _ = _ := get_put_apart _ _ (R.CF_CTX_STATE_PEND r) 0 (Nat.le_of_ble_eq_true rfl) (.inl hstate)
    _ = _ := get_put_apart _ _ (R.CF_CTX_LAST_PIP_PIP r) _ (Nat.le_of_ble_eq_true rfl) (.inl hpip)
    _ = _ := get_put_apart _ _ (R.CF_CTX_LAST_TURN_TURN r) _ (Nat.le_of_ble_eq_true rfl) (.inl hturn)
    _ = _ := get_bump_same _ (R.CF_CTX_SWITCHES_COUNT r) (Nat.le_of_ble_eq_true rfl)
    _ = _ := by rw [get_put_apart s _ (R.CF_CTX_STATE_ACTIVE r) plane (Nat.le_of_ble_eq_true rfl) (.inl hstate)]

/-- The words of a region that a switch of it writes. -/
def switchWords : List Nat := [R.CF_CTX_STATE r, R.CF_CTX_SWITCHES r, R.CF_CTX_LAST_TURN r, R.CF_CTX_LAST_PIP r]

theorem sameWords_switchShown : sameWords s (s.switchShown r plane ran) (switchWords r) := by
  have hstate : R.CF_CTX_STATE r ∈ switchWords r := .head _
  have hshown : sameWords s (s.switchShown r plane false) (switchWords r) :=
    ((((((sameWords.refl s _).put (R.CF_CTX_STATE_ACTIVE r) hstate plane).bump (R.CF_CTX_SWITCHES_COUNT r) (.tail _ (.head _))).put
      (R.CF_CTX_LAST_TURN_TURN r) (.tail _ (.tail _ (.head _))) _).put
      (R.CF_CTX_LAST_PIP_PIP r) (.tail _ (.tail _ (.tail _ (.head _)))) _).put (R.CF_CTX_STATE_PEND r) hstate 0).put (R.CF_CTX_STATE_PEND_PLANE r) hstate 0
  cases ran
  · exact hshown
  · exact hshown.put (R.CF_CTX_STATE_STATE r) hstate rgSwitching

variable {r} in
theorem state_notMem_switchWords {m : Nat} (h : m ≠ r) : R.CF_CTX_STATE m ∉ switchWords r := by
  simp only [switchWords, List.mem_cons, List.not_mem_nil, or_false, not_or, R.CF_CTX_STATE, R.CF_CTX_SWITCHES, R.CF_CTX_LAST_TURN,
    R.CF_CTX_LAST_PIP]
  omega

end TakePlane

/-- R387, R388, R401: what O46 says, with R360's condition on the state of a region that did not run too. -/
theorem takePlane_takesTheNewPlane (s : State) (r : Nat) {plane : Nat} (h : plane < 8) :
    let t := s.takePlane r plane
    t.activeOf r = plane ∧ t.get (R.CF_CTX_STATE_PEND r) = 0 ∧ (s.runs r = true → t.rgState r = rgSwitching)
      ∧ ((∀ e ∈ s.cap.open_, e.2.origin = 1 → e.2.region ≠ r) →
          t.rgState r = (if s.runs r = true then rgSwitching else s.rgState r)
          ∧ t.get (R.CF_CTX_SWITCHES_COUNT r) = min (s.get (R.CF_CTX_SWITCHES_COUNT r) + 1) (2 ^ (R.CF_CTX_SWITCHES_COUNT r).w - 1)
          ∧ ∀ m, m ≠ r → t.activeOf m = s.activeOf m ∧ t.rgState m = s.rgState m) := by
  refine ⟨(get_takePlane ..).trans (get_active_switchShown _ r plane _ h), (get_takePlane ..).trans (get_pend_switchShown ..),
    fun hruns => ?_, fun hnone => ⟨?_, ?_, fun m hm => ?_⟩⟩
  · exact (get_takePlane ..).trans ((get_state_switchShown ..).trans (if_pos hruns))
  · exact (get_takePlane ..).trans ((get_state_switchShown ..).trans (by rw [get_deadBegun_of_none hnone]; rfl))
  · rw [get_takePlane, get_count_switchShown, get_deadBegun_of_none hnone]
  · have hkept := sameWords_switchShown (s.deadBegun r) r plane (s.runs r)
    have hother := state_notMem_switchWords hm
    exact ⟨(get_takePlane ..).trans ((hkept.get hother).trans (get_deadBegun_of_none hnone _)),
      (get_takePlane ..).trans ((hkept.get hother).trans (get_deadBegun_of_none hnone _))⟩

/-! #### A cut frame whose queue lies beyond the stack memory -/

/-- The segment, beyond the last of stack memory, whose MG_SEG word would stand where region 0's CF_CTX_STATE stands. -/
def farSegment : Nat := 0x707C0

/-- Region 0 is HELD, and lane 0 has a frame of it in progress that goes to queue 0, whose memory lies in that segment. The next line that
the queue writes brings its page's MAJOR to 0xFFFF_FFFF (R544), so that the segment is rekeyed. -/
def farQueue : State :=
  let t := ((State.reset.put R.MG_STATUS_CURRENT 1).put (R.MG_SLOT_STATE 1) 1).put (R.CL_PCTRL_BYPASS 0) 1
  let t := ((t.put (R.CQ_SIZE_SIZE_MIB 0) 1).put (R.CQ_STATE_STATE 0) qRunning).put (R.CQ_STATE_GATE 0) 1
  { t.put (R.CF_CTX_STATE_STATE 0) rgHeld with
    cap := { open_ := [(0, { ts := State.reset.nowStamp, origin := 1, region := 0 })], queues := [(0, { total := 32, half := zeros 32 })] }
    mem := { allocs := [⟨0, .queue 0, 0, 0, 0, 1, 0, [(256 * farSegment, 1)]⟩],
             pages := [(65536 * farSegment, { major := 0xFFFFFFFE, minors := [(0, 127)] })] } }

/-- Refutes O46: of a region that does not run, the clause on its state has no condition on its reinserted frames. A frame that is cut is
captured, and in a state whose queue is given memory beyond the stack memory its line is written, and its segment rekeyed, in the word that
holds the region's state: a HELD region shows IDLE. With R360's condition it holds (`takePlane_takesTheNewPlane`). -/
theorem not_aSwitchTakesTheNewPlane : ¬ Obligations.ASwitchTakesTheNewPlane := by
  intro h
  obtain ⟨-, hstate, -⟩ := h farQueue 0 1 (by decide)
  have hheld : farQueue.rgState 0 = rgHeld ∧ farQueue.runs 0 = false := by decide +kernel
  have hidle : (farQueue.takePlane 0 1).rgState 0 = rgIdle := by decide +kernel
  obtain ⟨hheld, hruns⟩ := hheld
  simp only [Fin.val_zero, hidle, hruns, hheld] at hstate
  exact absurd hstate (by decide)

/-! ### A refused switch (R398) -/

/-! #### What a pending request shows, and its end -/

/-- A field beyond the event registers that shows nothing of a pending request. -/
def awayFromPend (f : RF) : Prop := 0x030000 ≤ f.off ∧ ∀ m, f.apart (R.CF_CTX_STATE_PEND m) ∧ f.apart (R.CF_CTX_STATE_PEND_PLANE m)

theorem active_awayFromPend (m : Nat) : awayFromPend (R.CF_CTX_STATE_ACTIVE m) :=
  ⟨Nat.le_add_right_of_le (by decide), fun _ => ⟨.inr (.inl (Nat.le_of_ble_eq_true rfl)), .inr (.inl (Nat.le_of_ble_eq_true rfl))⟩⟩

theorem refused_ne_state (m n : Nat) : R.CF_CTX_REFUSED m ≠ R.CF_CTX_STATE n := by
  unfold R.CF_CTX_REFUSED R.CF_CTX_STATE
  omega

theorem refused_awayFromPend (m : Nat) : awayFromPend (R.CF_CTX_REFUSED_REFUSED m) :=
  ⟨Nat.le_add_right_of_le (by decide), fun n => ⟨.inl (refused_ne_state m n), .inl (refused_ne_state m n)⟩⟩

section Pending

variable (s : State) (g : Nat)

theorem get_showPend {f : RF} (hf : awayFromPend f) (rs : List Nat) (p : Option Nat) : (s.showPend rs p).get f = s.get f :=
  forEach_preserves (P := fun t => t.get f = s.get f) rfl fun m _ t ht => by
    rw [get_put_apart _ f (R.CF_CTX_STATE_PEND_PLANE m) _ (Nat.le_of_ble_eq_true rfl) (hf.2 m).2,
      get_put_apart _ f (R.CF_CTX_STATE_PEND m) _ (Nat.le_of_ble_eq_true rfl) (hf.2 m).1, ht]

theorem sameButRegs_showPend (rs : List Nat) (p : Option Nat) : sameButRegs s (s.showPend rs p) :=
  forEach_preserves (.refl s) fun _ _ _ ht => (ht.put _ _).put _ _

theorem showPend_mem (rs : List Nat) (p : Option Nat) : (s.showPend rs p).mem = s.mem := by
  obtain ⟨_, _, h⟩ := sameButRegs_showPend s rs p
  rw [h]

theorem eventSet_showPend (rs : List Nat) (p : Option Nat) {e : Nat} (he : e < 288) : (s.showPend rs p).eventSet e = s.eventSet e :=
  forEach_preserves (P := fun t => t.eventSet e = s.eventSet e) rfl fun m _ t ht => by
    have hoff : R.EV_STATUS (e / 32) ≠ R.CF_CTX_STATE m := by
      unfold R.EV_STATUS R.CF_CTX_STATE
      omega
    rw [eventSet_put _ hoff, eventSet_put _ hoff, ht]

/-- From `s` to `t` requests have gone, or others have taken their place: nothing but what they show has changed. -/
structure PendChanged (s t : State) : Prop where
  fields : ∀ f, awayFromPend f → t.get f = s.get f
  events : ∀ e < 288, t.eventSet e = s.eventSet e
  mem : t.mem = s.mem

variable {s} in
theorem PendChanged.shown {t : State} (h : PendChanged s t) (f : Fabric) (rs : List Nat) (p : Option Nat) :
    PendChanged s (State.showPend { t with fab := f } rs p) :=
  ⟨fun x hx => (get_showPend _ hx rs p).trans (h.fields x hx), fun e he => (eventSet_showPend _ rs p he).trans (h.events e he),
    (showPend_mem _ rs p).trans h.mem⟩

theorem pendChanged_dropPend : PendChanged s (s.dropPend g) := by
  have hsame : PendChanged s s := ⟨fun _ _ => rfl, fun _ _ => rfl, rfl⟩
  unfold State.dropPend
  split
  · exact hsame
  · exact hsame.shown _ _ _

/-- A pending request is gone, and what waited behind it has taken its place; its operation has not ended yet. -/
def State.pendOver : State :=
  match tblFind (g + 64) (s.dropPend g).fab.pend with
  | some q => State.showPend { s.dropPend g with fab := { (s.dropPend g).fab with
      pend := tblPut g q (tblDel (g + 64) (s.dropPend g).fab.pend) } } q.members (some q.plane)
  | none => s.dropPend g

theorem endPend_eq : s.endPend g = (s.pendOver g).endOpAt ((tblFind g s.fab.pend).bind (·.op)) stOk 0 := rfl

theorem pendChanged_pendOver : PendChanged s (s.pendOver g) := by
  have hdropped := pendChanged_dropPend s g
  unfold State.pendOver
  split
  · exact hdropped.shown _ _ _
  · exact hdropped

theorem endOp_mem (o : Op) (status detail : Nat) : (s.endOp o status detail).mem = s.mem := by
  rw [endOp_eq]
  split
  · rfl
  · exact (raise_mem _ _).trans (sameStores_setNotices _ _ _).1

/-- The operation that asked for a request, where one did, is of one of the 16 mailboxes. -/
def PendSwitch.ofMailbox (p : PendSwitch) : Prop := ∀ mb tag, p.op = some (mb, tag) → mb < 16

variable {s g} in
/-- A request ends: so does its operation. -/
theorem endPend_cases {p : PendSwitch} (hpend : tblFind g s.fab.pend = some p) (hop : p.ofMailbox) :
    s.endPend g = s.pendOver g ∨ ∃ o : Op, o.mb < 16 ∧ s.endPend g = (s.pendOver g).endOp o stOk 0 := by
  rw [endPend_eq, hpend, Option.bind_some]
  unfold State.endOpAt
  split
  · exact .inl rfl
  · rename_i mb tag hop'
    split
    · rename_i o hfound
      unfold State.opOf at hfound
      have hnamed : o.mb = mb ∧ o.tag = tag := by simpa using List.find?_some hfound
      exact .inr ⟨o, hnamed.1 ▸ hop mb tag hop', rfl⟩
    · exact .inl rfl

end Pending

section EndPend

variable {s : State} {g : Nat} {p : PendSwitch} (hpend : tblFind g s.fab.pend = some p) (hop : p.ofMailbox)

include hpend hop

theorem get_endPend {f : RF} (hf : awayFromPend f) : (s.endPend g).get f = s.get f := by
  have hover := (pendChanged_pendOver s g).fields f hf
  rcases endPend_cases hpend hop with hend | ⟨o, hmb, hend⟩
  · rw [hend, hover]
  · have haway : awayFromNotice o.mb f.off :=
      ⟨Nat.ne_of_gt (Nat.lt_of_lt_of_le (by decide) hf.1), .inr ⟨hmb, hf.1⟩⟩
    rw [hend, ← hover]
    unfold State.get
    rw [reg_endOp stOk 0 haway]

theorem eventSet_endPend_mono {e : Nat} (he : e < 288) (h : s.eventSet e = true) : (s.endPend g).eventSet e = true := by
  have hover := ((pendChanged_pendOver s g).events e he).trans h
  rcases endPend_cases hpend hop with hend | ⟨o, hmb, hend⟩
  · rw [hend, hover]
  · rw [hend]
    exact eventSet_endOp_mono stOk 0 hmb he hover

theorem endPend_mem : (s.endPend g).mem = s.mem := by
  have hover := (pendChanged_pendOver s g).mem
  rcases endPend_cases hpend hop with hend | ⟨o, -, hend⟩
  · rw [hend, hover]
  · rw [hend, endOp_mem, hover]

end EndPend

/-! #### The refusal is counted in every member -/

section Refuse

variable (s : State) (members : List Nat)

/-- R398: the refusal is counted in every member. -/
def State.refusalsCounted : State := forEach members (fun r t => t.bump (R.CF_CTX_REFUSED_REFUSED r)) s

theorem refuseSwitch_eq : s.refuseSwitch members = (s.refusalsCounted members).raise 273 := rfl

theorem sameButRegs_refusalsCounted : sameButRegs s (s.refusalsCounted members) :=
  forEach_preserves (.refl s) fun _ _ _ ht => ht.put _ _

theorem get_refusalsCounted_of_notMem {f : RF} (hf : ∀ m ∈ members, f.off ≠ R.CF_CTX_REFUSED m) :
    (s.refusalsCounted members).get f = s.get f :=
  forEach_preserves (P := fun t => t.get f = s.get f) rfl fun m hm t ht =>
    (get_bump_apart t f (R.CF_CTX_REFUSED_REFUSED m) (Nat.le_of_ble_eq_true rfl) (.inl (hf m hm))).trans ht

variable {members} in
theorem get_refusalsCounted (hnodup : members.Nodup) {r : Nat} (hr : r ∈ members) :
    (s.refusalsCounted members).get (R.CF_CTX_REFUSED_REFUSED r)
      = min (s.get (R.CF_CTX_REFUSED_REFUSED r) + 1) (2 ^ (R.CF_CTX_REFUSED_REFUSED r).w - 1) := by
  have hoff {m n : Nat} (hne : m ≠ n) : R.CF_CTX_REFUSED m ≠ R.CF_CTX_REFUSED n := by
    unfold R.CF_CTX_REFUSED
    omega
  induction members generalizing s with
  | nil => cases hr
  | cons m rest ih =>
    obtain ⟨hm, hrest⟩ := List.nodup_cons.1 hnodup
    have hcons : s.refusalsCounted (m :: rest) = (s.bump (R.CF_CTX_REFUSED_REFUSED m)).refusalsCounted rest := rfl
    rw [hcons]
    rcases List.mem_cons.1 hr with rfl | hr
    · rw [get_refusalsCounted_of_notMem _ _ fun n hn => hoff (ne_of_mem_of_not_mem hn hm).symm]
      exact get_bump_same s _ (Nat.le_of_ble_eq_true rfl)
    · have hne : r ≠ m := ne_of_mem_of_not_mem hr hm
      rw [ih _ hrest hr, get_bump_apart s _ (R.CF_CTX_REFUSED_REFUSED m) (Nat.le_of_ble_eq_true rfl) (.inl (hoff hne))]

/-- The event of a refusal writes no word of a region. -/
theorem get_refuseSwitch {f : RF} (hf : 0x030000 ≤ f.off) : (s.refuseSwitch members).get f = (s.refusalsCounted members).get f :=
  get_raise_ne _ (by unfold R.EV_STATUS; omega) (by unfold R.EV_COUNT; omega)

theorem refuseSwitch_fab : (s.refuseSwitch members).fab = s.fab := by
  obtain ⟨_, _, h⟩ := sameButRegs_refusalsCounted s members
  rw [refuseSwitch_eq, raise_fab, h]

theorem refuseSwitch_mem : (s.refuseSwitch members).mem = s.mem := by
  obtain ⟨_, _, h⟩ := sameButRegs_refusalsCounted s members
  rw [refuseSwitch_eq, raise_mem, h]

end Refuse

/-- R398: what O47 says, of a group of any size, where the operation that asked for the switch is of one of the 16 mailboxes. -/
theorem refusedSwitch_switchesNoRegion {s : State} {r : Fin 48} {g : Nat} {p : PendSwitch} (hdue : SwitchDue s r g p)
    (hbegan : p.began = false) (hallowed : s.switchAllowed p.members p.plane = false) (hop : p.ofMailbox) :
    ∃ t, exec (.contextSwitch r) s = .next t ∧ (∀ m, t.activeOf m = s.activeOf m)
      ∧ (p.members.Nodup → ∀ m ∈ p.members,
          t.get (R.CF_CTX_REFUSED_REFUSED m) = min (s.get (R.CF_CTX_REFUSED_REFUSED m) + 1) (2 ^ (R.CF_CTX_REFUSED_REFUSED m).w - 1))
      ∧ t.eventSet 273 = true ∧ t.mem = s.mem := by
  have hpend : tblFind g (s.refuseSwitch p.members).fab.pend = some p := by
    rw [refuseSwitch_fab]
    exact hdue.pending
  refine ⟨_, congrArg Host.Outcome.next (contextSwitch_refused hdue hbegan hallowed), fun m => ?_, fun hnodup m hm => ?_, ?_, ?_⟩
  · have haway := active_awayFromPend m
    unfold State.activeOf
    rw [get_endPend hpend hop haway, get_refuseSwitch s _ haway.1,
      get_refusalsCounted_of_notMem _ _ fun n _ => (refused_ne_state n m).symm]
  · have haway := refused_awayFromPend m
    rw [get_endPend hpend hop haway, get_refuseSwitch s _ haway.1, get_refusalsCounted s hnodup hm]
  · exact eventSet_endPend_mono hpend hop (by decide) (eventSet_raise _ 273 (eventAbsent_of_gt _ (by decide)))
  · rw [endPend_mem hpend hop, refuseSwitch_mem]

/-! #### A refused switch whose operation is of no mailbox -/

/-- R351, R387: where a region does not run and the new plane has no image, the switching edges are those of FPLL0, not throttled. -/
theorem switchEdge_fpll0 {s : State} {r plane : Nat} (hruns : s.runs r = false) (himage : tblFind (8 * r + plane) s.fab.images = none)
    (hclocked : s.regionClocked = true) (hgate : bit (s.reg (R.CK_GATED (r / 32))) (r % 32) = false) (hstep : s.regionStep r = 0) :
    s.switchEdge r plane = decide (edgesBy (s.fpllOutput 0) (Config.clockPhase 0) s.tb.now
      < edgesBy (s.fpllOutput 0) (Config.clockPhase 0) (s.tb.now + 1)) := by
  have hphase : s.fpllPhase 0 = Config.clockPhase 0 := ite_self _
  simp [State.switchEdge, State.lineEdge, State.clockEdge, edgePasses, hruns, himage, hclocked, hgate, hstep, hphase]

/-- A clock of 600 MHz has an edge in one of three pips, whatever its phase. -/
theorem exists_edge_600MHz (phase : Nat) : ∃ n ∈ [4, 5, 6], edgesBy 600000 phase n < edgesBy 600000 phase (n + 1) := by
  by_contra! h
  have h4 : edgesBy 600000 phase 5 ≤ edgesBy 600000 phase 4 := h 4 (by decide)
  have h5 : edgesBy 600000 phase 6 ≤ edgesBy 600000 phase 5 := h 5 (by decide)
  have h6 : edgesBy 600000 phase 7 ≤ edgesBy 600000 phase 6 := h 6 (by decide)
  unfold edgesBy at h4 h5 h6
  omega

/-- The mailbox, if there were so many, whose event would be counted where region 0's CF_CTX_STATE stands. -/
def farMailbox : Nat := 0xE8DB0

/-- The request for EMPTY plane 7 of region 0, of an operation of that mailbox. -/
def farRequest : PendSwitch := { plane := 7, rank := 0, members := [0], op := some (farMailbox, 0) }

/-- Region 0 is IDLE in pip `n` of a device whose FPLL0 gives 600 MHz, and that request is pending. -/
def farOperation (n : Nat) : State :=
  let t := ((State.reset.put (R.CK_FPLL_CFG_EN 0) 1).put (R.CK_FPLL_STATUS_LOCK 0) 1).put (R.CK_FPLL_FREQ_KHZ 0) 600000
  { (t.put (R.CK_FPLL_STATUS_STOPPED 0) 0).setReg (R.CK_GATED 0) 0 with
    tb := { now := n }
    gaf := { ops := [{ mb := farMailbox, tag := 0, command := 0 }] }
    fab := { pend := [(128, farRequest)] } }

/-- R387: the region is IDLE, in no group, and may not switch to its EMPTY plane; its clock is open and not throttled. -/
theorem farOperation_idle {n : Nat} (hn : n ∈ [4, 5, 6]) :
    let s := farOperation n
    s.groupOf 0 = none ∧ s.runs 0 = false ∧ s.switchAllowed [0] 7 = false ∧ s.regionClocked = true
      ∧ bit (s.reg (R.CK_GATED (0 / 32))) (0 % 32) = false ∧ s.regionStep 0 = 0 ∧ s.fpllOutput 0 = 600000 := by
  revert n
  decide +kernel

/-- R398: at an edge of that clock the request is looked at. -/
theorem farOperation_due {n : Nat} (hn : n ∈ [4, 5, 6])
    (hedge : edgesBy 600000 (Config.clockPhase 0) n < edgesBy 600000 (Config.clockPhase 0) (n + 1)) :
    SwitchDue (farOperation n) 0 128 farRequest := by
  obtain ⟨hgroup, hruns, -, hclocked, hgate, hstep, hfpll⟩ := farOperation_idle hn
  have hlate : 4 ≤ n := (by decide : ∀ k ∈ [4, 5, 6], 4 ≤ k) n hn
  refine ⟨.inr ⟨hgroup, rfl⟩, rfl, rfl, hlate, rfl, ?_⟩
  rw [switchEdge_fpll0 hruns rfl hclocked hgate hstep, hfpll]
  exact decide_eq_true hedge

/-- The notice of that operation's end is counted in the word that holds the region's ACTIVE. -/
theorem active_farOperation {n : Nat} (hn : n ∈ [4, 5, 6]) :
    (farOperation n).activeOf 0 = 0 ∧ (((farOperation n).refuseSwitch [0]).endPend 128).activeOf 0 = 1 := by
  revert n
  decide +kernel

/-- Refutes O47: a refused request's operation ends, and in a state whose operation is of a mailbox that does not exist its notice's event is
counted beyond the event registers, in a region's ACTIVE. Where it is of one of the 16, `refusedSwitch_switchesNoRegion` says what O47
says. -/
theorem not_aRefusedSwitchSwitchesNoRegion : ¬ Obligations.ARefusedSwitchSwitchesNoRegion := by
  intro h
  obtain ⟨n, hn, hedge⟩ := exists_edge_600MHz (Config.clockPhase 0)
  have hdue := farOperation_due hn hedge
  obtain ⟨hgroup, -, hallowed, -⟩ := farOperation_idle hn
  obtain ⟨t, hexec, hactive, -⟩ :=
    h (farOperation n) 0 farRequest hgroup hdue.pending rfl rfl hdue.late hdue.alive hdue.edge hallowed
  have hrefused : ((farOperation n).refuseSwitch [0]).endPend 128 = t :=
    (contextSwitch_refused hdue rfl hallowed).symm.trans (Host.Outcome.next.inj hexec)
  obtain ⟨hbefore, hafter⟩ := active_farOperation hn
  rw [hrefused] at hafter
  exact absurd (hafter.symm.trans ((hactive 0).trans hbefore)) (by decide)

end Sys2Proof.Machine
end

section
/-!
PROOFS. The family of self-test: the rows of boot self-test, of periodic slices and of TEST (O34).
-/

namespace Sys2Proof.Machine

open Sys2Proof

/-! ### Every unit is tested (R805, R807, R815) -/

section EveryUnit

variable {s : State} {fails : List (BitVec 10 × BitVec 16)} {l : List (Nat × Nat)}

/-- The units that a row's operand names, with their DETAIL, where they count as failed. -/
def State.failuresOf (s : State) (fails : List (BitVec 10 × BitVec 16)) : List (Nat × Nat) :=
  s.failedUnits (fails.map (fun x => (x.1.toNat, x.2.toNat)))

/-- Every unit but those in the unit map has been tested, and those of `l` failed. -/
def State.allTested (s : State) (l : List (Nat × Nat)) (keep : Bool) : State :=
  s.testsDone (s.units.filter (fun u => !s.unitMapped u)) l keep

/-- R807, R815: under the LF40-compatible policy the mappable units that failed are written into the unit map. -/
def State.failuresMapped (s : State) (l : List (Nat × Nat)) : State :=
  if s.lf40 then forEach (l.filter (fun f => mappable f.1)) (fun f t => t.mapUnit f.1) s else s

theorem failuresMapped_nil (s : State) : s.failuresMapped [] = s := ite_self s

theorem failuresMapped_native (h : s.lf40 = false) (l : List (Nat × Nat)) : s.failuresMapped l = s := if_neg (ne_true_of_eq_false h)

/-- R805, R807: once the bring-up has ended, the row records the results, and boot self-test is over. -/
theorem execBootSelfTestEnd_boot (hmode : s.mode = mBoot) (hseq : s.get R.PW_STATUS_SEQ = 3) (hfails : s.failuresOf fails = l) :
    execBootSelfTestEnd fails s = .next (((s.allTested l false).failuresMapped l).endBoot l) := by
  subst hfails
  exact (if_neg (not_not.2 hmode)).trans (if_neg (not_not.2 hseq))

/-- R815: in TEST the row records the results, and the first failure decides what follows. -/
theorem execTestModeEnd_test (hmode : s.mode = mTest) (hfails : s.failuresOf fails = l) :
    execTestModeEnd fails s =
      let t := ((s.allTested l true).failuresMapped l).put R.BT_STATUS_PHASE 0
      match l.head? with
      | some f => .next ((t.endOps 0x0D00 stIntegrity f.1).enterSafeHold 0x0D)
      | none => .next ((t.endOps 0x0D00 stOk 0).enterBoot 0x1A false) := by
  subst hfails
  exact if_neg (not_not.2 hmode)

end EveryUnit

/-! ### The rows of units and slices (R454, R806, R808-R811) -/

section Units

variable {s : State}

/-- R806, R807: a unit whose window has not opened counts as failed, and under the native policy it ends boot self-test. -/
theorem execBootTestWindowTimeout_native {u : BitVec 10} (hmode : s.mode = mBoot) (hpresent : s.unitAbsent u.toNat = false)
    (hunmapped : s.unitMapped u.toNat = false) (hnative : (s.testsDone [] [(u.toNat, 0)] false).lf40 = false) :
    execBootTestWindowTimeout [u] s = .next ((s.testsDone [] [(u.toNat, 0)] false).endBoot [(u.toNat, 0)]) := by
  simp [execBootTestWindowTimeout, hmode, hpresent, hunmapped, hnative]

/-- R454, R809: where no slice of the kind has begun yet, the unit whose last completed test is oldest is prepared. -/
theorem execSelfTestDrain_oldest {kind : Fin 6} {u : Nat} (hlife : s.life = 2) (hmode : s.mode = mOperate) (hon : s.exponent kind ≠ 0)
    (hnone : s.bist.slice = none) (hserving : s.serving = true) (hfirst : tblGet (fun _ => 0) s.bist.lastSlice kind = 0)
    (hunit : s.oldestUnit kind = some u) : execSelfTestDrain kind s = .next (s.startSlice u false) := by
  simp [execSelfTestDrain, hlife, hmode, hon, hnone, hserving, hfirst, hunit]

/-- R810, R811: in an open window the slice's tests pass, and its unit is handed back at the next boundary. -/
theorem execSliceTestEnd_passed {sl : Slice} (detail : BitVec 16) (hslice : s.bist.slice = some sl) (hhanded : sl.handed = true)
    (hback : sl.back = false) (hopen : s.windowOpen sl.unit = true) :
    execSliceTestEnd false detail s
      = .next (((s.reinit sl.unit).testResult sl.unit 0 0 sl.user).setSlice (some { sl with back := true })) := by
  simp [execSliceTestEnd, hslice, hhanded, hback, hopen]

end Units

/-- Settles O34: each row by what it does when it acts. -/
theorem selfTestRowsAct : Obligations.SelfTestRowsAct := by
  intro s
  refine ⟨fun fails hmode hseq hnone => ?boot, fun u => execBootTestWindowTimeout_native, fun kind u => execSelfTestDrain_oldest,
    fun sl detail => execSliceTestEnd_passed detail, fun fails hmode hnone => ?passed,
    fun fails f l hmode hsome hnative => ?failed⟩
  case boot =>
    have h := execBootSelfTestEnd_boot hmode hseq hnone
    rwa [failuresMapped_nil] at h
  case passed =>
    have h := execTestModeEnd_test hmode hnone
    rwa [failuresMapped_nil] at h
  case failed =>
    have h := execTestModeEnd_test hmode hsome
    rwa [failuresMapped_native (s := s.allTested (f :: l) true) hnative] at h

end Sys2Proof.Machine
end

section
/-!
PROOFS. A rule of the registers that the proofs below share.
-/

namespace Sys2Proof.Machine

open Sys2Proof

/-! ### Events, log entries and the registers beyond theirs -/

section Beyond

variable (s : State) {off e : Nat} {f : RF}

/-- An event writes only the event registers. -/
theorem reg_raise_beyond (hoff : 0x030000 ≤ off) (he : e < 288) : (s.raise e).reg off = s.reg off :=
  reg_raise_ne s (by unfold R.EV_STATUS; omega) (by unfold R.EV_COUNT; omega)

theorem get_raise_beyond (hf : 0x030000 ≤ f.off) (he : e < 288) : (s.raise e).get f = s.get f :=
  congrArg (bits · f.lo f.w) (reg_raise_beyond s hf he)

theorem mode_raise (e : Nat) : (s.raise e).mode = s.mode :=
  get_raise_ne s (show R.GAF_MODE ≠ _ by unfold R.GAF_MODE R.EV_STATUS; omega) (show R.GAF_MODE ≠ _ by unfold R.GAF_MODE R.EV_COUNT; omega)

/-- A log entry shows at most as an event. -/
theorem get_log_beyond (hf : 0x030000 ≤ f.off) (severity group a0 a1 a2 : Nat) : (s.log severity group a0 a1 a2).get f = s.get f :=
  (sameWords_log s severity group a0 a1 a2).get (by
    simp only [List.mem_cons, List.not_mem_nil, or_false, not_or]
    exact ⟨by unfold R.EV_STATUS; omega, by unfold R.EV_COUNT; omega⟩)

theorem mode_log (severity group a0 a1 a2 : Nat) : (s.log severity group a0 a1 a2).mode = s.mode :=
  (sameWords_log s severity group a0 a1 a2).get (f := R.GAF_MODE_MODE) (by decide)

theorem mem_log (severity group a0 a1 a2 : Nat) : (s.log severity group a0 a1 a2).mem = s.mem := (sameStores_log s severity group a0 a1 a2).1

theorem get_put_word {g : RF} (v : Nat) (h : f.off ≠ g.off) : (s.put g v).get f = s.get f := get_setReg_ne s _ h

theorem mode_put {v : Nat} (hf : R.GAF_MODE ≠ f.off) : (s.put f v).mode = s.mode := get_put_word s v hf

end Beyond

@[simp] theorem bit_clearBit_same (x i : Nat) : bit (clearBit x i) i = false := by
  by_cases h : bit x i = true
  · have hodd : x / 2 ^ i % 2 = 1 := beq_iff_eq.1 h
    have hdiv : (x - 2 ^ i) / 2 ^ i = x / 2 ^ i - 1 := by simpa using Nat.sub_mul_div x (2 ^ i) 1
    unfold clearBit
    rw [if_pos h]
    unfold bit
    rw [hdiv, beq_eq_false_iff_ne]
    omega
  · unfold clearBit
    rw [if_neg h]
    exact eq_false_of_ne_true h

end Sys2Proof.Machine
end

section
/-!
PROOFS. Steps and answers: a step runs the front command (O1), and every command answers a next state (O3).
-/

namespace Sys2Proof.Machine

open Sys2Proof

/-! ### Steps and answers (O1, O3) -/

/-- Settles O1. -/
theorem stepTakesTheFrontCommand : Obligations.StepTakesTheFrontCommand := fun _ _ _ => rfl

/-- A command answers a next state: neither a fault nor a refusal. -/
def Answers (o : Host.Outcome State Fault Refusal) : Prop := ∃ t, o = .next t

theorem Answers.next (t : State) : Answers (.next t) := ⟨t, rfl⟩

theorem Answers.ite {c : Prop} [Decidable c] {a b : Host.Outcome State Fault Refusal} (ha : Answers a) (hb : Answers b) :
    Answers (if c then a else b) :=
  by split <;> assumption

/-- R63: a mailbox command is written and rung, and served where the gaffer takes it at once. -/
theorem answers_commandRow (c : Cmd) (mb : Fin 16) (req : Request) (s : State) : Answers (commandRow c mb req s) :=
  .ite (.next _) (.next _)

theorem answers_of_rowOf {i : Instr} {mb : Fin 16} {req : Request} {c : Cmd} {alarm : Bool}
    (h : rowOf i = some (mb, req, c, alarm)) (s : State) : Answers (exec i s) := by
  obtain ⟨t, ht⟩ := answers_commandRow c mb req s
  exact ⟨_, exec_of_rowOf h ht⟩

/-- R148: a row of the schedule fires what is due, or lets its entry be. -/
theorem answers_scheduled (action : Nat) (idx : Fin 4096) (s : State) : Answers (scheduled action idx s) := by
  unfold scheduled
  split
  · exact .ite (.next _) (.next _)
  · exact .next _

/-- R472: an instruction of a Tap Engine acts, faults or waits in the engine, never in the model. -/
theorem answers_issue (e op w : Nat) (cond : IssueCond) (o : State → TeOp) (s : State) : Answers (issue e op w cond o s) := by
  unfold issue
  refine .ite (.next _) (.ite (.next _) (.ite (.next _) ?_))
  split
  · exact .ite (.next _) (.ite (.next _) (.next _))
  · exact .ite (.next _) (.next _)

/-- The rows that are no mailbox command: those that look something up, the schedule's, the Tap Engines', and the others, which decide by
conditions alone. -/
theorem answers_of_rowOf_none {i : Instr} (h : rowOf i = none) (s : State) : Answers (exec i s) := by
  cases i
  case schedCtxSwitch | schedGateClose | schedGateOpen | schedTrigArm | schedReplayLaunch | schedTrigOut |
    schedEvent => exact answers_scheduled _ _ s
  case halt | mac | tapmv | mov | ld | st | loop | br | sync | ev | nop =>
    simp only [exec, execHalt, execMac, execTapmv, execMov, execLd, execSt, execLoop, execBr, execSync, execEv, execNop]
    exact answers_issue _ _ _ _ _ s
  case gafferTakeRequest | peerResponseArrival | peerCompletionNotice | forwardTimeout | warmRestartComplete | cfgStreamCheckComplete |
    reinsertedFrame | classifierEntryRewrite | cqSealComplete | recordLaunch | replayRecordBoundaryStop | substitutionSlot |
    configLoadComplete | bankCopyEnd | selfTestDrain | sliceTestEnd | teRingWriteResponse | teRamdataAccess | smWrite | sweepPage |
    memScrubComplete | resp | data | inv | keyDrop | requestTimeout | arrayRequestTimeout | errorInjection | eyeScanLaneDone |
    alarmTemperature | attestReportComplete | lifecycleFusesBlown | ownerKeyLoadComplete | upChunkComplete | upArrayForwardComplete |
    testModeEnd | seamFrameReceived | commonStartConfirm | bar0Request | bar2Access | hostApertureRequest | hostCompletionArrival =>
    simp only [exec, execGafferTakeRequest, execPeerResponseArrival, execPeerCompletionNotice, execForwardTimeout,
      execWarmRestartComplete, execCfgStreamCheckComplete, execReinsertedFrame, execClassifierEntryRewrite, execCqSealComplete,
      execRecordLaunch, execReplayRecordBoundaryStop, execSubstitutionSlot, execConfigLoadComplete, execBankCopyEnd, execSelfTestDrain,
      execSliceTestEnd, execTeRingWriteResponse, execTeRamdataAccess, execSmWrite, execSweepPage, execMemScrubComplete, execResp,
      execData, execInv, execKeyDrop, execRequestTimeout, execArrayRequestTimeout, execErrorInjection, execEyeScanLaneDone,
      execAlarmTemperature, execAttestReportComplete, execLifecycleFusesBlown, execOwnerKeyLoadComplete, execUpChunkComplete,
      execUpArrayForwardComplete, execTestModeEnd, execSeamFrameReceived, execCommonStartConfirm, execBar0Request, execBar2Access,
      execHostApertureRequest, execHostCompletionArrival]
    (repeat' split) <;> exact .next _
  case mbDoorbellRing | mbDoorbellCancel | mbAck | mbCplPop | gafferTlBurstDeferred | mailboxSourceReset | lockstepMismatch |
    watchdogExpiry | gafferSramUe | gafferHeartbeatTick | fabricStopAckEnd | pfailNFall | pfailFilterExpiry | pfailNRise |
    pfailAutoResume | porNLow | coreSupplyBelowReset | progNLow | porNRise | furnaceQualified | railGood | railOutOfBand |
    railOvervoltageCut | bootSelfTestEnd | bootTestWindowTimeout | configStreamReceived | streamPassOn | endRecordReceived |
    configChainTimeout | doneSample | startupTimeout | syncInEdge | ppsInEdge | markerMatch | internalPeriodBoundary |
    ppsSubdivisionBoundary | syntheticBoundary | flywheelHoldoverEntry | holdoverSyntheticBoundary | pipPllLock | pipPllUnlock |
    trigOutPulseEnd | frameReceived | dropMarkerWrite | padRecordTimer | captureLineIntegrity | trigInEdge | triggerTransition |
    triggerTimerExpiry | triggerCounterLimit | peerTriggerMessage | replayStartInstant | patternFetchReturn | passthroughResume |
    contextSwitch | configLoadStart | scrubFrame | riserIllegalDecode | mbpAccess | ioDelayLoad | ioDelayInc | ioDelayDec |
    libraryAddComplete | bankCopyStart | illegalOpcode | teStreamQuadIn | teRingReadResponse | teStallRelease | teCtrlRestart |
    teCtrlStop | teRingEnable | teNinProdWrite | teNoutConsWrite | teEvqPop | smRead | smPush | smPop | smPeek | smPoke | smInvalidOp |
    sbOwnerWrite | qcPortDataHiWrite | qcPortDataLoRead | qcWinCfgWrite | sramScrubWord | stackLineRead | stackLineWrite |
    channelRetrainFail | slotZeroise | patrolScrubLine | read | write | winPush | winPop | winPeek | winPoke | invAck | endpointDead |
    endpointClosed | signalDetect | signalLoss | cdrLockAcquired | cdrUnlock | commaAlign | alignmentLoss | eyeCalibrationDone |
    quadPllLock | prbsSyncAcquired | prbsSyncLoss | clockMonitorWindow | clockNodeSwitch | basePllSlewEnd | fpllRelock | refclkMeasured |
    sysclkQualifyTimeout | freqMeterStart | freqMeterGateEnd | freqMeterTimeout | gafferPeriodicUpdate | avsUrgentRaise | autoClockGate |
    forcedGateClose | gateRefused | pmbAlert | supplyOkChange | thermalSample | sensorSelfTest | throttleStepRise | throttleStepFall |
    powerReading | powerStepRise | powerStepFall | thermalTrip | alarmShield | alarmVoltage | alarmClock | alarmPulseEnd |
    zeroiseClearComplete | arrayImageChunk | seamNackReceived | seamAckTimer | seamCounterRekey | seamKeySwitch | seamTrainingDone |
    seamTrainingTimeout | seamKeyingDone | seamLaneLockTimeout | commonStartMessage | arDiscoverComplete | bar2Resize | perstNAssert |
    hotReset | functionLevelReset | hostCompletionTimeout | hpDmaProdWrite | hpDmaCtrlEnable | dmaDescriptorComplete | msixUnmask |
    mspiReadFrame | mspiWriteFrame | mspiStatusFrame | mspiUnknownFrame | jtagIdcode | jtagSamplePreload | jtagExtest | jtagClamp |
    jtagHighz | jtagBypass | puntySessionBegin | puntyAccess | testLogicReset | debugOpenTimeout | snapshotRead | registerWrite |
    fwFaultRestart | progNRelease | perstNRelease | pcieLinkStateChange | pcieConfigWrite | quadPllUnlock | pllLossOfLock | initNHigh |
    laneCodeError | prbsBitError =>
    (repeat' apply Answers.ite) <;> exact .next _
  all_goals exact absurd h (Option.some_ne_none _)

/-- Settles O3. -/
theorem everyCommandAnswersANextState : Obligations.EveryCommandAnswersANextState := fun i s =>
  match h : rowOf i with
  | some (_, _, _, _) => answers_of_rowOf h s
  | none => answers_of_rowOf_none h s

end Sys2Proof.Machine
end

section
/-!
PROOFS. The Tap Engines: the instructions that issue (O49), the streams and registers (O50).
-/

namespace Sys2Proof.Machine

open Sys2Proof

/-! ### The instructions of a Tap Engine (O49) -/

/-! #### What is taken from OUT0 leaves the registers, the loops and the accumulators -/

section Taken

variable (s : State) (e n : Nat)

theorem teOf_setTe (t : TapEngine) : (s.setTe e t).teOf e = t := tblGet_tblSet_same _ _ _ _

theorem taken_eq : s.taken e n = s ∨ s.taken e n = s.setTe e { s.teOf e with out0 := (s.teOf e).out0.drop n } := by
  unfold State.taken
  split
  · exact .inr rfl
  · exact .inl rfl

@[simp] theorem reg_taken (off : Nat) : (s.taken e n).reg off = s.reg off := by
  rcases taken_eq s e n with h | h
  · rw [h]
  · rw [h]
    rfl

@[simp] theorem get_taken (f : RF) : (s.taken e n).get f = s.get f := congrArg (bits · f.lo f.w) (reg_taken s e n f.off)

@[simp] theorem tePc_taken (k : Nat) : (s.taken e n).tePc k = s.tePc k := get_taken s e n _

theorem nextPc_taken : (s.taken e n).nextPc e = (s.tePc e + 1) % 256 := by unfold State.nextPc; rw [tePc_taken]

@[simp] theorem loops_taken : ((s.taken e n).teOf e).loops = (s.teOf e).loops := by
  rcases taken_eq s e n with h | h
  · rw [h]
  · rw [h, teOf_setTe]

@[simp] theorem accOf_taken (i : Nat) : ((s.taken e n).teOf e).accOf i = (s.teOf e).accOf i := by
  rcases taken_eq s e n with h | h
  · rw [h]
  · rw [h, teOf_setTe]
    rfl

end Taken

/-! #### An engine that issues -/

section Issues

variable {s : State} {e op w : Nat} {k : IssueCond} {o : State → TeOp}

/-- R472, R476, R482: a running engine whose word it is performs the instruction, where the word is not defective and its stream is ready. -/
theorem issue_acts (hrun : s.teState e = 1) (hclock : s.engineClocked e = true) (hram : k.ramUe = false)
    (hword : ∀ x, s.teWord e (s.tePc e) = some x → x = 2 ^ 44 * op + w) (hbad : (o (s.taken e k.taken.toNat)).bad = false)
    (hneeds : ∀ port n, (o (s.taken e k.taken.toNat)).needs = some (port, n) →
      ((s.taken e k.taken.toNat).teOf e).streamMet port n = true) :
    issue e op w k o s = .next ((o (s.taken e k.taken.toNat)).act (s.taken e k.taken.toNat)) := by
  have hnext : ¬ (s.teWord e (s.tePc e)).any (fun x => decide (x ≠ 2 ^ 44 * op + w)) = true := by
    cases hx : s.teWord e (s.tePc e) with
    | none => exact Bool.false_ne_true
    | some x => simp [hword x hx]
  have hrun' : ¬ (s.teState e ≠ teRunning ∨ (!s.engineClocked e) = true) := by simp [hrun, hclock, teRunning]
  unfold issue
  rw [if_neg hrun', if_neg hnext]
  dsimp only
  rw [if_neg (ne_true_of_eq_false hbad), hram, Bool.and_false]
  cases hn : (o (s.taken e k.taken.toNat)).needs with
  | none => rfl
  | some x => simp [hneeds x.1 x.2 hn]

/-- R475, R490: an opcode that no instruction has faults. -/
theorem execIllegalOpcode_faults {e : Fin 1536} {op : Fin 4} {w : BitVec 44} (hrun : s.teState e = 1) (hclock : s.engineClocked e = true)
    (hword : ∀ x, s.teWord e (s.tePc e) = some x → x = 2 ^ 44 * (12 + op.val) + w.toNat) :
    execIllegalOpcode e op w s = .next (s.teFaults e 1) := by
  have hnext : ¬ (s.teWord e (s.tePc e)).any (fun x => decide (x ≠ 2 ^ 44 * (12 + op.val) + w.toNat)) = true := by
    cases hx : s.teWord e (s.tePc e) with
    | none => exact Bool.false_ne_true
    | some x => simp [hword x hx]
  exact (if_neg (by simp [hrun, hclock, teRunning])).trans (if_neg hnext)

end Issues

/-! #### The PC after HALT and after an event -/

section Pc

variable (s : State) (e : Nat)

/-- R472: after HALT the engine is HALTED. -/
theorem teState_halt : (halt s e).teState e = 3 := get_put_same _ _ _ (Nat.le_of_ble_eq_true rfl)

/-- Log entry 31: HALT advances the PC, as every instruction does. -/
theorem tePc_halt : (halt s e).tePc e = s.nextPc e := by
  unfold halt State.setTeState State.tePc
  rw [get_put_apart _ _ (R.TE_STATUS_STATE e) _ (Nat.le_of_ble_eq_true rfl) (.inr (.inr (Nat.le_of_ble_eq_true rfl))),
    get_put_same _ _ _ (Nat.le_of_ble_eq_true rfl)]
  exact Nat.mod_mod _ _

theorem tePc_put_cmp (v : Nat) : (s.put (R.TE_STATUS_CMP e) v).tePc e = s.tePc e :=
  get_put_apart _ _ (R.TE_STATUS_CMP e) _ (Nat.le_of_ble_eq_true rfl) (.inr (.inr (Nat.le_of_ble_eq_true rfl)))

/-- R493: the event queue is shown in its two registers. -/
theorem sameWords_showEvq : sameWords s s.showEvq [R.TE_EVQ_HEAD, R.TE_EVQ_COUNT] := by
  unfold State.showEvq
  dsimp only
  have hcount := (sameWords.refl s [R.TE_EVQ_HEAD, R.TE_EVQ_COUNT]).put R.TE_EVQ_COUNT_COUNT (by decide) s.te.evq.length
  split
  · exact hcount.setReg (by decide) _
  · iterate 5 refine sameWords.put ?_ _ (by decide) _
    exact hcount.put _ (by decide) _

/-- R493: an entry of the event queue writes nothing of an engine's registers. -/
theorem tePc_teEvent (pc kind : Nat) (he : e < 1536) (hkind : kind ≤ 3) : (s.teEvent e pc kind).tePc e = s.tePc e := by
  have hraise (u : State) (n : Nat) (hn : n ≤ 260) : (u.raise n).tePc e = u.tePc e :=
    get_raise_ne u (by simp only [R.TE_STATUS_PC, R.TE_STATUS, R.EV_STATUS]; omega)
      (by simp only [R.TE_STATUS_PC, R.TE_STATUS, R.EV_COUNT]; omega)
  unfold State.teEvent
  dsimp only
  split
  · exact (hraise _ _ (by omega)).trans (hraise s _ (by omega))
  · refine Eq.trans ?_ (hraise s (256 + kind) (by omega))
    exact (sameWords_showEvq _).get (by simp [R.TE_STATUS_PC, R.TE_STATUS, R.TE_EVQ_HEAD, R.TE_EVQ_COUNT]; omega)

end Pc

/-! #### The instructions -/

/-- A word that waits on IN0 or IN1 waits on one of its two conditions. -/
theorem streamMet_of_needs {t : TapEngine} {src a b : Nat} (h0 : src = a → t.streamMet 0 1 = true) (h1 : src = b → t.streamMet 1 1 = true)
    (port n : Nat) (h : (if src = a then some (0, 1) else if src = b then some (1, 1) else none) = some (port, n)) :
    t.streamMet port n = true := by
  split_ifs at h with ha hb
  · cases h
    exact h0 ha
  · cases h
    exact h1 hb

theorem tePc_ite_put_cmp (s : State) (e v : Nat) (c : Bool) : (if c then s.put (R.TE_STATUS_CMP e) v else s).tePc e = s.tePc e := by
  cases c
  · rfl
  · exact tePc_put_cmp s e v

theorem tePc_ite_teEvent (s : State) (e pc : Nat) (he : e < 1536) (c : Bool) : (if c then s.teEvent e pc 0 else s).tePc e = s.tePc e := by
  cases c
  · rfl
  · exact tePc_teEvent s e pc 0 he (by decide)

section Instructions

variable {s : State} {e : Fin 1536} {w : BitVec 44} {k : IssueCond} (hrun : s.teState e = 1) (hclock : s.engineClocked e = true)
  (hram : k.ramUe = false)

include hrun hclock hram

theorem execHalt_issues (hword : ∀ x, s.teWord e (s.tePc e) = some x → x = 2 ^ 44 * 0 + w.toNat) (hzero : w.toNat = 0) :
    execHalt e w k s = .next (halt (s.taken e k.taken.toNat) e) := by
  unfold execHalt
  exact issue_acts hrun hclock hram hword (bne_eq_false_iff_eq.2 hzero) fun _ _ h => nomatch h

theorem execNop_issues (hword : ∀ x, s.teWord e (s.tePc e) = some x → x = 2 ^ 44 * 11 + w.toNat) (hzero : w.toNat = 0) :
    execNop e w k s = .next (issued (s.taken e k.taken.toNat) e ((s.tePc e + 1) % 256)) := by
  unfold execNop
  rw [← nextPc_taken s e k.taken.toNat]
  exact issue_acts hrun hclock hram hword (bne_eq_false_iff_eq.2 hzero) fun _ _ h => nomatch h

theorem execMac_issues (hword : ∀ x, s.teWord e (s.tePc e) = some x → x = 2 ^ 44 * 1 + w.toNat) (hbad : macBad w.toNat = false)
    (h0 : bits w.toNat 31 2 = 1 → ((s.taken e k.taken.toNat).teOf e).streamMet 0 1 = true)
    (h1 : bits w.toNat 31 2 = 2 → ((s.taken e k.taken.toNat).teOf e).streamMet 1 1 = true) :
    execMac e w k s = .next (mac (s.taken e k.taken.toNat) e w.toNat) := by
  simp only [execMac]
  exact issue_acts hrun hclock hram hword hbad (streamMet_of_needs h0 h1)

theorem execTapmv_issues (hword : ∀ x, s.teWord e (s.tePc e) = some x → x = 2 ^ 44 * 2 + w.toNat) (hbad : macBad w.toNat = false)
    (hsrc : bits w.toNat 31 2 = 0) : execTapmv e w k s = .next (tapmv (s.taken e k.taken.toNat) e w.toNat) := by
  simp only [execTapmv]
  exact issue_acts hrun hclock hram hword (by simp [hbad, hsrc]) fun _ _ h => nomatch h

theorem execMov_issues (hword : ∀ x, s.teWord e (s.tePc e) = some x → x = 2 ^ 44 * 3 + w.toNat) (hlow : bits w.toNat 0 31 = 0)
    (hdst : bits w.toNat 39 3 ≤ 4) (hpush : bit w.toNat 33 = true → bits w.toNat 39 3 ≤ 1
      ∧ ((s.taken e k.taken.toNat).teOf e).streamMet (2 + bits w.toNat 39 3) 1 = true) :
    execMov e w k s = .next (mov (s.taken e k.taken.toNat) e w.toNat) := by
  simp only [execMov]
  refine issue_acts hrun hclock hram hword ?bad fun port n hneeds => ?needs
  case bad => simpa [hlow, hdst] using fun h => (hpush h).1
  case needs =>
    dsimp only at hneeds
    split_ifs at hneeds with hp
    cases hneeds
    exact (hpush hp).2

theorem execLd_issues (hword : ∀ x, s.teWord e (s.tePc e) = some x → x = 2 ^ 44 * 4 + w.toNat)
    (hbad : ldBad ((s.taken e k.taken.toNat).teOf e) w.toNat = false)
    (h0 : bits w.toNat 37 3 = 3 → ((s.taken e k.taken.toNat).teOf e).streamMet 0 1 = true)
    (h1 : bits w.toNat 37 3 = 4 → ((s.taken e k.taken.toNat).teOf e).streamMet 1 1 = true) :
    execLd e w k s = .next (ld (s.taken e k.taken.toNat) e w.toNat) := by
  simp only [execLd]
  exact issue_acts hrun hclock hram hword hbad (streamMet_of_needs h0 h1)

theorem execSt_issues (hword : ∀ x, s.teWord e (s.tePc e) = some x → x = 2 ^ 44 * 5 + w.toNat)
    (hsrc : bits w.toNat 37 3 ≤ 4) (hmid : bits w.toNat 24 11 = 0) (hlow : bits w.toNat 37 3 = 3 ∨ bits w.toNat 0 24 = 0)
    (h0 : bits w.toNat 37 3 = 0 → ((s.taken e k.taken.toNat).teOf e).streamMet 0 1 = true)
    (h1 : bits w.toNat 37 3 = 1 → ((s.taken e k.taken.toNat).teOf e).streamMet 1 1 = true) :
    execSt e w k s = .next (st (s.taken e k.taken.toNat) e w.toNat) := by
  simp only [execSt]
  refine issue_acts hrun hclock hram hword ?_ (streamMet_of_needs h0 h1)
  simpa [hsrc, hmid, or_iff_not_imp_left] using hlow

theorem execSync_issues (hword : ∀ x, s.teWord e (s.tePc e) = some x → x = 2 ^ 44 * 9 + w.toNat) (hlow : bits w.toNat 0 37 = 0)
    (hport : bits w.toNat 41 3 ≤ 3)
    (hmet : ((s.taken e k.taken.toNat).teOf e).streamMet (bits w.toNat 41 3) (bits w.toNat 37 4 + 1) = true) :
    execSync e w k s = .next (issued (s.taken e k.taken.toNat) e ((s.tePc e + 1) % 256)) := by
  simp only [execSync]
  rw [← nextPc_taken s e k.taken.toNat]
  refine issue_acts hrun hclock hram hword (by simp [hlow, hport]) fun port n hneeds => ?_
  cases hneeds
  exact hmet

theorem execLoop_issues (hword : ∀ x, s.teWord e (s.tePc e) = some x → x = 2 ^ 44 * 6 + w.toNat) (hlow : bits w.toNat 0 20 = 0)
    (hcount : bits w.toNat 28 16 ≠ 0) (hstop : s.tePc e + 1 < bits w.toNat 20 8) (hdepth : (s.teOf e).loops.length < 3) :
    execLoop e w k s = .next (issued ((s.taken e k.taken.toNat).setLoops e
      (⟨(s.tePc e + 1) % 256, bits w.toNat 20 8, bits w.toNat 28 16⟩ :: (s.teOf e).loops)) e ((s.tePc e + 1) % 256)) := by
  simp only [execLoop]
  refine (issue_acts hrun hclock hram hword ?bad (by nofun)).trans (congrArg _ ?acts)
  case bad => simp [hlow, hcount, hstop]
  case acts => simp [hdepth, nextPc_taken]

theorem execBr_issues (hword : ∀ x, s.teWord e (s.tePc e) = some x → x = 2 ^ 44 * 8 + w.toNat) (hlow : bits w.toNat 0 30 = 0)
    (hcond : bits w.toNat 40 4 ≤ 13) :
    execBr e w k s = .next (if branchTaken (s.taken e k.taken.toNat) e w.toNat then
        issued ((s.taken e k.taken.toNat).setLoops e
          ((s.teOf e).loops.filter (fun l => decide (l.start ≤ bits w.toNat 32 8) && decide (bits w.toNat 32 8 ≤ l.stop)))) e
          (bits w.toNat 32 8)
      else issued (s.taken e k.taken.toNat) e ((s.tePc e + 1) % 256)) := by
  simp only [execBr]
  refine (issue_acts hrun hclock hram hword ?bad (by nofun)).trans (congrArg _ ?acts)
  case bad => simp [hlow, hcond]
  case acts => simp only [loops_taken, nextPc_taken]

theorem execEv_issues (hword : ∀ x, s.teWord e (s.tePc e) = some x → x = 2 ^ 44 * 10 + w.toNat) (hcond : bits w.toNat 39 3 ≤ 4) :
    let r := evTrue ((s.teOf e).accOf (bits w.toNat 42 2)) w.toNat
    let v := if bit w.toNat 37 then (s.taken e k.taken.toNat).put (R.TE_STATUS_CMP e) (b2n r) else s.taken e k.taken.toNat
    execEv e w k s
      = .next (issued (if r && bit w.toNat 38 then v.teEvent e (s.tePc e) 0 else v) e ((s.tePc e + 1) % 256)) := by
  intro r v
  have hpc : v.tePc e = s.tePc e := (tePc_ite_put_cmp _ _ _ _).trans (tePc_taken s e _ e)
  simp only [execEv]
  refine (issue_acts hrun hclock hram hword ?bad (by nofun)).trans (congrArg _ ?acts)
  case bad => simp [hcond]
  case acts =>
    simp only [accOf_taken, State.nextPc, tePc_ite_teEvent _ _ _ e.isLt, tePc_ite_put_cmp, tePc_taken]
    rfl

end Instructions

/-- Settles O49: each instruction by what it does once it issues. That HALT advances the PC is log entry 31 (DEDUCED), and an engine whose
page State does not hold performs the instruction of its row. -/
theorem tapInstructionsIssue : Obligations.TapInstructionsIssue := by
  intro s e w k hrun hclock hram n u at_
  exact ⟨fun hat hn => ⟨execHalt_issues hrun hclock hram hat hn, teState_halt u e, (tePc_halt u e).trans (nextPc_taken s e _)⟩,
    execMac_issues hrun hclock hram, execTapmv_issues hrun hclock hram, execMov_issues hrun hclock hram, execLd_issues hrun hclock hram,
    execSt_issues hrun hclock hram, execLoop_issues hrun hclock hram, execBr_issues hrun hclock hram, execSync_issues hrun hclock hram,
    execEv_issues hrun hclock hram, execNop_issues hrun hclock hram, fun _ => execIllegalOpcode_faults hrun hclock⟩

/-! ### The streams and registers of a Tap Engine (O50) -/

section Streams

variable {s : State} {e : Fin 1536}

@[simp] theorem teOf_put (u : State) (f : RF) (v n : Nat) : (u.put f v).teOf n = u.teOf n := rfl

theorem execTeStreamQuadIn_accepts (q : BitVec 96) (hlive : s.regionLive (e / 32) = true)
    (hport : s.portRuns (e / 32) (.streamIn (e % 32)) = true) (hroom : (s.teOf e).in0.length < 16) :
    execTeStreamQuadIn e q s = .next (s.setTe e { s.teOf e with in0 := (s.teOf e).in0 ++ [quadOf q.toNat] }) :=
  if_pos ⟨hlive, hport, hroom⟩

/-- R470: the quad at CONS enters IN1. -/
theorem execTeRingReadResponse_ok (hopen : s.ringOpen e = true) (hwait : s.mustWait (s.globalOf (s.ringInAt e)) 16 false = false)
    (hen : s.has (R.TE_NIN_CTRL_EN e) = true) (hmore : s.get (R.TE_NIN_PROD_INDEX e) ≠ s.get (R.TE_NIN_CONS_INDEX e))
    (hroom : (s.teOf e).in1.length < 16) (hok : (ringRead s e (s.ringInAt e)).2.1 = rOk) :
    let x := ringRead s e (s.ringInAt e)
    execTeRingReadResponse e false s
      = .next ((x.1.setTe e { x.1.teOf e with in1 := (x.1.teOf e).in1 ++ [(List.range 4).map (fun i => le x.2.2 (4 * i) 3)] }).put
          (R.TE_NIN_CONS_INDEX e) (s.get (R.TE_NIN_CONS_INDEX e) + 1)) :=
  (if_neg (by simp [hopen, hwait, hen, hmore, hroom])).trans (if_neg (not_not.2 hok))

/-- R470: the oldest quad of OUT1 is written at PROD. -/
theorem execTeRingWriteResponse_ok {q : OutQuad} {rest : List OutQuad} (hopen : s.ringOpen e = true)
    (hwait : s.mustWait (s.globalOf (s.ringOutAt e)) 16 true = false) (hout : (s.teOf e).out1 = q :: rest)
    (hen : bit (s.reg (R.TE_NOUT_CTRL e)) 31 = true)
    (hroom : (65536 + s.get (R.TE_NOUT_PROD_INDEX e) - s.get (R.TE_NOUT_CONS_INDEX e)) % 65536 ≠ 2 ^ bits (s.reg (R.TE_NOUT_CTRL e)) 0 4)
    (hok : (ringWrite s e (s.ringOutAt e) (outBytes q)).2 = rOk) :
    let x := ringWrite s e (s.ringOutAt e) (outBytes q)
    execTeRingWriteResponse e false s
      = .next ((x.1.setTe e { x.1.teOf e with out1 := rest }).put (R.TE_NOUT_PROD_INDEX e) (s.get (R.TE_NOUT_PROD_INDEX e) + 1)) := by
  simp only [execTeRingWriteResponse, hout]
  exact (if_neg (by simp [hopen, hwait, hen, hroom])).trans (if_neg (not_not.2 hok))

/-- R472: the condition that an engine waits for is met. -/
theorem execTeStallRelease_met {k : BitVec 5} {c : BitVec 32} {port n : Nat} (hstalled : s.teState e = 2) (hclock : s.engineClocked e = true)
    (hwait : (s.teOf e).wait = some (port, n)) (hmet : ((s.taken e k.toNat).teOf e).streamMet port n = true) :
    execTeStallRelease e k c s
      = .next (((s.taken e k.toNat).put (R.TE_STALLS_COUNT e) (s.get (R.TE_STALLS_COUNT e) + c.toNat)).setTe e
          { (s.taken e k.toNat).teOf e with wait := none } |>.teRuns e) := by
  have hwaits : ((s.taken e k.toNat).teOf e).wait = some (port, n) := by
    rw [← hwait]
    rcases taken_eq s e k.toNat with h | h
    · rw [h]
    · rw [h, teOf_setTe]
  have hrow : ¬ (s.teState e ≠ teStalled ∨ (!s.engineClocked e) = true) := by simp [hstalled, hclock, teStalled]
  have hall : (((s.taken e k.toNat).put (R.TE_STALLS_COUNT e) ((s.taken e k.toNat).get (R.TE_STALLS_COUNT e) + c.toNat)).teOf e).wait.all
      (fun c => ((s.taken e k.toNat).teOf e).streamMet c.1 c.2) = true := by simp [hwaits, hmet]
  rw [get_taken] at hall
  exact (if_neg hrow).trans (if_pos hall)

theorem exec_teCtrlRestart (hstate : s.teState e = 3 ∨ s.teState e = 4) :
    exec (.teCtrlRestart e) s = .next (if s.engineClocked e then enterPage s e else s.setTe e { s.teOf e with restart := true }) :=
  congrArg _ (if_pos hstate)

theorem exec_teCtrlStop (hrun : s.teState e = 1) : exec (.teCtrlStop e) s = .next (s.setTeState e 3) := congrArg _ (if_pos hrun)

/-- R492: TE_RAMDATA is open in IDLE, HALTED and FAULT. -/
theorem execTeRamdataAccess_open (v : Option (BitVec 32)) (who : Requester) (hstate : s.teState e ∈ [0, 3, 4]) :
    execTeRamdataAccess e v who s = match v with
      | some x => .next ((teRamWrite s e x.toNat).answer (requesterPath who) rOk [])
      | none => .next ((stepRamIndex s e).answer (requesterPath who) rOk (toLE 4 (teRamRead s e))) := by
  have hopen : s.teRamOpen e = true := List.contains_iff_mem.2 hstate
  unfold execTeRamdataAccess
  rw [hopen]
  cases v <;> rfl

end Streams

section EventQueue

variable (s : State)

@[simp] theorem te_showEvq : s.showEvq.te = s.te := by
  unfold State.showEvq
  dsimp only
  split
  · rw [setReg_te, put_te]
  · iterate 7 rw [put_te]

theorem te_popEvq : (popEvq s).te = { s.te with evq := s.te.evq.drop 1 } := te_showEvq _

/-- R493: TE_EVQ_COUNT shows how many entries the queue holds. -/
theorem get_count_showEvq : s.showEvq.get R.TE_EVQ_COUNT_COUNT = s.te.evq.length % 2 ^ R.TE_EVQ_COUNT_COUNT.w := by
  have hhead : R.TE_EVQ_COUNT_COUNT.off ≠ R.TE_EVQ_HEAD := by decide
  unfold State.showEvq
  dsimp only
  split
  · rw [get_setReg_ne _ _ hhead, get_put_same _ _ _ (by decide)]
  · iterate 6 rw [get_put_apart _ _ _ _ (by decide) (.inl hhead)]
    rw [get_put_same _ _ _ (by decide)]

end EventQueue

/-- Settles O50. -/
theorem tapStreamRowsAct : Obligations.TapStreamRowsAct := fun s e =>
  ⟨execTeStreamQuadIn_accepts, fun hopen hwait hen hmore hroom hok => execTeRingReadResponse_ok hopen hwait hen hmore hroom hok,
    fun _ _ hopen hwait hout hen hroom hok => execTeRingWriteResponse_ok hopen hwait hout hen hroom hok,
    fun _ _ _ _ => execTeStallRelease_met, exec_teCtrlRestart,
    fun hrun => ⟨_, exec_teCtrlStop hrun, get_put_same _ _ _ (Nat.le_of_ble_eq_true rfl),
      (sameWords.refl s _).put (R.TE_STATUS_STATE e) (List.mem_singleton.2 rfl) 3, sameStores_put s (R.TE_STATUS_STATE e) 3⟩,
    fun v who hstate => ⟨execTeRamdataAccess_open (some v) who hstate, execTeRamdataAccess_open none who hstate⟩,
    fun _ _ => rfl, fun _ => ⟨rfl, rfl⟩,
    ⟨_, rfl, congrArg TapEngines.evq (te_popEvq s), get_count_showEvq _, sameWords_showEvq _, (congrArg TapEngines.engines (te_popEvq s) :)⟩⟩

end Sys2Proof.Machine
end

section
/-!
PROOFS. The rows of the SRAM (O51) and of stack memory (O52).
-/

namespace Sys2Proof.Machine

open Sys2Proof

/-! ### The rows of the SRAM (O51) -/

section SramRows

variable {s : State} {c : Fin 96} {port : Fin 3}

/-- R500, R504: at a port that takes requests a read answers, or is discarded once its region has switched. -/
theorem execSmRead_ready (addr : BitVec 17) (stale : Bool) (hready : s.portReady c (port + 1) = true) :
    let x := sramRead ((s.stalled c (port + 1) 0).wordUpset (s.physWord c addr.toNat) 0) c (8 * addr.toNat) 8 (c / 2) 0xFF (port + 1)
    execSmRead c port addr 0 stale 0 s
      = .next (if stale then x.1.bump (R.SB_CL_DISCARDS_COUNT c) else x.1.answer (smPath c (port + 1)) x.2.1 x.2.2) :=
  if_neg (by simp [hready])

theorem execSmWrite_reaches (addr : BitVec 17) (d : BitVec 64) (be : Byte) (upset : Fin 3) (stalls : BitVec 16)
    (hready : s.portReady c (port + 1) = true)
    (howned : ((s.stalled c (port + 1) stalls.toNat).wordUpset (s.physWord c addr.toNat) upset).deniedBank c [addr.toNat] (c / 2) 0xFF
      = none) :
    let r := writeWord ((s.stalled c (port + 1) stalls.toNat).wordUpset (s.physWord c addr.toNat) upset) c addr.toNat d.toNat be.toNat
    execSmWrite c port addr d be upset stalls s = .next (r.next.answer (smPath c (port + 1)) r.code []) := by
  refine (if_neg (by simp [hready])).trans ?_
  simp only [howned]

/-- R514: a window operation from a port that takes requests. -/
theorem smWindow_ready (w op o data be upset stalls : Nat) (hready : s.portReady c (port + 1) = true) :
    let u := s.stalled c (port + 1) stalls
    let r := windowOp (if op = 0 then u else u.wordUpset (u.windowWord c w op o) upset) c w op o data be (c / 2) 0xFF (port + 1)
    smWindow c port w op o data be upset stalls s
      = .next (r.next.answer (smPath c (port + 1)) r.code (if op = 1 ∨ op = 2 then toLE 8 r.data else [])) :=
  if_neg (by simp [hready])

theorem execSmInvalidOp_ready (hready : s.portReady c (port + 1) = true) :
    execSmInvalidOp c port s = .next (s.answer (smPath c (port + 1)) rWindowOp []) :=
  congrArg _ (if_pos hready)

/-- R519: a read of a port of no cluster performs nothing. -/
theorem execQcPortDataLoRead_noCluster {q : Fin 128} (who : Requester) (hq : 96 ≤ q.val) :
    execQcPortDataLoRead q who 0 s
      = .next ((readPortLo s q who).answer (requesterPath who) rOk (toLE 4 ((readPortLo s q who).reg (R.QC_PORT_DATA_LO q)))) := by
  simp only [execQcPortDataLoRead, hq, true_or, if_true]

/-- A word with no bad symbol at which none shows keeps none. -/
theorem bad_wordUpset_none {p : Nat} (hgood : tblGet (fun _ => 0) s.sram.bad p = 0) :
    tblGet (fun _ => 0) (s.wordUpset p 0).sram.bad p = 0 := by
  refine (tblGet_tblSet_same _ _ _ _).trans ?_
  rw [hgood]
  rfl

/-- R510: a word with no bad symbol passes its check. -/
theorem readCheck_good {p : Nat} (hgood : tblGet (fun _ => 0) s.sram.bad p = 0) : s.readCheck p = (s, rOk) := if_pos hgood

/-- R512: a good word is scrubbed: it counts in its bank's round and in its cluster's passes. -/
theorem execSramScrubWord_good {b : Fin 1536} (hready : s.clusterReady (b / 16) = true)
    (hgood : tblGet (fun _ => 0) s.sram.bad (8192 * b + tblGet (fun _ => 0) s.sram.scrubbed b % 8192) = 0) :
    ∃ (bad : Tbl Nat) (v : Nat), execSramScrubWord b 0 s = .next (State.put { s with sram := { s.sram with
      bad := bad, scrubbed := tblPut b (tblGet (fun _ => 0) s.sram.scrubbed b + 1) s.sram.scrubbed } }
      (R.SB_CL_STATUS_SCRUB_PASSES (b / 16)) v) := by
  simp only [execSramScrubWord, hready, Bool.not_true, Bool.false_eq_true, if_false, Fin.val_zero,
    readCheck_good (bad_wordUpset_none hgood)]
  exact ⟨_, _, rfl⟩

end SramRows

/-- Settles O51. -/
theorem sramRowsAct : Obligations.SramRowsAct := fun s =>
  ⟨fun c port addr hready => ⟨execSmRead_ready addr false hready, execSmRead_ready addr true hready⟩,
    fun c port addr d be hready howned => execSmWrite_reaches addr d be 0 0 hready howned,
    fun c port win o d be k hready => ⟨smWindow_ready _ _ _ _ _ _ _ hready, smWindow_ready _ _ _ _ _ _ _ hready,
      smWindow_ready _ _ _ _ _ _ _ hready, smWindow_ready _ _ _ _ _ _ _ hready⟩,
    fun c port => execSmInvalidOp_ready, fun b owner who => rfl, fun q v who => rfl, fun q who => execQcPortDataLoRead_noCluster who,
    fun q win v who => rfl, fun b hready hgood => by
      obtain ⟨bad, v, hrow⟩ := execSramScrubWord_good hready hgood
      exact ⟨_, hrow, by simp [tblGet, tblFind_tblPut_same], rfl,
        (sameWords.refl _ _).put (R.SB_CL_STATUS_SCRUB_PASSES (b / 16)) (List.mem_singleton.2 rfl) v, rfl, rfl⟩⟩

/-! ### The rows of stack memory (O52) -/

section StackRows

variable {s : State}

theorem execStackLineRead_ready {line : BitVec 30} (errs : List (Fin 72 × Byte)) (recordBad : Bool) (hready : s.mem.ready = true)
    (hline : s.lineExists line.toNat = true) : execStackLineRead line errs recordBad s = .next (readLine
      (if recordBad then (s.upset line.toNat errs).pageLost (line.toNat / 64) else s.upset line.toNat errs) line.toNat).next :=
  if_neg (by simp [hready, hline])

theorem execPatrolScrubLine_ready {line : BitVec 30} (errs : List (Fin 72 × Byte)) (hready : s.mem.ready = true)
    (hline : s.lineExists line.toNat = true) (hmode : s.mode ≠ mLehr) :
    execPatrolScrubLine line errs s = .next (patrolLine (s.upset line.toNat errs) line.toNat).1 :=
  if_neg (by simp [hready, hline, hmode])

theorem execStackLineWrite_ready {line : BitVec 30} (errs : List (Fin 72 × Byte)) (hready : s.mem.ready = true)
    (hline : s.lineExists line.toNat = true) (off : Fin 64) {b : List Byte} (hb : b ≠ []) :
    execStackLineWrite line off b errs s = .next (writeLine (s.upset line.toNat errs) line.toNat off (b.take (64 - off))).1 :=
  if_neg (by simp [hready, hline, hb])

/-- R532: a channel's STATE shows what it changes to. -/
theorem get_setChannelState (s : State) (ch : Nat) {st : Nat} (hst : st < 4) :
    (s.setChannelState ch st).get (R.SM_CH_STATUS_STATE ch) = st := by
  unfold State.setChannelState
  split
  case isTrue h => exact h
  case isFalse =>
    rw [get_raise_ne _ (by simp only [R.SM_CH_STATUS_STATE, R.SM_CH_STATUS, R.EV_STATUS]; omega)
        (by simp only [R.SM_CH_STATUS_STATE, R.SM_CH_STATUS, R.EV_COUNT]; omega),
      get_put_apart _ _ (R.SM_CH_FLAGS_STATE_SEEN ch) _ (Nat.le_of_ble_eq_true rfl) (.inr (.inl (Nat.le_of_ble_eq_true rfl))),
      get_put_same _ _ _ (Nat.le_of_ble_eq_true rfl)]
    exact Nat.mod_eq_of_lt hst

theorem execSweepPage_next {g : Nat} (recordBad : Bool) (hnext : s.nextSweep = some g) :
    let p := 65536 * g + tblGet (fun _ => 0) s.mem.sweepPos g
    let u : State := { s with mem := { s.mem with sweepNext := g + 1 } }
    execSweepPage recordBad s = .next (((if recordBad then u.pageLost p else u).sweepPage p).markSwept p) := by
  unfold execSweepPage
  rw [hnext]

/-- R552: a DRAINING slot with nothing in flight is zeroised, and its zeroising lets the segments that wait for a slot start. -/
theorem execSlotZeroise_drained {n : Fin 16} (hdrains : s.get (R.MG_SLOT_STATE n) = 3) (hnone : s.slotInflight n = 0)
    (hstill : (s.put (R.MG_SLOT_INFLIGHT n) 0).slotInflight n = 0) :
    execSlotZeroise n s = .next ((((s.put (R.MG_SLOT_INFLIGHT n) 0).setReg (R.MG_SLOT n) 0).raise 246).startWaiting) := by
  have hstate : (s.put (R.MG_SLOT_INFLIGHT n) 0).get (R.MG_SLOT_STATE n) = 3 :=
    (get_put_apart _ _ (R.MG_SLOT_INFLIGHT n) _ (Nat.le_of_ble_eq_true rfl) (.inr (.inl (Nat.le_of_ble_eq_true rfl)))).trans hdrains
  simp only [execSlotZeroise, hnone, Nat.zero_min, hstate, hstill, and_self, if_true]

/-- R554: a pass over a range in which no line may fail ends at once. -/
theorem execMemScrubComplete_clean {o : Op} (hop : s.gaf.ops.find? (fun o => o.command == 0x0806) = some o)
    (hswept : s.has R.MG_STATUS_SWEEPING = false) (hclean : s.scrubLines (o.args.getD 0 0) (o.args.getD 1 0) = []) :
    execMemScrubComplete s = .next (s.endOp o stOk 0) := by
  simp only [execMemScrubComplete, hop, hswept, hclean, Bool.false_eq_true, if_false, List.foldl_nil, Nat.zero_min]

end StackRows

/-- Settles O52. -/
theorem stackMemoryRowsAct : Obligations.StackMemoryRowsAct := fun s =>
  ⟨fun _ errs hready hline => ⟨execStackLineRead_ready errs false hready hline, execStackLineRead_ready errs true hready hline,
      execPatrolScrubLine_ready errs hready hline, fun off _ => execStackLineWrite_ready errs hready hline off⟩,
    fun ch hstate => ⟨if_neg hstate, get_setChannelState s ch (by decide)⟩,
    fun _ hnext => ⟨execSweepPage_next false hnext, execSweepPage_next true hnext⟩,
    fun _ => execSlotZeroise_drained, fun _ => execMemScrubComplete_clean⟩

end Sys2Proof.Machine
end

section
/-!
PROOFS. The network: requests that are performed (O53), answers, snoops and timeouts (O54).
-/

namespace Sys2Proof.Machine

open Sys2Proof

/-! ### Requests that their target performs (O53) -/

section Requests

variable {s : State} {r : NocRequest} {act : Access} {posted : Bool} {q : Issuer} {t : Target}

/-- R571: a packet whose flits all arrive whole leaves no trace in the links. -/
@[simp] theorem linkFaults_nil (s : State) (way : List Nat) (p : Packet) : s.linkFaults way p [] = s :=
  List.foldl_fixed' (fun _ => by split <;> rfl) way

/-- R568-R570: a request that its source may issue and that this device's target `t` takes. -/
theorem nocRequest_eq_nocHere (hissuer : issuerOf r.src r.dev (r.col.map Fin.val) = some q) (hopen : s.epState r.src = epOpen)
    (hfree : s.outOf r.src (nocDevice s r) r.tag.toNat = none) (hport : portOf r.src = none) (hmay : s.mayIssue r.src r.col = true)
    (hformed : wellFormedRequest (r.addr.toNat % 2 ^ 40) r.len.toNat act.isWindow = true) (hmiss : nocHit s r act q = none)
    (htarget : targetOf s r.addr.toNat r.len.toNat = t) (hmapped : t ≠ .nowhere) (hhere : ∀ p, t ≠ .away p) :
    nocRequest s r act posted = nocHere s r act posted q t (targetEndpoint s t (r.addr.toNat % 2 ^ 40)) := by
  simp only [nocRequest, hissuer, hopen, hfree, hport, hmay, hformed, hmiss, htarget, hmapped]
  cases t with
  | away p => exact absurd rfl (hhere p)
  | nowhere | stack | sram | aperture | control | host => rfl

section Arrives

variable {e : Nat} (hopen : s.epState e = epOpen) (hway : s.wayFailed (route r.src e) = false) (hfaults : r.faults = [])
  (hsound : r.poison = false)

include hopen hway hfaults hsound

/-- R574: a sound request that reaches an open endpoint which answers by itself is performed there. -/
theorem nocHere_performs (hself : t = .stack ∨ t = .control ∨ ∃ c, t = .sram c)
    (hwait : s.mustWait r.addr.toNat r.len.toNat act.isWrite = false) :
    let k := nocPacket s r act posted q e
    let x := perform (s.inject k) q t r.addr.toNat r.len.toNat act (if posted then none else some (r.src.val, nocDevice s r, r.tag.toNat))
    nocHere s r act posted q t e
      = nocAdd x.1 posted (nocEntry s r act k e (some (x.2.1, if x.2.1 = rOk then x.2.2 else [])) false false) := by
  have hpresent : ¬ s.epState e = 0 := by simp [hopen, epOpen]
  have hstate (k : Packet) : (s.inject k).epState e = epOpen := hopen
  have hways (k : Packet) : (s.inject k).wayFailed (route r.src e) = false := hway
  simp only [nocHere, hpresent, hwait, hfaults, linkFaults_nil, hstate, hways, hsound]
  rcases hself with rfl | rfl | ⟨c, rfl⟩ <;> rfl

/-- R833: a sound request that reaches the host port waits for the host, or is answered there. -/
theorem nocHere_host :
    let k := nocPacket s r act posted q e
    nocHere s r act posted q .host e = nocAdd (s.inject k) posted (nocEntry s r act k e (if q.peer then some (rDenied, [])
      else if s.has R.HP_APER_CTRL_EN = false ∨ s.hostReachable = false then some (rUnmapped, [])
      else if act.isWrite then some (rOk, []) else none) false false) := by
  have hpresent : ¬ s.epState e = 0 := by simp [hopen, epOpen]
  have hstate (k : Packet) : (s.inject k).epState e = epOpen := hopen
  have hways (k : Packet) : (s.inject k).wayFailed (route r.src e) = false := hway
  have hhas (k : Packet) : (s.inject k).has R.HP_APER_CTRL_EN = s.has R.HP_APER_CTRL_EN := rfl
  have hreach (k : Packet) : (s.inject k).hostReachable = s.hostReachable := rfl
  simp only [nocHere, hpresent, hfaults, linkFaults_nil, hstate, hways, hsound, hhas, hreach, reduceCtorEq, and_false, if_false,
    Bool.not_eq_true', Bool.false_eq_true, ne_eq, not_true]

end Arrives

/-- R574: the rows of the requests. -/
theorem exec_requestRow {b : List Byte} {win : Fin 8} {words : List (BitVec 64)} {x : Instr × Access × Bool}
    (hx : x ∈ [(Instr.read r, Access.read, false), (.write r posted b, .write (fit r.len.toNat b), posted),
        (.winPush r win words, .window 0 win (windowWords r.len.toNat words), false),
        (.winPop r win, .window 1 win (windowWords r.len.toNat []), false),
        (.winPeek r win, .window 2 win (windowWords r.len.toNat []), false),
        (.winPoke r win words, .window 3 win (windowWords r.len.toNat words), false)]) :
    exec x.1 s = .next (nocRequest s r x.2.1 x.2.2) := by
  simp only [List.mem_cons, List.not_mem_nil, or_false] at hx
  rcases hx with rfl | rfl | rfl | rfl | rfl | rfl <;> rfl

end Requests

/-- Settles O53. -/
theorem networkRequestsArePerformed : Obligations.NetworkRequestsArePerformed := by
  intro s r q posted b win words n x hx hissuer hopen hfree hport hmay hformed hmiss hsound hfaults htarget e hend hway hwait k y
  have hmapped : targetOf s r.addr.toNat n ≠ .nowhere ∧ ∀ p, targetOf s r.addr.toNat n ≠ .away p := by
    rcases htarget with h | h | ⟨c, h⟩ <;> simp [h]
  rw [exec_requestRow hx, nocRequest_eq_nocHere hissuer hopen hfree hport hmay hformed hmiss rfl hmapped.1 hmapped.2,
    nocHere_performs hend hway hfaults hsound htarget hwait]

/-! ### Answers, snoops and timeouts (O54) -/

section Responses

variable {s : State} {p : NocResponse} {o : Outstanding}

/-- R363, R591: a response that travels back over sound links reaches its source. -/
theorem sendBack_sound {code : Nat} {d : List Byte} {take : State → State} (hreturns : s.returns o = true) :
    s.sendBack o code d [] take = take (s.inject (o.response code (if code = rOk then d else []))) := by
  have hstill (k : Packet) : (s.inject k).returns o = true := hreturns
  simp only [State.sendBack, hreturns, if_true, linkFaults_nil, hstill]

/-- R574: a completion or an error travels back as a RESP. -/
theorem execResp_answered {c : Nat} {d : List Byte} (st : BitVec 4) (hout : s.outOf p.src p.dev p.tag.toNat = some o)
    (hanswer : o.answer = some (c, d)) (hreturns : s.returns o = true) (hfaults : p.faults = []) (hresp : o.read = false ∨ c ≠ rOk) :
    execResp p st s = .next ((s.inject (o.response c [])).delivered o c (if o.read then zeros o.len else [])) := by
  have hno : ¬ (o.read = true ∧ c = rOk) := fun ⟨hr, hc⟩ => hresp.elim (fun h => Bool.false_ne_true (h.symm.trans hr)) (· hc)
  simp only [execResp, hout, hanswer, if_neg hno, hfaults, sendBack_sound hreturns, ite_self]

/-- R574: an OK answer with data travels back as DATA. -/
theorem execData_answered {c : Nat} {d : List Byte} (b : List Byte) (key : BitVec 4) (hout : s.outOf p.src p.dev p.tag.toNat = some o)
    (hanswer : o.answer = some (c, d)) (hreturns : s.returns o = true) (hfaults : p.faults = []) (hread : o.read = true) (hok : c = rOk)
    (hstore : o.store = false) : execData p b key s = .next ((s.inject (o.response rOk d)).delivered o rOk d) := by
  have hkeep (t : State) (l : List Byte) (k : Nat) : t.storeAway o l k = t := by
    unfold State.storeAway
    rw [hstore]
    split <;> rfl
  simp only [execData, hout, hanswer, hok, if_true, hread, Bool.not_true, Bool.false_eq_true, if_false, hfaults, sendBack_sound hreturns,
    hkeep]

theorem execRequestTimeout_here (hout : s.outOf p.src p.dev p.tag.toNat = some o) (hhere : o.away = false) :
    execRequestTimeout p s = .next (s.timedOut o) := by
  simp only [execRequestTimeout, hout, hhere, Bool.false_eq_true, if_false]

theorem execArrayRequestTimeout_away (hout : s.outOf p.src p.dev p.tag.toNat = some o) (haway : o.away = true) :
    execArrayRequestTimeout p s = .next (s.timedOut o) := by
  simp only [execArrayRequestTimeout, hout, haway, if_true]

/-- R593: EV_NOC_TIMEOUT. -/
theorem eventSet_timedOut (s : State) (o : Outstanding) : (s.timedOut o).eventSet 269 = true :=
  eventSet_raise _ 269 (eventAbsent_of_gt _ (by decide))

theorem execHostCompletionTimeout_of_hostAnswer {t : State} (h : s.hostAnswer p rTimeout [] = some t) :
    execHostCompletionTimeout p s = .next (t.bump R.HP_ERR2_TIMEOUTS) := by
  simp only [execHostCompletionTimeout, h, Option.elim_some]

theorem execHostCompletionArrival_of_hostAnswer {t : State} (b : List Byte) :
    (s.hostAnswer p rOk b = some t → execHostCompletionArrival p ⟨.ok, b⟩ s = .next t)
      ∧ (s.hostAnswer p rIntegrity [] = some t → execHostCompletionArrival p ⟨.poisoned, b⟩ s = .next (t.bump R.HP_ERR2_POISONED))
      ∧ (s.hostAnswer p rUnmapped [] = some t → execHostCompletionArrival p ⟨.refused, b⟩ s = .next t)
      ∧ (s.hostAnswer p rTimeout [] = some t → execHostCompletionArrival p ⟨.timeout, b⟩ s = .next (t.bump R.HP_ERR2_TIMEOUTS)) := by
  refine ⟨fun h => ?_, fun h => ?_, fun h => ?_, fun h => ?_⟩ <;> simp only [execHostCompletionArrival, h, Option.elim_some, Option.getD_some]

end Responses

section Snoops

/-- The caches, the acknowledgements of snoops, the stack memory and the gaffer are as they were. -/
def sameCaching (s t : State) : Prop := t.noc.caches = s.noc.caches ∧ t.noc.acks = s.noc.acks ∧ t.mem = s.mem ∧ t.gaf = s.gaf

theorem sameCaching.refl (s : State) : sameCaching s s := ⟨rfl, rfl, rfl, rfl⟩

variable {s t u : State}

theorem sameCaching.trans (h : sameCaching s t) (h' : sameCaching t u) : sameCaching s u := by
  obtain ⟨hc, ha, hm, hg⟩ := h
  obtain ⟨hc', ha', hm', hg'⟩ := h'
  exact ⟨hc'.trans hc, ha'.trans ha, hm'.trans hm, hg'.trans hg⟩

theorem sameCaching.put (h : sameCaching s t) (f : RF) (v : Nat) : sameCaching s (t.put f v) := h

theorem sameCaching_sendFrame (s : State) (p cls kind : Nat) (header : Option Nat) (body : List Byte) :
    sameCaching s (s.sendFrame p cls kind header body) := ⟨rfl, rfl, rfl, rfl⟩

theorem sameCaching_sendPacket (s : State) (p : Nat) (k : Packet) : sameCaching s (s.sendPacket p k) := by
  unfold State.sendPacket
  dsimp only
  split
  · exact (sameCaching_sendFrame s ..).trans (sameCaching_sendFrame _ ..)
  · exact sameCaching_sendFrame s ..

theorem sameCaching_snoopDevice (s : State) (d line : Nat) (key : Option Nat) : sameCaching s (s.snoopDevice d line key) := by
  unfold State.snoopDevice
  dsimp only
  split
  · exact sameCaching_sendPacket s ..
  · exact .refl s

/-- R552: what shows of the slots, and the KEY_DROPs that a draining one sends, change no cache and acknowledge nothing. -/
theorem sameCaching_showSlots (s : State) : sameCaching s s.showSlots := by
  unfold State.showSlots
  refine iterate_preserves (P := sameCaching s) (.refl s) fun n t ht => ?_
  refine sameCaching.put (ite_preserves (P := sameCaching s) ((ht.put _ _).put _ _) fun hu => ?_) _ _
  exact forEach_preserves (P := sameCaching s) hu fun b _ v hv => hv.trans (sameCaching_snoopDevice v ..)

theorem sameCaching_showCache (s : State) (unit : Nat) : sameCaching s (s.showCache unit) := .put (.refl s) _ _

/-- R596: the lines that a unit keeps are none of those that it drops. -/
theorem not_of_mem_dropLines {unit : Nat} {p : CacheLine → Bool} {c : CacheLine} (hc : c ∈ (s.dropLines unit p).noc.caches)
    (hunit : c.unit = unit) : p c = false := by
  obtain ⟨-, hkept⟩ := List.mem_filter.1 hc
  simpa [hunit] using hkept

/-- R599: a snoop is acknowledged. -/
theorem execInv_snooped {unit : Fin 49} {line : BitVec 37} (hsnoop : s.noc.snoops.contains (unit.val, line.toNat, none) = true) :
    ∃ t, execInv (some unit) line s = .next t ∧ (∀ c ∈ t.noc.caches, c.unit = unit.val → c.line ≠ line.toNat)
      ∧ t.noc.acks = s.noc.acks ++ [(unit.val, line.toNat, none)] ∧ t.mem = s.mem ∧ t.gaf = s.gaf := by
  refine ⟨_, if_pos hsnoop, fun c hc hunit hline => ?_, rfl, rfl, rfl⟩
  exact absurd hline (beq_eq_false_iff_ne.1 (not_of_mem_dropLines hc hunit))

theorem execKeyDrop_snooped {unit : Fin 49} {dev : Fin 8} {key : BitVec 4}
    (hsnoop : s.noc.snoops.contains (unit.val, dev.val, some key.toNat) = true) :
    ∃ t, execKeyDrop (some unit) dev key s = .next t
      ∧ (∀ c ∈ t.noc.caches, c.unit = unit.val → c.key = key.toNat → c.line / 2 ^ 34 ≠ dev.val)
      ∧ t.noc.acks = s.noc.acks ++ [(unit.val, dev.val, some key.toNat)] ∧ t.mem = s.mem ∧ t.gaf = s.gaf := by
  obtain ⟨hcaches, hacks, hmem, hgaf⟩ := sameCaching_showSlots ((s.snooped unit.val dev.val (some key.toNat)).dropLines unit.val
    (fun c => c.key == key.toNat && c.line / 2 ^ 34 == dev.val))
  refine ⟨_, if_pos hsnoop, fun c hc hunit hkey hdev => ?_, hacks, hmem, hgaf⟩
  have hdropped := not_of_mem_dropLines (hcaches ▸ hc) hunit
  rw [hkey, hdev, beq_self_eq_true, beq_self_eq_true] at hdropped
  exact Bool.noConfusion hdropped

/-- R598: the acknowledgement of an INV of this device's line unlocks it. -/
theorem execInvAck_own {b : Fin 64} {line : BitVec 37} (hunit : b.val ≤ 48) (hack : s.noc.acks.contains (b.val, line.toNat, none) = true)
    (hown : line.toNat / 2 ^ 34 = s.devId) :
    let u : State := { s with noc := { s.noc with acks := s.noc.acks.erase (b.val, line.toNat, none) } }
    execInvAck b line none s = .next (State.unlock (u.inject (u.snoopPacket b line.toNat none true)) b line.toNat) := by
  intro u
  have hdev (k : Packet) : (u.inject k).devId = line.toNat / 2 ^ 34 := hown.symm
  simp only [execInvAck, Option.map_none, Option.isSome_none, hunit, hack, if_true, Bool.not_true, Bool.false_eq_true, if_false]
  exact if_neg (not_not.2 (hdev _).symm)

end Snoops

section Endpoints

variable {s : State} {e : Fin 240}

/-- R592: a dead endpoint's sink answers what was delivered to it. -/
theorem execEndpointDead_live (hlive : s.epState e = epOpen ∨ s.epState e = epClosing) :
    ∃ t, execEndpointDead e s = .next t ∧ t.epState e = epDead ∧ t.get (R.NC_EP_CTRL_OPEN e) = 0 ∧ t.get (R.NC_EP_STATUS_DEAD_SEEN e) = 1
      ∧ (∀ o ∈ t.noc.out, o.dst = e.val → o.answer.isSome = true) ∧ t.mem = s.mem ∧ t.sram = s.sram ∧ t.gaf = s.gaf := by
  have hfar : 0x030000 ≤ R.NC_EP_CTRL e ∧ 0x030000 ≤ R.NC_EP_STATUS e := by unfold R.NC_EP_CTRL R.NC_EP_STATUS; omega
  obtain ⟨hctrl, hstatus⟩ := hfar
  refine ⟨_, if_pos hlive, ?state, ?ctrl, ?seen, ?out, raise_mem _ _, raise_sram _ _, raise_gaf _ _⟩
  case state =>
    refine (get_raise_beyond _ hstatus (by decide)).trans ?_
    rw [get_put_apart _ _ (R.NC_EP_STATUS_DEAD_SEEN e) _ (Nat.le_of_ble_eq_true rfl) (.inr (.inl (Nat.le_of_ble_eq_true rfl)))]
    exact get_put_same _ _ _ (Nat.le_of_ble_eq_true rfl)
  case ctrl =>
    refine (get_raise_beyond _ hctrl (by decide)).trans ?_
    have hne : R.NC_EP_CTRL e ≠ R.NC_EP_STATUS e := by unfold R.NC_EP_CTRL R.NC_EP_STATUS; omega
    rw [get_put_apart _ _ (R.NC_EP_STATUS_DEAD_SEEN e) _ (Nat.le_of_ble_eq_true rfl) (.inl hne),
      get_put_apart _ _ (R.NC_EP_STATUS_STATE e) _ (Nat.le_of_ble_eq_true rfl) (.inl hne)]
    exact get_put_same _ _ _ (Nat.le_of_ble_eq_true rfl)
  case seen => exact (get_raise_beyond _ hstatus (by decide)).trans (get_put_same _ _ _ (Nat.le_of_ble_eq_true rfl))
  case out =>
    intro o ho hdst
    rw [raise_noc] at ho
    obtain ⟨x, -, rfl⟩ := List.mem_map.1 ho
    by_cases hwaits : (x.dst == e.val && x.answer.isNone) = true
    · rw [if_pos hwaits]
      rfl
    · rw [if_neg hwaits] at hdst ⊢
      simpa [hdst, Option.isSome_iff_ne_none] using hwaits

theorem execEndpointClosed_idle (hclosing : s.epState e = epClosing)
    (hidle : ∀ o ∈ s.noc.out, o.src ≠ e.val ∧ (o.dst = e.val → o.answer.isSome = true)) :
    ∃ t, execEndpointClosed e s = .next t ∧ t.epState e = epIsolated ∧ t.get (R.NC_EP_STATUS_CLOSED_SEEN e) = 1
      ∧ t.mem = s.mem ∧ t.sram = s.sram ∧ t.gaf = s.gaf ∧ t.noc = s.noc := by
  have hbusy : s.noc.out.any (fun o => o.src == e.val || (o.dst == e.val && o.answer.isNone)) = false := by
    refine List.any_eq_false.2 fun o ho => ?_
    obtain ⟨hsrc, hdst⟩ := hidle o ho
    simp only [Bool.or_eq_true, beq_iff_eq, Bool.and_eq_true, Option.isNone_iff_eq_none, not_or, not_and]
    exact ⟨hsrc, fun h => Option.isSome_iff_ne_none.1 (hdst h)⟩
  have hstatus : 0x030000 ≤ R.NC_EP_STATUS e := by unfold R.NC_EP_STATUS; omega
  refine ⟨_, if_pos ⟨hclosing, by simp [hbusy]⟩, ?state, ?seen, raise_mem _ _, raise_sram _ _, raise_gaf _ _, raise_noc _ _⟩
  case state =>
    refine (get_raise_beyond _ hstatus (by decide)).trans ?_
    rw [get_put_apart _ _ (R.NC_EP_STATUS_CLOSED_SEEN e) _ (Nat.le_of_ble_eq_true rfl) (.inr (.inl (Nat.le_of_ble_eq_true rfl)))]
    exact get_put_same _ _ _ (Nat.le_of_ble_eq_true rfl)
  case seen => exact (get_raise_beyond _ hstatus (by decide)).trans (get_put_same _ _ _ (Nat.le_of_ble_eq_true rfl))

end Endpoints

/-- R833: the rows of aperture requests are those of READ and WRITE. -/
theorem exec_hostApertureRequest {s : State} {r : NocRequest} (hhost : addrClass (r.addr.toNat % 2 ^ 40) = .host) (posted : Bool) (b : List Byte) :
    exec (.hostApertureRequest r none posted) s = exec (.read r) s
      ∧ exec (.hostApertureRequest r (some b) posted) s = exec (.write r posted b) s :=
  ⟨if_neg (not_not.2 hhost), if_neg (not_not.2 hhost)⟩

/-- Settles O54. That a write to the aperture is answered OK once it is posted is log entry 78 (DEDUCED; R642 and R825 shut the aperture to
peers and without a host). -/
theorem networkAnswersArrive : Obligations.NetworkAnswersArrive := by
  intro s
  refine ⟨fun p o c d hout hanswer hreturns hfaults => ⟨fun st => execResp_answered st hout hanswer hreturns hfaults,
      fun b key => execData_answered b key hout hanswer hreturns hfaults⟩,
    fun p o hout => ⟨execRequestTimeout_here hout, execArrayRequestTimeout_away hout, .inl (eventSet_timedOut s o)⟩,
    fun _ _ => execInv_snooped, fun _ _ _ => execKeyDrop_snooped, fun _ _ => execInvAck_own, fun _ => execEndpointDead_live,
    fun _ => execEndpointClosed_idle, fun r posted b hhost => ⟨exec_hostApertureRequest hhost posted b, ?host⟩,
    fun p t => ⟨execHostCompletionTimeout_of_hostAnswer, execHostCompletionArrival_of_hostAnswer⟩⟩
  case host =>
    intro q n x hx hissuer hopen hfree hport hmay hformed hmiss hsound hfaults htarget hend hway k ans
    have hrow : exec x.1 s = .next (nocRequest s r x.2.1 x.2.2) := by
      simp only [List.mem_cons, List.not_mem_nil, or_false] at hx
      rcases hx with rfl | rfl
      · exact (exec_hostApertureRequest hhost posted b).1
      · exact (exec_hostApertureRequest hhost posted b).2
    have hmapped : x.2.1.isWindow = false := by
      simp only [List.mem_cons, List.not_mem_nil, or_false] at hx
      rcases hx with rfl | rfl <;> rfl
    rw [hrow, nocRequest_eq_nocHere hissuer hopen hfree hport hmay (hmapped ▸ hformed) hmiss htarget nofun nofun]
    exact congrArg _ (nocHere_host hend hway hfaults hsound)

end Sys2Proof.Machine
end

section
/-!
PROOFS. The rows of the array (O58).
-/

namespace Sys2Proof.Machine

open Sys2Proof

/-! ### The rows of the array (O58) -/

/-! #### Peers (R656, R658) -/

section Peers

variable {s : State} {mb : Fin 16}

/-- R92, R198: a yield lists no operation of a peer. -/
theorem peerOps_yielded (s : State) (code overCode detail : Nat) : (s.yielded code overCode detail).gaf.peerOps = s.gaf.peerOps := by
  unfold State.yielded
  dsimp only
  split
  · rfl
  · rw [logAlways_of_lt _ (by decide), raise_gaf]
    rfl

theorem peerOps_noteLateness (s : State) (n : Nat) : (s.noteLateness n).gaf.peerOps = s.gaf.peerOps := by
  unfold State.noteLateness
  dsimp only
  split
  · rfl
  · split
    · exact peerOps_yielded ..
    · exact peerOps_yielded ..

theorem peerOps_respond (s : State) (n : Nat) (fwd : Bool) (command tag status detail : Nat) (payload : List Byte) :
    (s.respond n fwd command tag status detail payload).gaf.peerOps = s.gaf.peerOps := by
  rw [respond_eq, peerOps_noteLateness, responded_gaf]

theorem mem_respond (s : State) (n : Nat) (fwd : Bool) (command tag status detail : Nat) (payload : List Byte) :
    (s.respond n fwd command tag status detail payload).mem = s.mem := by
  have hresponded := (sameStores_responded s n status (responseBytes fwd command tag status detail s.tb.turn s.tb.pip payload)).1
  rw [respond_eq]
  rcases noteLateness_cases (s.responded n status _) n with hintime | hlate
  · rw [hintime]
    exact hresponded
  · exact hlate.stores.1.trans hresponded

theorem execForwardTimeout_forwarded {f : Forward} (hfwd : s.gaf.forwards.find? (fun f => f.mb == mb.val) = some f) :
    execForwardTimeout mb s = .next ((s.dropForward mb).respond mb false f.command f.tag stTimeout 0xFFFE []) := by
  simp only [execForwardTimeout, hfwd]

/-- R658: the peer's response is written whole. -/
theorem execPeerResponseArrival_forwarded {f : Forward} (p : Response)
    (hfwd : s.gaf.forwards.find? (fun f => f.mb == mb.val) = some f) :
    let t := (s.dropForward mb).respond mb true f.command f.tag p.status.toNat p.detail.toNat []
    let u := { t with mbuf := cellsSet 0 t.mbuf (rspBuf mb) (responseBytes true p.command.toNat p.tag.toNat p.status.toNat p.detail.toNat
      p.turn.toNat p.pip.toNat p.payload) }
    execPeerResponseArrival mb p s = if p.status = 1 then
        .next { u with gaf := { u.gaf with peerOps := u.gaf.peerOps ++ [{ mb := mb, tag := f.tag, command := f.command }] } }
      else .next u := by
  simp only [execPeerResponseArrival, hfwd]

/-- R658: an accepted operation goes on at the peer. -/
theorem execPeerResponseArrival_accepted {f : Forward} {p : Response}
    (hfwd : s.gaf.forwards.find? (fun f => f.mb == mb.val) = some f) (haccepted : p.status = 1) :
    ∃ t, execPeerResponseArrival mb p s = .next t
      ∧ t.gaf.peerOps = s.gaf.peerOps ++ [{ mb := mb.val, tag := f.tag, command := f.command }]
      ∧ t.get (R.MB_STATUS_STATE mb) = 3 ∧ t.mem = s.mem := by
  refine ⟨_, (execPeerResponseArrival_forwarded p hfwd).trans (if_pos haccepted), ?_, ?_, ?_⟩
  · exact congrArg (· ++ _) (peerOps_respond (s.dropForward mb) mb true ..)
  · exact get_state_respond (s.dropForward mb) _ mb.isLt true ..
  · exact mem_respond (s.dropForward mb) mb true ..

theorem execPeerCompletionNotice_listed {tag : BitVec 16} {o : PeerOp} (status : BitVec 16)
    (hop : s.gaf.peerOps.find? (fun o => o.mb == mb.val && o.tag == tag.toNat) = some o) :
    execPeerCompletionNotice mb tag status s = .next (s.endPeerOp o status.toNat) := by
  simp only [execPeerCompletionNotice, hop]

/-- R658: an operation that has ended at its peer is listed no more. -/
theorem peerOps_endPeerOp (s : State) (o : PeerOp) (status : Nat) :
    (s.endPeerOp o status).gaf.peerOps = s.gaf.peerOps.filter (fun x => !(x.mb == o.mb && x.tag == o.tag)) := by
  unfold State.endPeerOp
  dsimp only
  split
  · rfl
  · obtain ⟨notices, hgaf⟩ := pushNotice_gaf _ _ _ _
    rw [hgaf]
    rfl

/-- R658: of one whose mailbox was reset no notice comes. -/
theorem notices_endPeerOp_quiet {o : PeerOp} (status : Nat) (hquiet : o.quiet = true) : (s.endPeerOp o status).gaf.notices = s.gaf.notices := by
  unfold State.endPeerOp
  dsimp only
  rw [if_pos hquiet]
  rfl

end Peers

/-! #### The state of a link (R652) -/

section SeamState

variable (s : State) (p : Nat)

/-- What a change of a link's state shows. -/
def State.seamShown (st : Nat) : State := ((s.put (R.NC_SEAM_STATUS_STATE p) st).put (R.NC_SEAM_STATUS_STATE_SEEN p) 1).raise 287

theorem seamStatus_beyond : 0x030000 ≤ R.NC_SEAM_STATUS p := by
  unfold R.NC_SEAM_STATUS
  omega

theorem seam_seamShown {st : Nat} (hst : st < 8) : (s.seamShown p st).seam p = st := by
  refine (get_raise_beyond _ (seamStatus_beyond p) (by decide)).trans ?_
  rw [get_put_apart _ _ (R.NC_SEAM_STATUS_STATE_SEEN p) _ (Nat.le_of_ble_eq_true rfl) (.inr (.inl (Nat.le_of_ble_eq_true rfl))),
    get_put_same _ _ _ (Nat.le_of_ble_eq_true rfl)]
  exact Nat.mod_eq_of_lt hst

theorem setSeam_cases {st : Nat} (hchange : s.seam p ≠ st) :
    s.setSeam p st = s.seamShown p st ∨ ∃ a : ArrayLinks, s.setSeam p st = { s.seamShown p st with arr := a } := by
  unfold State.setSeam
  rw [if_neg hchange]
  by_cases hlive : (s.seamShown p st).seamLive p = true
  · exact .inl (if_pos hlive)
  · exact .inr ⟨_, if_neg hlive⟩

theorem regs_withArr (a : ArrayLinks) : ({ s with arr := a } : State).regs = s.regs := rfl

/-- R652: what a link that changes its state does to the registers. -/
theorem regs_setSeam {st : Nat} (hchange : s.seam p ≠ st) : (s.setSeam p st).regs = (s.seamShown p st).regs := by
  rcases setSeam_cases s p hchange with h | ⟨a, h⟩
  · exact congrArg State.regs h
  · exact (congrArg State.regs h).trans (regs_withArr _ a)

/-- R652: a link that comes UP keeps its frames and its keys. -/
theorem setSeam_up (hchange : s.seam p ≠ smUp) : s.setSeam p smUp = s.seamShown p smUp := by
  have hlive : (s.seamShown p smUp).seamLive p = true := by
    rw [State.seamLive, seam_seamShown s p (by decide)]
    rfl
  exact (if_neg hchange).trans (if_pos hlive)

theorem get_setSeam {st : Nat} (hchange : s.seam p ≠ st) (f : RF) : (s.setSeam p st).get f = (s.seamShown p st).get f :=
  congrArg (fun r => bits (tblGet resetWord r f.off).toNat f.lo f.w) (regs_setSeam s p hchange)

/-- A field that is apart from a link's state and its flag shows nothing of a change. -/
theorem get_seamShown_apart {f : RF} (hf : 0x030000 ≤ f.off) (hstate : f.apart (R.NC_SEAM_STATUS_STATE p))
    (hseen : f.apart (R.NC_SEAM_STATUS_STATE_SEEN p)) (st : Nat) : (s.seamShown p st).get f = s.get f := by
  unfold State.seamShown
  rw [get_raise_beyond _ hf (by decide), get_put_apart _ _ (R.NC_SEAM_STATUS_STATE_SEEN p) _ (Nat.le_of_ble_eq_true rfl) hseen,
    get_put_apart _ _ (R.NC_SEAM_STATUS_STATE p) _ (Nat.le_of_ble_eq_true rfl) hstate]

/-- R652: a link in training that fails shows FAILED and the cause. -/
theorem failSeam_training {cause : Nat} (hcause : cause < 16) (htraining : s.seam p = smTraining) :
    (s.failSeam p cause).seam p = smFailed ∧ (s.failSeam p cause).get (R.NC_SEAM_STATUS_FAIL_CAUSE p) = cause := by
  have hchange : (s.put (R.NC_SEAM_STATUS_FAIL_CAUSE p) cause).seam p ≠ smFailed := by
    unfold State.seam at htraining ⊢
    rw [get_put_apart _ _ (R.NC_SEAM_STATUS_FAIL_CAUSE p) _ (Nat.le_of_ble_eq_true rfl) (.inr (.inl (Nat.le_of_ble_eq_true rfl))), htraining]
    decide
  unfold State.failSeam
  refine ⟨(get_setSeam _ p hchange _).trans (seam_seamShown _ p (by decide)), (get_setSeam _ p hchange _).trans ?_⟩
  rw [get_seamShown_apart _ _ (seamStatus_beyond p) (.inr (.inr (Nat.le_of_ble_eq_true rfl))) (.inr (.inl (Nat.le_of_ble_eq_true rfl))),
    get_put_same _ _ _ (Nat.le_of_ble_eq_true rfl)]
  exact Nat.mod_eq_of_lt hcause

end SeamState

/-! #### A link that has its keys (R649) -/

section Keying

variable (s : State) (p : Nat) (peer : Fin 8)

/-- R649: both directions of a link begin at epoch 0 and counter 0, under keys from fresh nonces; the peer shows. -/
def State.linkKeyed : State :=
  ((((((s.drawNonces (12 + p)).drawNonces (8 + p)).rekeySeam p true 0).rekeySeam p false 0).put (R.NC_SEAM_EPOCH_EPOCH p) 0).put
    (R.NC_SEAM_STATUS_PEER_ID p) peer.val).put (R.NC_SEAM_STATUS_PEER_VALID p) 1

theorem seamStatus_ne_epoch : R.NC_SEAM_STATUS p ≠ R.NC_SEAM_EPOCH p := by
  unfold R.NC_SEAM_STATUS R.NC_SEAM_EPOCH
  omega

/-- A field of the link's status other than the peer shows nothing of it. -/
theorem seam_linkKeyed : (s.linkKeyed p peer).seam p = s.seam p := by
  have hreg (u : State) (off v : Nat) (h : R.NC_SEAM_STATUS p ≠ off) : (u.setReg off v).seam p = u.seam p := get_setReg_ne u v h
  unfold State.linkKeyed State.seam
  rw [get_put_apart _ _ (R.NC_SEAM_STATUS_PEER_VALID p) _ (Nat.le_of_ble_eq_true rfl) (.inr (.inl (Nat.le_of_ble_eq_true rfl))),
    get_put_apart _ _ (R.NC_SEAM_STATUS_PEER_ID p) _ (Nat.le_of_ble_eq_true rfl) (.inr (.inl (Nat.le_of_ble_eq_true rfl))),
    get_put_apart _ _ (R.NC_SEAM_EPOCH_EPOCH p) _ (Nat.le_of_ble_eq_true rfl) (.inl (seamStatus_ne_epoch p))]
  have hoffs : R.NC_SEAM_STATUS p ≠ R.NC_SEAM_TXCNT_LO p ∧ R.NC_SEAM_STATUS p ≠ R.NC_SEAM_TXCNT_HI p
      ∧ R.NC_SEAM_STATUS p ≠ R.NC_SEAM_RXCNT_LO p ∧ R.NC_SEAM_STATUS p ≠ R.NC_SEAM_RXCNT_HI p := by
    unfold R.NC_SEAM_STATUS R.NC_SEAM_TXCNT_LO R.NC_SEAM_TXCNT_HI R.NC_SEAM_RXCNT_LO R.NC_SEAM_RXCNT_HI
    omega
  obtain ⟨htl, hth, hrl, hrh⟩ := hoffs
  exact (hreg _ _ _ hrh).trans ((hreg _ _ _ hrl).trans ((hreg _ _ _ hth).trans (hreg _ _ _ htl)))

/-- The states agree but for the links, the registers and what `sameStores` spares. -/
def besideLinks (s t : State) : Prop := sameStores s { t with arr := s.arr }

theorem besideLinks_linkKeyed : besideLinks s (s.linkKeyed p peer) := by
  simp [besideLinks, sameStores, State.linkKeyed, State.rekeySeam, State.drawNonces]

theorem besideLinks.put {s t : State} (h : besideLinks s t) (f : RF) (v : Nat) : besideLinks s (t.put f v) := h

theorem besideLinks.raise {s t : State} (h : besideLinks s t) (e : Nat) : besideLinks s (t.raise e) := by
  simpa [besideLinks, sameStores] using h

theorem besideLinks.seamShown {s t : State} (h : besideLinks s t) (p st : Nat) : besideLinks s (t.seamShown p st) :=
  ((h.put _ _).put _ _).raise 287

/-- The registers of a link's keys are none of its status, and none of the events'. -/
theorem seamWords_ne : R.NC_SEAM_TXCNT_LO p ∉ [R.NC_SEAM_TXCNT_HI p, R.NC_SEAM_RXCNT_LO p, R.NC_SEAM_RXCNT_HI p, R.NC_SEAM_EPOCH p, R.NC_SEAM_STATUS p]
    ∧ R.NC_SEAM_RXCNT_HI p ∉ [R.NC_SEAM_EPOCH p, R.NC_SEAM_STATUS p] := by
  simp only [List.mem_cons, List.not_mem_nil, or_false, not_or]
  unfold R.NC_SEAM_TXCNT_LO R.NC_SEAM_TXCNT_HI R.NC_SEAM_RXCNT_LO R.NC_SEAM_RXCNT_HI R.NC_SEAM_EPOCH R.NC_SEAM_STATUS
  omega

theorem reg_seamShown_ne (st : Nat) {off : Nat} (hoff : 0x030000 ≤ off) (hstatus : off ≠ R.NC_SEAM_STATUS p) :
    (s.seamShown p st).reg off = s.reg off := by
  unfold State.seamShown
  rw [reg_raise_ne _ (by unfold R.EV_STATUS; omega) (by unfold R.EV_COUNT; omega), reg_put_ne _ _ _ hstatus, reg_put_ne _ _ _ hstatus]

/-- R649, R652: the link is UP with its peer, at epoch 0 and counters 0, and nothing but links changed. -/
theorem linkKeyed_up : let t := (s.linkKeyed p peer).seamShown p smUp
    t.seam p = smUp ∧ t.get (R.NC_SEAM_STATUS_PEER_ID p) = peer ∧ t.get (R.NC_SEAM_EPOCH_EPOCH p) = 0 ∧ t.reg (R.NC_SEAM_TXCNT_LO p) = 0
      ∧ t.reg (R.NC_SEAM_RXCNT_HI p) = 0 ∧ besideLinks s t := by
  intro t
  have hbeyond : 0x030000 ≤ R.NC_SEAM_TXCNT_LO p ∧ 0x030000 ≤ R.NC_SEAM_RXCNT_HI p ∧ 0x030000 ≤ R.NC_SEAM_EPOCH p := by
    unfold R.NC_SEAM_TXCNT_LO R.NC_SEAM_RXCNT_HI R.NC_SEAM_EPOCH
    omega
  obtain ⟨htx, hrx, hepoch⟩ := hbeyond
  have hne := (seamStatus_ne_epoch p).symm
  refine ⟨seam_seamShown _ p (by decide), ?peer, ?epoch, ?tx, ?rx, ?stores⟩
  case peer =>
    rw [get_seamShown_apart _ _ (seamStatus_beyond p) (.inr (.inr (Nat.le_of_ble_eq_true rfl))) (.inr (.inl (Nat.le_of_ble_eq_true rfl)))]
    unfold State.linkKeyed
    rw [get_put_apart _ _ (R.NC_SEAM_STATUS_PEER_VALID p) _ (Nat.le_of_ble_eq_true rfl) (.inr (.inl (Nat.le_of_ble_eq_true rfl))),
      get_put_same _ _ _ (Nat.le_of_ble_eq_true rfl)]
    exact Nat.mod_eq_of_lt peer.isLt
  case epoch =>
    rw [get_seamShown_apart _ _ hepoch (.inl hne) (.inl hne)]
    unfold State.linkKeyed
    rw [get_put_apart _ _ (R.NC_SEAM_STATUS_PEER_VALID p) _ (Nat.le_of_ble_eq_true rfl) (.inl hne),
      get_put_apart _ _ (R.NC_SEAM_STATUS_PEER_ID p) _ (Nat.le_of_ble_eq_true rfl) (.inl hne), get_put_same _ _ _ (Nat.le_of_ble_eq_true rfl)]
    rfl
  case tx =>
    obtain ⟨hoffs, -⟩ := seamWords_ne p
    simp only [List.mem_cons, List.not_mem_nil, or_false, not_or] at hoffs
    obtain ⟨hth, hrl, hrh, he, hs⟩ := hoffs
    rw [reg_seamShown_ne _ _ _ htx hs]
    unfold State.linkKeyed State.rekeySeam
    simp only [if_true, Bool.false_eq_true, if_false]
    rw [reg_put_ne _ _ _ hs, reg_put_ne _ _ _ hs, reg_put_ne _ _ _ he, reg_setReg_ne _ _ hrh, reg_setReg_ne _ _ hrl]
    exact (reg_setReg_ne _ _ hth).trans (reg_setReg_same _ _ _)
  case rx =>
    obtain ⟨-, hoffs⟩ := seamWords_ne p
    simp only [List.mem_cons, List.not_mem_nil, or_false, not_or] at hoffs
    obtain ⟨he, hs⟩ := hoffs
    rw [reg_seamShown_ne _ _ _ hrx hs]
    unfold State.linkKeyed
    rw [reg_put_ne _ _ _ hs, reg_put_ne _ _ _ hs, reg_put_ne _ _ _ he]
    exact reg_setReg_same _ _ _
  case stores => exact (besideLinks_linkKeyed s p peer).seamShown p smUp

end Keying

/-! #### The rows of links and of common starts -/

section Links

variable {s : State} {p : Fin 4}

/-- R649, R652: a link whose gaffers derive the same keys comes UP. -/
theorem execSeamKeyingDone_derived {peer : Fin 8} (hkeying : s.seam p = smKeying) (hlife : s.life = 2) (hkeys : s.keysPresent = true)
    (hpeer : seamNeighbour s.devId p = some peer.val) : execSeamKeyingDone p true peer s = .next ((s.linkKeyed p peer).seamShown p smUp) := by
  have hup : (s.linkKeyed p peer).seam p ≠ smUp := by
    rw [seam_linkKeyed, hkeying]
    decide
  have hrow : execSeamKeyingDone p true peer s = .next ((s.linkKeyed p peer).setSeam p smUp) :=
    (if_neg (not_not.2 hkeying)).trans ((if_neg (by simp [hlife, hkeys])).trans (if_neg (not_not.2 hpeer)))
  rw [hrow, setSeam_up _ _ hup]

/-- R650: an arriving frame whose counter and tag are good ends the failures of its class. -/
theorem execSeamFrameReceived_frame (cls : Fin 4) (hlive : s.seamLive p = true) :
    let u := s.inc64 (R.NC_SEAM_RXCNT_LO p) (R.NC_SEAM_RXCNT_HI p) 1
    execSeamFrameReceived p cls true true none s = .next ((u.setSeamFails (4 * p + cls) 0).countFrame p) :=
  if_neg (by simp [hlive])

/-- R650: an acknowledgement ends the negative ones of its class, too, and shows the round trip. -/
theorem execSeamFrameReceived_ack (cls : Fin 4) (rtt : BitVec 16) (hlive : s.seamLive p = true) :
    let u := s.inc64 (R.NC_SEAM_RXCNT_LO p) (R.NC_SEAM_RXCNT_HI p) 1
    execSeamFrameReceived p cls true true (some rtt) s
      = .next (((u.setSeamFails (4 * p + cls) 0).setSeamFails (16 + (4 * p + cls)) 0).put (R.NC_SEAM_EPOCH_RTT p) rtt.toNat) :=
  if_neg (by simp [hlive])

theorem execSeamNackReceived_first (cls : Fin 4) (n : Fin 64) (hlive : s.seamLive p = true) :
    execSeamNackReceived p cls n false s
      = .next (((s.bumpBy (R.NC_SEAM_ERR_RETRIES p) (n + 1)).resend p cls (n + 1)).setSeamFails (16 + 4 * p + cls) 1) :=
  if_neg (by simp [hlive])

/-- R651: this device's KEY_SWITCH is sent while the peer's is not yet received. -/
theorem execSeamKeySwitch_sent (hrekeying : s.seam p = smRekeying) (hgot : s.arr.keyGot.contains p.val = false) :
    let u := State.sendFrame { s with arr := { s.arr with keySent := p.val :: s.arr.keySent } } p 2 3 none (Config.arrayMessage 2 0)
    execSeamKeySwitch p true s = .next (u.rekeySeam p true (s.get (R.NC_SEAM_EPOCH_EPOCH p) + 1)) := by
  intro u
  have hgot' : (u.rekeySeam p true (s.get (R.NC_SEAM_EPOCH_EPOCH p) + 1)).arr.keyGot = s.arr.keyGot := rfl
  have hone : ¬ ((u.rekeySeam p true (s.get (R.NC_SEAM_EPOCH_EPOCH p) + 1)).arr.keySent.contains p.val
      && (u.rekeySeam p true (s.get (R.NC_SEAM_EPOCH_EPOCH p) + 1)).arr.keyGot.contains p.val) = true := by
    rw [hgot', hgot, Bool.and_false]
    exact Bool.false_ne_true
  simp only [execSeamKeySwitch, Bool.not_true, Bool.false_eq_true, and_false, if_false, hrekeying, ne_eq, not_true, if_true]
  exact if_neg hone

/-- R651: the transmit counter alone has come to its limit. -/
theorem execSeamCounterRekey_tx (hup : s.seam p = smUp) (htx : rekeyAt ≤ s.seamCount (R.NC_SEAM_TXCNT_LO p) (R.NC_SEAM_TXCNT_HI p))
    (hrx : s.seamCount (R.NC_SEAM_RXCNT_LO p) (R.NC_SEAM_RXCNT_HI p) < rekeyAt) :
    execSeamCounterRekey p s = .next (s.beginRekey p true false) := by
  simp only [execSeamCounterRekey, hup, htx, decide_true, Nat.not_le.2 hrx, decide_false, Bool.false_eq_true, or_false, and_self, if_true]

/-- R665: a start message is taken. -/
theorem execCommonStartMessage_taken (turn : BitVec 48) (hsource : s.get R.TS_CTRL_SOURCE = 1) (hfree : s.claimOf (claimKey 6 0) = none)
    (htime : s.tb.pip + 1024 < s.get R.TS_LAST_LEN_LEN) (hrun : s.running = true) (hnone : s.arr.start = none) :
    execCommonStartMessage turn s = .next { s with arr := { s.arr with start := some { turn := turn.toNat, op := none, waiting := 0 } } } := by
  unfold execCommonStartMessage
  rw [hfree]
  exact if_neg (by simp [hsource, htime, hrun, hnone])

theorem execCommonStartConfirm_confirmed {c : CommonStart} (dev : Fin 8) (hstart : s.arr.start = some c) (hsent : c.sent = true) :
    execCommonStartConfirm dev true s
      = .next { s with arr := { s.arr with start := some { c with waiting := clearBit c.waiting dev } } } := by
  simp only [execCommonStartConfirm, hstart, hsent, Bool.not_true, Bool.false_eq_true, if_false]

/-- R640: no port has a link, and discovery finds this device alone. -/
theorem execArDiscoverComplete_alone (a : Byte) (hports : ∀ p, p < 4 → s.seam p ≠ smTraining ∧ s.seam p ≠ smKeying ∧ s.seamLive p = false
      ∧ s.seam p ≠ smFailed) (hop : s.gaf.ops.any (fun o => o.command == 0x0F00) = true) :
    execArDiscoverComplete a s = .next ((s.put R.NC_ARRAY_MEMBERS (2 ^ s.devId)).endOps 0x0F00 stOk (2 ^ s.devId)) := by
  have htraining : (List.range 4).any (fun p => s.seam p == smTraining || s.seam p == smKeying) = false :=
    List.any_eq_false.2 fun p hp => by
      obtain ⟨ht, hk, -, -⟩ := hports p (List.mem_range.1 hp)
      simp [ht, hk]
  have hlive : (List.range 4).any (fun p => s.seamLive p) = false :=
    List.any_eq_false.2 fun p hp => by
      obtain ⟨-, -, hdown, -⟩ := hports p (List.mem_range.1 hp)
      exact ne_true_of_eq_false hdown
  have hfailed : (List.range 4).filter (fun p => s.seam p == smFailed) = [] :=
    List.filter_eq_nil_iff.2 fun p hp => by
      obtain ⟨-, -, -, hf⟩ := hports p (List.mem_range.1 hp)
      simp [hf]
  simp only [execArDiscoverComplete, htraining, hop, hlive, hfailed, Bool.false_eq_true, if_false, if_true]
  rfl

/-- R667: a chunk of an image after the first, whole and within the image, is written. -/
theorem execArrayImageChunk_written {i : Fin 128} {len : BitVec 24} (sha : BitVec 256) {data : List Byte} (back : Bool)
    (hrun : s.running = true) (hmay : imageRefused s = false) (hpos : 0 < len.toNat) (hlen : len.toNat ≤ 0x800000) (hi : 0 < i.val)
    (hstate : s.get R.SC_UPDATE_STATE = 1) (hchunk : i.val < chunkCount s.sec.imageLen) (hdata : data.length = s.chunkLen i) :
    execArrayImageChunk i len sha data back s = .next (s.writeChunk i data back).1 := by
  simp only [execArrayImageChunk, if_neg (Nat.pos_iff_ne_zero.1 hi)]
  exact (if_neg (by simp [hrun, hmay, hlen, Nat.pos_iff_ne_zero.1 hpos])).trans (if_neg (by simp [hstate, hchunk, hdata]))

end Links

/-- Settles O58. That keying sets EPOCH and both counters to 0 is log entry 71 (DEDUCED). -/
theorem arrayRowsAct : Obligations.ArrayRowsAct := by
  intro s
  refine ⟨fun mb f hfwd => ⟨execForwardTimeout_forwarded hfwd, fun p hp => (execPeerResponseArrival_forwarded p hfwd).trans (if_neg hp)⟩,
    fun mb f p => execPeerResponseArrival_accepted,
    fun mb tag status o hop => ⟨execPeerCompletionNotice_listed status hop, fun x hx => ?listed, notices_endPeerOp_quiet _⟩,
    fun dev k hdev hmember => if_pos ⟨hdev, hmember⟩, fun i len sha data back => execArrayImageChunk_written sha back, rfl, fun d st => rfl,
    fun p cls hlive => ⟨fun rtt => ⟨execSeamFrameReceived_frame cls hlive, execSeamFrameReceived_ack cls rtt hlive⟩,
      fun n => execSeamNackReceived_first cls n hlive, if_pos hlive, fun lane hlane => if_pos ⟨hlive, by simp [hlane]⟩⟩,
    fun p => execSeamCounterRekey_tx, fun p => execSeamKeySwitch_sent,
    fun p htraining => ⟨fun hlocked => ?locked, (if_neg (not_not.2 htraining)).trans (if_pos rfl), if_pos htraining,
      failSeam_training s p (by decide) htraining⟩,
    fun p peer hkeying hlife hkeys hpeer => ⟨_, execSeamKeyingDone_derived hkeying hlife hkeys hpeer, ?keyed⟩,
    fun turn => execCommonStartMessage_taken turn, fun c dev => execCommonStartConfirm_confirmed dev,
    fun a => execArDiscoverComplete_alone a⟩
  case listed =>
    rw [peerOps_endPeerOp] at hx
    obtain ⟨-, hother⟩ := List.mem_filter.1 hx
    exact (Bool.not_eq_true' _).mp hother
  case locked => exact (if_neg (not_not.2 htraining)).trans ((if_neg Bool.false_ne_true).trans (if_neg (by simp [hlocked])))
  case keyed => exact linkKeyed_up s p peer

end Sys2Proof.Machine
end

section
/-!
PROOFS. The rows of gating and metering (O31) and of the rails (O32).
-/

namespace Sys2Proof.Machine

open Sys2Proof

/-! ### The rows of gating and metering (O31) -/

section Gating

variable {s : State}

/-- R720: the gate of one unit closes. -/
theorem setGated_one (s : State) (u : Nat) :
    s.setGated u (u + 1) true = s.setReg (R.CK_GATED (u / 32)) (setBit (s.reg (R.CK_GATED (u / 32))) (u % 32)) := by
  unfold State.setGated
  rw [Nat.add_sub_cancel_left]
  rfl

/-- R720: a gate that closes shows in its bit of CK_GATED, and nothing else changes. -/
theorem setGated_one_shows (s : State) (u : Nat) : bit ((s.setGated u (u + 1) true).reg (R.CK_GATED (u / 32))) (u % 32) = true
    ∧ sameWords s (s.setGated u (u + 1) true) [R.CK_GATED (u / 32)] ∧ sameStores s (s.setGated u (u + 1) true) := by
  rw [setGated_one, reg_setReg_same, Nat.mod_eq_of_lt (setBit_lt _ _ _ (reg_lt s _) (Nat.mod_lt _ (by decide))), bit_setBit_same]
  exact ⟨rfl, (sameWords.refl s _).setReg (.head _) _, by simp [sameStores]⟩

theorem execAutoClockGate_idle {col : Fin 96} (hauto : bit (s.reg (R.CK_AUTO_EN ((48 + col) / 32))) ((48 + col) % 32) = true)
    (hidle : ∀ i, i < 16 → s.teState (16 * col + i) ≠ teRunning) :
    execAutoClockGate col s = .next (s.setGated (48 + col) (48 + col + 1) true) := by
  have hbusy : (List.range 16).any (fun i => s.teState (16 * col + i) == teRunning) = false :=
    List.any_eq_false.2 fun i hi => by simpa using hidle i (List.mem_range.1 hi)
  exact if_pos (by simp [hauto, hbusy])

theorem execForcedGateClose_logic {unit : Fin 264} (hforced : s.gateForced unit = true) (hunit : unit.val < 168) :
    execForcedGateClose unit s = .next (s.setGated unit (unit + 1) true) :=
  (if_neg (by simp [hforced])).trans (if_pos hunit)

theorem execForcedGateClose_sram {unit : Fin 264} (hforced : s.gateForced unit = true) (hunit : 168 ≤ unit.val) :
    execForcedGateClose unit s = .next (s.put (R.SB_CL_STATUS_READY (unit - 168)) 0) :=
  (if_neg (by simp [hforced])).trans (if_neg (Nat.not_lt.2 hunit))

/-- R722: a refusal is counted. -/
theorem execGateRefused_forced {unit : Fin 264} (hforced : s.gateForced unit = true) :
    ∃ t, execGateRefused unit s = .next t ∧ t.get R.CK_GATE_REFUSALS_COUNT = min (s.get R.CK_GATE_REFUSALS_COUNT + 1)
      (2 ^ R.CK_GATE_REFUSALS_COUNT.w - 1) ∧ t.eventSet 52 = true ∧ sameStores s t :=
  ⟨_, if_pos hforced, (get_raise_beyond _ (by decide) (by decide)).trans (get_bump_same s _ (by decide)),
    eventSet_raise _ 52 (eventAbsent_of_lt _ (by decide)), sameStores.trans (sameStores_put s _ _) (sameStores_raise _ 52)⟩

end Gating

section Metering

variable {s : State} {c : Fin 8}

/-- R723: a gate that ends is no longer open, and changes no register of its meter. -/
theorem gates_endGate (s : State) (c : Nat) : bit (s.endGate c).phys.gates c = false := by
  unfold State.endGate
  rw [raise_phys]
  exact bit_clearBit_same _ _

theorem reg_endGate_beyond (s : State) (c : Nat) {off : Nat} (hoff : 0x030000 ≤ off) : (s.endGate c).reg off = s.reg off :=
  reg_raise_beyond _ hoff (by decide)

theorem get_endGate_beyond (s : State) (c : Nat) {f : RF} (hf : 0x030000 ≤ f.off) : (s.endGate c).get f = s.get f :=
  congrArg (bits · f.lo f.w) (reg_endGate_beyond s c hf)

theorem mem_endGate (s : State) (c : Nat) : (s.endGate c).mem = s.mem := raise_mem _ _

/-- R723: the count that a meter has reached. -/
def State.gateCounted (s : State) (c count : Nat) : State :=
  ((s.setReg (R.CK_FM_RES_LO c) count).setReg (R.CK_FM_RES_HI c) (count / 2 ^ 32)).put (R.CK_FM_CTRL_DONE c) 1

theorem meterWords_ne (c : Nat) :
    R.CK_FM_RES_LO c ≠ R.CK_FM_CTRL c ∧ R.CK_FM_RES_LO c ≠ R.CK_FM_RES_HI c ∧ R.CK_FM_RES_HI c ≠ R.CK_FM_CTRL c := by
  unfold R.CK_FM_RES_LO R.CK_FM_RES_HI R.CK_FM_CTRL
  omega

theorem meterWords_beyond (c : Nat) : 0x030000 ≤ R.CK_FM_RES_LO c ∧ 0x030000 ≤ R.CK_FM_RES_HI c ∧ 0x030000 ≤ R.CK_FM_CTRL c := by
  unfold R.CK_FM_RES_LO R.CK_FM_RES_HI R.CK_FM_CTRL
  omega

theorem reg_lo_gateCounted (s : State) (c count : Nat) : (s.gateCounted c count).reg (R.CK_FM_RES_LO c) = count % 2 ^ 32 := by
  obtain ⟨hlc, hlh, -⟩ := meterWords_ne c
  unfold State.gateCounted
  rw [reg_put_ne _ _ _ hlc, reg_setReg_ne _ _ hlh, reg_setReg_same]

theorem reg_hi_gateCounted (s : State) (c count : Nat) : (s.gateCounted c count).reg (R.CK_FM_RES_HI c) = count / 2 ^ 32 % 2 ^ 32 := by
  obtain ⟨-, -, hhc⟩ := meterWords_ne c
  unfold State.gateCounted
  rw [reg_put_ne _ _ _ hhc, reg_setReg_same]

theorem mem_gateCounted (s : State) (c count : Nat) : (s.gateCounted c count).mem = s.mem := by
  unfold State.gateCounted
  rw [put_mem, setReg_mem, setReg_mem]

/-- R723, R738: the gate of a meter is closed, with DONE and its count. -/
theorem gateEnd_shows (s : State) (c : Nat) {count : Nat} (hcount : count < 2 ^ 48) : let t := (s.gateCounted c count).endGate c
    t.reg (R.CK_FM_RES_LO c) = count % 2 ^ 32 ∧ t.reg (R.CK_FM_RES_HI c) = count / 2 ^ 32 ∧ t.get (R.CK_FM_CTRL_DONE c) = 1
      ∧ bit t.phys.gates c = false ∧ t.mem = s.mem := by
  obtain ⟨hlo, hhi, hctrl⟩ := meterWords_beyond c
  refine ⟨(reg_endGate_beyond _ _ hlo).trans (reg_lo_gateCounted s c _), ?hi,
    (get_endGate_beyond _ _ (f := R.CK_FM_CTRL_DONE c) hctrl).trans (get_put_same _ (R.CK_FM_CTRL_DONE c) 1 (Nat.le_of_ble_eq_true rfl)),
    gates_endGate _ _, (mem_endGate _ _).trans (mem_gateCounted s c _)⟩
  case hi => exact ((reg_endGate_beyond _ _ hhi).trans (reg_hi_gateCounted s c _)).trans (Nat.mod_eq_of_lt (by omega))

/-- R723: the gate of a meter is closed, with ABORT. -/
theorem gateAborted_shows (s : State) (c : Nat) : let t := (s.put (R.CK_FM_CTRL_ABORT c) 1).endGate c
    t.get (R.CK_FM_CTRL_ABORT c) = 1 ∧ bit t.phys.gates c = false ∧ t.mem = s.mem := by
  obtain ⟨-, -, hctrl⟩ := meterWords_beyond c
  exact ⟨(get_endGate_beyond _ _ (f := R.CK_FM_CTRL_ABORT c) hctrl).trans (get_put_same s _ 1 (Nat.le_of_ble_eq_true rfl)),
    gates_endGate _ _, (mem_endGate _ _).trans (put_mem _ _ _)⟩

theorem execFreqMeterGateEnd_open {count : BitVec 48} (hgate : bit s.phys.gates c = true) :
    execFreqMeterGateEnd c count s = .next ((s.gateCounted c count.toNat).endGate c) := if_pos hgate

theorem execFreqMeterTimeout_open (hgate : bit s.phys.gates c = true) :
    execFreqMeterTimeout c s = .next ((s.put (R.CK_FM_CTRL_ABORT c) 1).endGate c) := if_pos hgate

end Metering

/-! #### The gaffer's periodic update (R704) -/

section PeriodicUpdate

/-- From `s` to `t` the furnace register and everything but registers and free values stay as they are. -/
def keepsFurnace (s t : State) : Prop := sameButRegs s t ∧ t.reg R.CK_FURNACE = s.reg R.CK_FURNACE

variable {s t : State}

theorem keepsFurnace.refl (s : State) : keepsFurnace s s := ⟨.refl s, rfl⟩

theorem keepsFurnace.setReg (h : keepsFurnace s t) {off : Nat} (hoff : R.CK_FURNACE ≠ off) (v : Nat) : keepsFurnace s (t.setReg off v) := by
  obtain ⟨hstores, hreg⟩ := h
  exact ⟨hstores.setReg off v, (reg_setReg_ne t v hoff).trans hreg⟩

theorem keepsFurnace.put (h : keepsFurnace s t) (f : RF) (hf : R.CK_FURNACE ≠ f.off) (v : Nat) : keepsFurnace s (t.put f v) := h.setReg hf _

theorem keepsFurnace.drawn (h : keepsFurnace s t) : keepsFurnace s t.drawn := by
  obtain ⟨hstores, hreg⟩ := h
  exact ⟨hstores.drawn, hreg⟩

theorem keepsFurnace.mem (h : keepsFurnace s t) : t.mem = s.mem := by
  obtain ⟨⟨regs, free, rfl⟩, -⟩ := h
  rfl

/-- R378: a calibration writes the registers of its bank. -/
theorem keepsFurnace_calibrateAll (h : keepsFurnace s t) : keepsFurnace s t.calibrateAll :=
  iterate_preserves (P := keepsFurnace s) h fun b u hu =>
    ((hu.setReg (by unfold R.CK_FURNACE R.IO_BANK_CAL; omega) _).put (R.IO_BANK_STATUS_CAL_OK b)
      (by simp only [R.CK_FURNACE, R.IO_BANK_STATUS_CAL_OK, R.IO_BANK_STATUS]; omega) _).drawn

/-- R730: a tier's rail moves by its target. -/
theorem keepsFurnace_avs (h : keepsFurnace s t) (k need : Nat) : keepsFurnace s (t.avs k need) := by
  unfold State.avs
  split
  · exact h
  · exact h.put _ (by simp only [R.CK_FURNACE, R.PW_RAIL_CTRL_TARGET_MV, R.PW_RAIL_CTRL]; omega) _

/-- R728: an input reading that is too low is an event. -/
theorem readVin_keeps (s : State) (mv : Nat) : (s.readVin mv).reg R.CK_FURNACE = s.reg R.CK_FURNACE ∧ (s.readVin mv).mem = s.mem := by
  unfold State.readVin
  dsimp only
  split
  · refine ⟨?_, (raise_mem _ _).trans rfl⟩
    rw [reg_raise_beyond _ (by decide) (by decide), reg_put_ne _ _ _ (by decide), reg_put_ne _ _ _ (by decide), reg_put_ne _ _ _ (by decide)]
  · refine ⟨?_, rfl⟩
    rw [reg_put_ne _ _ _ (by decide), reg_put_ne _ _ _ (by decide)]

/-- R704: the trim, and the offset where the reference qualifies. -/
def State.furnaceUpdated (s : State) (offset : Nat) : State :=
  ((s.put R.CK_FURNACE_TRIM s.peekFree).drawn.put R.CK_FURNACE_OFFSET offset).put R.CK_FURNACE_REFERENCED 1

theorem mem_furnaceUpdated (s : State) (offset : Nat) : (s.furnaceUpdated offset).mem = s.mem := by
  unfold State.furnaceUpdated
  rw [put_mem, put_mem, drawn_mem, put_mem]

theorem furnaceUpdated_shows (s : State) (offset : Nat) :
    (s.furnaceUpdated offset).get R.CK_FURNACE_TRIM = s.peekFree % 2 ^ R.CK_FURNACE_TRIM.w
      ∧ (s.furnaceUpdated offset).get R.CK_FURNACE_OFFSET = offset % 2 ^ R.CK_FURNACE_OFFSET.w
      ∧ (s.furnaceUpdated offset).get R.CK_FURNACE_REFERENCED = 1 := by
  have hdrawn (u : State) (f : RF) : u.drawn.get f = u.get f := rfl
  unfold State.furnaceUpdated
  refine ⟨?_, ?_, get_put_same _ _ _ (by decide)⟩
  · rw [get_put_apart _ _ _ _ (by decide) (.inr (by decide)), get_put_apart _ _ _ _ (by decide) (.inr (by decide)), hdrawn,
      get_put_same _ _ _ (by decide)]
  · rw [get_put_apart _ _ _ _ (by decide) (.inr (by decide)), get_put_same _ _ _ (by decide)]

/-- R704, log entries 1 and 62: outside POWER-ON and LEHR the gaffer trims the furnace, then calibrates, scales the tiers' supply and reads
the input. -/
theorem execGafferPeriodicUpdate_runs (u : PeriodicUpdate) (hon : s.mode ≠ mPowerOn) (hlehr : s.mode ≠ mLehr) (hqualified : s.qualified 1 = true) :
    execGafferPeriodicUpdate u s
      = .next (((((s.furnaceUpdated u.offset.toNat).calibrateAll).avs 7 u.needLL.toNat).avs 8 u.needLU.toNat).readVin u.vin.toNat) := by
  have hstill : (s.put R.CK_FURNACE_TRIM s.peekFree).drawn.qualified 1 = true := by
    show bit ((s.put R.CK_FURNACE_TRIM s.peekFree).get R.CK_STATUS_QUAL) 1 = true
    rw [get_put_apart _ _ _ _ (by decide) (.inl (by decide))]
    exact hqualified
  simp only [execGafferPeriodicUpdate, hon, hlehr, hstill, or_self, if_false, if_true]
  rfl

theorem periodicUpdate_shows (s : State) (u : PeriodicUpdate) :
    let t := (((s.furnaceUpdated u.offset.toNat).calibrateAll.avs 7 u.needLL.toNat).avs 8 u.needLU.toNat).readVin u.vin.toNat
    t.get R.CK_FURNACE_TRIM = s.peekFree % 2 ^ R.CK_FURNACE_TRIM.w ∧ t.get R.CK_FURNACE_OFFSET = u.offset.toNat % 2 ^ R.CK_FURNACE_OFFSET.w
      ∧ t.get R.CK_FURNACE_REFERENCED = 1 ∧ t.mem = s.mem := by
  intro t
  have hkept := keepsFurnace_avs (keepsFurnace_avs (keepsFurnace_calibrateAll (.refl (s.furnaceUpdated u.offset.toNat))) 7 u.needLL.toNat) 8
    u.needLU.toNat
  obtain ⟨hvin, hmem⟩ := readVin_keeps (((s.furnaceUpdated u.offset.toNat).calibrateAll.avs 7 u.needLL.toNat).avs 8 u.needLU.toNat) u.vin.toNat
  have hget (f : RF) (hf : f.off = R.CK_FURNACE) : t.get f = (s.furnaceUpdated u.offset.toNat).get f :=
    congrArg (bits · f.lo f.w) (hf ▸ hvin.trans hkept.2)
  obtain ⟨htrim, hoffset, hreferenced⟩ := furnaceUpdated_shows s u.offset.toNat
  exact ⟨(hget _ rfl).trans htrim, (hget _ rfl).trans hoffset, (hget _ rfl).trans hreferenced,
    hmem.trans (hkept.mem.trans (mem_furnaceUpdated s _))⟩

end PeriodicUpdate

/-- Settles O31. The trim, the offset and the reference of the periodic update are R704 under log entries 1 and 62; that the SPI's write is
refused is R842. -/
theorem gatingAndMeteringRowsAct : Obligations.GatingAndMeteringRowsAct := fun s =>
  ⟨fun _ hauto hidle => ⟨_, execAutoClockGate_idle hauto hidle, setGated_one_shows s _⟩,
    fun _ hforced => ⟨fun hunit => ⟨_, execForcedGateClose_logic hforced hunit, setGated_one_shows s _⟩, execForcedGateClose_sram hforced,
      execGateRefused_forced hforced⟩,
    fun _ _ _ hwho => if_neg hwho, fun _ _ => rfl,
    fun c count hgate => ⟨_, execFreqMeterGateEnd_open hgate, gateEnd_shows s c count.isLt⟩,
    fun c hgate => ⟨_, execFreqMeterTimeout_open hgate, gateAborted_shows s c⟩,
    fun u hon hlehr hqualified => ⟨_, execGafferPeriodicUpdate_runs u hon hlehr hqualified, periodicUpdate_shows s u⟩,
    fun _ _ hlow => if_pos hlow⟩

/-! ### The rows of the rails (O32) -/

section Rails

variable {s : State} {k : Fin 21} {mv : BitVec 12}

/-- The registers of a rail are three words beyond the events', and none is a bank's or the flags of the supply. -/
theorem railWords_apart (k j : Nat) (hk : k < 21) : 0x030000 ≤ R.PW_RAIL_STATE k ∧ 0x030000 ≤ R.PW_RAIL_MEAS k
    ∧ R.PW_RAIL_STATE k ≠ R.PW_RAIL_MEAS k ∧ R.PW_RAIL_CTRL k ≠ R.PW_RAIL_MEAS k
    ∧ R.PW_RAIL_STATE k ≠ R.IO_BANK_STATUS j ∧ R.PW_RAIL_MEAS k ≠ R.IO_BANK_STATUS j
    ∧ R.PW_RAIL_STATE k ≠ R.PW_FLAGS ∧ R.PW_RAIL_MEAS k ≠ R.PW_FLAGS := by
  unfold R.PW_RAIL_STATE R.PW_RAIL_MEAS R.PW_RAIL_CTRL R.IO_BANK_STATUS R.PW_FLAGS
  omega

theorem railWords_ne_mode (k : Nat) :
    R.GAF_MODE ≠ R.PW_RAIL_STATE k ∧ R.GAF_MODE ≠ R.PW_RAIL_MEAS k ∧ R.GAF_MODE ≠ R.IO_BANK_STATUS k := by
  unfold R.GAF_MODE R.PW_RAIL_STATE R.PW_RAIL_MEAS R.IO_BANK_STATUS
  omega

/-- R727: the bank of a rail from 9 on shows the rail's voltage. -/
def State.bankShows (s : State) (k mv : Nat) : State :=
  if 9 ≤ k then s.put (R.IO_BANK_STATUS_VCCIO_MV (k - 9)) mv else s

theorem get_bankShows (s : State) (k mv : Nat) {f : RF} (hf : f.off ≠ R.IO_BANK_STATUS (k - 9)) : (s.bankShows k mv).get f = s.get f := by
  unfold State.bankShows
  split
  · exact get_setReg_ne s _ hf
  · rfl

theorem gaf_bankShows (s : State) (k mv : Nat) : (s.bankShows k mv).gaf = s.gaf := by
  unfold State.bankShows
  split
  · exact put_gaf _ _ _
  · rfl

theorem mem_bankShows (s : State) (k mv : Nat) : (s.bankShows k mv).mem = s.mem := by
  unfold State.bankShows
  split
  · exact put_mem _ _ _
  · rfl

/-- R727: what a rail shows when a reading moves it to a state: the reading, the state and the bank's voltage. -/
def State.railShown (s : State) (k mv st : Nat) : State := ((s.put (R.PW_RAIL_MEAS_MV k) mv).put (R.PW_RAIL_STATE_STATE k) st).bankShows k mv

theorem railShown_shows (s : State) (k : Fin 21) (mv : BitVec 12) {st : Nat} (hst : st < 8) :
    let t := s.railShown k mv.toNat st
    t.get (R.PW_RAIL_STATE_STATE k) = st ∧ t.get (R.PW_RAIL_MEAS_MV k) = mv.toNat ∧ t.gaf = s.gaf ∧ t.mem = s.mem := by
  obtain ⟨-, -, hstate, -, hbank, hmeas, -⟩ := railWords_apart k (k - 9) k.isLt
  unfold State.railShown
  refine ⟨?_, ?_, ?_, ?_⟩
  · rw [get_bankShows _ _ _ hbank, get_put_same _ _ _ (Nat.le_of_ble_eq_true rfl)]
    exact Nat.mod_eq_of_lt hst
  · rw [get_bankShows _ _ _ hmeas, get_put_apart _ _ _ _ (Nat.le_of_ble_eq_true rfl) (.inl hstate.symm),
      get_put_same _ _ _ (Nat.le_of_ble_eq_true rfl)]
    exact Nat.mod_eq_of_lt mv.isLt
  · rw [gaf_bankShows, put_gaf, put_gaf]
  · rw [mem_bankShows, put_mem, put_mem]

theorem execRailGood_coming (hband : s.inBand k mv.toNat = true) (hstate : s.get (R.PW_RAIL_STATE_STATE k) = 1) :
    execRailGood k mv s = .next (s.railShown k mv.toNat 2).railAdvance.tryBoot := by
  have hleft : ¬(!s.inBand k mv.toNat ∨ s.get (R.PW_RAIL_STATE_STATE k) = 2 ∨ 5 ≤ s.get (R.PW_RAIL_STATE_STATE k)
      ∨ (!boardRail k ∧ s.get (R.PW_RAIL_STATE_STATE k) = 0)) := by simp [hband, hstate]
  have hexcursion : ¬(s.get (R.PW_RAIL_STATE_STATE k) = 3 ∨ s.get (R.PW_RAIL_STATE_STATE k) = 4) := by simp [hstate]
  simp only [execRailGood, if_neg hleft, if_neg hexcursion]
  rfl

/-- R727: what a rail shows that leaves its band: as `railShown`, and the excursion is counted. -/
def State.railLost (s : State) (k mv st : Nat) : State :=
  (((s.put (R.PW_RAIL_MEAS_MV k) mv).put (R.PW_RAIL_STATE_STATE k) st).bump (R.PW_RAIL_STATE_EXCURSIONS k)).bankShows k mv

theorem railLost_shows (s : State) (k : Fin 21) (mv : BitVec 12) {st : Nat} (hst : st < 8) :
    let t := s.railLost k mv.toNat st
    t.get (R.PW_RAIL_STATE_STATE k) = st ∧ t.get (R.PW_RAIL_MEAS_MV k) = mv.toNat ∧ t.mode = s.mode ∧ t.mem = s.mem := by
  obtain ⟨-, -, hstate, -, hbank, hmeas, -⟩ := railWords_apart k (k - 9) k.isLt
  obtain ⟨hmodeState, hmodeMeas, -⟩ := railWords_ne_mode k
  unfold State.railLost
  refine ⟨?_, ?_, ?_, ?_⟩
  · rw [get_bankShows _ _ _ hbank, get_bump_apart _ _ _ (Nat.le_of_ble_eq_true rfl) (.inr (.inl (Nat.le_of_ble_eq_true rfl))),
      get_put_same _ _ _ (Nat.le_of_ble_eq_true rfl)]
    exact Nat.mod_eq_of_lt hst
  · rw [get_bankShows _ _ _ hmeas, get_bump_apart _ _ _ (Nat.le_of_ble_eq_true rfl) (.inl hstate.symm),
      get_put_apart _ _ _ _ (Nat.le_of_ble_eq_true rfl) (.inl hstate.symm), get_put_same _ _ _ (Nat.le_of_ble_eq_true rfl)]
    exact Nat.mod_eq_of_lt mv.isLt
  · exact (get_bankShows _ _ _ (railWords_ne_mode _).2.2).trans
      ((mode_put _ hmodeState).trans ((mode_put _ hmodeState).trans (mode_put _ hmodeMeas)))
  · rw [mem_bankShows, bump_mem, put_mem, put_mem]

/-- R727: the alarm of a rail: the flag, the event and the log entry. -/
def State.railAlarm (s : State) (k mv : Nat) : State := ((s.put R.PW_FLAGS_RAIL_SEEN 1).raise 54).log 3 0x0A k mv 0

theorem railAlarm_shows (s : State) (k mv : Nat) : let t := s.railAlarm k mv
    t.get R.PW_FLAGS_RAIL_SEEN = 1 ∧ t.eventSet 54 = true ∧ t.mode = s.mode ∧ t.mem = s.mem := by
  unfold State.railAlarm
  refine ⟨?_, eventSet_log_mono (by decide) (eventSet_raise _ 54 (eventAbsent_of_lt _ (by decide))), ?_, ?_⟩
  · rw [get_log_beyond _ (by decide), get_raise_beyond _ (by decide) (by decide), get_put_same _ _ _ (by decide)]
    rfl
  · rw [mode_log, mode_raise, mode_put _ (by decide)]
  · rw [mem_log, raise_mem, put_mem]

theorem get_railAlarm (s : State) (k mv : Nat) {f : RF} (hf : 0x030000 ≤ f.off) (hflags : f.off ≠ R.PW_FLAGS) :
    (s.railAlarm k mv).get f = s.get f := by
  unfold State.railAlarm
  rw [get_log_beyond _ hf, get_raise_beyond _ hf (by decide), get_put_apart _ _ _ _ (by decide) (.inl hflags)]

theorem execRailOutOfBand_good (hgood : s.get (R.PW_RAIL_STATE_STATE k) = 2) (hband : s.inBand k mv.toNat = false) :
    execRailOutOfBand k mv s
      = .next ((s.railLost k mv.toNat (if mv.toNat < s.get (R.PW_RAIL_CTRL_TARGET_MV k) then 3 else 4)).railAlarm k mv.toNat) := by
  obtain ⟨-, -, hstate, hctrl, -⟩ := railWords_apart k 0 k.isLt
  have htarget : (s.put (R.PW_RAIL_MEAS_MV k) mv.toNat).get (R.PW_RAIL_CTRL_TARGET_MV k) = s.get (R.PW_RAIL_CTRL_TARGET_MV k) :=
    get_put_apart _ _ _ _ (Nat.le_of_ble_eq_true rfl) (.inl hctrl)
  have hband' : (s.put (R.PW_RAIL_MEAS_MV k) mv.toNat).inBand k mv.toNat = false := by
    unfold State.inBand
    rw [htarget]
    exact hband
  have hgood' : (s.put (R.PW_RAIL_MEAS_MV k) mv.toNat).railGood k = true :=
    beq_iff_eq.2 ((get_put_apart s (R.PW_RAIL_STATE_STATE k) (R.PW_RAIL_MEAS_MV k) _ (Nat.le_of_ble_eq_true rfl) (.inl hstate)).trans hgood)
  unfold execRailOutOfBand
  simp only [hband', hgood', htarget, decide_eq_true_eq]
  rfl

/-- R727: a GOOD rail that leaves its band. -/
theorem execRailOutOfBand_acts (hgood : s.get (R.PW_RAIL_STATE_STATE k) = 2) (hband : s.inBand k mv.toNat = false) :
    ∃ t, execRailOutOfBand k mv s = .next t
      ∧ t.get (R.PW_RAIL_STATE_STATE k) = (if mv.toNat < s.get (R.PW_RAIL_CTRL_TARGET_MV k) then 3 else 4)
      ∧ t.get (R.PW_RAIL_MEAS_MV k) = mv.toNat ∧ t.get R.PW_FLAGS_RAIL_SEEN = 1 ∧ t.eventSet 54 = true ∧ t.mode = s.mode ∧ t.mem = s.mem := by
  obtain ⟨hbs, hbm, -, -, -, -, hfs, hfm⟩ := railWords_apart k 0 k.isLt
  have hst : (if mv.toNat < s.get (R.PW_RAIL_CTRL_TARGET_MV k) then 3 else 4) < 8 := by split <;> decide
  obtain ⟨hstate, hmeas, hmode, hmem⟩ := railLost_shows s k mv hst
  obtain ⟨hseen, hevent, hmode', hmem'⟩ :=
    railAlarm_shows (s.railLost k mv.toNat (if mv.toNat < s.get (R.PW_RAIL_CTRL_TARGET_MV k) then 3 else 4)) k mv.toNat
  exact ⟨_, execRailOutOfBand_good hgood hband, (get_railAlarm _ _ _ hbs hfs).trans hstate, (get_railAlarm _ _ _ hbm hfm).trans hmeas,
    hseen, hevent, hmode'.trans hmode, hmem'.trans hmem⟩

/-- R726: a regulator's alert: the flag, the event and the log entry. -/
def State.alerted (s : State) (addr status : Nat) : State := ((s.put R.PW_FLAGS_ALERT_SEEN 1).raise 55).log 3 0x0A addr status 0

theorem alerted_shows (s : State) (addr status : Nat) : let t := s.alerted addr status
    t.get R.PW_FLAGS_ALERT_SEEN = 1 ∧ t.eventSet 55 = true ∧ t.mode = s.mode ∧ t.mem = s.mem := by
  unfold State.alerted
  refine ⟨?_, eventSet_log_mono (by decide) (eventSet_raise _ 55 (eventAbsent_of_lt _ (by decide))), ?_, ?_⟩
  · rw [get_log_beyond _ (by decide), get_raise_beyond _ (by decide) (by decide), get_put_same _ _ _ (by decide)]
    rfl
  · rw [mode_log, mode_raise, mode_put _ (by decide)]
  · rw [mem_log, raise_mem, put_mem]

/-- R726: a transaction that succeeds ends a row of failures and shows nowhere. -/
theorem pmbus_succeeded (s : State) (addr : Nat) : (∀ f, (s.pmbus addr false).get f = s.get f)
    ∧ (∀ e, (s.pmbus addr false).eventSet e = s.eventSet e) ∧ (s.pmbus addr false).mem = s.mem := ⟨fun _ => rfl, fun _ => rfl, rfl⟩

theorem execPmbAlert_reached {addr : BitVec 7} {status : BitVec 16} (hmode : s.mode ≠ mPowerOn) : execPmbAlert addr status false s
    = .next (((s.alerted addr.toNat status.toNat).pmbus addr.toNat false).put R.PW_STATUS_ALERT_PIN 1) := if_neg hmode

theorem execPmbAlert_acts {addr : BitVec 7} {status : BitVec 16} (hmode : s.mode ≠ mPowerOn) :
    ∃ t, execPmbAlert addr status false s = .next t ∧ t.get R.PW_FLAGS_ALERT_SEEN = 1 ∧ t.get R.PW_STATUS_ALERT_PIN = 1
      ∧ t.eventSet 55 = true ∧ t.mode = s.mode ∧ t.mem = s.mem := by
  obtain ⟨hseen, hevent, hmode', hmem⟩ := alerted_shows s addr.toNat status.toNat
  obtain ⟨hget, heventSet, hmem'⟩ := pmbus_succeeded (s.alerted addr.toNat status.toNat) addr.toNat
  refine ⟨_, execPmbAlert_reached hmode, ?_, ?_, ?_, ?_, ?_⟩
  · rw [get_put_apart _ _ _ _ (by decide) (.inl (by decide)), hget, hseen]
  · rw [get_put_same _ _ _ (by decide)]
    rfl
  · rw [eventSet_put _ (by decide)]
    exact (heventSet 55).trans hevent
  · rw [mode_put _ (by decide)]
    exact (hget _).trans hmode'
  · rw [put_mem, hmem', hmem]

theorem execSupplyOkChange_acts {level : Bool} (hlevel : s.has R.PW_STATUS_SUPPLY_OK_PIN ≠ level) :
    ∃ t, execSupplyOkChange level s = .next t ∧ t.get R.PW_STATUS_SUPPLY_OK_PIN = b2n level ∧ t.eventSet 58 = true
      ∧ t.mode = s.mode ∧ sameStores s t := by
  refine ⟨_, if_neg hlevel, ?_, eventSet_raise _ 58 (eventAbsent_of_lt _ (by decide)), ?_,
    sameStores.trans (sameStores_put s _ _) (sameStores_raise _ 58)⟩
  · rw [get_raise_beyond _ (by decide) (by decide), get_put_same _ _ _ (by decide)]
    cases level <;> rfl
  · rw [mode_raise, mode_put _ (by decide)]

end Rails

/-- Settles O32: each row, in the state that its clause names, takes the branch that shows the rail's reading and its alarm. -/
theorem railRowsAct : Obligations.RailRowsAct := by
  intro s
  refine ⟨fun k mv hband hstate => ?_, fun k mv hgood hband => execRailOutOfBand_acts hgood hband, fun k hboard hstate => ?_,
    fun addr status hmode => execPmbAlert_acts hmode, fun level hlevel => execSupplyOkChange_acts hlevel⟩
  · exact ⟨_, execRailGood_coming hband hstate, railShown_shows s k mv (by decide)⟩
  · exact if_neg (by simp [hboard, hstate])

end Sys2Proof.Machine
end

section
/-!
PROOFS. The rows of temperature and power (O56).
-/

namespace Sys2Proof.Machine

open Sys2Proof

/-! ### The rows of temperature and power (O56) -/

section Steps

variable (s : State) {f : RF}

/-- R745, R746: the steps show in TH_STATUS, in GAF_MODE and in the endpoints of the network. -/
theorem get_showSteps (hlow : 0x050004 ≤ f.off) (hhigh : f.off < 0x200000) : s.showSteps.get f = s.get f := by
  have hthrottle (t : State) : t.showThrottle.get f = t.get f :=
    (get_setReg_ne _ _ (show f.off ≠ R.GAF_MODE by unfold R.GAF_MODE; omega)).trans
      (get_setReg_ne _ _ (show f.off ≠ R.GAF_MODE by unfold R.GAF_MODE; omega))
  have hstatus : f.off ≠ R.TH_STATUS := by unfold R.TH_STATUS; omega
  have hshown (a b : Nat) : ((s.put R.TH_STATUS_MAX_STEP a).put R.TH_STATUS_POWER_STEP b).showThrottle.get f = s.get f :=
    (hthrottle _).trans ((get_setReg_ne _ _ hstatus).trans (get_setReg_ne _ _ hstatus))
  unfold State.showSteps
  dsimp only
  split
  · exact hshown _ _
  · refine forEach_preserves (P := fun u => u.get f = s.get f) (hshown _ _) fun e _ u hu => Eq.trans ?_ hu
    exact get_setReg_ne _ _ (show f.off ≠ R.NC_EP_CTRL e by unfold R.NC_EP_CTRL; omega)

/-- R745: a zone's step shows. -/
theorem zoneStep_setStep (z : Fin 20) {n : Nat} (hn : n < 16) : (s.setStep z n).zoneStep z = n := by
  unfold State.setStep State.zoneStep
  rw [get_showSteps _ (show 0x050004 ≤ R.TH_ZONE_STATE z by unfold R.TH_ZONE_STATE; omega)
    (show R.TH_ZONE_STATE z < 0x200000 by unfold R.TH_ZONE_STATE; omega), get_put_same _ _ _ (Nat.le_of_ble_eq_true rfl)]
  exact Nat.mod_eq_of_lt hn

theorem get_powerSteps (old : State) (hlow : 0x050004 ≤ f.off) (hhigh : f.off < 0x200000) : (s.powerSteps old).get f = s.get f := by
  unfold State.powerSteps
  dsimp only
  split
  · exact (get_raise_beyond _ (by omega) (by decide)).trans (get_showSteps s hlow hhigh)
  · exact get_showSteps s hlow hhigh

theorem get_setPowerLimit (i : Nat) (p : PowerLimit) (f : RF) : (s.setPowerLimit i p).get f = s.get f := rfl

/-- R750: a limit that is judged shows in its flag alone. -/
theorem get_judgePower (i : Nat) (isOver under : Bool) (hf : f.off ≠ R.TH_FLAGS) : (s.judgePower i isOver under).get f = s.get f := by
  unfold State.judgePower
  have hset (p : PowerLimit) : (s.setPowerLimit i p).get f = s.get f := get_setPowerLimit s i p f
  exact iteInduction (motive := fun u : State => u.get f = s.get f) (fun _ => (get_put_word _ 1 hf).trans (hset _)) fun _ =>
    iteInduction (motive := fun u : State => u.get f = s.get f) (fun _ => hset _) fun _ => hset _

/-- R750: the registers that a power reading fills. -/
def State.readingShown (s : State) (p : PowerReading) : State :=
  ((s.put R.TH_POWER_POWER_W (min 0xFFF (p.dw.toNat / 10))).put (R.PW_RAIL_MEAS_IOUT 7) p.iLL.toNat).put (R.PW_RAIL_MEAS_IOUT 8) p.iLU.toNat

theorem readingShown_shows (p : PowerReading) : (s.readingShown p).get R.TH_POWER_POWER_W = min 0xFFF (p.dw.toNat / 10)
    ∧ (s.readingShown p).get (R.PW_RAIL_MEAS_IOUT 7) = p.iLL.toNat % 2 ^ (R.PW_RAIL_MEAS_IOUT 7).w := by
  unfold State.readingShown
  constructor
  · rw [get_put_apart _ _ _ _ (by decide) (.inl (by decide)), get_put_apart _ _ _ _ (by decide) (.inl (by decide)),
      get_put_same _ _ _ (by decide)]
    exact Nat.mod_eq_of_lt (Nat.lt_of_le_of_lt (Nat.min_le_left _ _) (by decide))
  · rw [get_put_apart _ _ _ _ (by decide) (.inl (by decide)), get_put_same _ _ _ (by decide)]

theorem get_withPhys (x : Physical) (f : RF) : { s with phys := x }.get f = s.get f := rfl

/-- R750, R859: what is judged on a reading changes none of the registers that it fills. -/
theorem get_takeReading (p : PowerReading) (hlow : 0x050008 ≤ f.off) (hhigh : f.off < 0x200000) :
    (s.takeReading p).get f = (s.readingShown p).get f := by
  have hflags : f.off ≠ R.TH_FLAGS := by unfold R.TH_FLAGS; omega
  unfold State.takeReading
  dsimp only
  rw [get_powerSteps _ _ (by omega) hhigh, get_judgePower _ _ _ _ hflags, get_judgePower _ _ _ _ hflags, get_judgePower _ _ _ _ hflags,
    get_withPhys]
  rfl

end Steps

/-! The readings of the sensors, which nothing that is judged on them changes. -/

section Readings

/-- A field outside the readings that the sensors show. -/
def besideReadings (f : RF) : Prop := f.lo + f.w ≤ 32 ∧ (12 ≤ f.lo ∨ f.off < 0x050100 ∨ 0x050200 ≤ f.off)

/-- Every sensor shows the reading that it showed. -/
def keepsReadings (s t : State) : Prop := ∀ n < 64, t.get (R.TH_SENSOR_TEMP n) = s.get (R.TH_SENSOR_TEMP n)

variable {s t : State}

theorem keepsReadings.refl (s : State) : keepsReadings s s := fun _ _ => rfl

theorem keepsReadings.put {f : RF} (h : keepsReadings s t) (hf : besideReadings f) (v : Nat) : keepsReadings s (t.put f v) := by
  intro n hn
  obtain ⟨hw, hlo | hoff⟩ := hf
  · exact (get_put_apart t (R.TH_SENSOR_TEMP n) f v hw (.inr (.inl hlo))).trans (h n hn)
  · exact (get_put_apart t _ f v hw (.inl (show R.TH_SENSOR n ≠ f.off by unfold R.TH_SENSOR; omega))).trans (h n hn)

theorem sensorWord_beyond (n : Nat) : 0x030000 ≤ (R.TH_SENSOR_TEMP n).off :=
  show 0x030000 ≤ R.TH_SENSOR n by unfold R.TH_SENSOR; omega

theorem keepsReadings.raise {e : Nat} (h : keepsReadings s t) (he : e < 288) : keepsReadings s (t.raise e) :=
  fun n hn => (get_raise_beyond t (sensorWord_beyond n) he).trans (h n hn)

theorem keepsReadings.log (h : keepsReadings s t) (severity group a0 a1 a2 : Nat) : keepsReadings s (t.log severity group a0 a1 a2) :=
  fun n hn => (get_log_beyond t (sensorWord_beyond n) severity group a0 a1 a2).trans (h n hn)

theorem keepsReadings.setZone (h : keepsReadings s t) (z : Nat) (x : Zone) : keepsReadings s (t.setZone z x) := h

theorem keepsReadings.showSteps (h : keepsReadings s t) : keepsReadings s t.showSteps := fun n hn =>
  (get_showSteps t (show 0x050004 ≤ R.TH_SENSOR n by unfold R.TH_SENSOR; omega)
    (show R.TH_SENSOR n < 0x200000 by unfold R.TH_SENSOR; omega)).trans (h n hn)

theorem besideReadings_flags {lo : Nat} (h : lo + 1 ≤ 32) : besideReadings ⟨R.TH_FLAGS, lo, 1⟩ :=
  ⟨h, .inr (.inl (show R.TH_FLAGS < 0x050100 by decide))⟩

theorem besideReadings_status {lo w : Nat} (h : lo + w ≤ 32) : besideReadings ⟨R.TH_STATUS, lo, w⟩ :=
  ⟨h, .inr (.inl (show R.TH_STATUS < 0x050100 by decide))⟩

theorem besideReadings_zone {z lo w : Nat} (h : lo + w ≤ 32) : besideReadings ⟨R.TH_ZONE_STATE z, lo, w⟩ :=
  ⟨h, .inr (.inr (show 0x050200 ≤ R.TH_ZONE_STATE z by unfold R.TH_ZONE_STATE; omega))⟩

theorem keepsReadings.setStep (h : keepsReadings s t) (z n : Nat) : keepsReadings s (t.setStep z n) :=
  (h.put (besideReadings_zone (Nat.le_of_ble_eq_true rfl)) n).showSteps

theorem keepsReadings.showLevel (h : keepsReadings s t) (z : Nat) : keepsReadings s (t.showLevel z) :=
  h.put (besideReadings_zone (Nat.le_of_ble_eq_true rfl)) _

theorem keepsReadings.refreshZone (h : keepsReadings s t) (z : Nat) : keepsReadings s (t.refreshZone z) := by
  unfold State.refreshZone
  split
  · exact h
  · dsimp only
    split
    · exact h
    · refine keepsReadings.raise ?_ (by decide)
      refine iterate_preserves (P := (keepsReadings s ·)) h fun i u hu => hu.put ⟨Nat.le_of_ble_eq_true rfl, .inr (.inr ?_)⟩ _
      show 0x050200 ≤ R.SM_CH_STATUS _
      unfold R.SM_CH_STATUS
      omega

theorem keepsReadings.sensorEffects (h : keepsReadings s t) (n : Nat) : keepsReadings s (t.sensorEffects n) :=
  ((((h.setStep _ 9).put (besideReadings_flags (by decide)) 1).raise (by decide)).log 3 0x0A n _ _).refreshZone _

theorem keepsReadings.declareBroken (h : keepsReadings s t) (n cause : Nat) : keepsReadings s (t.declareBroken n cause) := by
  unfold State.declareBroken
  split
  · exact h
  · have hshown := ((h.put (f := R.TH_SENSOR_STATE n) ⟨Nat.le_of_ble_eq_true rfl, .inl (Nat.le_refl 12)⟩ 1).put (f := R.TH_SENSOR_CAUSE n)
      ⟨Nat.le_of_ble_eq_true rfl, .inl (Nat.le_of_ble_eq_true rfl)⟩ cause)
    have hzone := fun v => hshown.put (f := R.TH_ZONE_STATE_BROKEN (sensorZone n)) (besideReadings_zone (Nat.le_of_ble_eq_true rfl)) v
    dsimp only
    split
    · exact hzone _
    · exact (hzone _).sensorEffects n

theorem keepsReadings.reachLevel (h : keepsReadings s t) (z k : Nat) : keepsReadings s (t.reachLevel z k) := by
  unfold State.reachLevel
  split
  · exact (((h.put (besideReadings_flags (by decide)) 1).raise (by decide)).log 2 0x0A z 0 0).refreshZone z
  · split
    · exact ((h.put (besideReadings_flags (by decide)) 1).raise (by decide)).setStep z _
    · exact (h.put (besideReadings_flags (by decide)) 1).raise (by decide)

theorem keepsReadings.judgeLevel (h : keepsReadings s t) (z k : Nat) : keepsReadings s (t.judgeLevel z k) := by
  unfold State.judgeLevel
  dsimp only
  split
  · exact h
  · split
    · split
      · exact (h.setZone z _).reachLevel z k
      · exact h
    · split
      · split
        · split
          · exact ((h.setZone z _).raise (by decide)).refreshZone z
          · exact (h.setZone z _).raise (by decide)
        · exact h.setZone z _
      · exact h.setZone z _

theorem keepsReadings.judgeZone (h : keepsReadings s t) (z : Nat) : keepsReadings s (t.judgeZone z) := by
  unfold State.judgeZone
  split
  · exact h
  · exact (((((h.put (f := R.TH_ZONE_STATE_TEMP z) (besideReadings_zone (Nat.le_of_ble_eq_true rfl)) _).judgeLevel z 0).judgeLevel z
      1).judgeLevel z 2).setZone z _).showLevel z

/-- R740: the sensors that are not absent show their readings. -/
def State.readingsTaken (s : State) (raw : List Nat) : State :=
  forEach ((List.range 64).filter (fun n => s.sensorState n != 2)) (fun n t => t.put (R.TH_SENSOR_TEMP n) (tempCode (raw.getD n 0))) s

/-- R740, R743, R756-R759: what is judged on a sample changes no reading. -/
theorem keepsReadings_takeSample (s : State) (raw : List Nat) : keepsReadings (s.readingsTaken raw) (s.takeSample raw) := by
  have hbroken (l : List Nat) (cause : Nat) {t : State} (h : keepsReadings (s.readingsTaken raw) t) :
      keepsReadings (s.readingsTaken raw) (forEach l (fun n t => t.declareBroken n cause) t) :=
    forEach_preserves (P := (keepsReadings (s.readingsTaken raw) ·)) h fun n _ _ hu => hu.declareBroken n cause
  have hjudged {t : State} (h : keepsReadings (s.readingsTaken raw) t) :
      keepsReadings (s.readingsTaken raw) (iterate 20 (fun z t => t.judgeZone z) t) :=
    iterate_preserves (P := (keepsReadings (s.readingsTaken raw) ·)) h fun z _ hu => keepsReadings.judgeZone hu z
  unfold State.takeSample
  extract_lets live taken cross declared crossed judged
  have htaken : keepsReadings (s.readingsTaken raw) taken := .refl _
  have hjudged : keepsReadings (s.readingsTaken raw) judged := hjudged (hbroken cross 3 (hbroken _ 1 htaken))
  exact (hjudged.put (besideReadings_status (by decide)) _).put (besideReadings_status (by decide)) _

/-- A sensor's reading is the last that was put. -/
theorem get_temp_put (s : State) (g : Nat → Nat) {m n : Nat} (h : m = n ∨ s.get (R.TH_SENSOR_TEMP n) = g n % 2 ^ (R.TH_SENSOR_TEMP n).w) :
    (s.put (R.TH_SENSOR_TEMP m) (g m)).get (R.TH_SENSOR_TEMP n) = g n % 2 ^ (R.TH_SENSOR_TEMP n).w := by
  by_cases hmn : m = n
  · subst hmn
    exact get_put_same _ _ _ (Nat.le_of_ble_eq_true rfl)
  · rw [get_put_apart _ _ _ _ (Nat.le_of_ble_eq_true rfl) (.inl (show R.TH_SENSOR n ≠ R.TH_SENSOR m by unfold R.TH_SENSOR; omega))]
    exact h.resolve_left hmn

theorem get_temp_forEach (g : Nat → Nat) {n : Nat} {l : List Nat} (hn : n ∈ l) (s : State) :
    (forEach l (fun n t => t.put (R.TH_SENSOR_TEMP n) (g n)) s).get (R.TH_SENSOR_TEMP n) = g n % 2 ^ (R.TH_SENSOR_TEMP n).w := by
  induction l generalizing s with
  | nil => cases hn
  | cons m l ih =>
    obtain rfl | hn := List.mem_cons.1 hn
    · have hput := get_temp_put s g (.inl (rfl : n = n))
      exact forEach_preserves (l := l) (P := fun u => u.get (R.TH_SENSOR_TEMP n) = g n % 2 ^ (R.TH_SENSOR_TEMP n).w) hput
        fun m _ u hu => get_temp_put u g (m := m) (.inr hu)
    · exact ih hn _

theorem get_takeSample (s : State) (v : Vector (BitVec 12) 64) (n : Fin 64) (hstate : s.sensorState n ≠ 2) :
    (s.takeSample (v.toList.map (fun (x : BitVec 12) => x.toNat))).get (R.TH_SENSOR_TEMP n)
      = tempCode v[n].toNat % 2 ^ (R.TH_SENSOR_TEMP n).w := by
  have hlive : n.val ∈ (List.range 64).filter (fun n => s.sensorState n != 2) :=
    List.mem_filter.2 ⟨List.mem_range.2 n.isLt, bne_iff_ne.2 hstate⟩
  have hraw : (v.toList.map (fun (x : BitVec 12) => x.toNat)).getD n 0 = v[n].toNat := by
    simp [List.getD_eq_getElem?_getD]
  rw [keepsReadings_takeSample s _ n n.isLt, State.readingsTaken, get_temp_forEach _ hlive, hraw]

end Readings

section Trip

variable {s : State} {n : Fin 64} {a b : BitVec 12}

/-- R753: the trip latch, its flag and the pin. -/
def State.tripLatched (s : State) : State :=
  let t := ((s.put R.TH_STATUS_TRIP 1).put R.TH_STATUS_THERM_PIN 0).put R.TH_FLAGS_TRIP_SEEN 1
  { t with pins := { t.pins with thermN := false } }

theorem tripLatched_shows (s : State) : s.tripLatched.pins.thermN = false ∧ s.tripLatched.get R.TH_STATUS_TRIP = 1
    ∧ s.tripLatched.get R.TH_FLAGS_TRIP_SEEN = 1 ∧ s.tripLatched.mode = s.mode ∧ s.tripLatched.mem = s.mem := by
  have hget (t : State) (p : Pins) (f : RF) : { t with pins := p }.get f = t.get f := rfl
  unfold State.tripLatched
  refine ⟨rfl, ?_, ?_, ?_, ?_⟩
  · rw [hget, get_put_apart _ _ _ _ (by decide) (.inl (by decide)), get_put_apart _ _ _ _ (by decide) (.inr (by decide)),
      get_put_same _ _ _ (by decide)]
    rfl
  · rw [hget, get_put_same _ _ _ (by decide)]
    rfl
  · exact (hget _ _ R.GAF_MODE_MODE).trans ((mode_put _ (by decide)).trans ((mode_put _ (by decide)).trans (mode_put _ (by decide))))
  · rfl

/-- R755: the zone of the sensor that trips shows Trip, the hottest zone shows, and the event occurs. -/
def State.tripShown (s : State) (z : Nat) : State :=
  let t := (s.setZone z { s.zone z with at_ := setBit (s.zone z).at_ 3 }).showLevel z
  (t.put R.TH_STATUS_HOT_ZONE t.hotZone).raise 67

theorem setZone_keeps (s : State) (z : Nat) (x : Zone) :
    (s.setZone z x).pins = s.pins ∧ (∀ f, (s.setZone z x).get f = s.get f) ∧ (s.setZone z x).mem = s.mem := ⟨rfl, fun _ => rfl, rfl⟩

theorem tripShown_keeps (s : State) (z : Nat) : (s.tripShown z).pins = s.pins ∧ (s.tripShown z).get R.TH_STATUS_TRIP = s.get R.TH_STATUS_TRIP
    ∧ (s.tripShown z).get R.TH_FLAGS_TRIP_SEEN = s.get R.TH_FLAGS_TRIP_SEEN ∧ (s.tripShown z).eventSet 67 = true
    ∧ (s.tripShown z).mode = s.mode ∧ (s.tripShown z).mem = s.mem := by
  obtain ⟨hpins, hget, hmem⟩ := setZone_keeps s z { s.zone z with at_ := setBit (s.zone z).at_ 3 }
  have hzone : R.TH_STATUS ≠ R.TH_ZONE_STATE z ∧ R.TH_FLAGS ≠ R.TH_ZONE_STATE z ∧ R.GAF_MODE ≠ R.TH_ZONE_STATE z := by
    unfold R.TH_STATUS R.TH_FLAGS R.GAF_MODE R.TH_ZONE_STATE
    omega
  obtain ⟨hstatus, hflags, hmode⟩ := hzone
  unfold State.tripShown State.showLevel
  refine ⟨?_, ?_, ?_, eventSet_raise _ 67 (eventAbsent_of_lt _ (by decide)), ?_, ?_⟩
  · rw [raise_pins, put_pins, put_pins, hpins]
  · rw [get_raise_beyond _ (by decide) (by decide), get_put_apart _ _ _ _ (by decide) (.inr (by decide)), get_put_word _ _ hstatus, hget]
  · rw [get_raise_beyond _ (by decide) (by decide), get_put_apart _ _ _ _ (by decide) (.inl (by decide)), get_put_word _ _ hflags, hget]
  · rw [mode_raise, mode_put _ (by decide), mode_put _ hmode]
    exact hget _
  · rw [raise_mem, put_mem, put_mem, hmem]

theorem execThermalTrip_hot (hmode : s.mode ≠ mPowerOn) (hstate : s.sensorState n ≠ 2) (htrip : s.has R.TH_STATUS_TRIP = false)
    (ha : tempCode a.toNat ≠ 0x800) (hb : tempCode b.toNat ≠ 0x800) (hla : zoneLevel (sensorZone n) 3 ≤ biased a.toNat)
    (hlb : zoneLevel (sensorZone n) 3 ≤ biased b.toNat) :
    execThermalTrip n a b s = .next (s.tripLatched.tripShown (sensorZone n)).enterTrip :=
  if_neg (by simp [hmode, hstate, htrip, ha, hb, hla, hlb])

end Trip

/-- Settles O56: each row takes the branch that its clause names; what is judged on a sample or a power reading leaves the readings as
they were taken (`keepsReadings_takeSample`, `get_takeReading`). -/
theorem thermalAndPowerRowsAct : Obligations.ThermalAndPowerRowsAct := by
  intro s hmode
  refine ⟨fun v => ⟨if_neg hmode, get_takeSample s v⟩, fun f => if_neg hmode, fun z hat hknown hlevel hstep => ⟨?_, ?_⟩,
    fun z hat hbroken hstep => ?_, fun p hlehr => ⟨?_, ?_, ?_⟩, fun k => ⟨fun hreached habove hstep => ?_, fun hreached hstep => ?_⟩,
    fun n a b hstate htrip ha hb hla hlb => ?_⟩
  · exact if_pos (by simp [hat, hknown, hlevel, hstep])
  · exact zoneStep_setStep s z (by omega)
  · exact if_pos (by simp [hat, hbroken, hstep])
  · simp [exec, execPowerReading, hmode, hlehr]
  · exact (get_takeReading s p (by decide) (by decide)).trans (readingShown_shows s p).1
  · exact (get_takeReading s p (by decide) (by decide)).trans (readingShown_shows s p).2
  · exact if_pos (by simp [hreached, habove, hstep])
  · exact if_pos (by simp [hreached, hstep])
  · obtain ⟨hpin, hlatch, hseen, hmode', hmem⟩ := tripLatched_shows s
    obtain ⟨hpins, hlatch', hseen', hevent, hmode'', hmem'⟩ := tripShown_keeps s.tripLatched (sensorZone n)
    exact ⟨_, execThermalTrip_hot hmode hstate htrip ha hb hla hlb, (congrArg Pins.thermN hpins).trans hpin, hlatch'.trans hlatch,
      hseen'.trans hseen, hevent, hmode''.trans hmode', hmem'.trans hmem⟩

end Sys2Proof.Machine
end

section
/-!
PROOFS. The rows of the serial ports (O60).
-/

namespace Sys2Proof.Machine

open Sys2Proof

/-! ### The rows of the serial ports (O60) -/

section Frames

variable {s : State} {addr : BitVec 24}

/-- The first word of a frame has the frame's address. -/
theorem frameAddr_first (addr : BitVec 24) : (addr.toNat + 4 * 0) % 2 ^ 24 = addr.toNat := Nat.mod_eq_of_lt addr.isLt

theorem execMspiWriteFrame_word {v : BitVec 32} (hmay : mspiMayWrite s addr.toNat = true) :
    execMspiWriteFrame addr [v] s = .next (ctlWrite s .spi addr.toNat v.toNat).1 := by
  change Host.Outcome.next (if mspiMayWrite s ((addr.toNat + 4 * 0) % 2 ^ 24) then _ else _) = _
  rw [frameAddr_first, if_pos hmay]

theorem execMspiReadFrame_word (hmay : mspiMayRead (s.setRefused false) addr.toNat = true) :
    execMspiReadFrame addr 1 s = .next ((ctlRead (s.setRefused false) .spi addr.toNat).1.answer 2 rOk
      (mspiStatus s :: toLE 4 (ctlRead (s.setRefused false) .spi addr.toNat).2.2)) := by
  have hrange : List.range (1 : BitVec 16).toNat = [0] := rfl
  unfold execMspiReadFrame
  simp only [hrange, List.foldl_cons, List.foldl_nil, frameAddr_first, if_pos hmay, List.nil_append]

theorem execMspiStatusFrame_sent {n : BitVec 8} (hn : 0 < n.toNat) : execMspiStatusFrame n s
    = .next ((s.setRefused false).answer 2 rOk (mspiStatus s :: List.replicate (n.toNat - 1) (mspiStatus (s.setRefused false)))) :=
  if_neg fun h => Nat.ne_of_gt hn (congrArg BitVec.toNat h)

end Frames

section Jtag

variable (s : State)

/-- R843: the boundary register after the cells have been shifted in. -/
def boundaryOf (cells : List Bool) : Nat := cells.foldr (fun b n => b2n b + 2 * n) 0

theorem bit_boundaryOf (cells : List Bool) (i : Nat) : bit (boundaryOf cells) i = cells.getD i false := by
  induction cells generalizing i with
  | nil => exact beq_eq_false_iff_ne.2 (by simp [boundaryOf])
  | cons b cells ih =>
    have hcons : boundaryOf (b :: cells) = b2n b + 2 * boundaryOf cells := rfl
    have hb : b2n b < 2 := by cases b <;> decide
    cases i with
    | zero =>
      have hlow : (b2n b + 2 * boundaryOf cells) / 2 ^ 0 % 2 = b2n b := by omega
      rw [hcons, List.getD_cons_zero, bit, hlow]
      cases b <;> rfl
    | succ i =>
      have hhalf : (b2n b + 2 * boundaryOf cells) / 2 ^ (i + 1) = boundaryOf cells / 2 ^ i := by
        rw [Nat.pow_succ', ← Nat.div_div_eq_div_mul]
        congr 1
        omega
      rw [hcons, List.getD_cons_succ, ← ih i, bit, hhalf]
      rfl

/-- R843: an instruction that is loaded changes nothing but the instruction register. -/
theorem loadIr_keeps (code : Nat) : (s.loadIr code).pins.jtagIr = code ∧ (s.loadIr code).pins.boundary = s.pins.boundary
    ∧ (s.loadIr code).regs = s.regs ∧ (s.loadIr code).gaf = s.gaf ∧ sameStores s { s.loadIr code with pins := s.pins } := by
  simp [State.loadIr, sameStores]

theorem execJtagSamplePreload_acts (cells : List Bool) : ∃ t, execJtagSamplePreload cells s = .next t ∧ t.pins.jtagIr = 2
    ∧ t.regs = s.regs ∧ (∀ i, i < cells.length → bit t.pins.boundary i = cells.getD i false) ∧ sameStores s { t with pins := s.pins } :=
  ⟨_, rfl, rfl, rfl, fun i _ => bit_boundaryOf cells i, by simp [State.answer, State.drawn, sameStores]⟩

/-- R846: a session begins while DEBUG_OPEN is 1. -/
theorem execPuntySessionBegin_acts : ∃ t, execPuntySessionBegin s = .next t ∧ t.pins.jtagIr = 0x20
    ∧ t.pins.session = (s.has R.GAF_LIFECYCLE_DEBUG_OPEN || s.pins.session) ∧ t.regs = s.regs
    ∧ sameStores s { t with pins := s.pins } := by
  refine ⟨_, rfl, ?_⟩
  cases s.has R.GAF_LIFECYCLE_DEBUG_OPEN <;> simp [State.loadIr, sameStores]

end Jtag

section Punty

variable {s : State} {dr : BitVec 64}

/-- R845, R847: a read through the punty port. -/
theorem execPuntyAccess_read (hir : s.pins.jtagIr = 0x20) (hop : bits dr.toNat 0 2 = 1)
    (hopen : s.pins.session = true ∨ 4 * bits dr.toNat 2 22 ≤ 0x1C) :
    execPuntyAccess dr s = .next ((ctlRead s .debug (4 * bits dr.toNat 2 22)).1.puntyResult
      (puntyStatus (4 * bits dr.toNat 2 22) (ctlRead s .debug (4 * bits dr.toNat 2 22)).2.1)
      (ctlRead s .debug (4 * bits dr.toNat 2 22)).2.2) :=
  (if_neg (by simp [hir, hop])).trans ((if_neg (by simpa [or_iff_not_imp_left] using hopen)).trans (if_pos hop))

theorem execPuntyAccess_write (hir : s.pins.jtagIr = 0x20) (hop : bits dr.toNat 0 2 = 2)
    (hopen : s.pins.session = true ∨ 4 * bits dr.toNat 2 22 ≤ 0x1C) :
    execPuntyAccess dr s = .next ((ctlWrite s .debug (4 * bits dr.toNat 2 22) (bits dr.toNat 24 32)).1.puntyResult
      (puntyStatus (4 * bits dr.toNat 2 22) (ctlWrite s .debug (4 * bits dr.toNat 2 22) (bits dr.toNat 24 32)).2)
      (bits s.pins.punty 24 32)) :=
  (if_neg (by simp [hir, hop])).trans ((if_neg (by simpa [or_iff_not_imp_left] using hopen)).trans (if_neg (by simp [hop])))

theorem execPuntyAccess_denied (hir : s.pins.jtagIr = 0x20) (hop : bits dr.toNat 0 2 = 1) (hclosed : s.pins.session = false)
    (hoff : 0x1C < 4 * bits dr.toNat 2 22) : execPuntyAccess dr s = .next ((s.puntyResult 2 0).raiseAlarm 4) := by
  have hact : ¬(s.pins.jtagIr ≠ 0x20 ∨ bits dr.toNat 0 2 = 0 ∨ bits dr.toNat 0 2 = 3) := by simp [hir, hop]
  simp only [execPuntyAccess, if_neg hact, if_pos (show (!s.pins.session) = true ∧ _ from ⟨by simp [hclosed], hoff⟩), if_pos hop]

end Punty

/-! The reset of MB9 leaves the debug port's pins and the life-cycle word alone. -/

section PortKept

/-- The pins and the life-cycle word stay. -/
def keepsPort (s t : State) : Prop := t.pins = s.pins ∧ t.reg R.GAF_LIFECYCLE = s.reg R.GAF_LIFECYCLE

variable {s t : State}

theorem keepsPort.refl (s : State) : keepsPort s s := ⟨rfl, rfl⟩

theorem keepsPort.setReg {off : Nat} (h : keepsPort s t) (hoff : 0x010000 ≤ off) (v : Nat) : keepsPort s (t.setReg off v) :=
  ⟨(setReg_pins t off v).trans h.1, (reg_setReg_ne t v (show 0x000024 ≠ off by omega)).trans h.2⟩

theorem keepsPort.put {f : RF} (h : keepsPort s t) (hf : 0x010000 ≤ f.off) (v : Nat) : keepsPort s (t.put f v) := h.setReg hf _

theorem keepsPort.setNotices (h : keepsPort s t) (mb : Nat) (l : List Notice) : keepsPort s (t.setNotices mb l) := by
  obtain ⟨-, -, -, -, -, -, -, -, -, -, -, hpins, -⟩ := sameStores_setNotices t mb l
  refine ⟨hpins.trans h.1, (sameWords_setNotices t mb l _ ?_).trans h.2⟩
  simp only [List.mem_cons, List.not_mem_nil, or_false, not_or]
  unfold R.GAF_LIFECYCLE R.MB_STATUS R.MB_CPL
  omega

theorem keepsPort.latch (h : keepsPort s t) (es : List Edit) : keepsPort s (t.latch es) := by
  unfold State.latch
  split
  · exact h
  · exact h

theorem keepsPort.withGaf (h : keepsPort s t) (g : Gaffer) : keepsPort s { t with gaf := g } := h

theorem keepsPort.clearSchedFor (h : keepsPort s t) (key : Nat) : keepsPort s (t.clearSchedFor key) := by
  unfold State.clearSchedFor State.clearIndexes
  exact (h.withGaf _).latch _

theorem keepsPort.askStop (h : keepsPort s t) (e cause turn : Nat) : keepsPort s (t.askStop e cause turn) := by
  unfold State.askStop
  dsimp only
  split
  · exact h
  · exact h

theorem keepsPort.scheduleStop (h : keepsPort s t) (key : Nat) : keepsPort s (t.scheduleStop key) := by
  unfold State.scheduleStop
  dsimp only
  split
  · exact h.latch _
  · split
    · exact h.askStop _ 9 _
    · exact h.latch _

theorem keepsPort.showReserved (h : keepsPort s t) : keepsPort s t.showReserved := by
  refine iterate_preserves (P := (keepsPort s ·)) h fun k u hu => ?_
  have hwords : 0x010000 ≤ R.SM_CH_RES_A k ∧ 0x010000 ≤ R.SM_CH_RES_B k := by
    unfold R.SM_CH_RES_A R.SM_CH_RES_B
    omega
  obtain ⟨ha, hb⟩ := hwords
  exact ((keepsPort.put hu ha _).put (f := R.SM_CH_RES_A_REPLAY k) ha _).put hb _

theorem keepsPort.releaseEngine (h : keepsPort s t) (e : Nat) : keepsPort s (t.releaseEngine e) := by
  unfold State.releaseEngine
  dsimp only
  split
  · exact h
  · exact keepsPort.showReserved (t := { t with mem := _ }) h

theorem keepsPort.breakLane (h : keepsPort s t) (n : Nat) : keepsPort s (t.breakLane n) := by
  unfold State.breakLane
  split
  · exact h
  · exact h

theorem keepsPort.showSource (h : keepsPort s t) (n : Nat) : keepsPort s (t.showSource n) := by
  have hwords : 0x010000 ≤ R.LN_STATUS n ∧ 0x010000 ≤ R.RP_PT_STATUS n := by
    unfold R.LN_STATUS R.RP_PT_STATUS
    omega
  obtain ⟨hstatus, hthrough⟩ := hwords
  have hshown (a b : Nat) : keepsPort s ((t.put (R.LN_STATUS_TX_SRC n) a).put (R.RP_PT_STATUS_LAT n) b) := (h.put hstatus a).put hthrough b
  unfold State.showSource
  split
  · exact iteInduction (motive := (keepsPort s ·)) (fun _ => hshown _ _) fun _ => (hshown _ _).breakLane n
  · exact keepsPort.put (t := t.unforward n) h hstatus _

theorem keepsPort.unbindEngine (h : keepsPort s t) (e : Nat) : keepsPort s (t.unbindEngine e) := by
  have hwords : 0x010000 ≤ R.RP_STATE e ∧ ∀ o ∈ [R.RP_BASE e, R.RP_LENGTH e, R.RP_RESERVE e], 0x010000 ≤ o := by
    simp only [List.forall_mem_cons, List.not_mem_nil, false_imp_iff, implies_true, and_true]
    unfold R.RP_STATE R.RP_BASE R.RP_LENGTH R.RP_RESERVE
    omega
  obtain ⟨hstate, hset⟩ := hwords
  unfold State.unbindEngine
  split
  · have hcleared := forEach_preserves (P := (keepsPort s ·)) (l := [R.RP_BASE e, R.RP_LENGTH e, R.RP_RESERVE e])
      (f := fun o t => t.setReg o 0) (h.releaseEngine e) fun o ho u hu => keepsPort.setReg hu (hset o ho) 0
    have hidle := (keepsPort.put (f := R.RP_STATE_STATE e) hcleared hstate 0).put (f := R.RP_STATE_PRIMED e) hstate 0
    exact forEach_preserves (P := (keepsPort s ·)) hidle fun n _ u hu => keepsPort.showSource hu n
  · exact h

theorem keepsPort.idleEngine (h : keepsPort s t) (key : Nat) : keepsPort s (t.idleEngine key) := by
  unfold State.idleEngine
  split
  · exact h.unbindEngine _
  · exact h

theorem keepsPort.forceRelease (h : keepsPort s t) (mb key : Nat) : keepsPort s (t.forceRelease mb key) := by
  unfold State.forceRelease
  split
  · exact keepsPort.scheduleStop (t := State.setClaim _ _ _) (h.clearSchedFor key) key
  · exact (h.clearSchedFor key).idleEngine key

theorem keepsPort.resetMailbox (h : keepsPort s t) (mb : Nat) : keepsPort s (t.resetMailbox mb) := by
  have hstatus : 0x010000 ≤ R.MB_STATUS mb := by
    unfold R.MB_STATUS
    omega
  have hquiet := (h.put (f := R.MB_STATUS_STATE mb) hstatus 0).setNotices mb []
  unfold State.resetMailbox
  exact forEach_preserves (P := (keepsPort s ·)) hquiet fun key _ u hu => keepsPort.forceRelease hu mb key

/-- R846: the end of a session resets MB9. -/
def State.sessionEnded (s : State) : State :=
  ({ s.loadIr 1 with pins := { (s.loadIr 1).pins with session := false } } : State).resetSource .debug

theorem sessionEnded_shows (s : State) :
    s.sessionEnded.pins.jtagIr = 1 ∧ s.sessionEnded.pins.session = false ∧ s.sessionEnded.life = s.life := by
  obtain ⟨hpins, hlife⟩ := (keepsPort.refl { s.loadIr 1 with pins := { (s.loadIr 1).pins with session := false } }).resetMailbox 9
  exact ⟨congrArg Pins.jtagIr hpins, congrArg Pins.session hpins, congrArg (bits · 0 3) hlife⟩

theorem execTestLogicReset_closed (hsession : s.pins.session = false) : execTestLogicReset s = .next (s.loadIr 1) :=
  if_neg (by simp [hsession])

theorem execTestLogicReset_open (hsession : s.pins.session = true) : execTestLogicReset s
    = .next (if s.sessionEnded.life = 2 then s.sessionEnded.put R.GAF_LIFECYCLE_DEBUG_OPEN 0 else s.sessionEnded) := if_pos hsession

/-- R843, R846: IDCODE is loaded, and a session ends. -/
theorem execTestLogicReset_acts (s : State) : ∃ t, execTestLogicReset s = .next t ∧ t.pins.jtagIr = 1 ∧ t.pins.session = false
    ∧ (s.pins.session = false → t.regs = s.regs)
    ∧ (s.pins.session = true → s.life = 2 → t.get R.GAF_LIFECYCLE_DEBUG_OPEN = 0) := by
  cases hsession : s.pins.session with
  | false => exact ⟨_, execTestLogicReset_closed hsession, rfl, hsession, fun _ => rfl, fun h => absurd h Bool.false_ne_true⟩
  | true =>
    obtain ⟨hir, hended, hlife⟩ := sessionEnded_shows s
    refine ⟨_, execTestLogicReset_open hsession, ?_, ?_, fun h => absurd h.symm Bool.false_ne_true, fun _ howned => ?_⟩
    · split
      · rw [put_pins, hir]
      · exact hir
    · split
      · rw [put_pins, hended]
      · exact hended
    · rw [if_pos (hlife.trans howned), get_put_same _ _ _ (by decide)]
      rfl

end PortKept

/-- Settles O60: a frame of one word is the access to its address, a JTAG instruction changes the pins alone, and the end of a session
keeps the pins and the life-cycle word through the reset of MB9 (`keepsPort.resetMailbox`). -/
theorem serialRowsAct : Obligations.SerialRowsAct := by
  intro s
  refine ⟨fun addr v hmay => execMspiWriteFrame_word hmay, fun addr hmay => execMspiReadFrame_word hmay,
    fun n hn => execMspiStatusFrame_sent hn, fun b => rfl, rfl, execJtagSamplePreload_acts s, ?_, execPuntySessionBegin_acts s,
    fun dr hir => ⟨fun hopen => ⟨fun hop => execPuntyAccess_read hir hop hopen, fun hop => execPuntyAccess_write hir hop hopen⟩,
      fun hclosed hoff hop => execPuntyAccess_denied hir hop hclosed hoff⟩, execTestLogicReset_acts s⟩
  simp only [List.forall_mem_cons, List.not_mem_nil, false_imp_iff, implies_true, and_true]
  exact ⟨⟨_, rfl, loadIr_keeps s 3⟩, ⟨_, rfl, loadIr_keeps s 4⟩, ⟨_, rfl, loadIr_keeps s 5⟩, ⟨_, rfl, loadIr_keeps s 0xFF⟩⟩

end Sys2Proof.Machine
end

section
/-!
PROOFS. Families of rows of which one clause fails: clocks and PLLs (O30), configuration (O33), lanes (O55).
-/

namespace Sys2Proof.Machine

open Sys2Proof


/-! ### Statements that fail (O30, O33, O55) -/

section Rows

variable {s : State}

/-- R113, R701: in LEHR the third base PLL stays off when a slew ends. -/
theorem exec_basePllSlewEnd_lehr (hmode : s.mode = mLehr) :
    exec .basePllSlewEnd s = .next ((s.put R.CK_BASE_SRC_SLEWING 0).put R.CK_STATUS_BASE_LOCK 3) := by
  simp [exec, execBasePllSlewEnd, hmode, mLehr, mPowerOn]

/-- R687: a device on the chain that has not failed keeps that its image has ended. -/
theorem exec_endRecordReceived_chain (hawaits : (s.forwardBytes 256).awaitsStream = false) (hmode : (s.forwardBytes 256).mode = mConfigure)
    (hchain : (s.forwardBytes 256).onChain = true) (hstate : (s.forwardBytes 256).cfState ≠ cfFailed) :
    exec .endRecordReceived s = .next { s.forwardBytes 256 with fab := { (s.forwardBytes 256).fab with imageEnded := true } } := by
  simp only [exec, execEndRecordReceived, hmode, hchain, and_self, if_true]
  refine (if_neg ?awaits).trans (congrArg _ (if_neg ?failed))
  case awaits => exact ne_true_of_eq_false hawaits
  case failed => exact fun ⟨_, _, h⟩ => hstate h

/-- R277, R609: the signal of a lane that comes ends the condition that a trigger watches. -/
theorem exec_signalDetect {n : Fin 120} (hfitted : s.fitted n = true) (hpower : s.get (R.LN_STATUS_PSTATE n) ≤ 1) :
    exec (.signalDetect n) s = .next ((s.levelEnds n 0 R.LN_STATUS_SIGNAL).put (R.LN_STATUS_SIGNAL n) 1) :=
  if_pos (by simp [hfitted, hpower])

end Rows

/-- Refutes O30: in LEHR the third base PLL is off, and the end of a slew leaves it so: two base PLLs of three show their lock. -/
theorem not_clockRowsAct : ¬ Obligations.ClockRowsAct := by
  intro h
  have hmode : (State.reset.put R.GAF_MODE_MODE mLehr).mode = mLehr := by decide
  obtain ⟨-, -, -, ⟨t, ht, -, hlock, -⟩, -⟩ := h (State.reset.put R.GAF_MODE_MODE mLehr) (by decide)
  rw [← Host.Outcome.next.inj ((exec_basePllSlewEnd_lehr hmode).symm.trans ht), get_put_same _ _ _ (by decide)] at hlock
  exact absurd hlock (by decide)

/-- A device in CONFIGURE, on the chain, that waits for INIT_N. -/
def waitsForInit : State := State.reset.put R.GAF_MODE_MODE mConfigure

/-- Refutes O33: the row changes more than the bytes that are forwarded, for a device on the chain that has not failed keeps, in CONFIGURE,
that the image has ended. -/
theorem not_configurationRowsAct : ¬ Obligations.ConfigurationRowsAct := by
  intro h
  obtain ⟨-, -, hend, -⟩ := h waitsForInit
  have hrow := hend (by decide +kernel) (.inr (.inr (by decide +kernel)))
  have hexec := exec_endRecordReceived_chain (s := waitsForInit) (by decide +kernel) (by decide +kernel) (by decide +kernel)
    (by decide +kernel)
  have hended := congrArg (fun u : State => u.fab.imageEnded) (Host.Outcome.next.inj (hexec.symm.trans hrow))
  exact absurd hended (by decide +kernel)

/-- A device with lane 0 powered and without a signal, and a trigger that watches it. -/
def watchesLane : State := (State.reset.put (R.LN_STATUS_PSTATE 0) 0).put (R.TG_LANECOND_EN 0) 1

/-- Refutes O55: a signal that comes pulses the input of a trigger that watches its lane (R277), besides the lane's status. -/
theorem not_laneRowsAct : ¬ Obligations.LaneRowsAct := by
  intro h
  obtain ⟨hdetect, -⟩ := h watchesLane 0
  have hfitted : watchesLane.fitted (0 : Fin 120) = true := by decide +kernel
  have hpower : watchesLane.get (R.LN_STATUS_PSTATE (0 : Fin 120)) ≤ 1 := by decide +kernel
  have hpulses := congrArg (fun u : State => u.cap.pulses)
    (Host.Outcome.next.inj ((exec_signalDetect hfitted hpower).symm.trans (hdetect hfitted hpower)))
  exact absurd hpulses (by decide +kernel)

end Sys2Proof.Machine
end
